-- ==== Sys2Proof/Word.lean ====
section
/-!
DEFINITION. Word.lean: the words of the module. A register is 32 bits (R55), memory is addressed in bytes (R52).
-/

namespace Sys2Proof

/-- A register word, 32 bits (R55). -/
abbrev Word := BitVec 32

/-- A byte of device memory (R52). -/
abbrev Byte := BitVec 8

end Sys2Proof
end

