-- ==== Sys2Proof/Syntax.lean ====
section
/-!
DEFINITION. Syntax.lean: the commands of the module, one constructor per row of spec/opcode_table.json, and the types
of their operands. What a host, the Keeper or a wire decides is an operand (a register write's master, offset and
data; a packet's bytes), and so is what the physical world decides (a measured voltage, a temperature, whether a stored
byte shows a parity error): the state decides everything else.
-/

namespace Sys2Proof

/-- The masters of R65, in the order of its WRITERS bits. -/
inductive Master where
  | keeper | host0 | host1 | tender | partner
  deriving DecidableEq, Repr

/-- The ordered variants of R1. -/
inductive Variant where
  | c16 | e16 | c8
  deriving DecidableEq, Repr

/-- The error classes of R41 Table 4. -/
inductive ErrClass where
  | corr | cont | isol | fatal
  deriving DecidableEq, Repr


/-- What the physical world decides while a line is fetched, conditioned and sent. -/
structure LineIn where
  /-- The line period in ps with which scan-out tracks its target (R11); it counts only while a source is tracked. -/
  periodPs : Nat := 0
  /-- Overlay planes 1 to 4 that lack pixels of the line in their buffers, bit n for plane n (R231). -/
  underrun : Nat := 0
  /-- How many lines the fetch of planes 1 to 4, and of the demura table, is ahead of the line being composed or conditioned; as
  far as the module lets it where nothing is listed (R228, R268). -/
  leads : List Nat := []
  demuraLead : Option Nat := none
  /-- Demura table data the line needs is not in its buffer (R269). -/
  demuraUnderrun : Bool := false
  /-- Demura blocks whose read returned status PARITY after MEM's re-read. -/
  demuraParity : List Nat := []
  /-- Plane-0 block columns of the line's block row whose SRAM read met a parity error: once, and again on the re-read. -/
  lfOnce : List Nat := []
  lfTwice : List Nat := []
  /-- Pixel columns of the line whose history read met a parity error: once, and again on the re-read. -/
  histOnce : List Nat := []
  histTwice : List Nat := []
  deriving DecidableEq, Repr

/-- What is measured at the start of a scan slot (R316, R329). -/
structure SlotIn where
  /-- The latest VLED reading in mV. -/
  vledMv : Nat := 0
  /-- Channels that carry 2 mA or more during the scan-short test. -/
  shortCount : Nat := 0
  /-- Channels that carry 20 mA or more with CH_G and SNK_G off. -/
  stuck : List Nat := []
  deriving DecidableEq, Repr

/-- A conversion of a channel: current in 0.1 mA, string voltage in 10 mV. -/
structure Conversion where
  ch : Nat
  i : Nat
  v : Nat
  deriving DecidableEq, Repr

/-- A current sensed on a channel's CH_CS: `t` in ns from the start of the lit window, `ua` in µA. -/
structure Sensed where
  ch : Nat
  t : Nat
  ua : Nat
  deriving DecidableEq, Repr

/-- What is measured in a lit window (R318, R324, R326, R329). -/
structure WindowIn where
  conversions : List Conversion := []
  /-- Channels whose current over their lit time is not the target (an open string, a slow switch): that current in µA. -/
  flows : List (Nat × Nat) := []
  /-- The currents that the switching stages sense, in time order. -/
  sensed : List Sensed := []
  /-- Channels in SWITCH mode whose current did not reach half the target within 5 µs. -/
  slow : List Nat := []
  deriving DecidableEq, Repr

/-- A PTP message on a time port as the hardware and Keeper firmware see it (R445, R446). Times and corrections are in
2⁻¹⁶ ns. -/
structure PtpMsg where
  /-- messageType: 0 Sync, 1 Delay_Req, 8 Follow_Up, 9 Delay_Resp, 0xB Announce, others. -/
  kind : Nat
  seq : Nat := 0
  /-- sourcePortIdentity; of a Delay_Resp, requestingPortIdentity as well. -/
  source : Nat := 0
  requester : Nat := 0
  twoStep : Bool := false
  ts : Int := 0
  corr : Int := 0
  domain : Nat := 0
  /-- currentUtcOffset of an Announce. -/
  utc : Nat := 0
  /-- The message travels over UDP/IPv4; its UDP checksum. -/
  udp : Bool := true
  checksum : Nat := 0
  /-- The best master clock algorithm prefers the sender of an Announce to this module. -/
  better : Bool := true
  deriving DecidableEq, Repr


/-- A result of calibrating a sense converter (R504): the comparator chosen, gains (2.14) and offsets. -/
structure ConvIn where
  conv : Nat
  comp : Nat
  igain : Nat
  ioff : Int
  vgain : Nat
  voff : Int
  deriving DecidableEq, Repr

/-- A sink DAC's measured cell currents, 271 of them, and its full-scale error after selection in ppm (R503, R508). -/
structure SinkIn where
  ch : Nat
  cells : List Nat
  errPpm : Int
  deriving DecidableEq, Repr

/-- A MEM channel's reference result: leg choice and code as 64 bytes, and its error in ppm. -/
structure MemRefIn where
  ch : Nat
  entry : List (BitVec 8)
  errPpm : Int
  deriving DecidableEq, Repr

/-- What a FULL run measured. -/
structure FullIn where
  convs : List ConvIn := []
  sinks : List SinkIn := []
  /-- The ladder tap chosen and its VCOM error in 0.1 mV. -/
  tap : Int := 0
  vcomErr : Int := 0
  mem : List MemRefIn := []
  deriving DecidableEq, Repr


/-- What is measured over the tick interval that ends, or at the tick itself. -/
structure CommitIn where
  /-- Use of the ended interval in 1/1024 of it, by the key of the page (R30). -/
  use : List (Nat × Nat) := []
  /-- Power of the regions Scene, Ray, Panel and Keeper in 10 mW, and of the LEDs in mW (R459, R461). -/
  regionPower : List Nat := []
  ledMw : Nat := 0
  /-- Time since VIN valid or the wake in ms (R83), and how long PAIR_OWN_I has been low in µs (R430). -/
  bootMs : Nat := 0
  ownLowUs : Nat := 0
  /-- The least slack of the field in ns (R291). -/
  slackNs : Nat := 0
  /-- 64-byte accesses of each DRAM port in the interval (R386), and those that engines made in each channel: reads, writes
  (R387). -/
  portUnits : List Nat := []
  chanUnits : List (Nat × Nat) := []
  /-- The 2D engine's held cycles, 64-byte reads and 64-byte writes in the interval (R258). -/
  bltHeld : Nat := 0
  bltReads : Nat := 0
  bltWrites : Nat := 0
  /-- Lane stall cycles in the interval (R151), and conflict cycles of each field-store master (R209). -/
  stalls : Nat := 0
  conflicts : List Nat := []
  /-- Rail readings: the rail, mV and 10 mA; and VIN power in 10 mW (chapter 23). -/
  rails : List (Nat × Nat × Nat) := []
  inputPower : Nat := 0
  /-- Marker and stuffing errors by lane of the host link and of the tile link, and PRBS errors found by the host link's
  test, since the last tick. -/
  hostMarkers : List (Nat × Nat) := []
  tileMarkers : List (Nat × Nat) := []
  prbsErrors : Nat := 0
  deriving DecidableEq, Repr

/-- What a read of stored bytes met beside inverted stored parity (R213, R367): nothing, a parity error that its re-read did
not repeat, or one that it repeated. -/
inductive ReadFault where
  | clean | once | twice
  deriving DecidableEq, Repr

/-- What a read is of, with what it meets beside inverted stored parity. -/
structure Reading (α : Type) where
  src : α
  fault : ReadFault := .clean
  deriving DecidableEq, Repr

/-- How a write comes on the bus: its size, and whether it lands in the cycle of the REGISTER_WRITE before it (R24, R55). -/
structure Access where
  bytes : Nat := 4
  same : Bool := false
  deriving DecidableEq, Repr

/-- An Adeak packet (R397): its header's fields and its payload. -/
structure Packet where
  op : Nat := 0
  ctx : Nat := 0
  start : Bool := false
  ackreq : Bool := false
  tag : Nat := 0
  len : Nat := 0
  status : Nat := 0
  aux : Nat := 0
  addr : Nat := 0
  rdlen : Nat := 0
  far : Nat := 0
  data : List Byte := []
  /-- What the first read of memory that the packet asks for meets; no part of the packet. -/
  fault : ReadFault := .clean
  deriving DecidableEq, Repr

/-- A request to the Keeper (R465 Table 4): `bytes2` and `bytes13` are the bytes the table gives as 0 at 2 and 3 and
at 13 to 15; `data` runs from byte 20 to the end of the message. -/
structure KeeperReq where
  ep : Nat
  op : Nat := 0
  flags : Nat := 0
  bytes2 : Nat := 0
  tag : Nat := 0
  addr : Nat := 0
  bytes13 : Nat := 0
  len : Nat := 0
  data : List Byte := []
  /-- What the Keeper's reads of the request's buffer meet; no part of the message. -/
  fault : ReadFault := .clean
  deriving DecidableEq, Repr

/-- A request as the op that a command names. -/
def KeeperReq.as (q : KeeperReq) (op : Nat) : KeeperReq := { q with op := op }

/-- The commands: one constructor per row of spec/opcode_table.json, in the table's order of families. -/
inductive Instr where
  /-- PLAN_LOCK, R15. At T−40 µs each changed staged value is copied to its locked value and every block checks its
  locked set. -/
  | planLock
  /-- COMMIT, R15. At the field tick the locked values become active, buffers swap and the plan with its jobs takes
  effect. -/
  | commit (io : CommitIn)
  /-- SYNTHESIS_DEADLINE, R27. At T + 0.97 × interval the ray engine stops starting tiles and abandons tiles in
  flight. -/
  | synthesisDeadline
  /-- TICK_HOLDOVER, R12. With no target for 2 intervals or a source off rate, the module ticks from the reference and
  sets HOLDOVER. -/
  | tickHoldover
  /-- TICK_SOURCE_RELOCK, R13. When a source returns or is newly selected the phase error is measured and the raster
  slews back into lock. -/
  | tickSourceRelock (error : Int)
  /-- REGISTER_WRITE, R59. A write to a register without behaviour of its own acts per its access code, staged values
  joining a plan under R22. -/
  | registerWrite (mst : Master) (addr : Nat) (data : Nat) (acc : Access)
  /-- BUDGET_MAX_CLR, R29. Writing MAX_CLR clears BUDGET.MAX and OVERRUN. -/
  | budgetMaxClr (mst : Master) (page : Nat) (data : Nat)
  /-- ERR_INFO_CLEAR, R47. Writing 1 to ERR_INFO.VALID clears the captured error record. -/
  | errInfoClear (mst : Master) (page : Nat) (data : Nat)
  /-- ERR_COUNT_CLEAR, R49. A write with any bit of a half set clears that half of ERR_COUNT. -/
  | errCountClear (mst : Master) (page : Nat) (data : Nat)
  /-- BLOCK_RESET_REQUEST, R57. A write of CTRL.RESET requests a block reset at the next commit and sets IN_RESET. -/
  | blockResetRequest (mst : Master) (page : Nat) (data : Nat)
  /-- COUNTER_CLEAR, R58. Writing CTRL.CNT_CLR clears all event counters of the page. -/
  | counterClear (mst : Master) (page : Nat) (data : Nat)
  /-- INT_RAW_CLEAR, R62. A W1C write to INT_RAW clears interrupt bits unless an event sets them in the same cycle. -/
  | intRawClear (mst : Master) (page : Nat) (data : Nat)
  /-- INT_FORCE, R61. Writing INT_FORCE sets INT_RAW bits without an error record. -/
  | intForce (mst : Master) (page : Nat) (data : Nat)
  /-- ROLLUP_EVENT_CLEAR, R65. A host W1C write clears REGION_EVT or CHIP_EVT in the KPR page whatever LOCK holds. -/
  | rollupEventClear (mst : Master) (region : Option Nat) (data : Nat)
  /-- PAGE_LOCK_SET, R65. Writing PAGE_LOCK.LOCK applies WRITERS to the page. -/
  | pageLockSet (mst : Master) (page : Nat) (data : Nat)
  /-- PAGE_UNLOCK, R65. A Keeper write of PAGE_LOCK.UNLOCK clears LOCK. -/
  | pageUnlock (mst : Master) (page : Nat) (data : Nat)
  /-- PARITY_INJECT, R66. PARITY_CTRL.INJECT makes the next write store inverted parity in byte 0 of its register. -/
  | parityInject (mst : Master) (page : Nat) (data : Nat)
  /-- REGISTER_PARITY_ERROR, R66. A register parity error records PARITY, FATAL in SEC, APL and PWR and CONT
  elsewhere. -/
  | registerParityError (page : Nat) (off : Nat)
  /-- EVENT_PACKET, R402. A rise of a delivered interrupt bit sends an EVENT packet on VC2, merging when no credit is
  held. -/
  | eventPacket (host : Nat)
  /-- EVENT_PACKET_MERGE, R64. Rises within 10 µs of a packet are sent as one further packet 10 µs after it. -/
  | eventPacketMerge (host : Nat)
  /-- VIN_VALID, R83. VIN at or above 6.0 V for 2 ms with PWR_EN high starts Boot from Off. -/
  | vinValid (mv : Nat)
  /-- PWR_EN_RISE, R72. PWR_EN rising while VIN is valid starts Boot. -/
  | pwrEnRise
  /-- PWR_EN_FALL, R90. PWR_EN low starts the shutdown order to Off, after the step in progress during Boot. -/
  | pwrEnFall
  /-- WAKE_N_LOW, R72. WAKE_N low for at least 1 ms starts Boot from Standby or ends Hold. -/
  | wakeNLow
  /-- BOOT_ROM_START, R83. With the Keeper rails and reference stable the boot ROM starts. -/
  | bootRomStart (id : Nat) (paired : Bool) (side : Bool) (errA : Bool) (errB : Bool)
  /-- CAL_SET_LOAD, R513. At start-up step 3 the calibration set is loaded and checked, entering Safe with CAL_INVALID
  on failure. -/
  | calSetLoad
  /-- REGION_POWER_UP, R520. A region's rails rise in order and its blocks leave reset when the last rail is in
  window. -/
  | regionPowerUp (region : Nat) (rails : Nat)
  /-- PANEL_EEPROM_READ, R565. At step 4 the module reads and checks the panel EEPROM, retrying twice, else
  EEPROM_INVALID. -/
  | panelEepromRead (tries : List (Option (List Byte)))
  /-- STARTUP_PROFILE_LOAD, R83. At step 7 the stored profile is verified and its tables loaded, or Safe with
  PROFILE_INVALID. -/
  | startupProfileLoad
  /-- STARTUP_COMPLETE, R72. At the first frame boundary after start-up the module moves to the policy's target mode.
  -/
  | startupComplete
  /-- MODE_SET, R76. A MODE_SET message to the Keeper is judged and held as the one pending request. -/
  | modeSet (ep : Nat) (message : List Byte)
  /-- MODE_TRANSITION, R72. A pending or triggered transition takes effect at its frame boundary, tick or at once. -/
  | modeTransition
  /-- DARK_TRAINING_SLOT, R80. At B + 2 old fields the lanes retrain at the new rates in a fixed 8 ms slot. -/
  | darkTrainingSlot
  /-- NEW_MODE_FIRST_TICK, R80. The first tick of the new mode falls at the end of the slot on the re-phased series.
  -/
  | newModeFirstTick
  /-- DARK_SEQUENCE_END, R81. After 2 black fields of the new mode the first lit field follows. -/
  | darkSequenceEnd
  /-- ORDERLY_RECORD, R88. Once the layer has stopped the Keeper writes an orderly record and the regions power down
  in order. -/
  | orderlyRecord
  /-- FATAL_SAFE_ENTRY, R45. After a FATAL event the module blanks the modulator, stops the light at the next tick and
  enters Safe. -/
  | fatalSafeEntry
  /-- SCENE, R101. A scene packet is written into the FILL slot or discarded as stray. -/
  | scene (ctx : Nat) (start : Bool) (data : List Byte)
  /-- CDC_GROUP_DECODE, R111. A scene group read for a cache miss is decoded and released only after its CHECK
  matches. -/
  | cdcGroupDecode (layer : Nat) (group : Nat) (pipe : Nat) (once : Bool) (twice : Bool)
  /-- CDC_JOB_POST, R137. A write to JOB_HEAD posts descriptors into plans or ignores an out-of-range HEAD. -/
  | cdcJobPost (mst : Master) (data : Nat)
  /-- CDC_JOB_START, R137. The job at TAIL is checked and starts when its plan commits or at once for ASAP. -/
  | cdcJobStart
  /-- CDC_JOB_COMPLETE, R140. At completion the module writes result words 12 to 15 and advances JOB_TAIL. -/
  | cdcJobComplete (parity : ReadFault)
  /-- CDC_JOB_ABORT, R143. A JOB_ABORT write stops a running job, marks a posted one aborted, or sets ABORT_LATE. -/
  | cdcJobAbort (mst : Master) (data : Nat)
  /-- CDC_FLUSH, R144. A FLUSH write ends the current group of the running encode or capture job. -/
  | cdcFlush (mst : Master) (data : Nat)
  /-- TILE_DISPATCH, R148. The next tile in schedule order goes to the lowest-numbered cluster with a free slot. -/
  | tileDispatch (ctxParity : Bool) (gridRetry : List Nat)
  /-- TEXEL_CACHE_MISS, R150. A level-1 miss reads level 2, and a level-2 miss asks CDC for the block's group. -/
  | texelCacheMiss (cluster : Nat) (layer : Nat) (bx : Nat) (bty : Nat)
  /-- TILE_FINISH, R162. When all 384 codes of a tile are present the tile is finished and its context rewritten. -/
  | tileFinish (cluster : Nat) (tile : Nat)
  /-- TILE_PARITY_RESTART, R175. A parity error on a texel line invalidates it and restarts the tile from its first
  ray. -/
  | tileParityRestart (cluster : Nat) (tile : Nat) (level : Nat) (layer : Nat) (bx : Nat) (bty : Nat)
  /-- CLUSTER_RETURN, R178. Writing 1 to a CLUSTER_OUT bit returns the cluster to service at the next commit. -/
  | clusterReturn (mst : Master) (data : Nat)
  /-- LNS_PROBE, R199. A read of the probe registers computes the lens-map values of the selected subpixel;
  `off.fault` says what its reads of the lens grid met. -/
  | lnsProbe (mst : Master) (off : Reading Nat)
  /-- AGE_PROMOTION, R207. A request that has waited AGE_LIMIT cycles is raised to class 3. -/
  | agePromotion (master : Nat) (waited : Nat)
  /-- CONFLICT_CLEAR, R209. Writing CONFLICT_CTRL.CLR clears the conflict and wait counters. -/
  | conflictClear (mst : Master) (data : Nat)
  /-- SCANOUT_LINE, R291. At each line period SCN composes a line and sends its packets on every data lane. -/
  | scanoutLine (io : LineIn)
  /-- TIMING_MODE_WRITE, R219. A write to SCN.TIMING.MODE is accepted from the Keeper only. -/
  | timingModeWrite (mst : Master) (data : Nat)
  /-- BLT_CMD_POST, R243. A write to RING_HEAD posts BLT commands into plans. -/
  | bltCmdPost (mst : Master) (data : Nat)
  /-- BLT_CMD_START, R243. The command at RING_TAIL is checked and starts when its plan commits or at once. -/
  | bltCmdStart
  /-- BLT_CMD_COMPLETE, R244. At completion BLT writes words 33 and 34 and advances RING_TAIL. -/
  | bltCmdComplete (parity : ReadFault)
  /-- BLT_ABORT, R251. A write to BLT.ABORT stops or marks a command aborted. -/
  | bltAbort (mst : Master) (data : Nat)
  /-- BEAM_ROW_RELEASE, R252. A held destination row is released once the beam has composed it and is written. -/
  | beamRowRelease
  /-- PCN_TBL_DATA_WRITE, R276. A write to TBL_DATA stores a table entry or is refused BUSY, then INDEX increments. -/
  | pcnTblDataWrite (mst : Master) (data : Nat)
  /-- PCN_TBL_DATA_READ, R276. A read of TBL_DATA returns the entry and increments INDEX. -/
  | pcnTblDataRead (mst : Master)
  /-- PCN_PROBE_SELECT, R283. A write to PROBE_SEL selects a subpixel and clears VALID. -/
  | pcnProbeSelect (mst : Master) (data : Nat)
  /-- DRIVER_STATUS_FRAME, R299. A driver status frame arrives on a return path and its counts are taken. -/
  | driverStatusFrame (port : Nat) (frame : List Byte) (settled : Bool)
  /-- LANE_RETRY, R300. Writing a RETRY bit clears the lane's mask at the next commit. -/
  | laneRetry (mst : Master) (port : Nat) (high : Bool) (data : Nat)
  /-- RETURN_LOST, R301. A return receiver dropping lock stops judging its lanes and records RETURN_LOST. -/
  | returnLost (port : Nat) (path : Nat)
  /-- RETURN_RELOCK, R301. A return receiver regaining lock resumes judging at the next commit. -/
  | returnRelock (port : Nat) (path : Nat)
  /-- TRAIN_LOCK_CHECK, R302. At S + 1.0 ms every driver must report lock and adaptation starts. -/
  | trainLockCheck
  /-- TRAIN_SETTINGS_APPLY, R302. At S + 5.0 ms the chosen post-cursor settings apply. -/
  | trainSettingsApply (results : List (Nat × List (Nat × Nat)))
  /-- TRAIN_JUDGE, R303. At S + 7.0 ms lanes that failed confirmation are masked and port A is checked. -/
  | trainJudge (failed : List Nat)
  /-- EYE_SCAN_START, R305. Writing EYE_CTRL.START starts an eye scan of a return path. -/
  | eyeScanStart (mst : Master) (data : Nat)
  /-- EYE_SCAN_DONE, R305. The eye scan ends and EYE_RESULT becomes valid. -/
  | eyeScanDone (host : Bool) (width : Nat) (height : Nat)
  /-- SER_CRC_INJECT, R305. INJECT.CRC inverts the CRC of the next packet on the named lane. -/
  | serCrcInject (mst : Master) (data : Nat)
  /-- SCAN_SLOT_START, R311. At each slot start every channel stops and the outgoing scan line switches off. -/
  | scanSlotStart (io : SlotIn)
  /-- LIT_WINDOW_START, R311. After pre-charge the incoming scan line turns on and its channels light. -/
  | litWindowStart (io : WindowIn)
  /-- CHANNEL_POWER_AVERAGE, R319. Each 1 ms average above 15 W stops the channel with POWER_LIMIT. -/
  | channelPowerAverage (ch : Nat) (mw : Nat)
  /-- VLED_RANGE_FAULT, R329. VLED outside its window stops switching and sinks. -/
  | vledRangeFault (mv : Nat)
  /-- VLED_RESUME, R329. After 10 ms inside the window switching resumes at the next commit. -/
  | vledResume
  /-- SEC_DRIVE_WRITE, R322. A Keeper write of SEC.OWNER.DRIVE holds outputs off or releases them at a commit. -/
  | secDriveWrite (mst : Master) (data : Nat)
  /-- SEC_RETRY, R331. Writing a SEC.RETRY bit clears that kind of fault mark at the next commit. -/
  | secRetry (mst : Master) (data : Nat)
  /-- APL_FRAME_START, R344. A region-layer frame opens with APL_FRAME and row packets for running updates. -/
  | aplFrameStart
  /-- APL_REQ_POST, R347. Writing REQ_POST posts a region-layer update and reports its result. -/
  | aplReqPost (mst : Master) (data : Nat)
  /-- APL_UPDATE_COMPLETE, R350. At the end of its last frame an update writes its target into the map. -/
  | aplUpdateComplete (slot : Nat)
  /-- APL_ABORT, R352. A write to APL.ABORT ends a queued update or stops one in flight. -/
  | aplAbort (mst : Master) (data : Nat)
  /-- APL_RAIL_READY, R338. Rails within window set RAIL_STATUS.READY. -/
  | aplRailReady (reached : Bool)
  /-- APL_RAIL_CHECK, R338. Every 10 µs each rail is checked against its window. -/
  | aplRailCheck (within : Nat)
  /-- APL_UNFREEZE, R354. Writing RECOVER.UNFREEZE ends a freeze at the next commit. -/
  | aplUnfreeze (mst : Master) (data : Nat)
  /-- APL_DRIVE_WRITE, R356. A Keeper write of APL.OWNER.DRIVE stops or resumes driving the layer. -/
  | aplDriveWrite (mst : Master) (data : Nat)
  /-- APL_TBL_DATA_WRITE, R343. A write to APL.TBL_DATA stores a waveform entry or is refused BUSY. -/
  | aplTblDataWrite (mst : Master) (data : Nat)
  /-- DRAM_COMMAND_SLOT, R373. Each sub-channel scheduler issues a refresh, fog, urgent or weighted request per slot.
  -/
  | dramCommandSlot (ch : Nat) (sub : Nat) (ns : Nat) (once : Bool) (twice : Bool)
  /-- REFRESH_DUE, R376. A per-bank refresh falls due every tREFIpb and issues or is postponed. -/
  | refreshDue (ch : Nat) (sub : Nat) (inWindow : Bool)
  /-- DEVICE_TEMP_REPORT, R377. Every 250 µs a device report may double or restore the refresh rate. -/
  | deviceTempReport (ch : Nat) (temp : Int) (hot : Bool)
  /-- QUIET_WINDOW, R379. A granted quiet window trains its channel without serving requests. -/
  | quietWindow (ch : Nat) (margin : Nat) (found : Bool)
  /-- TRACK_REQUEST, R381. TRACK_PERIOD elapsing or temperature drift raises a TRACK request. -/
  | trackRequest (ch : Nat)
  /-- CHANNEL_RETRY, R382. Writing RETIRE_CTRL.RETRY grants a RETRAIN to a retired channel. -/
  | channelRetry (mst : Master) (data : Nat)
  /-- DRAM_PARITY_INJECT, R385. INJECT.PARITY stores inverted parity on the next write to the channel. -/
  | dramParityInject (mst : Master) (ch : Nat) (data : Nat)
  /-- LINK_DETECT, R389. With ENABLE 1 and the Scene region powered the link sends markers on all lanes. -/
  | linkDetect
  /-- LINK_DETECT_TIMEOUT, R389. 100 ms without lanes 0 to 3 locked returns the link to DOWN. -/
  | linkDetectTimeout
  /-- LINK_TRAIN_ENTRY, R389. Lanes 0 to 3 locked for 100 µs move the link to TRAIN. -/
  | linkTrainEntry (lanes : Nat)
  /-- TS, R390. A TS flit reports lanes in lock and the greatest width and rate. -/
  | ts (flit : List Byte)
  /-- LINK_RATE_SWITCH, R390. At the named marker COUNT both sides switch rate and equalise. -/
  | linkRateSwitch (pass : Nat) (peaks : List Nat)
  /-- LINK_TRAIN_TIMEOUT, R389. TRAIN not ending within 6 ms enters RECOVER. -/
  | linkTrainTimeout
  /-- INIT, R389. The peer's INIT flit brings the link UP with its buffer advertisement. -/
  | init (flit : List Byte)
  /-- LINK_RECOVER_TIMEOUT, R389. RECOVER not returning to UP within 20 ms takes the link DOWN. -/
  | linkRecoverTimeout
  /-- DATA_FLIT, R393. A DATA flit is accepted in sequence, returning ACK and credits. -/
  | dataFlit (flit : List Byte)
  /-- NAK, R394. A received NAK resends every flit from EXPECT onwards. -/
  | nak (flit : List Byte)
  /-- ACK_TIMEOUT, R394. ACK not advancing for ACK_TIMEOUT resends from the oldest flit. -/
  | ackTimeout
  /-- REG_RD, R399. An Adeak REG_RD reads whole words and returns REG_RD_CPL. -/
  | regRd (packet : Packet)
  /-- REG_WR, R399. An Adeak REG_WR writes words up to the first refused one and returns REG_WR_CPL. -/
  | regWr (packet : Packet)
  /-- DMA_WR, R399. A DMA_WR writes memory through P0 or FST master 1. -/
  | dmaWr (packet : Packet)
  /-- DMA_WR_COMPLETE, R399. DMA_WR_CPL goes out after the packet's last write has landed. -/
  | dmaWrComplete (job : Nat)
  /-- DMA_RD, R398. A DMA_RD starts a memory read, queued behind RD_MAX reads. -/
  | dmaRd (packet : Packet)
  /-- DMA_RD_COMPLETE, R398. The read data returns as DMA_RD_CPL with its TAG. -/
  | dmaRdComplete (job : Reading Nat)
  /-- MBX_POST, R401. An Adeak MBX_POST places 64 bytes in a mailbox channel and returns MBX_CPL. -/
  | mbxPost (packet : Packet)
  /-- TICK, R11. A host tick packet marks the next sector-0 target tick from its time-stamp. -/
  | tick (packet : Packet)
  /-- TIME_REQ, R403. A TIME_REQ is answered with TIME_RSP carrying T2 and T3. -/
  | timeReq (packet : Packet)
  /-- LP_ACK, R405. Receipt of LP_ACK puts the link into LP. -/
  | lpAck (flit : List Byte)
  /-- LP_ACK_WAIT_EXPIRY, R405. ACK_WAIT passing without LP_ACK enters LP with UNILATERAL set. -/
  | lpAckWaitExpiry
  /-- LP_EXIT, R406. Signal on lane 0 for 10 µs, or the module leaving Hold, brings the link out of LP. -/
  | lpExit (byHost : Bool)
  /-- LINK_RETRAIN, R389. Writing LINK_CTRL.RETRAIN enters RECOVER. -/
  | linkRetrain (mst : Master) (data : Nat)
  /-- LINK_ENABLE_WRITE, R407. Writing LINK_CTRL.ENABLE 0 takes the link DOWN after its completion. -/
  | linkEnableWrite (mst : Master) (data : Nat)
  /-- LINK_CRC_INJECT, R408. INJECT.CRC corrupts the CRC of the next DATA flit sent. -/
  | linkCrcInject (mst : Master) (data : Nat)
  /-- JOIN, R415. The Tender judges a JOIN frame and answers JOIN_RESULT. -/
  | join (link : Nat) (frame : List Byte)
  /-- JOIN_RESULT, R415. A worker receiving JOIN_RESULT joins or runs standalone. -/
  | joinResult (link : Nat) (frame : List Byte)
  /-- JOIN_RETRY, R415. A refused or detached worker sends JOIN again every 1 s. -/
  | joinRetry
  /-- BARRIER, R418. A worker accepting a BARRIER commits its wall values in plan p. -/
  | barrier (link : Nat) (frame : List Byte)
  /-- BARRIER_SEND, R418. At BARRIER_DELAY after a tick the Tender sends the barrier for the next plan. -/
  | barrierSend
  /-- SUMMARY, R417. A child SUMMARY for the current plan is merged. -/
  | summary (link : Nat) (frame : List Byte)
  /-- SUMMARY_WAIT_EXPIRY, R417. At T + SUM_WAIT the summary is sent with MISSING set. -/
  | summaryWaitExpiry
  /-- MBX_A, R482. A tile MBX_A frame carries bytes 0 to 31 of a mailbox message. -/
  | mbxA (link : Nat) (frame : List Byte)
  /-- MBX_B, R482. A tile MBX_B frame completes a message into the far endpoint's inbox. -/
  | mbxB (link : Nat) (frame : List Byte)
  /-- MBX_CPL, R482. A tile MBX_CPL frees the outbox slot or schedules a resend. -/
  | mbxCpl (link : Nat) (frame : List Byte)
  /-- MBX_REMOTE_RESEND, R482. After FULL the message is sent again 100 µs later. -/
  | mbxRemoteResend (ep : Nat) (slot : Nat)
  /-- TL_REG_RD, R413. A tile REG_RD frame reads a register as master 3 or 4. -/
  | tlRegRd (link : Nat) (frame : Reading (List Byte))
  /-- TL_REG_WR, R413. A tile REG_WR frame writes a register as master 3 or 4. -/
  | tlRegWr (link : Nat) (frame : List Byte)
  /-- REG_CPL, R424. A REG_CPL frame ends the remote command with STATUS and data. -/
  | regCpl (link : Nat) (frame : List Byte)
  /-- MIRROR, R427. A MIRROR frame stages the owner's host write in the tagged plan. -/
  | mirror (link : Nat) (frame : List Byte)
  /-- HEARTBEAT, R428. A partner HEARTBEAT frame is accepted for its field. -/
  | heartbeat (link : Nat) (frame : List Byte)
  /-- DAYMARK_LO, R429. Partner signatures 0 to 7 are compared with the member's own. -/
  | daymarkLo (link : Nat) (frame : List Byte)
  /-- DAYMARK_HI, R429. Partner signatures 8 to 15 are compared and divergence is judged. -/
  | daymarkHi (link : Nat) (frame : List Byte)
  /-- TL_NAK, R412. A tile NAK resends sequenced frames from EXPECT. -/
  | tlNak (link : Nat) (frame : List Byte)
  /-- TL_REPLAY_TIMEOUT, R412. ACK not advancing for 2 µs resends from the oldest frame. -/
  | tlReplayTimeout (link : Nat)
  /-- PORT_DOWN, R412. A tile link not returning within 20 ms is DOWN. -/
  | portDown (link : Nat)
  /-- HEARTBEAT_CHECK, R428. At T + HB_WAIT a member judges whether the partner's heartbeat is missed. -/
  | heartbeatCheck
  /-- PAIR_OUTPUT_ENABLE, R430. 2 µs after asserting, outputs leave high impedance if PAIR_OWN_I is still low. -/
  | pairOutputEnable
  /-- PAIR_OWN_I_CHANGE, R431. A change of PAIR_OWN_I gates outputs and may allow a takeover. -/
  | pairOwnIChange (high : Bool)
  /-- PAIR_RELEASE, R432. Writing PAIR_CTRL.RELEASE gives up ownership at the next commit. -/
  | pairRelease (mst : Master) (data : Nat)
  /-- REMOTE_GO, R424. Writing REMOTE_CTRL.GO sends a remote register command. -/
  | remoteGo (mst : Master) (data : Nat)
  /-- REMOTE_TIMEOUT, R424. No REG_CPL within 1 ms ends the remote command with TIMEOUT. -/
  | remoteTimeout
  /-- TIME, R448. A tile TIME frame is consumed or forwarded with residence correction. -/
  | time (link : Nat) (frame : List Byte) (residence : Nat) (full : Bool)
  /-- TIME_SNAPSHOT, R437. A read of NOW_FRAC latches the whole clock into the reader's snapshot. -/
  | timeSnapshot (mst : Master)
  /-- RATE_WRITE, R436. A Keeper write of RATE sets the clock rate within ±1 000 ppm. -/
  | rateWrite (mst : Master) (data : Nat)
  /-- STEP_GO, R438. A Keeper write of STEP_GO while armed applies the offset in the next cycle. -/
  | stepGo (mst : Master) (data : Nat)
  /-- TRIGGER_FIRE, R449. A trigger unit fires when the clock reaches its target and advances it. -/
  | triggerFire (unit : Nat) (readings : List Nat)
  /-- TRIGGER_ENABLE, R451. Writing TRIG_CTRL.EN from 0 to 1 loads the first target from START. -/
  | triggerEnable (mst : Master) (unit : Nat) (data : Nat)
  /-- PTP_MESSAGE, R445. A PTP event message on a time port is time-stamped and processed. -/
  | ptpMessage (port : Nat) (message : PtpMsg) (residence : Nat) (full : Bool)
  /-- FOLLOW_UP_TIMEOUT, R446. A held Sync residence without Follow_Up for 1 s is dropped. -/
  | followUpTimeout (port : Nat) (seq : Nat) (source : Nat)
  /-- TIME_PORT_DOWN, R446. A time port losing its link records TIME_PORT_DOWN. -/
  | timePortDown (port : Nat)
  /-- LUMINANCE_UPDATE, R462. Once per second the Keeper updates the photo gain and channel trims. -/
  | luminanceUpdate (readings : List Nat) (currents : List Nat)
  /-- PROFILE_STORE, R470. The Keeper verifies and stores a PROFILE object and may activate it. -/
  | profileStore (req : KeeperReq)
  /-- POLICY_STORE, R469. The Keeper verifies and stores or clears a POLICY object. -/
  | policyStore (req : KeeperReq)
  /-- ATTEST, R474. The Keeper writes a signed attestation report with the caller's nonce. -/
  | attest (req : KeeperReq)
  /-- CERT_GET, R465. The Keeper writes the attestation certificate to the buffer. -/
  | certGet (req : KeeperReq)
  /-- FW_STORE, R471. The Keeper verifies a firmware image and stores it in the idle image area. -/
  | fwStore (req : KeeperReq)
  /-- ROLLBACK_COMMIT, R472. The Keeper raises the OTP anti-rollback counter to the target when allowed. -/
  | rollbackCommit (req : KeeperReq)
  /-- KEY_PROGRAM, R473. The Keeper programs a customer key slot from a KEY object. -/
  | keyProgram (req : KeeperReq)
  /-- KEY_REVOKE, R473. The Keeper revokes a customer key slot with a REVOKE object. -/
  | keyRevoke (req : KeeperReq)
  /-- DEBUG_CHALLENGE, R475. The Keeper returns a fresh debug challenge and the unique ID. -/
  | debugChallenge (req : KeeperReq)
  /-- DEBUG_RESPONSE, R475. A DEBUG object unlocks debug scopes for its duration. -/
  | debugResponse (req : KeeperReq)
  /-- DEBUG_EXPIRY, R475. The unlock lapses at the end of its duration. -/
  | debugExpiry
  /-- CHALLENGE_LAPSE, R475. A challenge lapses 60 s after issue. -/
  | challengeLapse
  /-- BRIGHT_SET, R461. The Keeper records a requested brightness and ramp. -/
  | brightSet (req : KeeperReq)
  /-- KEEPER_RESTART, R476. The watchdog restarts the Keeper after 4 ticks without budget reads. -/
  | keeperRestart
  /-- TX_POST, R481. Writing MBX.TX_POST posts TX_DATA to a destination channel. -/
  | txPost (mst : Master) (data : Nat)
  /-- RX_POP, R483. Writing RX_POP frees the head slot of the selected channel. -/
  | rxPop (mst : Master) (ep : Nat) (data : Nat)
  /-- DB_SET, R484. Sender c rings doorbell bits by writing DB_SET. -/
  | dbSet (mst : Master) (ep : Nat) (ch : Nat) (data : Nat)
  /-- NOTICE_CLR, R485. Writing CH_STATUS.NOTICE_CLR clears ABORTED and PEER_RESET. -/
  | noticeClr (mst : Master) (ep : Nat) (ch : Nat) (data : Nat)
  /-- EP_RESET, R486. An endpoint reset clears channels into it, advances its epoch and raises notices. -/
  | epReset (mst : Master) (ep : Option Nat) (data : Nat)
  /-- MBX_BLOCK_RESET, R489. CTRL.RESET of MBX[0] resets every endpoint in its landing cycle. -/
  | mbxBlockReset (mst : Master)
  /-- LOCK_READ, R490. A read of LOCK[k] acquires a free lock or reports its holder. -/
  | lockRead (mst : Master) (lock : Nat)
  /-- LOCK_RELEASE, R492. A write to LOCK[k] releases or force-releases the lock. -/
  | lockRelease (mst : Master) (lock : Nat) (data : Nat)
  /-- CHK_START, R495. CMD.START loads the initial value and sets COUNT to 0. -/
  | chkStart (mst : Master) (unit : Nat) (data : Nat)
  /-- CHK_DATA32, R495. A write to DATA32 feeds four bytes into the unit. -/
  | chkData32 (mst : Master) (unit : Nat) (data : Nat)
  /-- CHK_DATA8, R495. A write to DATA8 feeds one byte into the unit. -/
  | chkData8 (mst : Master) (unit : Nat) (data : Nat)
  /-- CHK_FINISH, R495. CMD.FINISH computes RESULT and compares it with EXPECT. -/
  | chkFinish (mst : Master) (unit : Nat) (data : Nat)
  /-- CHK_RESYNC, R496. CMD.RESYNC clears ALIVE.VALID. -/
  | chkResync (mst : Master) (unit : Nat) (data : Nat)
  /-- CAL_PASS_START, R506. A background pass starts PASS_INTERVAL after the previous one. -/
  | calPassStart
  /-- CAL_STEP_START, R506. A background step starts calibrating the spare converter. -/
  | calStepStart (calv : Nat) (cali : Nat)
  /-- CAL_STEP_DONE, R504. A calibration step completes with a new result. -/
  | calStepDone (result : ConvIn)
  /-- CAL_PAUSE, R507. In pause mode sensing stops for 12 ms and all converters calibrate in place. -/
  | calPause (results : List ConvIn)
  /-- CAL_FULL_RUN_END, R511. A FULL run ends and light returns at the next frame boundary. -/
  | calFullRunEnd (result : FullIn)
  /-- CAL_EXPORT, R514. The Keeper writes the stored calibration set to the buffer. -/
  | calExport (req : KeeperReq)
  /-- CAL_RUN, R511. The Keeper starts a FULL run or one background pass. -/
  | calRun (req : KeeperReq)
  /-- CAL_COMMIT, R515. The Keeper writes the active values as a user calibration set. -/
  | calCommit (req : KeeperReq)
  /-- CAL_STORE, R514. The Keeper checks and writes a supplied calibration set. -/
  | calStore (req : KeeperReq)
  /-- CAL_MODE, R514. The Keeper sets pause mode, background enable and intervals. -/
  | calMode (req : KeeperReq)
  /-- MOORING_TRIGGER, R529. A supply, rail, thermal or test trigger starts Mooring and darkens the light. -/
  | mooringTrigger (mv : Nat) (slope : Int)
  /-- MOORING_TEST_GO, R529. A Keeper write of MOORING_TEST.GO raises a TEST trigger. -/
  | mooringTestGo (mst : Master) (data : Nat)
  /-- MOORING_BLANK, R530. At t + 200 µs the modulator is blanked and Ray and Scene power down. -/
  | mooringBlank
  /-- MOORING_LANES_IDLE, R530. At t + 300 µs the panel lanes idle and the Panel region powers down except APL. -/
  | mooringLanesIdle
  /-- MOORING_LAYER_STEP_END, R357. The region-layer step ends and updates not ended become UNKNOWN. -/
  | mooringLayerStepEnd
  /-- LAYER_CUT, R531. The capacitor at 16 V ends the layer step at once. -/
  | layerCut (mv : Nat)
  /-- MOORING_RECORD, R534. Keeper firmware writes and reads back the Mooring record. -/
  | mooringRecord (energy : Nat)
  /-- MOORING_END, R530. The Keeper region powers down and the module is Off. -/
  | mooringEnd
  /-- OFF_HOLDOFF_EXPIRY, R533. After 50 ms in Off the module may enter Boot. -/
  | offHoldoffExpiry
  /-- RAIL_FAULT, R521. A rail outside window for 50 µs is FATAL or a Mooring trigger. -/
  | railFault (cell : Nat) (mv : Nat)
  /-- CAP_MEASURE, R525. A capacitance measurement classifies the capacitor. -/
  | capMeasure (droop : Nat) (mv : Nat)
  /-- CAP_TOPUP, R526. The capacitor below 35.5 V is charged to 36.0 V. -/
  | capTopup (mv : Nat) (charge : Nat)
  /-- CAP_OVERVOLT, R526. The capacitor at 38.0 V stops the charger. -/
  | capOvervolt (mv : Nat)
  /-- RESERVE_COMPUTE, R527. Every 1 ms PWR computes the Mooring reserve and RESERVE_OK. -/
  | reserveCompute (mv : Nat)
  /-- RECORD_SLOT_ERASE, R534. The slot after the newest record is erased and READY is set. -/
  | recordSlotErase
  /-- THERMAL_SAMPLE, R539. THM samples every sensor and converts to zone temperatures. -/
  | thermalSample (temps : List Int) (counts : List Nat)
  /-- THERMAL_STEP_REPEAT, R542. A zone staying at 100 °C is throttled another step every 10 ms. -/
  | thermalStepRepeat (zone : Nat)
  /-- BROKEN_RETRY, R540. Writing BROKEN_RETRY rejudges broken sensors at the next sample. -/
  | brokenRetry (mst : Master) (data : Nat)
  /-- PANEL_TEMP_SAMPLE, R543. Every 10 ms the thermistor is sampled and the panel temperature averaged. -/
  | panelTempSample (temp : Int)
  /-- VIN_MIN_CLR, R545. Writing VIN_MIN.CLR restarts the lowest-VIN record. -/
  | vinMinClr (mst : Master) (data : Nat)
  /-- REFCLK_LOST, R563. REFCLK stopping for 1 µs records FATAL REFCLK_LOST and enters Safe. -/
  | refclkLost
  /-- REFCLK_RETURN, R563. The clock stable for 10 ms sets SYNC_STATE to ACQUIRING. -/
  | refclkReturn
  /-- TILE_PORT_UP, R415. A Basenaord tile port, or one lane of a SPLIT port, finishes training and comes UP, and a
  worker then sends JOIN upward. -/
  | tilePortUp (link : Nat)
  /-- LANE_LOCK_LOSS, R389. A lane receiver drops lock after 4 consecutive marker errors under R287, and an UP Adeak
  link enters RECOVER while a tile link retrains. -/
  | laneLockLoss (host : Bool) (lane : Nat)
  /-- NULL_FLIT, R391. A received NULL flit delivers its ACK, which frees replay-buffer entries, and any credits it
  returns. -/
  | nullFlit (flit : List Byte)
  /-- IDLE, R412. A received tile-link IDLE frame delivers its ACK and frees sequenced frames held in the replay
  buffer. -/
  | idle (link : Nat) (frame : List Byte)
  /-- TIME_PORT_UP, R444. A 1000BASE-X or SGMII time port completes auto-negotiation and its link comes up, which sets
  TPn_UP and raises PORT_LINK. -/
  | timePortUp (port : Nat)
  /-- ANNOUNCE_RECEIPT_TIMEOUT, R445. No Announce arrives for ANNOUNCE_TIMEOUT intervals, so the PTP source is lost
  and SYNC_STATE moves to HOLDOVER. -/
  | announceReceiptTimeout (port : Nat)
  /-- PTP_SYNC_INTERVAL, R447. Every 2^LOG_TL s, or at the time-port log intervals, the module sends its Sync as
  master or its Delay_Req as slave. -/
  | ptpSyncInterval (port : Nat)
  /-- FLASH_WRITE_DONE, R470. A Keeper flash write of an object or calibration set finishes its program and read-back,
  writes the slot's valid marker and sends the reply. -/
  | flashWriteDone (ok : Bool)
  /-- STARTUP_LANE_TRAINING, R302. At start-up step 5 the module locks the return paths and region-layer lanes and
  trains the panel lanes at the 0x0E rate, after which the raster runs. -/
  | startupLaneTraining (results : List (Nat × List (Nat × Nat))) (failed : List Nat)
  /-- KEEPER_RESTART_END, R476. The restarted Keeper firmware runs again from the resident image within 20 ms and
  resumes its readings and requests. -/
  | keeperRestartEnd
  deriving DecidableEq, Repr

end Sys2Proof
end

