-- ==== Sys2Proof/Decode.lean ====
section
/-!
DEFINITION. Decode.lean: the commands that table words spell. Commands reach this module over buses, links, wires and
pins; no row of spec/opcode_table.json gives its command bits, so no word spells one (log 3). What the spec does lay out
in bits (register addresses, link flits, packets, tile frames, mailbox messages) is read by the meanings of the commands
that carry those bytes.
-/

namespace Sys2Proof

/-- The command that the word `w` of `nbits` bits spells by the table: none. -/
def decodeTableWord (_nbits _w : Nat) : Option Instr := none

end Sys2Proof
end

