-- ==== Sys2Proof/Config.lean ====
section
/-!
DEFINITION. Config.lean: the free values: what the spec leaves open and the machine goes on with. Each is a constant with
no body, so no proof can see what it is; each is named in an entry of the assumption log.
-/

namespace Sys2Proof.Config

/-- A fresh unstated value, the n-th the machine draws (`Chip.fresh` counts them). -/
opaque freeNat : Nat → Nat

/-- The byte that a device address of LPDDR6 reads as after re-fold number n, when nothing has been written there
since (R365, R383: the content is not preserved and no value is given). -/
opaque refoldByte : Nat → Nat → BitVec 8

/-- Whether the region of the block with this page has a re-plan that keeps the operating mode running after an ISOL
event for which the block's chapter states none (R45). -/
opaque replanExists : Nat → Bool

/-- The bytes the module's own encoder writes for a block of the format and ratio (R128: an encoder is free to choose any
valid mode and any field values). The operands are the format's index, the ratio and the 64 texels. -/
opaque encodeBlock : Nat → Nat → List (List Nat) → List (BitVec 8)

/-- The set of a texel block in the level-1 (1) or level-2 (2) cache (R149, R150: the number of sets is given, the index
function is not). The operands are the level, the layer, the block column and the block row. -/
opaque cacheSet : Nat → Nat → Nat → Nat → Nat

/-- Whether a row driver, by its index, listens to control lane C1 rather than C0 where CTRL_REDUNDANT is 0 (R289: each
edge listens to one lane; which is not given). -/
opaque rowDriverLane : Nat → Bool

/-- The sourcePortIdentity of the module on a time port, and the UDP checksum of a message of its own by messageType and
sequenceId (R444, R445: no value is given). -/
opaque portIdentity : Nat → Nat
opaque udpChecksum : Nat → Nat → Nat

/-! The Keeper's cryptography (R467, R468, R474): named in the spec and not defined there. Digests are numbers of 384 bits,
their first byte lowest. -/

/-- SHA-384. -/
opaque sha384 : List (BitVec 8) → Nat

/-- Whether an ECDSA signature on brainpoolP384r1 verifies: the uncompressed point, the digest and the signature. -/
opaque signatureOk : List (BitVec 8) → Nat → List (BitVec 8) → Bool

/-- The digest of the Holdel root key, in OTP. -/
opaque rootDigest : Nat

/-- The signature with the attestation key over a digest: r then s. -/
opaque attestSign : Nat → List (BitVec 8)

/-- The attestation certificate. -/
opaque certificate : List (BitVec 8)

/-! Formats that the spec does not give. -/

/-- Version and rollback index in a firmware image's header, where it is well formed (R85). -/
opaque imageHeader : List (BitVec 8) → Option (Nat × Nat)

/-- Whether a firmware image's signature verifies under the root key (R85). -/
opaque imageSigned : List (BitVec 8) → Bool

/-- Where the two flash image areas lie for the register accesses that the boot ROM serves (R86): the area and the word's
offset in it, of a device address that is otherwise unmapped. -/
opaque imageWindow : Nat → Option (Nat × Nat)

/-- A word of the image with a digest, at an offset of its area (R86). -/
opaque imageWord : Nat → Nat → Nat

/-- What an image area holds once words were written over the image with a digest: the header, where it is well formed,
whether the signature verifies, and the digest (R85, R86). The operands are the old digest and the words by offset. -/
opaque rewrittenHeader : Nat → List (Nat × Nat) → Option (Nat × Nat)
opaque rewrittenSigned : Nat → List (Nat × Nat) → Bool
opaque rewrittenDigest : Nat → List (Nat × Nat) → Nat

/-- The first offending offset of a PROFILE object's sections (R469). -/
opaque profileFault : List (BitVec 8) → Option Nat

/-- What the profile with a digest holds (R83, R462): its policy table, the register writes of start-up step 7 as (key,
word), tables in device memory as (address, bytes), tone and waveform table entries of PCN and APL as (number, value), the
trims, the ageing curve's nodes and step, and for each photo input the reference reading per mA in 4.12 and its channels. -/
opaque profilePolicy : Nat → List (BitVec 8)
opaque profileWrites : Nat → List (Nat × Nat)

/-- The lens values of a profile for modes of so many sectors per frame (R186), as writes of LNS registers (key, word). The
operands are the profile's digest and the sector count. -/
opaque profileLens : Nat → Nat → List (Nat × Nat)
opaque profileMemory : Nat → List (Nat × List (BitVec 8))
opaque profileTone : Nat → List (Nat × Nat)
opaque profileWaves : Nat → List (Nat × Nat)
opaque profileTrim : Nat → Nat → Nat
opaque profileAge : Nat → Nat → Nat
opaque profileAgeStep : Nat → Nat
opaque profilePhoto : Nat → Nat → Nat
opaque profilePhotoChannels : Nat → Nat → List Nat

end Sys2Proof.Config
end

