-- ==== Sys2Proof/Machine/RegMap.lean ====
section
/-!
DEFINITION. Machine/RegMap.lean: the block-register map, one row per register definition of the register tables of
the block chapters (spec/01 to spec/23), and the names of the registers (`K.<page>_<register>`, the control-space
key) and of their fields (`F.<page>_<register>_<field>`). The text of the rows was laid out by a script from the
spec's own register tables; each row cites the file and the rule beside it.

A KEY of a register is (block code << 20) + (instance << 12) + offset, which is its control-space address less
0x20_0000_0000 (R54). Instance 0 is used for the pages named `MEM0`, `SER0`, `MBX0`; the pages with several instances
(`MEMC` MEM[1..8], `SERP` SER[1..3], `MBXE` MBX[1..68], `CHKU` CHK[1..20]) are reached with `Fld.inst`.
-/

namespace Sys2Proof.Machine

/-- One register definition (R56, R59): its offset in the page, how many of it there are and their stride, and for each
access code the mask of the bits that carry it. Bits in no mask are RO or reserved. -/
structure RegDef where
  off : Nat
  count : Nat
  stride : Nat
  rw : Nat
  stg : Nat
  w1c : Nat
  w1s : Nat
  wo : Nat
  ro : Nat
  reset : Nat
  deriving DecidableEq, Repr

/-- A field of a register: the key of its register, its lowest bit, its width, and the stride of the register where it
is one of an array. -/
structure Fld where
  key : Nat
  lo : Nat
  wd : Nat
  stride : Nat
  deriving DecidableEq, Repr

/-- The field in element `i` of a register array. -/
def Fld.ix (f : Fld) (i : Nat) : Fld := { f with key := f.key + i * f.stride }

/-- The field in the page of instance `i` of the block. -/
def Fld.inst (f : Fld) (i : Nat) : Fld := { f with key := f.key + i * 4096 }

def regsHLK_0 : List RegDef :=
  [ ⟨0x100, 1, 0x4, 0xf, 0x0, 0x0, 0x10, 0x0, 0x0, 0x5⟩ /- LINK_CTRL, R408 -/
  , ⟨0x104, 1, 0x4, 0x0, 0x0, 0x0, 0x0, 0x0, 0x7f, 0x18⟩ /- LINK_STATUS, R408 -/
  , ⟨0x108, 1, 0x4, 0x0, 0x0, 0x0, 0x0, 0x0, 0xffffffff, 0x0⟩ /- LANE_STATUS, R408 -/
  , ⟨0x10c, 1, 0x4, 0xfff, 0x0, 0x0, 0x0, 0x0, 0x0, 0x828⟩ /- RETRY_CFG, R408 -/
  , ⟨0x110, 1, 0x4, 0x3, 0x0, 0x0, 0x0, 0x0, 0x0, 0x3⟩ /- CTX_CTRL, R408 -/
  , ⟨0x114, 1, 0x4, 0x0, 0x0, 0x0, 0x0, 0x0, 0xfffffff, 0x2040040⟩ /- CREDIT_ADV, R408 -/
  , ⟨0x118, 1, 0x4, 0x0, 0x0, 0x0, 0x0, 0x0, 0xfffffff, 0x0⟩ /- TX_CREDIT, R408 -/
  , ⟨0x11c, 1, 0x4, 0x0, 0x0, 0x0, 0x0, 0x0, 0xfffffff, 0x0⟩ /- PEER_ADV, R408 -/
  , ⟨0x120, 1, 0x4, 0x0, 0x0, 0x0, 0x0, 0x0, 0xfffff, 0x0⟩ /- PEER_INFO, R408 -/
  , ⟨0x124, 1, 0x4, 0x0, 0x0, 0x0, 0x0, 0x0, 0xfff0fff, 0x0⟩ /- SEQ_STATUS, R408 -/
  , ⟨0x128, 1, 0x4, 0x0, 0x0, 0x0, 0x0, 0x0, 0xffff07ff, 0x0⟩ /- REPLAY_STATUS, R408 -/
  , ⟨0x12c, 1, 0x4, 0xff, 0x0, 0x0, 0x0, 0x0, 0x0, 0xa⟩ /- LP_CTRL, R408 -/
  , ⟨0x130, 1, 0x4, 0x0, 0x0, 0x0, 0x0, 0x0, 0xf, 0x0⟩ /- LP_STATUS, R408 -/
  , ⟨0x134, 1, 0x4, 0xffff, 0x0, 0x0, 0x0, 0x0, 0x0, 0x0⟩ /- TS_OFFSET, R408 -/
  , ⟨0x138, 1, 0x4, 0x0, 0x0, 0x0, 0x0, 0x0, 0x3fffffff, 0x0⟩ /- TICK_TS_LO, R408 -/
  , ⟨0x13c, 1, 0x4, 0x0, 0x0, 0x0, 0x0, 0x0, 0xffffffff, 0x0⟩ /- TICK_TS_HI, R408 -/
  , ⟨0x140, 1, 0x4, 0x0, 0x0, 0x0, 0x0, 0x0, 0xfffff7ff, 0x0⟩ /- BAD_PKT, R408 -/
  , ⟨0x144, 1, 0x4, 0x0, 0x0, 0x0, 0x0, 0x0, 0xffff, 0x0⟩ /- OUTSTANDING, R408 -/
  , ⟨0x148, 2, 0x4, 0x0, 0x0, 0x0, 0x0, 0x0, 0x3, 0x0⟩ /- EVENT_PEND, R408 -/
  , ⟨0x150, 1, 0x4, 0x0, 0x0, 0x0, 0x0, 0x0, 0xffff000f, 0x0⟩ /- DOWN_INFO, R408 -/
  , ⟨0x154, 1, 0x4, 0x0, 0x0, 0x0, 0x0, 0x0, 0xffffffff, 0x0⟩ /- TX_LAST, R408 -/
  , ⟨0x158, 1, 0x4, 0x0, 0x0, 0x0, 0x0, 0x0, 0xffffffff, 0x0⟩ /- RX_LAST, R408 -/
  , ⟨0x15c, 1, 0x4, 0xf, 0x0, 0x0, 0x80, 0x0, 0x0, 0x0⟩ /- EYE_CTRL, R408 -/
  , ⟨0x160, 1, 0x4, 0x0, 0x0, 0x0, 0x0, 0x0, 0x1ffff, 0x0⟩ /- EYE_RESULT, R408 -/
  , ⟨0x164, 1, 0x4, 0x1, 0x0, 0x0, 0x0, 0x0, 0x0, 0x0⟩ /- TEST_CTRL, R408 -/
  , ⟨0x168, 1, 0x4, 0x0, 0x0, 0x0, 0x0, 0x0, 0xffffffff, 0x0⟩ /- TEST_RESULT, R408 -/
  , ⟨0x16c, 1, 0x4, 0x0, 0x0, 0x0, 0x1, 0x0, 0x0, 0x0⟩ /- INJECT, R408 -/
  , ⟨0x170, 1, 0x4, 0x1f, 0x0, 0x0, 0x0, 0x0, 0x0, 0x10⟩ /- DMA_CTRL, R408 -/
  , ⟨0x200, 1, 0x4, 0x0, 0xff03, 0x0, 0x0, 0x0, 0x0, 0x100⟩ /- SCENE_CTRL, R117 -/
  , ⟨0x204, 1, 0x4, 0x0, 0xfffff000, 0x0, 0x0, 0x0, 0x0, 0x0⟩ /- RING_BASE_LO, R117 -/ ]

def regsHLK_1 : List RegDef :=
  [ ⟨0x208, 1, 0x4, 0x0, 0xff, 0x0, 0x0, 0x0, 0x0, 0x0⟩ /- RING_BASE_HI, R117 -/
  , ⟨0x20c, 1, 0x4, 0x0, 0xfffff, 0x0, 0x0, 0x0, 0x0, 0x0⟩ /- SLOT_SIZE, R117 -/
  , ⟨0x210, 1, 0x4, 0x0, 0x0, 0x0, 0x0, 0x0, 0x1fff, 0x0⟩ /- RING_STATUS, R117 -/
  , ⟨0x214, 1, 0x4, 0x0, 0x0, 0x0, 0x0, 0x0, 0xffffffff, 0x0⟩ /- FILL_BYTES, R117 -/
  , ⟨0x218, 1, 0x4, 0x0, 0x0, 0x0, 0x0, 0x0, 0x3ffff, 0x0⟩ /- USE_INFO, R117 -/
  , ⟨0x21c, 1, 0x4, 0x0, 0x0, 0x0, 0x0, 0x0, 0xffffffff, 0x0⟩ /- USE_FRAME, R117 -/
  , ⟨0x220, 1, 0x4, 0x0, 0x0, 0x0, 0x0, 0x0, 0xffff00ff, 0x0⟩ /- LAST_DISCARD, R117 -/
  , ⟨0x224, 1, 0x4, 0x0, 0x0, 0x0, 0x0, 0x0, 0xffffffff, 0x0⟩ /- USE_TIME_NS, R117 -/
  , ⟨0x228, 1, 0x4, 0x0, 0x0, 0x0, 0x0, 0x0, 0xffffffff, 0x0⟩ /- USE_TIME_S, R117 -/
  , ⟨0x300, 16, 0x4, 0xff, 0x0, 0x0, 0x0, 0x0, 0x0, 0x48⟩ /- TX_SET, R408 -/
  , ⟨0x340, 16, 0x4, 0x0, 0x0, 0x0, 0x0, 0x0, 0x1f, 0x0⟩ /- RX_EQ, R408 -/
  , ⟨0x380, 16, 0x4, 0x0, 0x0, 0x0, 0x0, 0x0, 0xffff, 0x0⟩ /- LANE_ERR, R408 -/ ]

/-- The block registers of page HLK. -/
def regsHLK : List RegDef := regsHLK_0 ++ regsHLK_1

def regsCDC_0 : List RegDef :=
  [ ⟨0x100, 1, 0x4, 0xffffffc0, 0x0, 0x0, 0x0, 0x0, 0x0, 0x0⟩ /- JOB_BASE_LO, R145 -/
  , ⟨0x104, 1, 0x4, 0xff, 0x0, 0x0, 0x0, 0x0, 0x0, 0x0⟩ /- JOB_BASE_HI, R145 -/
  , ⟨0x108, 1, 0x4, 0x1ff, 0x0, 0x0, 0x0, 0x0, 0x0, 0x0⟩ /- JOB_SIZE, R145 -/
  , ⟨0x10c, 1, 0x4, 0xff, 0x0, 0x0, 0x0, 0x0, 0x0, 0x0⟩ /- JOB_HEAD, R145 -/
  , ⟨0x110, 1, 0x4, 0x0, 0x0, 0x0, 0x0, 0x0, 0x3ff, 0x0⟩ /- JOB_TAIL, R145 -/
  , ⟨0x114, 1, 0x4, 0x0, 0x0, 0x0, 0x0, 0x800000ff, 0x0, 0x0⟩ /- JOB_ABORT, R145 -/
  , ⟨0x118, 1, 0x4, 0x0, 0x0, 0x0, 0x0, 0x1, 0x0, 0x0⟩ /- FLUSH, R145 -/
  , ⟨0x120, 1, 0x4, 0x0, 0x1, 0x0, 0x0, 0x0, 0x0, 0x0⟩ /- FIELD_CTRL, R145 -/
  , ⟨0x124, 1, 0x4, 0x0, 0xff, 0x0, 0x0, 0x0, 0x0, 0xf⟩ /- PIPE_WEIGHT, R145 -/
  , ⟨0x128, 1, 0x4, 0x0, 0x0, 0x0, 0x0, 0x0, 0xfffffff, 0x0⟩ /- LAST_CHECK, R145 -/ ]

/-- The block registers of page CDC. -/
def regsCDC : List RegDef := regsCDC_0

def regsMEM0_0 : List RegDef :=
  [ ⟨0x100, 1, 0x4, 0x0, 0x0, 0x0, 0x0, 0x0, 0xff03, 0x802⟩ /- CFG, R385 -/
  , ⟨0x110, 8, 0x4, 0x0, 0x1fffff, 0x0, 0x0, 0x0, 0x0, 0x0⟩ /- MAP_MASK, R385 -/
  , ⟨0x130, 8, 0x4, 0x0, 0xfffff, 0x0, 0x0, 0x0, 0x0, 0x0⟩ /- PORT_QOS, R385 -/
  , ⟨0x150, 1, 0x4, 0x0, 0x0, 0x0, 0x0, 0x0, 0x3, 0x0⟩ /- FOG_STATUS, R385 -/
  , ⟨0x160, 1, 0x4, 0x0, 0x1f, 0x0, 0x0, 0x0, 0x0, 0x0⟩ /- QUIET, R385 -/
  , ⟨0x164, 1, 0x4, 0x0, 0xfffff, 0x0, 0x0, 0x0, 0x0, 0x2050a⟩ /- TRAIN_CTRL, R385 -/
  , ⟨0x168, 1, 0x4, 0x0, 0x0, 0x0, 0x0, 0x0, 0xffff, 0x0⟩ /- TRAIN_REQ, R385 -/
  , ⟨0x170, 1, 0x4, 0x0, 0x0, 0x0, 0x0, 0x0, 0x1ffff, 0xff⟩ /- MAP_STATUS, R385 -/
  , ⟨0x174, 1, 0x4, 0x0, 0x0, 0x0, 0xff, 0x0, 0x0, 0x0⟩ /- RETIRE_CTRL, R385 -/
  , ⟨0x178, 1, 0x4, 0x0, 0x0, 0x0, 0x0, 0x0, 0x3f, 0x0⟩ /- RETRY_RESULT, R385 -/
  , ⟨0x180, 8, 0x4, 0x0, 0x0, 0x0, 0x0, 0x0, 0xffffffff, 0x0⟩ /- PORT_BYTES, R385 -/
  , ⟨0x1a0, 8, 0x4, 0x0, 0x0, 0x0, 0x0, 0x0, 0xffff, 0x0⟩ /- LAT_MAX, R385 -/ ]

/-- The block registers of page MEM0. -/
def regsMEM0 : List RegDef := regsMEM0_0

def regsMEMC_0 : List RegDef :=
  [ ⟨0x100, 1, 0x4, 0x0, 0x0, 0x0, 0x0, 0x0, 0xff07ff, 0x0⟩ /- CH_STATUS, R385 -/
  , ⟨0x104, 1, 0x4, 0x0, 0x0, 0x0, 0x0, 0x0, 0xffffffff, 0x0⟩ /- DOUBLE_READ, R385 -/
  , ⟨0x108, 1, 0x4, 0x0, 0x0, 0x0, 0x0, 0x0, 0xffffff07, 0x0⟩ /- TRAIN_RESULT, R385 -/
  , ⟨0x10c, 1, 0x4, 0x0, 0x0, 0x0, 0x0, 0x0, 0xff, 0x0⟩ /- TRAIN_TEMP, R385 -/
  , ⟨0x110, 1, 0x4, 0x0, 0x0, 0x0, 0x1, 0x0, 0x0, 0x0⟩ /- INJECT, R385 -/
  , ⟨0x114, 1, 0x4, 0x0, 0xf, 0x0, 0x0, 0x0, 0x0, 0x8⟩ /- REFRESH_CFG, R385 -/ ]

/-- The block registers of page MEMC. -/
def regsMEMC : List RegDef := regsMEMC_0

def regsTLK_0 : List RegDef :=
  [ ⟨0x100, 1, 0x4, 0x0, 0x0, 0x0, 0x0, 0x0, 0x1ff, 0x0⟩ /- NODE_CFG, R433 -/
  , ⟨0x104, 1, 0x4, 0x7f, 0x0, 0x0, 0x0, 0x0, 0x0, 0xf⟩ /- PORT_CTRL, R433 -/
  , ⟨0x108, 1, 0x4, 0x0, 0x0, 0x0, 0x0, 0x0, 0xffff, 0x0⟩ /- PORT_STATUS, R433 -/
  , ⟨0x10c, 1, 0x4, 0x0, 0x0, 0x0, 0x0, 0x0, 0xf77, 0x0⟩ /- JOIN_STATUS, R433 -/
  , ⟨0x110, 1, 0x4, 0x0, 0xfffff01, 0x0, 0x0, 0x0, 0x0, 0x8192800⟩ /- WALL_CTRL, R433 -/
  , ⟨0x114, 1, 0x4, 0x0, 0x0, 0x0, 0x0, 0x0, 0xffff7f1f, 0x0⟩ /- WALL_STATE, R433 -/
  , ⟨0x118, 1, 0x4, 0x0, 0x0, 0x0, 0x0, 0x0, 0xffffffff, 0x0⟩ /- MEMBERS_LO, R433 -/
  , ⟨0x11c, 1, 0x4, 0x0, 0x0, 0x0, 0x0, 0x0, 0xffffffff, 0x0⟩ /- MEMBERS_HI, R433 -/
  , ⟨0x120, 1, 0x4, 0x0, 0x0, 0xffffffff, 0x0, 0x0, 0x0, 0x0⟩ /- WALL_ERR_LO, R433 -/
  , ⟨0x124, 1, 0x4, 0x0, 0x0, 0xffffffff, 0x0, 0x0, 0x0, 0x0⟩ /- WALL_ERR_HI, R433 -/
  , ⟨0x128, 1, 0x4, 0x0, 0x0, 0x0, 0x0, 0x0, 0x7ff00ff, 0x0⟩ /- WALL_SUM, R433 -/
  , ⟨0x12c, 1, 0x4, 0x0, 0x0, 0x0, 0x0, 0x0, 0xffffffff, 0x0⟩ /- WALL_LATE, R433 -/
  , ⟨0x130, 1, 0x4, 0x0, 0x0, 0x80000000, 0x0, 0x0, 0xf3f, 0x0⟩ /- JOIN_REFUSED, R433 -/
  , ⟨0x134, 1, 0x4, 0x0, 0x0, 0x0, 0x0, 0x0, 0xffffff0f, 0x0⟩ /- MODE_SCHED, R433 -/
  , ⟨0x140, 1, 0x4, 0xfff1, 0x0, 0x0, 0x2, 0x0, 0x0, 0x1441⟩ /- PAIR_CTRL, R433 -/
  , ⟨0x144, 1, 0x4, 0x0, 0x0, 0x0, 0x0, 0x0, 0xffff03ff, 0x0⟩ /- PAIR_STATUS, R433 -/
  , ⟨0x148, 1, 0x4, 0x0, 0x0, 0x0, 0x0, 0x0, 0xffff, 0x0⟩ /- DAYMARK_DIFF, R433 -/
  , ⟨0x150, 1, 0x4, 0xffffffff, 0x0, 0x0, 0x0, 0x0, 0x0, 0x0⟩ /- REMOTE_ADDR_LO, R433 -/
  , ⟨0x154, 1, 0x4, 0xffffffff, 0x0, 0x0, 0x0, 0x0, 0x0, 0x0⟩ /- REMOTE_ADDR_HI, R433 -/
  , ⟨0x158, 1, 0x4, 0xffffffff, 0x0, 0x0, 0x0, 0x0, 0x0, 0x0⟩ /- REMOTE_DATA, R433 -/
  , ⟨0x15c, 1, 0x4, 0xff, 0x0, 0x0, 0x100, 0x0, 0xff0200, 0x0⟩ /- REMOTE_CTRL, R433 -/
  , ⟨0x300, 8, 0x4, 0xff, 0x0, 0x0, 0x0, 0x0, 0x0, 0x48⟩ /- TX_SET, R433 -/
  , ⟨0x340, 8, 0x4, 0x0, 0x0, 0x0, 0x0, 0x0, 0xffff, 0x0⟩ /- LANE_ERR, R433 -/ ]

/-- The block registers of page TLK. -/
def regsTLK : List RegDef := regsTLK_0

def regsRAY_0 : List RegDef :=
  [ ⟨0x100, 1, 0x4, 0x0, 0xfffff, 0x0, 0x0, 0x0, 0x0, 0xff001⟩ /- SYN_CTRL, R180 -/
  , ⟨0x104, 1, 0x4, 0x0, 0xffffffff, 0x0, 0x0, 0x0, 0x0, 0x7fffffff⟩ /- NEAREST_Z, R180 -/
  , ⟨0x108, 1, 0x4, 0x0, 0x3fffffff, 0x0, 0x0, 0x0, 0x0, 0x0⟩ /- FLATWIN_FILL, R180 -/
  , ⟨0x10c, 1, 0x4, 0x0, 0xff800000, 0x0, 0x0, 0x0, 0x0, 0x2f800000⟩ /- CTX_BASE_LO, R180 -/
  , ⟨0x110, 1, 0x4, 0x0, 0xff, 0x0, 0x0, 0x0, 0x0, 0x10⟩ /- CTX_BASE_HI, R180 -/
  , ⟨0x114, 1, 0x4, 0x0, 0xff800000, 0x0, 0x0, 0x0, 0x0, 0x27800000⟩ /- L2_BASE_LO, R180 -/
  , ⟨0x118, 1, 0x4, 0x0, 0xff, 0x0, 0x0, 0x0, 0x0, 0x10⟩ /- L2_BASE_HI, R180 -/
  , ⟨0x11c, 1, 0x4, 0x0, 0xffffffff, 0x0, 0x0, 0x0, 0x0, 0xffffffff⟩ /- CLUSTER_EN, R180 -/
  , ⟨0x120, 1, 0x4, 0x0, 0x0, 0xffffffff, 0x0, 0x0, 0x0, 0x0⟩ /- CLUSTER_OUT, R180 -/
  , ⟨0x130, 4, 0x4, 0x0, 0xffffffff, 0x0, 0x0, 0x0, 0x0, 0x88888888⟩ /- CLUSTER_WT, R180 -/
  , ⟨0x140, 18, 0x4, 0x0, 0xffffffff, 0x0, 0x0, 0x0, 0x0, 0x0⟩ /- CLASS_GRID, R180 -/
  , ⟨0x200, 1, 0x4, 0xfffff, 0x0, 0x0, 0x0, 0x0, 0x0, 0x0⟩ /- TILE_PROBE, R180 -/
  , ⟨0x204, 1, 0x4, 0x0, 0x0, 0x0, 0x0, 0x0, 0xffffffff, 0x0⟩ /- PROBE_LO, R180 -/
  , ⟨0x208, 1, 0x4, 0x0, 0x0, 0x0, 0x0, 0x0, 0xffffffff, 0x0⟩ /- PROBE_HI, R180 -/
  , ⟨0x20c, 1, 0x4, 0x0, 0x0, 0x0, 0x0, 0x0, 0xfffff01f, 0x0⟩ /- FIELD_STATUS, R180 -/
  , ⟨0x210, 1, 0x4, 0x0, 0x0, 0x0, 0x0, 0x0, 0xfffff, 0x0⟩ /- LATE_LAST, R180 -/
  , ⟨0x214, 1, 0x4, 0x0, 0x0, 0x0, 0x0, 0x0, 0x1fffff, 0x0⟩ /- PARITY_TILE, R180 -/
  , ⟨0x218, 1, 0x4, 0x0, 0x0, 0x0, 0x0, 0x0, 0xffffffff, 0x0⟩ /- STALL_LAST, R180 -/ ]

/-- The block registers of page RAY. -/
def regsRAY : List RegDef := regsRAY_0

def regsLNS_0 : List RegDef :=
  [ ⟨0x100, 1, 0x4, 0x0, 0xffffffff, 0x0, 0x0, 0x0, 0x0, 0x8080000⟩ /- LENS_PITCH, R199 -/
  , ⟨0x104, 1, 0x4, 0x0, 0xffffffff, 0x0, 0x0, 0x0, 0x0, 0x0⟩ /- LENS_SLANT, R199 -/
  , ⟨0x108, 1, 0x4, 0x0, 0xffffff, 0x0, 0x0, 0x0, 0x0, 0x0⟩ /- LENS_PHASE, R199 -/
  , ⟨0x10c, 1, 0x4, 0x0, 0xfffff, 0x0, 0x0, 0x0, 0x0, 0x0⟩ /- SPREAD_X, R199 -/
  , ⟨0x110, 1, 0x4, 0x0, 0xfffff, 0x0, 0x0, 0x0, 0x0, 0x0⟩ /- SPREAD_Y, R199 -/
  , ⟨0x114, 1, 0x4, 0x0, 0xffffffff, 0x0, 0x0, 0x0, 0x0, 0x0⟩ /- TMAX, R199 -/
  , ⟨0x118, 1, 0x4, 0x0, 0xfffff, 0x0, 0x0, 0x0, 0x0, 0x0⟩ /- PIXEL_PITCH, R199 -/
  , ⟨0x120, 8, 0x4, 0x0, 0xffffffff, 0x0, 0x0, 0x0, 0x0, 0x0⟩ /- SEC_G, R199 -/
  , ⟨0x140, 1, 0x4, 0x0, 0xf3ff03ff, 0x0, 0x0, 0x0, 0x0, 0x50000000⟩ /- GRID_CFG, R199 -/
  , ⟨0x144, 1, 0x4, 0x0, 0xfffff000, 0x0, 0x0, 0x0, 0x0, 0x27600000⟩ /- GRID_BASE_LO, R199 -/
  , ⟨0x148, 1, 0x4, 0x0, 0xff, 0x0, 0x0, 0x0, 0x0, 0x10⟩ /- GRID_BASE_HI, R199 -/
  , ⟨0x150, 12, 0x4, 0x0, 0xffffffff, 0x0, 0x0, 0x0, 0x0, 0xffffffff⟩ /- CHAN_SECTOR, R199 -/
  , ⟨0x180, 8, 0x4, 0x0, 0xffffffff, 0x0, 0x0, 0x0, 0x0, 0x0⟩ /- ZONE_GX, R199 -/
  , ⟨0x1a0, 8, 0x4, 0x0, 0xffffffff, 0x0, 0x0, 0x0, 0x0, 0x0⟩ /- ZONE_GY, R199 -/
  , ⟨0x1c0, 1, 0x4, 0x0, 0xff, 0x0, 0x0, 0x0, 0x0, 0x0⟩ /- ZONE_CTRL, R199 -/
  , ⟨0x1c4, 1, 0x4, 0x0, 0x0, 0x0, 0x0, 0x0, 0xff, 0x0⟩ /- CHECK_INFO, R199 -/
  , ⟨0x1e0, 8, 0x4, 0x0, 0x0, 0x0, 0x0, 0x0, 0x7fffff, 0x0⟩ /- ZONE_TILES, R199 -/
  , ⟨0x200, 1, 0x4, 0x3fffffff, 0x0, 0x0, 0x0, 0x0, 0x0, 0x0⟩ /- PROBE_SEL, R199 -/
  , ⟨0x204, 1, 0x4, 0xf, 0x0, 0x0, 0x0, 0x0, 0x0, 0x0⟩ /- PROBE_CTRL, R199 -/
  , ⟨0x208, 1, 0x4, 0x0, 0x0, 0x0, 0x0, 0x0, 0xffffffff, 0x0⟩ /- PROBE_X, R199 -/
  , ⟨0x20c, 1, 0x4, 0x0, 0x0, 0x0, 0x0, 0x0, 0xffffffff, 0x0⟩ /- PROBE_Y, R199 -/
  , ⟨0x210, 1, 0x4, 0x0, 0x0, 0x0, 0x0, 0x0, 0xffffffff, 0x0⟩ /- PROBE_GX, R199 -/
  , ⟨0x214, 1, 0x4, 0x0, 0x0, 0x0, 0x0, 0x0, 0xffffffff, 0x0⟩ /- PROBE_GY, R199 -/
  , ⟨0x218, 1, 0x4, 0x0, 0x0, 0x0, 0x0, 0x0, 0x3ffffff, 0x0⟩ /- PROBE_PHASE, R199 -/ ]

/-- The block registers of page LNS. -/
def regsLNS : List RegDef := regsLNS_0

def regsFST_0 : List RegDef :=
  [ ⟨0x100, 1, 0x4, 0x0, 0xfffff000, 0x0, 0x0, 0x0, 0x0, 0x0⟩ /- FBUF_BASE0_LO, R214 -/
  , ⟨0x104, 1, 0x4, 0x0, 0xff, 0x0, 0x0, 0x0, 0x0, 0x10⟩ /- FBUF_BASE0_HI, R214 -/
  , ⟨0x108, 1, 0x4, 0x0, 0xfffff000, 0x0, 0x0, 0x0, 0x0, 0x9e34000⟩ /- FBUF_BASE1_LO, R214 -/
  , ⟨0x10c, 1, 0x4, 0x0, 0xff, 0x0, 0x0, 0x0, 0x0, 0x10⟩ /- FBUF_BASE1_HI, R214 -/
  , ⟨0x110, 1, 0x4, 0x0, 0xfffff000, 0x0, 0x0, 0x0, 0x0, 0x13c68000⟩ /- OH4_BASE_LO, R214 -/
  , ⟨0x114, 1, 0x4, 0x0, 0xff, 0x0, 0x0, 0x0, 0x0, 0x10⟩ /- OH4_BASE_HI, R214 -/
  , ⟨0x118, 1, 0x4, 0x0, 0x0, 0x0, 0x0, 0x0, 0xfffffff, 0x0⟩ /- FBUF_SIZE, R214 -/
  , ⟨0x11c, 1, 0x4, 0x0, 0x0, 0x0, 0x0, 0x0, 0xfffffff, 0x0⟩ /- OH4_SIZE, R214 -/
  , ⟨0x120, 1, 0x4, 0x0, 0x0, 0x0, 0x0, 0x0, 0x7, 0x0⟩ /- FBUF_STATUS, R214 -/
  , ⟨0x124, 1, 0x4, 0x0, 0xffff, 0x0, 0x0, 0x0, 0x0, 0x5fa4⟩ /- MASTER_PRI, R214 -/
  , ⟨0x128, 1, 0x4, 0x0, 0xffff, 0x0, 0x0, 0x0, 0x0, 0x100⟩ /- AGE_LIMIT, R214 -/
  , ⟨0x12c, 1, 0x4, 0x0, 0x0, 0x0, 0x0, 0x1, 0x0, 0x0⟩ /- CONFLICT_CTRL, R214 -/
  , ⟨0x130, 1, 0x4, 0x0, 0x0, 0x80000000, 0x0, 0x0, 0x1fffff, 0x0⟩ /- PARITY_INFO, R214 -/
  , ⟨0x140, 8, 0x4, 0x0, 0x0, 0x0, 0x0, 0x0, 0xffffffff, 0x0⟩ /- CONFLICT, R214 -/
  , ⟨0x160, 8, 0x4, 0x0, 0x0, 0x0, 0x0, 0x0, 0xffff, 0x0⟩ /- WAIT_MAX, R214 -/ ]

/-- The block registers of page FST. -/
def regsFST : List RegDef := regsFST_0

def regsBLT_0 : List RegDef :=
  [ ⟨0x100, 1, 0x4, 0xffffffc0, 0x0, 0x0, 0x0, 0x0, 0x0, 0x0⟩ /- RING_BASE_LO, R259 -/
  , ⟨0x104, 1, 0x4, 0xff, 0x0, 0x0, 0x0, 0x0, 0x0, 0x0⟩ /- RING_BASE_HI, R259 -/
  , ⟨0x108, 1, 0x4, 0xff, 0x0, 0x0, 0x0, 0x0, 0x0, 0x0⟩ /- RING_HEAD, R259 -/
  , ⟨0x10c, 1, 0x4, 0x0, 0x0, 0x0, 0x0, 0x0, 0x7ff, 0x0⟩ /- RING_TAIL, R259 -/
  , ⟨0x110, 1, 0x4, 0x0, 0x0, 0x0, 0x0, 0x800000ff, 0x0, 0x0⟩ /- ABORT, R259 -/
  , ⟨0x114, 1, 0x4, 0x0, 0x0, 0x0, 0x0, 0x0, 0xffffffff, 0x0⟩ /- PROGRESS, R259 -/
  , ⟨0x118, 1, 0x4, 0x0, 0x0, 0x0, 0x0, 0x0, 0xffffffff, 0x0⟩ /- LAST_DONE, R259 -/
  , ⟨0x11c, 1, 0x4, 0x0, 0x0, 0x0, 0x0, 0x0, 0x3fff, 0x0⟩ /- INVALID_INFO, R259 -/
  , ⟨0x120, 1, 0x4, 0x0, 0xff, 0x0, 0x0, 0x0, 0x0, 0x2⟩ /- BEAM_CTRL, R259 -/
  , ⟨0x124, 1, 0x4, 0x0, 0xf, 0x0, 0x0, 0x0, 0x0, 0xf⟩ /- PIPE_EN, R259 -/
  , ⟨0x128, 1, 0x4, 0x0, 0xffff, 0x0, 0x0, 0x0, 0x0, 0x0⟩ /- RATE, R259 -/
  , ⟨0x12c, 1, 0x4, 0x0, 0x0, 0x0, 0x0, 0x0, 0x1ffff, 0x0⟩ /- BEAM_STATUS, R259 -/
  , ⟨0x130, 1, 0x4, 0x0, 0x0, 0x0, 0x0, 0x0, 0xffffffff, 0x0⟩ /- PIX_LAST, R259 -/
  , ⟨0x134, 1, 0x4, 0x0, 0x0, 0x0, 0x0, 0x0, 0xffffffff, 0x0⟩ /- HOLD_LAST, R259 -/
  , ⟨0x138, 1, 0x4, 0x0, 0x0, 0x0, 0x0, 0x0, 0xffffffff, 0x0⟩ /- RD_LAST, R259 -/
  , ⟨0x13c, 1, 0x4, 0x0, 0x0, 0x0, 0x0, 0x0, 0xffffffff, 0x0⟩ /- WR_LAST, R259 -/
  , ⟨0x140, 1, 0x4, 0x0, 0x0, 0x0, 0x0, 0x0, 0x1ff, 0x0⟩ /- RING_COUNT, R259 -/
  , ⟨0x200, 1, 0x4, 0x0, 0xffff, 0x0, 0x0, 0x0, 0x0, 0x0⟩ /- FW_CTRL, R259 -/
  , ⟨0x204, 1, 0x4, 0x0, 0x0, 0x0, 0x0, 0x0, 0xffffffff, 0x0⟩ /- FW_STATE, R259 -/
  , ⟨0x208, 1, 0x4, 0x0, 0x0, 0x0, 0x0, 0x0, 0xffffffff, 0x0⟩ /- FW_INFORCE, R259 -/
  , ⟨0x20c, 1, 0x4, 0x0, 0x0, 0x80000000, 0x0, 0x0, 0xff, 0x0⟩ /- FW_REFUSED, R259 -/
  , ⟨0x210, 1, 0x4, 0x0, 0x0, 0x0, 0x0, 0x0, 0xffff003f, 0x0⟩ /- FW_EVENT, R259 -/
  , ⟨0x214, 1, 0x4, 0x0, 0x0, 0x0, 0x0, 0x0, 0xffffffff, 0x80010⟩ /- FW_ALIGN, R259 -/
  , ⟨0x218, 1, 0x4, 0x0, 0x0, 0x0, 0x0, 0x0, 0xff, 0x0⟩ /- CHECK_INFO, R259 -/
  , ⟨0x240, 16, 0x4, 0x0, 0xffffffff, 0x0, 0x0, 0x0, 0x0, 0x0⟩ /- FW_TL, R259 -/
  , ⟨0x280, 16, 0x4, 0x0, 0xffffffff, 0x0, 0x0, 0x0, 0x0, 0x0⟩ /- FW_BR, R259 -/ ]

/-- The block registers of page BLT. -/
def regsBLT : List RegDef := regsBLT_0

def regsSCN_0 : List RegDef :=
  [ ⟨0x100, 1, 0x4, 0x0, 0xff, 0x0, 0x0, 0x0, 0x0, 0x0⟩ /- TIMING, R241 -/
  , ⟨0x104, 1, 0x4, 0x0, 0x0, 0x0, 0x0, 0x0, 0xffffffff, 0x0⟩ /- NATIVE, R241 -/
  , ⟨0x108, 1, 0x4, 0x0, 0x3, 0x0, 0x0, 0x0, 0x0, 0x0⟩ /- PORT_CTRL, R241 -/
  , ⟨0x110, 1, 0x4, 0x0, 0x3fffffff, 0x0, 0x0, 0x0, 0x0, 0x0⟩ /- BASE_LF, R241 -/
  , ⟨0x114, 1, 0x4, 0x0, 0xfffffff, 0x0, 0x0, 0x0, 0x0, 0x1021600⟩ /- LINEBUF_BASE, R241 -/
  , ⟨0x120, 1, 0x4, 0x0, 0xffff, 0x0, 0x0, 0x0, 0x0, 0x3010⟩ /- FETCH_CTRL, R241 -/
  , ⟨0x124, 1, 0x4, 0x0, 0xff, 0x0, 0x0, 0x0, 0x0, 0x14⟩ /- DRIVE_ARB, R241 -/
  , ⟨0x140, 4, 0x20, 0x0, 0xff1f, 0x0, 0x0, 0x0, 0x0, 0xff00⟩ /- PLANE_CTRL, R241 -/
  , ⟨0x144, 4, 0x20, 0x0, 0xfffffff, 0x0, 0x0, 0x0, 0x0, 0x0⟩ /- PLANE_BASE, R241 -/
  , ⟨0x148, 4, 0x20, 0x0, 0xffffff, 0x0, 0x0, 0x0, 0x0, 0x0⟩ /- PLANE_PITCH, R241 -/
  , ⟨0x14c, 4, 0x20, 0x0, 0xffffffff, 0x0, 0x0, 0x0, 0x0, 0x0⟩ /- PLANE_SRC, R241 -/
  , ⟨0x150, 4, 0x20, 0x0, 0xffffffff, 0x0, 0x0, 0x0, 0x0, 0x0⟩ /- PLANE_DST, R241 -/
  , ⟨0x154, 4, 0x20, 0x0, 0xffffffff, 0x0, 0x0, 0x0, 0x0, 0x0⟩ /- PLANE_SIZE, R241 -/
  , ⟨0x158, 4, 0x20, 0x0, 0xffffffff, 0x0, 0x0, 0x0, 0x0, 0x0⟩ /- OPAQUE_TL, R241 -/
  , ⟨0x15c, 4, 0x20, 0x0, 0xffffffff, 0x0, 0x0, 0x0, 0x0, 0x0⟩ /- OPAQUE_BR, R241 -/
  , ⟨0x200, 1, 0x4, 0x0, 0x1ff, 0x0, 0x0, 0x0, 0x0, 0x8⟩ /- DAYMARK_CTRL, R241 -/
  , ⟨0x204, 1, 0x4, 0x0, 0x0, 0x80, 0x0, 0x0, 0xff7f, 0x0⟩ /- DAYMARK_STATUS, R241 -/
  , ⟨0x210, 1, 0x4, 0x0, 0x0, 0x0, 0x0, 0x0, 0xffffffff, 0x0⟩ /- LINE_STATUS, R241 -/
  , ⟨0x214, 1, 0x4, 0x0, 0x0, 0x0, 0x0, 0x0, 0x1e, 0x0⟩ /- UNDERRUN, R241 -/
  , ⟨0x218, 1, 0x4, 0x0, 0x0, 0x0, 0x0, 0x0, 0xffffff, 0x0⟩ /- LINE_PERIOD, R241 -/
  , ⟨0x21c, 1, 0x4, 0x0, 0x0, 0x0, 0x0, 0x0, 0xff, 0x0⟩ /- CHECK_INFO, R241 -/
  , ⟨0x240, 16, 0x4, 0x0, 0x0, 0x0, 0x0, 0x0, 0xffffffff, 0x0⟩ /- DAYMARK_SIG, R241 -/
  , ⟨0x280, 16, 0x4, 0x0, 0x0, 0x0, 0x0, 0x0, 0xffffffff, 0x0⟩ /- DAYMARK_DIGEST, R241 -/ ]

/-- The block registers of page SCN. -/
def regsSCN : List RegDef := regsSCN_0

def regsPCN_0 : List RegDef :=
  [ ⟨0x100, 1, 0x4, 0x0, 0x3f, 0x0, 0x0, 0x0, 0x0, 0x7⟩ /- PRE_CTRL, R283 -/
  , ⟨0x104, 1, 0x4, 0x0, 0x3fffffff, 0x0, 0x0, 0x0, 0x0, 0x3dad90d⟩ /- LUMA_W, R283 -/
  , ⟨0x110, 4, 0x4, 0x0, 0xffffffff, 0x0, 0x0, 0x0, 0x0, 0x0⟩ /- MATRIX0, R283 -/
  , ⟨0x120, 1, 0x4, 0x0, 0xffff, 0x0, 0x0, 0x0, 0x0, 0x0⟩ /- MATRIX0[4], R283 -/
  , ⟨0x130, 4, 0x4, 0x0, 0xffffffff, 0x0, 0x0, 0x0, 0x0, 0x0⟩ /- MATRIX1, R283 -/
  , ⟨0x140, 1, 0x4, 0x0, 0xffff, 0x0, 0x0, 0x0, 0x0, 0x0⟩ /- MATRIX1[4], R283 -/
  , ⟨0x150, 1, 0x4, 0x0, 0x3, 0x0, 0x0, 0x0, 0x0, 0x0⟩ /- TM_CTRL, R283 -/
  , ⟨0x160, 4, 0x8, 0x0, 0x7, 0x0, 0x0, 0x0, 0x0, 0x0⟩ /- TM_TAG, R283 -/
  , ⟨0x164, 4, 0x8, 0x0, 0xffffffff, 0x0, 0x0, 0x0, 0x0, 0xffff0000⟩ /- TM_PEAK, R283 -/
  , ⟨0x180, 1, 0x4, 0x800f1fff, 0x0, 0x0, 0x0, 0x0, 0x0, 0x80000000⟩ /- TBL_ADDR, R283 -/
  , ⟨0x184, 1, 0x4, 0xffff, 0x0, 0x0, 0x0, 0x0, 0x0, 0x0⟩ /- TBL_DATA, R283 -/
  , ⟨0x190, 1, 0x4, 0x0, 0x3, 0x0, 0x0, 0x0, 0x0, 0x2⟩ /- DEMURA_CTRL, R283 -/
  , ⟨0x194, 1, 0x4, 0x0, 0xfffffff, 0x0, 0x0, 0x0, 0x0, 0x0⟩ /- DEMURA_BASE, R283 -/
  , ⟨0x198, 1, 0x4, 0x0, 0xff, 0x0, 0x0, 0x0, 0x0, 0x10⟩ /- DEMURA_FETCH, R283 -/
  , ⟨0x19c, 1, 0x4, 0x0, 0x0, 0x0, 0x0, 0x0, 0xfffffff, 0x0⟩ /- DEMURA_SIZE, R283 -/
  , ⟨0x1a0, 1, 0x4, 0x0, 0x1ff, 0x0, 0x0, 0x0, 0x0, 0x2⟩ /- OD_CTRL, R283 -/
  , ⟨0x1a4, 1, 0x4, 0x0, 0xffffffff, 0x0, 0x0, 0x0, 0x0, 0x0⟩ /- OD_TEMP0, R283 -/
  , ⟨0x1a8, 1, 0x4, 0x0, 0xffffff, 0x0, 0x0, 0x0, 0x0, 0x0⟩ /- OD_TEMP1, R283 -/
  , ⟨0x1b0, 1, 0x4, 0x0, 0x7, 0x0, 0x0, 0x0, 0x0, 0x6⟩ /- DITHER_CTRL, R283 -/
  , ⟨0x1b4, 1, 0x4, 0x0, 0x3, 0x0, 0x0, 0x0, 0x0, 0x0⟩ /- PACK_CTRL, R283 -/
  , ⟨0x1b8, 1, 0x4, 0x0, 0x1, 0x0, 0x0, 0x0, 0x0, 0x0⟩ /- HOLD_CTRL, R283 -/
  , ⟨0x1c0, 1, 0x4, 0x0, 0x0, 0x0, 0x0, 0x0, 0x1ff01ff, 0x0⟩ /- COND_STATUS, R283 -/
  , ⟨0x1c4, 1, 0x4, 0x0, 0x0, 0x0, 0x0, 0x0, 0xff, 0x0⟩ /- CHECK_INFO, R283 -/
  , ⟨0x200, 1, 0x4, 0xffffffff, 0x0, 0x0, 0x0, 0x0, 0x0, 0x0⟩ /- PROBE_SEL, R283 -/
  , ⟨0x204, 1, 0x4, 0x0, 0x0, 0x0, 0x0, 0x0, 0xfff3ff, 0x0⟩ /- PROBE_A, R283 -/
  , ⟨0x208, 1, 0x4, 0x0, 0x0, 0x0, 0x0, 0x0, 0xbfffffff, 0x0⟩ /- PROBE_B, R283 -/ ]

/-- The block registers of page PCN. -/
def regsPCN : List RegDef := regsPCN_0

def regsSER0_0 : List RegDef :=
  [ ⟨0x100, 1, 0x4, 0x0, 0x0, 0x0, 0x0, 0x0, 0x3f, 0x8⟩ /- RATE, R305 -/
  , ⟨0x104, 1, 0x4, 0x0, 0x1, 0x0, 0x0, 0x0, 0x0, 0x1⟩ /- TRAIN_CTRL, R305 -/
  , ⟨0x108, 1, 0x4, 0x0, 0x0, 0x0, 0x0, 0x0, 0x1f, 0x0⟩ /- TRAIN_STATUS, R305 -/
  , ⟨0x10c, 1, 0x4, 0x0, 0xffff1f, 0x0, 0x0, 0x0, 0x0, 0x20804⟩ /- FAIL_CTRL, R305 -/
  , ⟨0x110, 1, 0x4, 0x1, 0x0, 0x0, 0x0, 0x0, 0x0, 0x0⟩ /- PAT_CTRL, R305 -/
  , ⟨0x114, 1, 0x4, 0x7f, 0x0, 0x0, 0x80, 0x0, 0x0, 0x0⟩ /- EYE_CTRL, R305 -/
  , ⟨0x118, 1, 0x4, 0x0, 0x0, 0x0, 0x0, 0x0, 0x1ffff, 0x0⟩ /- EYE_RESULT, R305 -/
  , ⟨0x11c, 1, 0x4, 0x0, 0x3ffff, 0x0, 0x0, 0x0, 0x0, 0x0⟩ /- BLACK, R305 -/
  , ⟨0x120, 1, 0x4, 0x0, 0x0, 0x0, 0x0, 0x0, 0xffff, 0x0⟩ /- SLACK_MIN, R305 -/
  , ⟨0x124, 1, 0x4, 0x0, 0x3ff03ff, 0x0, 0x0, 0x0, 0x0, 0xc8000a⟩ /- GATE, R305 -/
  , ⟨0x128, 1, 0x4, 0x0, 0xfff0fff, 0x0, 0x0, 0x0, 0x0, 0xdc0000⟩ /- OE, R305 -/
  , ⟨0x12c, 1, 0x4, 0x0, 0x7, 0x0, 0x0, 0x0, 0x0, 0x6⟩ /- SCAN_CTRL, R305 -/
  , ⟨0x130, 1, 0x4, 0x0, 0x0, 0x0, 0x0, 0x0, 0x1ff, 0x0⟩ /- STATUS_LAST, R305 -/
  , ⟨0x134, 1, 0x4, 0x7f, 0x0, 0x0, 0x80, 0x0, 0x0, 0x0⟩ /- INJECT, R305 -/ ]

/-- The block registers of page SER0. -/
def regsSER0 : List RegDef := regsSER0_0

def regsSERP_0 : List RegDef :=
  [ ⟨0x140, 1, 0x4, 0x0, 0x0, 0x0, 0x0, 0x0, 0x33f3f, 0x0⟩ /- PORT_STATUS, R305 -/
  , ⟨0x144, 1, 0x4, 0x0, 0x1f1f, 0x0, 0x0, 0x0, 0x0, 0x808⟩ /- RX_EQ, R305 -/
  , ⟨0x148, 1, 0x4, 0x0, 0xffffffff, 0x0, 0x0, 0x0, 0x0, 0x0⟩ /- LANE_EN_LO, R305 -/
  , ⟨0x14c, 1, 0x4, 0x0, 0xffffffff, 0x0, 0x0, 0x0, 0x0, 0x0⟩ /- LANE_EN_HI, R305 -/
  , ⟨0x150, 1, 0x4, 0x0, 0x0, 0x0, 0x0, 0x0, 0xffffffff, 0x0⟩ /- LOCK_LO, R305 -/
  , ⟨0x154, 1, 0x4, 0x0, 0x0, 0x0, 0x0, 0x0, 0xffffffff, 0x0⟩ /- LOCK_HI, R305 -/
  , ⟨0x158, 1, 0x4, 0x0, 0x0, 0x0, 0x0, 0x0, 0xffffffff, 0x0⟩ /- MASKED_LO, R305 -/
  , ⟨0x15c, 1, 0x4, 0x0, 0x0, 0x0, 0x0, 0x0, 0xffffffff, 0x0⟩ /- MASKED_HI, R305 -/
  , ⟨0x160, 1, 0x4, 0x0, 0x0, 0x0, 0xffffffff, 0x0, 0x0, 0x0⟩ /- RETRY_LO, R305 -/
  , ⟨0x164, 1, 0x4, 0x0, 0x0, 0x0, 0xffffffff, 0x0, 0x0, 0x0⟩ /- RETRY_HI, R305 -/
  , ⟨0x168, 1, 0x4, 0x0, 0x0, 0x0, 0x0, 0x0, 0xff3fff7f, 0x0⟩ /- LAST_BAD, R305 -/
  , ⟨0x16c, 1, 0x4, 0x0, 0x0, 0x0, 0x0, 0x0, 0xffffffff, 0x0⟩ /- RET_STATUS, R305 -/
  , ⟨0x170, 1, 0x4, 0x0, 0x0, 0x0, 0x0, 0x0, 0xffffffff, 0x0⟩ /- CMD_ERRS, R305 -/
  , ⟨0x200, 50, 0x4, 0x0, 0xff, 0x0, 0x0, 0x0, 0xf00, 0x48⟩ /- TX_SET, R305 -/
  , ⟨0x300, 50, 0x4, 0x0, 0x0, 0x0, 0x0, 0x0, 0xffffffff, 0x0⟩ /- LANE_ERR, R305 -/
  , ⟨0x400, 50, 0x4, 0x0, 0x0, 0x0, 0x0, 0x0, 0xffffff, 0x0⟩ /- LANE_MKR, R305 -/ ]

/-- The block registers of page SERP. -/
def regsSERP : List RegDef := regsSERP_0

def regsSEC_0 : List RegDef :=
  [ ⟨0x100, 1, 0x4, 0x0, 0xfffff3, 0x0, 0x0, 0x0, 0x0, 0x804022⟩ /- LIGHT_CTRL, R333 -/
  , ⟨0x104, 1, 0x4, 0x1, 0x0, 0x0, 0x0, 0x0, 0x0, 0x1⟩ /- OWNER, R333 -/
  , ⟨0x108, 1, 0x4, 0x0, 0xffff, 0x0, 0x0, 0x0, 0x0, 0x0⟩ /- BRIGHT, R333 -/
  , ⟨0x10c, 1, 0x4, 0x0, 0x7ff, 0x0, 0x0, 0x0, 0x0, 0x0⟩ /- PEAK, R333 -/
  , ⟨0x110, 1, 0x4, 0x0, 0xffff, 0x0, 0x0, 0x0, 0x0, 0x5064⟩ /- SENSE_CFG, R333 -/
  , ⟨0x114, 1, 0x4, 0x0, 0xfffff, 0x0, 0x0, 0x0, 0x0, 0xa000⟩ /- PRECHARGE, R333 -/
  , ⟨0x118, 1, 0x4, 0x0, 0x3ff, 0x0, 0x0, 0x0, 0x0, 0x0⟩ /- SETTLE, R333 -/
  , ⟨0x11c, 1, 0x4, 0x0, 0xff, 0x0, 0x0, 0x0, 0x0, 0x40⟩ /- LIN_SET, R333 -/
  , ⟨0x120, 6, 0x4, 0x0, 0xffffffff, 0x0, 0x0, 0x0, 0x0, 0xaaaaaaaa⟩ /- CHAN_MODE, R333 -/
  , ⟨0x140, 24, 0x4, 0x0, 0xffffffff, 0x0, 0x0, 0x0, 0x0, 0xffffffff⟩ /- LIN_CH, R333 -/
  , ⟨0x1a0, 48, 0x4, 0x0, 0xffffffff, 0x0, 0x0, 0x0, 0x0, 0x10001000⟩ /- TRIM, R333 -/
  , ⟨0x260, 1, 0x4, 0x0, 0xfff0fff, 0x0, 0x0, 0x0, 0x0, 0x640fa0⟩ /- DIAG_V, R333 -/
  , ⟨0x264, 1, 0x4, 0x0, 0xffffffff, 0x0, 0x0, 0x0, 0x0, 0x9c401770⟩ /- VLED_WIN, R333 -/
  , ⟨0x268, 1, 0x4, 0x0, 0x0, 0x0, 0x0, 0x0, 0x1ffff, 0x0⟩ /- VLED_MEAS, R333 -/
  , ⟨0x26c, 1, 0x4, 0x0, 0x0, 0x0, 0x0, 0x0, 0x1fff, 0x0⟩ /- SLOT_STATUS, R333 -/
  , ⟨0x270, 1, 0x4, 0x0, 0x0, 0x0, 0x0, 0x0, 0xffff, 0x0⟩ /- MARGIN, R333 -/
  , ⟨0x274, 1, 0x4, 0x0, 0x0, 0x0, 0x0, 0x0, 0xfffff, 0x0⟩ /- SLOT_TIME, R333 -/
  , ⟨0x280, 1, 0x4, 0xf7f, 0x0, 0x0, 0x0, 0x0, 0x0, 0x0⟩ /- MEAS_SEL, R333 -/
  , ⟨0x284, 1, 0x4, 0x0, 0x0, 0x0, 0x0, 0x0, 0xffffffff, 0x0⟩ /- MEAS_RESULT, R333 -/
  , ⟨0x290, 4, 0x4, 0x0, 0x0, 0x0, 0x0, 0x0, 0xffffffff, 0x0⟩ /- PHOTO, R333 -/
  , ⟨0x2a0, 1, 0x4, 0x0, 0xff, 0x0, 0x0, 0x0, 0x0, 0x0⟩ /- PHOTO_CTRL, R333 -/
  , ⟨0x2b0, 1, 0x4, 0x7f, 0x0, 0x0, 0x0, 0x0, 0x0, 0x0⟩ /- AGE_SEL, R333 -/
  , ⟨0x2b4, 1, 0x4, 0xffff, 0x0, 0x0, 0x0, 0x0, 0x0, 0x0⟩ /- AGE_LO, R333 -/
  , ⟨0x2b8, 1, 0x4, 0xffff, 0x0, 0x0, 0x0, 0x0, 0x0, 0x0⟩ /- AGE_HI, R333 -/
  , ⟨0x2c0, 1, 0x4, 0xf, 0x0, 0x0, 0x0, 0x0, 0x0, 0x0⟩ /- FAULT_SEL, R333 -/
  , ⟨0x2c4, 3, 0x4, 0x0, 0x0, 0x0, 0x0, 0x0, 0xffffffff, 0x0⟩ /- FAULT_OPEN, R333 -/
  , ⟨0x2d0, 3, 0x4, 0x0, 0x0, 0x0, 0x0, 0x0, 0xffffffff, 0x0⟩ /- FAULT_SHORT, R333 -/
  , ⟨0x2dc, 3, 0x4, 0x0, 0x0, 0x0, 0x0, 0x0, 0xffffffff, 0x0⟩ /- EVEN_MAP, R333 -/
  , ⟨0x2e8, 3, 0x4, 0x0, 0x0, 0x0, 0x0, 0x0, 0xffffffff, 0x0⟩ /- CHAN_LOST, R333 -/
  , ⟨0x2f4, 1, 0x4, 0x0, 0x0, 0x0, 0x0, 0x0, 0x1ffff, 0x0⟩ /- SCAN_FAULT, R333 -/ ]

def regsSEC_1 : List RegDef :=
  [ ⟨0x2f8, 1, 0x4, 0x0, 0x0, 0x0, 0x7, 0x0, 0x0, 0x0⟩ /- RETRY, R333 -/
  , ⟨0x2fc, 1, 0x4, 0x0, 0x0, 0x0, 0x0, 0x0, 0xff, 0x0⟩ /- CHECK_INFO, R333 -/
  , ⟨0x300, 96, 0x4, 0x0, 0xffffffff, 0x0, 0x0, 0x0, 0x0, 0x0⟩ /- CH_X, R333 -/ ]

/-- The block registers of page SEC. -/
def regsSEC : List RegDef := regsSEC_0 ++ regsSEC_1

def regsAPL_0 : List RegDef :=
  [ ⟨0x100, 1, 0x4, 0x0, 0x93ff03ff, 0x0, 0x0, 0x0, 0x0, 0x21c03c0⟩ /- GEOM, R362 -/
  , ⟨0x104, 1, 0x4, 0x0, 0x0, 0x0, 0x0, 0x0, 0xffff, 0x0⟩ /- CELL, R362 -/
  , ⟨0x108, 1, 0x4, 0x0, 0x1, 0x0, 0x0, 0x0, 0x0, 0x0⟩ /- WF_BANK, R362 -/
  , ⟨0x10c, 1, 0x4, 0x0, 0xffffffff, 0x0, 0x0, 0x0, 0x0, 0x0⟩ /- BAND_T0, R362 -/
  , ⟨0x110, 1, 0x4, 0x0, 0x7ff, 0x0, 0x0, 0x0, 0x0, 0x0⟩ /- BAND_T1, R362 -/
  , ⟨0x114, 1, 0x4, 0x0, 0xffffffff, 0x0, 0x0, 0x0, 0x0, 0x3c3c3c3c⟩ /- BAND_RATE, R362 -/
  , ⟨0x118, 1, 0x4, 0x0, 0xffff, 0x0, 0x0, 0x0, 0x0, 0x3c3c⟩ /- BAND_RATE1, R362 -/
  , ⟨0x11c, 1, 0x4, 0x0, 0x3ff, 0x0, 0x0, 0x0, 0x0, 0x96⟩ /- ROW_TIME, R362 -/
  , ⟨0x120, 1, 0x4, 0x0, 0xf, 0x0, 0x0, 0x0, 0x0, 0x0⟩ /- IDLE, R362 -/
  , ⟨0x124, 1, 0x4, 0x0, 0xfff1, 0x0, 0x0, 0x0, 0x0, 0x0⟩ /- RAIL_CTRL, R362 -/
  , ⟨0x128, 1, 0x4, 0x0, 0x0, 0x0, 0x0, 0x0, 0x31f, 0x0⟩ /- RAIL_STATUS, R362 -/
  , ⟨0x12c, 1, 0x4, 0x1, 0x0, 0x0, 0x0, 0x0, 0x0, 0x1⟩ /- OWNER, R362 -/
  , ⟨0x140, 1, 0x4, 0x3ff03ff, 0x0, 0x0, 0x0, 0x0, 0x0, 0x0⟩ /- REQ_TL, R362 -/
  , ⟨0x144, 1, 0x4, 0x3ff03ff, 0x0, 0x0, 0x0, 0x0, 0x0, 0x0⟩ /- REQ_BR, R362 -/
  , ⟨0x148, 1, 0x4, 0xff0f, 0x0, 0x0, 0x0, 0x0, 0x0, 0x0⟩ /- REQ_CTRL, R362 -/
  , ⟨0x14c, 1, 0x4, 0x0, 0x0, 0x0, 0x0, 0x1, 0x0, 0x0⟩ /- REQ_POST, R362 -/
  , ⟨0x150, 1, 0x4, 0x0, 0x0, 0x0, 0x0, 0x0, 0xfff, 0x0⟩ /- REQ_RESULT, R362 -/
  , ⟨0x154, 1, 0x4, 0x0, 0x0, 0x0, 0x0, 0x800000ff, 0x0, 0x0⟩ /- ABORT, R362 -/
  , ⟨0x158, 1, 0x4, 0x0, 0x0, 0x0, 0x0, 0x0, 0x7fffff, 0x0⟩ /- QUEUE_STATUS, R362 -/
  , ⟨0x160, 1, 0x4, 0x0, 0x0, 0x0, 0x0, 0x0, 0x7ffff, 0x0⟩ /- LAST_DONE, R362 -/
  , ⟨0x164, 1, 0x4, 0x0, 0x0, 0x80000000, 0x0, 0x0, 0xfff, 0x0⟩ /- LAST_REFUSED, R362 -/
  , ⟨0x168, 1, 0x4, 0x0, 0x0, 0x0, 0x0, 0x0, 0xffff, 0x0⟩ /- FRAME_COUNT, R362 -/
  , ⟨0x16c, 1, 0x4, 0x0, 0x0, 0x0, 0x0, 0x0, 0x1ff, 0x0⟩ /- TEMP, R362 -/
  , ⟨0x170, 1, 0x4, 0x3ff03ff, 0x0, 0x0, 0x0, 0x0, 0x0, 0x0⟩ /- CELL_PROBE, R362 -/
  , ⟨0x174, 1, 0x4, 0x0, 0x0, 0x0, 0x0, 0x0, 0xf, 0x0⟩ /- CELL_STATE, R362 -/
  , ⟨0x178, 1, 0x4, 0x0, 0x0, 0x0, 0x1, 0x0, 0x0, 0x0⟩ /- RECOVER, R362 -/
  , ⟨0x180, 16, 0x4, 0x0, 0x0, 0x0, 0x0, 0x0, 0x3ffffff, 0x0⟩ /- SLOT_STATE, R362 -/
  , ⟨0x1c0, 1, 0x4, 0x800101ff, 0x0, 0x0, 0x0, 0x0, 0x0, 0x80000000⟩ /- TBL_ADDR, R362 -/
  , ⟨0x1c4, 1, 0x4, 0xffffffff, 0x0, 0x0, 0x0, 0x0, 0x0, 0x0⟩ /- TBL_DATA, R362 -/
  , ⟨0x1c8, 1, 0x4, 0x0, 0x0, 0x0, 0x0, 0x0, 0xff, 0x0⟩ /- CHECK_INFO, R362 -/ ]

/-- The block registers of page APL. -/
def regsAPL : List RegDef := regsAPL_0

def regsKPR_0 : List RegDef :=
  [ ⟨0x100, 1, 0x4, 0x0, 0x0, 0x100, 0x0, 0x0, 0xf, 0x0⟩ /- CHIP_INT, R63 -/
  , ⟨0x104, 4, 0x4, 0x0, 0x0, 0x80000000, 0x0, 0x0, 0x1ffffe, 0x0⟩ /- REGION_SUM, R63 -/
  , ⟨0x114, 2, 0x4, 0xc01ffffe, 0x0, 0x0, 0x0, 0x0, 0x0, 0xc01ffffe⟩ /- HOST_ROUTE, R63 -/
  , ⟨0x120, 1, 0x4, 0x0, 0x0, 0x0, 0x0, 0x0, 0x7ff0f7f, 0x2⟩ /- MODE_STATUS, R71 -/
  , ⟨0x124, 1, 0x4, 0x0, 0x0, 0x0, 0x0, 0x0, 0x1fff, 0x0⟩ /- BOOT_STATUS, R71 -/
  , ⟨0x128, 1, 0x4, 0x0, 0x0, 0x0, 0x0, 0x0, 0xffffffff, 0xffffffff⟩ /- BOOT_TIME, R71 -/
  , ⟨0x12c, 1, 0x4, 0x0, 0x0, 0x0, 0x0, 0x0, 0xffffffff, 0x0⟩ /- FW_VERSION, R71 -/
  , ⟨0x130, 1, 0x4, 0x0, 0x0, 0x0, 0x0, 0x0, 0x1fffff, 0x0⟩ /- ADAPT_STATUS, R477 -/
  , ⟨0x134, 1, 0x4, 0x0, 0x0, 0x0, 0x0, 0x0, 0x7ff07ff, 0x0⟩ /- ADAPT_USE, R477 -/
  , ⟨0x138, 1, 0x4, 0x0, 0x0, 0x0, 0x0, 0x0, 0xffffffff, 0x21340000⟩ /- POWER_STATUS, R477 -/
  , ⟨0x140, 4, 0x4, 0x0, 0x0, 0x0, 0x0, 0x0, 0xffffffff, 0x0⟩ /- REGION_POWER, R477 -/
  , ⟨0x150, 1, 0x4, 0x0, 0x0, 0x0, 0x0, 0x0, 0x1ff, 0x0⟩ /- THROTTLE, R477 -/
  , ⟨0x154, 1, 0x4, 0x0, 0x0, 0x0, 0x0, 0x0, 0x3ffffff, 0x1000⟩ /- LUM_STATUS, R477 -/
  , ⟨0x158, 1, 0x4, 0x0, 0x0, 0x0, 0x0, 0x0, 0xffffffff, 0x0⟩ /- BRIGHT_STATUS, R477 -/
  , ⟨0x15c, 1, 0x4, 0x0, 0x0, 0x0, 0x0, 0x0, 0xffff7fff, 0x0⟩ /- SEC_STATUS, R477 -/
  , ⟨0x160, 1, 0x4, 0x0, 0x0, 0x0, 0x0, 0x0, 0xffffffff, 0x0⟩ /- PROFILE_INFO, R477 -/
  , ⟨0x164, 1, 0x4, 0x0, 0x0, 0x0, 0x0, 0x0, 0xffffffff, 0x0⟩ /- POLICY_INFO, R477 -/
  , ⟨0x168, 1, 0x4, 0x0, 0x0, 0x0, 0x0, 0x0, 0xffff0f, 0x0⟩ /- OBJ_STATUS, R477 -/
  , ⟨0x16c, 1, 0x4, 0x3f, 0x0, 0x0, 0x0, 0x0, 0x0, 0x0⟩ /- DIGEST_SEL, R477 -/
  , ⟨0x170, 1, 0x4, 0x0, 0x0, 0x0, 0x0, 0x0, 0xffffffff, 0x0⟩ /- DIGEST_DATA, R477 -/
  , ⟨0x174, 1, 0x4, 0x0, 0x0, 0x0, 0x0, 0x0, 0xffff, 0x0⟩ /- WDOG, R477 -/ ]

/-- The block registers of page KPR. -/
def regsKPR : List RegDef := regsKPR_0

def regsMBX0_0 : List RegDef :=
  [ ⟨0x100, 16, 0x4, 0xffffffff, 0x0, 0x0, 0x0, 0x0, 0x0, 0x0⟩ /- TX_DATA, R498 -/
  , ⟨0x140, 1, 0x4, 0x0, 0x0, 0x0, 0x0, 0x37f, 0x0, 0x0⟩ /- TX_POST, R498 -/
  , ⟨0x144, 1, 0x4, 0x0, 0x0, 0x0, 0x0, 0x0, 0x77fff, 0x0⟩ /- TX_RESULT, R498 -/
  , ⟨0x148, 1, 0x4, 0x0, 0x0, 0x0, 0x0, 0x1, 0x0, 0x0⟩ /- EP_RESET, R498 -/
  , ⟨0x14c, 1, 0x4, 0x0, 0x0, 0x0, 0x0, 0x0, 0x3f, 0x0⟩ /- EP_MAP, R498 -/
  , ⟨0x150, 9, 0x4, 0x0, 0x0, 0x0, 0x0, 0x0, 0xffffffff, 0x0⟩ /- EPOCH, R498 -/
  , ⟨0x180, 3, 0x4, 0x0, 0x0, 0x0, 0x0, 0x0, 0xffffffff, 0x0⟩ /- EP_PEND, R498 -/
  , ⟨0x200, 64, 0x4, 0x0, 0x0, 0x0, 0x0, 0x0, 0xffff0073, 0x0⟩ /- LOCK, R498 -/
  , ⟨0x300, 64, 0x4, 0x0, 0x0, 0x0, 0x0, 0x0, 0xffff0073, 0x0⟩ /- LOCK_VIEW, R498 -/
  , ⟨0x400, 1, 0x4, 0x0, 0x0, 0x0, 0x0, 0x0, 0xffffffff, 0x0⟩ /- LOCK_HELD_LO, R498 -/
  , ⟨0x404, 1, 0x4, 0x0, 0x0, 0x0, 0x0, 0x0, 0xffffffff, 0x0⟩ /- LOCK_HELD_HI, R498 -/ ]

/-- The block registers of page MBX0. -/
def regsMBX0 : List RegDef := regsMBX0_0

def regsMBXE_0 : List RegDef :=
  [ ⟨0x100, 68, 0x4, 0x0, 0x0, 0xffffffff, 0x0, 0x0, 0x0, 0x0⟩ /- DB, R498 -/
  , ⟨0x210, 68, 0x4, 0x0, 0x0, 0x0, 0x7fffffff, 0x0, 0x0, 0x0⟩ /- DB_SET, R498 -/
  , ⟨0x320, 68, 0x4, 0xffffffff, 0x0, 0x0, 0x0, 0x0, 0x0, 0x0⟩ /- DB_MASK, R498 -/
  , ⟨0x430, 68, 0x4, 0x0, 0x0, 0x0, 0x0, 0x80000000, 0x1fff, 0x0⟩ /- CH_STATUS, R498 -/
  , ⟨0x540, 3, 0x4, 0x0, 0x0, 0x0, 0x0, 0x0, 0xffffffff, 0x0⟩ /- CH_PEND, R498 -/
  , ⟨0x550, 3, 0x4, 0x0, 0x0, 0x0, 0x0, 0x0, 0xffffffff, 0x0⟩ /- DB_PEND, R498 -/
  , ⟨0x560, 1, 0x4, 0x7f, 0x0, 0x0, 0x0, 0x0, 0x0, 0x0⟩ /- RX_SEL, R498 -/
  , ⟨0x564, 1, 0x4, 0x0, 0x0, 0x0, 0x0, 0x0, 0xffff1f80, 0x0⟩ /- RX_INFO, R498 -/
  , ⟨0x568, 1, 0x4, 0x0, 0x0, 0x0, 0x0, 0x1, 0x0, 0x0⟩ /- RX_POP, R498 -/
  , ⟨0x580, 16, 0x4, 0x0, 0x0, 0x0, 0x0, 0x0, 0xffffffff, 0x0⟩ /- RX_DATA, R498 -/ ]

/-- The block registers of page MBXE. -/
def regsMBXE : List RegDef := regsMBXE_0

def regsCHKU_0 : List RegDef :=
  [ ⟨0x100, 1, 0x4, 0xfffff0f, 0x0, 0x0, 0x0, 0x0, 0x0, 0x104⟩ /- CFG, R500 -/
  , ⟨0x104, 1, 0x4, 0x0, 0x0, 0x0, 0x0, 0x7, 0x0, 0x0⟩ /- CMD, R500 -/
  , ⟨0x108, 1, 0x4, 0x0, 0x0, 0x0, 0x0, 0xffffffff, 0x0, 0x0⟩ /- DATA32, R500 -/
  , ⟨0x10c, 1, 0x4, 0x0, 0x0, 0x0, 0x0, 0xff, 0x0, 0x0⟩ /- DATA8, R500 -/
  , ⟨0x110, 1, 0x4, 0xffffffff, 0x0, 0x0, 0x0, 0x0, 0x0, 0x0⟩ /- VALUE_LO, R500 -/
  , ⟨0x114, 1, 0x4, 0xffffffff, 0x0, 0x0, 0x0, 0x0, 0x0, 0x0⟩ /- VALUE_HI, R500 -/
  , ⟨0x118, 1, 0x4, 0xffffffff, 0x0, 0x0, 0x0, 0x0, 0x0, 0x0⟩ /- COUNT, R500 -/
  , ⟨0x11c, 1, 0x4, 0xffffffff, 0x0, 0x0, 0x0, 0x0, 0x0, 0x0⟩ /- EXPECT_LO, R500 -/
  , ⟨0x120, 1, 0x4, 0xffffffff, 0x0, 0x0, 0x0, 0x0, 0x0, 0x0⟩ /- EXPECT_HI, R500 -/
  , ⟨0x124, 1, 0x4, 0x0, 0x0, 0x0, 0x0, 0x0, 0xffffffff, 0x0⟩ /- RESULT_LO, R500 -/
  , ⟨0x128, 1, 0x4, 0x0, 0x0, 0x0, 0x0, 0x0, 0xffffffff, 0x0⟩ /- RESULT_HI, R500 -/
  , ⟨0x12c, 1, 0x4, 0x1ffff, 0x0, 0x0, 0x0, 0x0, 0x0, 0x0⟩ /- ALIVE, R500 -/ ]

/-- The block registers of page CHKU. -/
def regsCHKU : List RegDef := regsCHKU_0

def regsTIM_0 : List RegDef :=
  [ ⟨0x100, 1, 0x4, 0x0, 0x0, 0x0, 0x0, 0x0, 0xffffffff, 0x0⟩ /- NOW_FRAC, R452 -/
  , ⟨0x104, 1, 0x4, 0x0, 0x0, 0x0, 0x0, 0x0, 0x3fffffff, 0x0⟩ /- NOW_NS, R452 -/
  , ⟨0x108, 1, 0x4, 0x0, 0x0, 0x0, 0x0, 0x0, 0xffffffff, 0x0⟩ /- NOW_S_LO, R452 -/
  , ⟨0x10c, 1, 0x4, 0x0, 0x0, 0x0, 0x0, 0x0, 0xffff, 0x0⟩ /- NOW_S_HI, R452 -/
  , ⟨0x110, 1, 0x4, 0xffffffff, 0x0, 0x0, 0x0, 0x0, 0x0, 0x0⟩ /- RATE, R452 -/
  , ⟨0x114, 1, 0x4, 0xffffffff, 0x0, 0x0, 0x0, 0x0, 0x0, 0x0⟩ /- STEP_S_LO, R452 -/
  , ⟨0x118, 1, 0x4, 0xffff, 0x0, 0x0, 0x0, 0x0, 0x0, 0x0⟩ /- STEP_S_HI, R452 -/
  , ⟨0x11c, 1, 0x4, 0x7fffffff, 0x0, 0x0, 0x0, 0x0, 0x0, 0x0⟩ /- STEP_NS, R452 -/
  , ⟨0x120, 1, 0x4, 0x0, 0x0, 0x0, 0x0, 0x1, 0x0, 0x0⟩ /- STEP_GO, R452 -/
  , ⟨0x124, 1, 0x4, 0x0, 0x0, 0x0, 0x0, 0x0, 0x7fff, 0x0⟩ /- TIME_STATUS, R452 -/
  , ⟨0x128, 1, 0x4, 0x0, 0x0, 0x0, 0x0, 0x0, 0xffffffff, 0x0⟩ /- OFFSET, R452 -/
  , ⟨0x12c, 1, 0x4, 0x0, 0x0, 0x0, 0x0, 0x0, 0xffffffff, 0x0⟩ /- PATH_DELAY, R452 -/
  , ⟨0x130, 1, 0x4, 0x0, 0x0, 0x0, 0x0, 0x0, 0x1ffff, 0x0⟩ /- UTC_OFFSET, R452 -/
  , ⟨0x140, 1, 0x4, 0xffff3f, 0x0, 0x0, 0x0, 0x0, 0x0, 0xfd0010⟩ /- PTP_CTRL, R452 -/
  , ⟨0x144, 1, 0x4, 0xffffffff, 0x0, 0x0, 0x0, 0x0, 0x0, 0x3000100⟩ /- PTP_INTERVAL, R452 -/
  , ⟨0x150, 1, 0x4, 0xc, 0x0, 0x0, 0x0, 0x0, 0x3, 0x0⟩ /- PORT_STATE, R452 -/
  , ⟨0x160, 6, 0x4, 0xffffffff, 0x0, 0x0, 0x0, 0x0, 0x0, 0x0⟩ /- PORT_ASYM, R452 -/
  , ⟨0x180, 1, 0x4, 0x0, 0xffff0007, 0x0, 0x0, 0x0, 0x0, 0x640004⟩ /- TICK_CTRL, R14 -/
  , ⟨0x184, 1, 0x4, 0x0, 0x0, 0x0, 0x0, 0x0, 0xffff0007, 0x0⟩ /- TICK_STATUS, R14 -/
  , ⟨0x200, 16, 0x20, 0x7, 0x0, 0x0, 0x0, 0x0, 0x0, 0x0⟩ /- TRIG_CTRL, R452 -/
  , ⟨0x204, 16, 0x20, 0x3fffffff, 0x0, 0x0, 0x0, 0x0, 0x0, 0x0⟩ /- TRIG_START_NS, R452 -/
  , ⟨0x208, 16, 0x20, 0xffffffff, 0x0, 0x0, 0x0, 0x0, 0x0, 0x0⟩ /- TRIG_START_S_LO, R452 -/
  , ⟨0x20c, 16, 0x20, 0xffff, 0x0, 0x0, 0x0, 0x0, 0x0, 0x0⟩ /- TRIG_START_S_HI, R452 -/
  , ⟨0x210, 16, 0x20, 0xffffffff, 0x0, 0x0, 0x0, 0x0, 0x0, 0x0⟩ /- TRIG_START_FRAC, R452 -/
  , ⟨0x214, 16, 0x20, 0xffffffff, 0x0, 0x0, 0x0, 0x0, 0x0, 0x0⟩ /- TRIG_PERIOD_NS, R452 -/
  , ⟨0x218, 16, 0x20, 0xffffffff, 0x0, 0x0, 0x0, 0x0, 0x0, 0x0⟩ /- TRIG_PERIOD_FRAC, R452 -/
  , ⟨0x21c, 16, 0x20, 0x0, 0x0, 0x3, 0x0, 0x0, 0xffffff00, 0x0⟩ /- TRIG_STATUS, R452 -/ ]

/-- The block registers of page TIM. -/
def regsTIM : List RegDef := regsTIM_0

def regsCAL_0 : List RegDef :=
  [ ⟨0x100, 1, 0x4, 0xffffff, 0x0, 0x0, 0x0, 0x0, 0x0, 0xa003c⟩ /- BG_CFG, R516 -/
  , ⟨0x104, 1, 0x4, 0x0, 0x0, 0x0, 0x0, 0x0, 0xfff37f7f, 0x60⟩ /- BG_STATUS, R516 -/
  , ⟨0x108, 1, 0x4, 0x0, 0x0, 0x0, 0x0, 0x0, 0xffffffff, 0x0⟩ /- REF_STATUS, R516 -/
  , ⟨0x10c, 1, 0x4, 0x0, 0x0, 0x0, 0x0, 0x0, 0xff01, 0x0⟩ /- FULL_STATUS, R516 -/
  , ⟨0x110, 1, 0x4, 0x0, 0x0, 0x80000000, 0x0, 0x0, 0xffff, 0x0⟩ /- PLAUS_INFO, R516 -/
  , ⟨0x114, 1, 0x4, 0x0, 0x0, 0x0, 0x0, 0x0, 0x1ff03, 0x0⟩ /- SET_INFO, R516 -/
  , ⟨0x118, 1, 0x4, 0x0, 0x0, 0x0, 0x0, 0x0, 0xff03, 0x0⟩ /- PENDING, R516 -/
  , ⟨0x120, 4, 0x4, 0x0, 0x0, 0x0, 0x0, 0x0, 0xffffffff, 0x0⟩ /- RETIRED, R516 -/
  , ⟨0x140, 24, 0x4, 0x0, 0x0, 0x0, 0x0, 0x0, 0xffffffff, 0x0⟩ /- CONV_MAP, R516 -/
  , ⟨0x1a0, 1, 0x4, 0x7f, 0x0, 0x0, 0x0, 0x0, 0x0, 0x0⟩ /- CONV_SEL, R516 -/
  , ⟨0x1a4, 1, 0x4, 0x0, 0x0, 0x0, 0x0, 0x0, 0xffffffff, 0x4000⟩ /- CONV_I, R516 -/
  , ⟨0x1a8, 1, 0x4, 0x0, 0x0, 0x0, 0x0, 0x0, 0xffffffff, 0x4000⟩ /- CONV_V, R516 -/
  , ⟨0x1b0, 1, 0x4, 0x7f, 0x0, 0x0, 0x0, 0x0, 0x1f00, 0x0⟩ /- SINK_INFO, R516 -/
  , ⟨0x1b4, 1, 0x4, 0x0, 0x0, 0x0, 0x0, 0x0, 0xffff, 0x0⟩ /- LADDER_INFO, R516 -/ ]

/-- The block registers of page CAL. -/
def regsCAL : List RegDef := regsCAL_0

def regsTHM_0 : List RegDef :=
  [ ⟨0x100, 40, 0x4, 0x0, 0x0, 0x0, 0x0, 0x0, 0x73ffff, 0x0⟩ /- SENSOR, R545 -/
  , ⟨0x1a0, 6, 0x4, 0x0, 0x0, 0x0, 0x0, 0x0, 0xffffffff, 0x0⟩ /- ZONE, R545 -/
  , ⟨0x1c0, 6, 0x4, 0xffffffff, 0x0, 0x0, 0x0, 0x0, 0x0, 0x280010⟩ /- RISE_LIMIT, R545 -/
  , ⟨0x1e0, 1, 0x4, 0x0, 0x0, 0x0, 0x0, 0x0, 0x1, 0x0⟩ /- SAMPLE, R545 -/
  , ⟨0x1e4, 1, 0x4, 0x0, 0x0, 0x0, 0x0, 0x0, 0x1ff, 0x0⟩ /- HW_STEP, R545 -/
  , ⟨0x1e8, 1, 0x4, 0x0, 0x0, 0x0, 0x0, 0x0, 0x3f3f, 0x0⟩ /- LIMITS, R545 -/
  , ⟨0x1ec, 1, 0x4, 0x0, 0x0, 0x0, 0x0, 0x0, 0xffff003f, 0x0⟩ /- HOTTEST, R545 -/
  , ⟨0x1f0, 1, 0x4, 0x0, 0x0, 0x0, 0x0, 0x0, 0xffffffff, 0x0⟩ /- BROKEN_LO, R545 -/
  , ⟨0x1f4, 1, 0x4, 0x0, 0x0, 0x0, 0x0, 0x0, 0xffffffff, 0x0⟩ /- BROKEN_HI, R545 -/
  , ⟨0x1f8, 1, 0x4, 0x0, 0x0, 0x0, 0x0, 0x0, 0xf, 0x0⟩ /- GATES, R545 -/
  , ⟨0x1fc, 1, 0x4, 0x0, 0x0, 0x0, 0x1, 0x0, 0x0, 0x0⟩ /- BROKEN_RETRY, R545 -/ ]

/-- The block registers of page THM. -/
def regsTHM : List RegDef := regsTHM_0

def regsPWR_0 : List RegDef :=
  [ ⟨0x100, 1, 0x4, 0x0, 0x0, 0x0, 0x0, 0x0, 0xffffffff, 0x0⟩ /- VIN, R545 -/
  , ⟨0x104, 1, 0x4, 0x0, 0x0, 0x0, 0x0, 0x80000000, 0xffff, 0xffff⟩ /- VIN_MIN, R545 -/
  , ⟨0x108, 1, 0x4, 0x0, 0x0, 0x0, 0x0, 0x0, 0xfff000f, 0x0⟩ /- REGION_STATE, R545 -/
  , ⟨0x110, 12, 0x4, 0x0, 0x0, 0x0, 0x0, 0x0, 0xffffffff, 0x0⟩ /- RAIL, R545 -/
  , ⟨0x140, 1, 0x4, 0x0, 0x0, 0xfff, 0x0, 0x0, 0x0, 0x0⟩ /- RAIL_FAULT, R545 -/
  , ⟨0x144, 1, 0x4, 0x1, 0x0, 0x0, 0x2, 0x0, 0x0, 0x1⟩ /- CAP_CTRL, R545 -/
  , ⟨0x148, 1, 0x4, 0x0, 0x0, 0x0, 0x0, 0x0, 0x3f, 0x0⟩ /- CAP_STATUS, R545 -/
  , ⟨0x14c, 1, 0x4, 0x0, 0x0, 0x0, 0x0, 0x0, 0xffff, 0x0⟩ /- CAP_V, R545 -/
  , ⟨0x150, 1, 0x4, 0x0, 0x0, 0x0, 0x0, 0x0, 0xffffffff, 0xfbe0000⟩ /- CAP_C, R545 -/
  , ⟨0x154, 1, 0x4, 0x0, 0x0, 0x0, 0x0, 0x0, 0xffffffff, 0x3840000⟩ /- RESERVE, R545 -/
  , ⟨0x158, 1, 0x4, 0x0, 0x0, 0x0, 0x0, 0x0, 0x1ffff, 0x0⟩ /- EDGE_TEMP, R545 -/
  , ⟨0x15c, 1, 0x4, 0x0, 0x0, 0x0, 0x0, 0x0, 0x1ffff, 0x0⟩ /- PANEL_TEMP, R545 -/
  , ⟨0x160, 1, 0x4, 0x0, 0x0, 0x0, 0x0, 0x0, 0xf, 0x0⟩ /- RECORD_STATUS, R545 -/
  , ⟨0x164, 1, 0x4, 0x0, 0x0, 0x0, 0x0, 0x0, 0xffffffff, 0x0⟩ /- RECORD_SEQ, R545 -/
  , ⟨0x168, 1, 0x4, 0x0, 0x0, 0x0, 0x0, 0x0, 0xffff001f, 0x0⟩ /- LAST_RECORD, R545 -/
  , ⟨0x170, 1, 0x4, 0x0, 0x0, 0x0, 0x0, 0x1, 0x0, 0x0⟩ /- MOORING_TEST, R545 -/
  , ⟨0x174, 1, 0x4, 0x0, 0x0, 0x0, 0x0, 0x0, 0xffff, 0x0⟩ /- INPUT_POWER, R545 -/ ]

/-- The block registers of page PWR. -/
def regsPWR : List RegDef := regsPWR_0

namespace K

def HLK_LINK_CTRL : Nat := 0x100100
def HLK_LINK_STATUS : Nat := 0x100104
def HLK_LANE_STATUS : Nat := 0x100108
def HLK_RETRY_CFG : Nat := 0x10010c
def HLK_CTX_CTRL : Nat := 0x100110
def HLK_CREDIT_ADV : Nat := 0x100114
def HLK_TX_CREDIT : Nat := 0x100118
def HLK_PEER_ADV : Nat := 0x10011c
def HLK_PEER_INFO : Nat := 0x100120
def HLK_SEQ_STATUS : Nat := 0x100124
def HLK_REPLAY_STATUS : Nat := 0x100128
def HLK_LP_CTRL : Nat := 0x10012c
def HLK_LP_STATUS : Nat := 0x100130
def HLK_TS_OFFSET : Nat := 0x100134
def HLK_TICK_TS_LO : Nat := 0x100138
def HLK_TICK_TS_HI : Nat := 0x10013c
def HLK_BAD_PKT : Nat := 0x100140
def HLK_OUTSTANDING : Nat := 0x100144
def HLK_EVENT_PEND : Nat := 0x100148
def HLK_DOWN_INFO : Nat := 0x100150
def HLK_TX_LAST : Nat := 0x100154
def HLK_RX_LAST : Nat := 0x100158
def HLK_EYE_CTRL : Nat := 0x10015c
def HLK_EYE_RESULT : Nat := 0x100160
def HLK_TEST_CTRL : Nat := 0x100164
def HLK_TEST_RESULT : Nat := 0x100168
def HLK_INJECT : Nat := 0x10016c
def HLK_DMA_CTRL : Nat := 0x100170
def HLK_SCENE_CTRL : Nat := 0x100200
def HLK_RING_BASE_LO : Nat := 0x100204
def HLK_RING_BASE_HI : Nat := 0x100208
def HLK_SLOT_SIZE : Nat := 0x10020c
def HLK_RING_STATUS : Nat := 0x100210
def HLK_FILL_BYTES : Nat := 0x100214
def HLK_USE_INFO : Nat := 0x100218
def HLK_USE_FRAME : Nat := 0x10021c
def HLK_LAST_DISCARD : Nat := 0x100220
def HLK_USE_TIME_NS : Nat := 0x100224
def HLK_USE_TIME_S : Nat := 0x100228
def HLK_TX_SET : Nat := 0x100300
def HLK_RX_EQ : Nat := 0x100340
def HLK_LANE_ERR : Nat := 0x100380
def CDC_JOB_BASE_LO : Nat := 0x200100
def CDC_JOB_BASE_HI : Nat := 0x200104
def CDC_JOB_SIZE : Nat := 0x200108
def CDC_JOB_HEAD : Nat := 0x20010c
def CDC_JOB_TAIL : Nat := 0x200110
def CDC_JOB_ABORT : Nat := 0x200114
def CDC_FLUSH : Nat := 0x200118
def CDC_FIELD_CTRL : Nat := 0x200120
def CDC_PIPE_WEIGHT : Nat := 0x200124
def CDC_LAST_CHECK : Nat := 0x200128
def MEM0_CFG : Nat := 0x300100
def MEM0_MAP_MASK : Nat := 0x300110
def MEM0_PORT_QOS : Nat := 0x300130
def MEM0_FOG_STATUS : Nat := 0x300150
def MEM0_QUIET : Nat := 0x300160
def MEM0_TRAIN_CTRL : Nat := 0x300164
def MEM0_TRAIN_REQ : Nat := 0x300168
def MEM0_MAP_STATUS : Nat := 0x300170
def MEM0_RETIRE_CTRL : Nat := 0x300174
def MEM0_RETRY_RESULT : Nat := 0x300178
def MEM0_PORT_BYTES : Nat := 0x300180
def MEM0_LAT_MAX : Nat := 0x3001a0
def MEMC_CH_STATUS : Nat := 0x300100
def MEMC_DOUBLE_READ : Nat := 0x300104
def MEMC_TRAIN_RESULT : Nat := 0x300108
def MEMC_TRAIN_TEMP : Nat := 0x30010c
def MEMC_INJECT : Nat := 0x300110
def MEMC_REFRESH_CFG : Nat := 0x300114
def TLK_NODE_CFG : Nat := 0x400100
def TLK_PORT_CTRL : Nat := 0x400104
def TLK_PORT_STATUS : Nat := 0x400108
def TLK_JOIN_STATUS : Nat := 0x40010c
def TLK_WALL_CTRL : Nat := 0x400110
def TLK_WALL_STATE : Nat := 0x400114
def TLK_MEMBERS_LO : Nat := 0x400118
def TLK_MEMBERS_HI : Nat := 0x40011c
def TLK_WALL_ERR_LO : Nat := 0x400120
def TLK_WALL_ERR_HI : Nat := 0x400124
def TLK_WALL_SUM : Nat := 0x400128
def TLK_WALL_LATE : Nat := 0x40012c
def TLK_JOIN_REFUSED : Nat := 0x400130
def TLK_MODE_SCHED : Nat := 0x400134
def TLK_PAIR_CTRL : Nat := 0x400140
def TLK_PAIR_STATUS : Nat := 0x400144
def TLK_DAYMARK_DIFF : Nat := 0x400148
def TLK_REMOTE_ADDR_LO : Nat := 0x400150
def TLK_REMOTE_ADDR_HI : Nat := 0x400154
def TLK_REMOTE_DATA : Nat := 0x400158
def TLK_REMOTE_CTRL : Nat := 0x40015c
def TLK_TX_SET : Nat := 0x400300
def TLK_LANE_ERR : Nat := 0x400340
def RAY_SYN_CTRL : Nat := 0x500100
def RAY_NEAREST_Z : Nat := 0x500104
def RAY_FLATWIN_FILL : Nat := 0x500108
def RAY_CTX_BASE_LO : Nat := 0x50010c
def RAY_CTX_BASE_HI : Nat := 0x500110
def RAY_L2_BASE_LO : Nat := 0x500114
def RAY_L2_BASE_HI : Nat := 0x500118
def RAY_CLUSTER_EN : Nat := 0x50011c
def RAY_CLUSTER_OUT : Nat := 0x500120
def RAY_CLUSTER_WT : Nat := 0x500130
def RAY_CLASS_GRID : Nat := 0x500140
def RAY_TILE_PROBE : Nat := 0x500200
def RAY_PROBE_LO : Nat := 0x500204
def RAY_PROBE_HI : Nat := 0x500208
def RAY_FIELD_STATUS : Nat := 0x50020c
def RAY_LATE_LAST : Nat := 0x500210
def RAY_PARITY_TILE : Nat := 0x500214
def RAY_STALL_LAST : Nat := 0x500218
def LNS_LENS_PITCH : Nat := 0x600100
def LNS_LENS_SLANT : Nat := 0x600104
def LNS_LENS_PHASE : Nat := 0x600108
def LNS_SPREAD_X : Nat := 0x60010c
def LNS_SPREAD_Y : Nat := 0x600110
def LNS_TMAX : Nat := 0x600114
def LNS_PIXEL_PITCH : Nat := 0x600118
def LNS_SEC_G : Nat := 0x600120
def LNS_GRID_CFG : Nat := 0x600140
def LNS_GRID_BASE_LO : Nat := 0x600144
def LNS_GRID_BASE_HI : Nat := 0x600148
def LNS_CHAN_SECTOR : Nat := 0x600150
def LNS_ZONE_GX : Nat := 0x600180
def LNS_ZONE_GY : Nat := 0x6001a0
def LNS_ZONE_CTRL : Nat := 0x6001c0
def LNS_CHECK_INFO : Nat := 0x6001c4
def LNS_ZONE_TILES : Nat := 0x6001e0
def LNS_PROBE_SEL : Nat := 0x600200
def LNS_PROBE_CTRL : Nat := 0x600204
def LNS_PROBE_X : Nat := 0x600208
def LNS_PROBE_Y : Nat := 0x60020c
def LNS_PROBE_GX : Nat := 0x600210
def LNS_PROBE_GY : Nat := 0x600214
def LNS_PROBE_PHASE : Nat := 0x600218
def FST_FBUF_BASE0_LO : Nat := 0x700100
def FST_FBUF_BASE0_HI : Nat := 0x700104
def FST_FBUF_BASE1_LO : Nat := 0x700108
def FST_FBUF_BASE1_HI : Nat := 0x70010c
def FST_OH4_BASE_LO : Nat := 0x700110
def FST_OH4_BASE_HI : Nat := 0x700114
def FST_FBUF_SIZE : Nat := 0x700118
def FST_OH4_SIZE : Nat := 0x70011c
def FST_FBUF_STATUS : Nat := 0x700120
def FST_MASTER_PRI : Nat := 0x700124
def FST_AGE_LIMIT : Nat := 0x700128
def FST_CONFLICT_CTRL : Nat := 0x70012c
def FST_PARITY_INFO : Nat := 0x700130
def FST_CONFLICT : Nat := 0x700140
def FST_WAIT_MAX : Nat := 0x700160
def BLT_RING_BASE_LO : Nat := 0x800100
def BLT_RING_BASE_HI : Nat := 0x800104
def BLT_RING_HEAD : Nat := 0x800108
def BLT_RING_TAIL : Nat := 0x80010c
def BLT_ABORT : Nat := 0x800110
def BLT_PROGRESS : Nat := 0x800114
def BLT_LAST_DONE : Nat := 0x800118
def BLT_INVALID_INFO : Nat := 0x80011c
def BLT_BEAM_CTRL : Nat := 0x800120
def BLT_PIPE_EN : Nat := 0x800124
def BLT_RATE : Nat := 0x800128
def BLT_BEAM_STATUS : Nat := 0x80012c
def BLT_PIX_LAST : Nat := 0x800130
def BLT_HOLD_LAST : Nat := 0x800134
def BLT_RD_LAST : Nat := 0x800138
def BLT_WR_LAST : Nat := 0x80013c
def BLT_RING_COUNT : Nat := 0x800140
def BLT_FW_CTRL : Nat := 0x800200
def BLT_FW_STATE : Nat := 0x800204
def BLT_FW_INFORCE : Nat := 0x800208
def BLT_FW_REFUSED : Nat := 0x80020c
def BLT_FW_EVENT : Nat := 0x800210
def BLT_FW_ALIGN : Nat := 0x800214
def BLT_CHECK_INFO : Nat := 0x800218
def BLT_FW_TL : Nat := 0x800240
def BLT_FW_BR : Nat := 0x800280
def SCN_TIMING : Nat := 0x900100
def SCN_NATIVE : Nat := 0x900104
def SCN_PORT_CTRL : Nat := 0x900108
def SCN_BASE_LF : Nat := 0x900110
def SCN_LINEBUF_BASE : Nat := 0x900114
def SCN_FETCH_CTRL : Nat := 0x900120
def SCN_DRIVE_ARB : Nat := 0x900124
def SCN_PLANE_CTRL : Nat := 0x900140
def SCN_PLANE_BASE : Nat := 0x900144
def SCN_PLANE_PITCH : Nat := 0x900148
def SCN_PLANE_SRC : Nat := 0x90014c
def SCN_PLANE_DST : Nat := 0x900150
def SCN_PLANE_SIZE : Nat := 0x900154
def SCN_OPAQUE_TL : Nat := 0x900158
def SCN_OPAQUE_BR : Nat := 0x90015c
def SCN_DAYMARK_CTRL : Nat := 0x900200
def SCN_DAYMARK_STATUS : Nat := 0x900204
def SCN_LINE_STATUS : Nat := 0x900210
def SCN_UNDERRUN : Nat := 0x900214
def SCN_LINE_PERIOD : Nat := 0x900218
def SCN_CHECK_INFO : Nat := 0x90021c
def SCN_DAYMARK_SIG : Nat := 0x900240
def SCN_DAYMARK_DIGEST : Nat := 0x900280
def PCN_PRE_CTRL : Nat := 0xa00100
def PCN_LUMA_W : Nat := 0xa00104
def PCN_MATRIX0 : Nat := 0xa00110
def PCN_MATRIX1 : Nat := 0xa00130
def PCN_TM_CTRL : Nat := 0xa00150
def PCN_TM_TAG : Nat := 0xa00160
def PCN_TM_PEAK : Nat := 0xa00164
def PCN_TBL_ADDR : Nat := 0xa00180
def PCN_TBL_DATA : Nat := 0xa00184
def PCN_DEMURA_CTRL : Nat := 0xa00190
def PCN_DEMURA_BASE : Nat := 0xa00194
def PCN_DEMURA_FETCH : Nat := 0xa00198
def PCN_DEMURA_SIZE : Nat := 0xa0019c
def PCN_OD_CTRL : Nat := 0xa001a0
def PCN_OD_TEMP0 : Nat := 0xa001a4
def PCN_OD_TEMP1 : Nat := 0xa001a8
def PCN_DITHER_CTRL : Nat := 0xa001b0
def PCN_PACK_CTRL : Nat := 0xa001b4
def PCN_HOLD_CTRL : Nat := 0xa001b8
def PCN_COND_STATUS : Nat := 0xa001c0
def PCN_CHECK_INFO : Nat := 0xa001c4
def PCN_PROBE_SEL : Nat := 0xa00200
def PCN_PROBE_A : Nat := 0xa00204
def PCN_PROBE_B : Nat := 0xa00208
def SER0_RATE : Nat := 0xb00100
def SER0_TRAIN_CTRL : Nat := 0xb00104
def SER0_TRAIN_STATUS : Nat := 0xb00108
def SER0_FAIL_CTRL : Nat := 0xb0010c
def SER0_PAT_CTRL : Nat := 0xb00110
def SER0_EYE_CTRL : Nat := 0xb00114
def SER0_EYE_RESULT : Nat := 0xb00118
def SER0_BLACK : Nat := 0xb0011c
def SER0_SLACK_MIN : Nat := 0xb00120
def SER0_GATE : Nat := 0xb00124
def SER0_OE : Nat := 0xb00128
def SER0_SCAN_CTRL : Nat := 0xb0012c
def SER0_STATUS_LAST : Nat := 0xb00130
def SER0_INJECT : Nat := 0xb00134
def SERP_PORT_STATUS : Nat := 0xb00140
def SERP_RX_EQ : Nat := 0xb00144
def SERP_LANE_EN_LO : Nat := 0xb00148
def SERP_LANE_EN_HI : Nat := 0xb0014c
def SERP_LOCK_LO : Nat := 0xb00150
def SERP_LOCK_HI : Nat := 0xb00154
def SERP_MASKED_LO : Nat := 0xb00158
def SERP_MASKED_HI : Nat := 0xb0015c
def SERP_RETRY_LO : Nat := 0xb00160
def SERP_RETRY_HI : Nat := 0xb00164
def SERP_LAST_BAD : Nat := 0xb00168
def SERP_RET_STATUS : Nat := 0xb0016c
def SERP_CMD_ERRS : Nat := 0xb00170
def SERP_TX_SET : Nat := 0xb00200
def SERP_LANE_ERR : Nat := 0xb00300
def SERP_LANE_MKR : Nat := 0xb00400
def SEC_LIGHT_CTRL : Nat := 0xc00100
def SEC_OWNER : Nat := 0xc00104
def SEC_BRIGHT : Nat := 0xc00108
def SEC_PEAK : Nat := 0xc0010c
def SEC_SENSE_CFG : Nat := 0xc00110
def SEC_PRECHARGE : Nat := 0xc00114
def SEC_SETTLE : Nat := 0xc00118
def SEC_LIN_SET : Nat := 0xc0011c
def SEC_CHAN_MODE : Nat := 0xc00120
def SEC_LIN_CH : Nat := 0xc00140
def SEC_TRIM : Nat := 0xc001a0
def SEC_DIAG_V : Nat := 0xc00260
def SEC_VLED_WIN : Nat := 0xc00264
def SEC_VLED_MEAS : Nat := 0xc00268
def SEC_SLOT_STATUS : Nat := 0xc0026c
def SEC_MARGIN : Nat := 0xc00270
def SEC_SLOT_TIME : Nat := 0xc00274
def SEC_MEAS_SEL : Nat := 0xc00280
def SEC_MEAS_RESULT : Nat := 0xc00284
def SEC_PHOTO : Nat := 0xc00290
def SEC_PHOTO_CTRL : Nat := 0xc002a0
def SEC_AGE_SEL : Nat := 0xc002b0
def SEC_AGE_LO : Nat := 0xc002b4
def SEC_AGE_HI : Nat := 0xc002b8
def SEC_FAULT_SEL : Nat := 0xc002c0
def SEC_FAULT_OPEN : Nat := 0xc002c4
def SEC_FAULT_SHORT : Nat := 0xc002d0
def SEC_EVEN_MAP : Nat := 0xc002dc
def SEC_CHAN_LOST : Nat := 0xc002e8
def SEC_SCAN_FAULT : Nat := 0xc002f4
def SEC_RETRY : Nat := 0xc002f8
def SEC_CHECK_INFO : Nat := 0xc002fc
def SEC_CH_X : Nat := 0xc00300
def APL_GEOM : Nat := 0xd00100
def APL_CELL : Nat := 0xd00104
def APL_WF_BANK : Nat := 0xd00108
def APL_BAND_T0 : Nat := 0xd0010c
def APL_BAND_T1 : Nat := 0xd00110
def APL_BAND_RATE : Nat := 0xd00114
def APL_BAND_RATE1 : Nat := 0xd00118
def APL_ROW_TIME : Nat := 0xd0011c
def APL_IDLE : Nat := 0xd00120
def APL_RAIL_CTRL : Nat := 0xd00124
def APL_RAIL_STATUS : Nat := 0xd00128
def APL_OWNER : Nat := 0xd0012c
def APL_REQ_TL : Nat := 0xd00140
def APL_REQ_BR : Nat := 0xd00144
def APL_REQ_CTRL : Nat := 0xd00148
def APL_REQ_POST : Nat := 0xd0014c
def APL_REQ_RESULT : Nat := 0xd00150
def APL_ABORT : Nat := 0xd00154
def APL_QUEUE_STATUS : Nat := 0xd00158
def APL_LAST_DONE : Nat := 0xd00160
def APL_LAST_REFUSED : Nat := 0xd00164
def APL_FRAME_COUNT : Nat := 0xd00168
def APL_TEMP : Nat := 0xd0016c
def APL_CELL_PROBE : Nat := 0xd00170
def APL_CELL_STATE : Nat := 0xd00174
def APL_RECOVER : Nat := 0xd00178
def APL_SLOT_STATE : Nat := 0xd00180
def APL_TBL_ADDR : Nat := 0xd001c0
def APL_TBL_DATA : Nat := 0xd001c4
def APL_CHECK_INFO : Nat := 0xd001c8
def KPR_CHIP_INT : Nat := 0xe00100
def KPR_REGION_SUM : Nat := 0xe00104
def KPR_HOST_ROUTE : Nat := 0xe00114
def KPR_MODE_STATUS : Nat := 0xe00120
def KPR_BOOT_STATUS : Nat := 0xe00124
def KPR_BOOT_TIME : Nat := 0xe00128
def KPR_FW_VERSION : Nat := 0xe0012c
def KPR_ADAPT_STATUS : Nat := 0xe00130
def KPR_ADAPT_USE : Nat := 0xe00134
def KPR_POWER_STATUS : Nat := 0xe00138
def KPR_REGION_POWER : Nat := 0xe00140
def KPR_THROTTLE : Nat := 0xe00150
def KPR_LUM_STATUS : Nat := 0xe00154
def KPR_BRIGHT_STATUS : Nat := 0xe00158
def KPR_SEC_STATUS : Nat := 0xe0015c
def KPR_PROFILE_INFO : Nat := 0xe00160
def KPR_POLICY_INFO : Nat := 0xe00164
def KPR_OBJ_STATUS : Nat := 0xe00168
def KPR_DIGEST_SEL : Nat := 0xe0016c
def KPR_DIGEST_DATA : Nat := 0xe00170
def KPR_WDOG : Nat := 0xe00174
def MBX0_TX_DATA : Nat := 0xf00100
def MBX0_TX_POST : Nat := 0xf00140
def MBX0_TX_RESULT : Nat := 0xf00144
def MBX0_EP_RESET : Nat := 0xf00148
def MBX0_EP_MAP : Nat := 0xf0014c
def MBX0_EPOCH : Nat := 0xf00150
def MBX0_EP_PEND : Nat := 0xf00180
def MBX0_LOCK : Nat := 0xf00200
def MBX0_LOCK_VIEW : Nat := 0xf00300
def MBX0_LOCK_HELD_LO : Nat := 0xf00400
def MBX0_LOCK_HELD_HI : Nat := 0xf00404
def MBXE_DB : Nat := 0xf00100
def MBXE_DB_SET : Nat := 0xf00210
def MBXE_DB_MASK : Nat := 0xf00320
def MBXE_CH_STATUS : Nat := 0xf00430
def MBXE_CH_PEND : Nat := 0xf00540
def MBXE_DB_PEND : Nat := 0xf00550
def MBXE_RX_SEL : Nat := 0xf00560
def MBXE_RX_INFO : Nat := 0xf00564
def MBXE_RX_POP : Nat := 0xf00568
def MBXE_RX_DATA : Nat := 0xf00580
def CHKU_CFG : Nat := 0x1000100
def CHKU_CMD : Nat := 0x1000104
def CHKU_DATA32 : Nat := 0x1000108
def CHKU_DATA8 : Nat := 0x100010c
def CHKU_VALUE_LO : Nat := 0x1000110
def CHKU_VALUE_HI : Nat := 0x1000114
def CHKU_COUNT : Nat := 0x1000118
def CHKU_EXPECT_LO : Nat := 0x100011c
def CHKU_EXPECT_HI : Nat := 0x1000120
def CHKU_RESULT_LO : Nat := 0x1000124
def CHKU_RESULT_HI : Nat := 0x1000128
def CHKU_ALIVE : Nat := 0x100012c
def TIM_NOW_FRAC : Nat := 0x1100100
def TIM_NOW_NS : Nat := 0x1100104
def TIM_NOW_S_LO : Nat := 0x1100108
def TIM_NOW_S_HI : Nat := 0x110010c
def TIM_RATE : Nat := 0x1100110
def TIM_STEP_S_LO : Nat := 0x1100114
def TIM_STEP_S_HI : Nat := 0x1100118
def TIM_STEP_NS : Nat := 0x110011c
def TIM_STEP_GO : Nat := 0x1100120
def TIM_TIME_STATUS : Nat := 0x1100124
def TIM_OFFSET : Nat := 0x1100128
def TIM_PATH_DELAY : Nat := 0x110012c
def TIM_UTC_OFFSET : Nat := 0x1100130
def TIM_PTP_CTRL : Nat := 0x1100140
def TIM_PTP_INTERVAL : Nat := 0x1100144
def TIM_PORT_STATE : Nat := 0x1100150
def TIM_PORT_ASYM : Nat := 0x1100160
def TIM_TICK_CTRL : Nat := 0x1100180
def TIM_TICK_STATUS : Nat := 0x1100184
def TIM_TRIG_CTRL : Nat := 0x1100200
def TIM_TRIG_START_NS : Nat := 0x1100204
def TIM_TRIG_START_S_LO : Nat := 0x1100208
def TIM_TRIG_START_S_HI : Nat := 0x110020c
def TIM_TRIG_START_FRAC : Nat := 0x1100210
def TIM_TRIG_PERIOD_NS : Nat := 0x1100214
def TIM_TRIG_PERIOD_FRAC : Nat := 0x1100218
def TIM_TRIG_STATUS : Nat := 0x110021c
def CAL_BG_CFG : Nat := 0x1200100
def CAL_BG_STATUS : Nat := 0x1200104
def CAL_REF_STATUS : Nat := 0x1200108
def CAL_FULL_STATUS : Nat := 0x120010c
def CAL_PLAUS_INFO : Nat := 0x1200110
def CAL_SET_INFO : Nat := 0x1200114
def CAL_PENDING : Nat := 0x1200118
def CAL_RETIRED : Nat := 0x1200120
def CAL_CONV_MAP : Nat := 0x1200140
def CAL_CONV_SEL : Nat := 0x12001a0
def CAL_CONV_I : Nat := 0x12001a4
def CAL_CONV_V : Nat := 0x12001a8
def CAL_SINK_INFO : Nat := 0x12001b0
def CAL_LADDER_INFO : Nat := 0x12001b4
def THM_SENSOR : Nat := 0x1300100
def THM_ZONE : Nat := 0x13001a0
def THM_RISE_LIMIT : Nat := 0x13001c0
def THM_SAMPLE : Nat := 0x13001e0
def THM_HW_STEP : Nat := 0x13001e4
def THM_LIMITS : Nat := 0x13001e8
def THM_HOTTEST : Nat := 0x13001ec
def THM_BROKEN_LO : Nat := 0x13001f0
def THM_BROKEN_HI : Nat := 0x13001f4
def THM_GATES : Nat := 0x13001f8
def THM_BROKEN_RETRY : Nat := 0x13001fc
def PWR_VIN : Nat := 0x1400100
def PWR_VIN_MIN : Nat := 0x1400104
def PWR_REGION_STATE : Nat := 0x1400108
def PWR_RAIL : Nat := 0x1400110
def PWR_RAIL_FAULT : Nat := 0x1400140
def PWR_CAP_CTRL : Nat := 0x1400144
def PWR_CAP_STATUS : Nat := 0x1400148
def PWR_CAP_V : Nat := 0x140014c
def PWR_CAP_C : Nat := 0x1400150
def PWR_RESERVE : Nat := 0x1400154
def PWR_EDGE_TEMP : Nat := 0x1400158
def PWR_PANEL_TEMP : Nat := 0x140015c
def PWR_RECORD_STATUS : Nat := 0x1400160
def PWR_RECORD_SEQ : Nat := 0x1400164
def PWR_LAST_RECORD : Nat := 0x1400168
def PWR_MOORING_TEST : Nat := 0x1400170
def PWR_INPUT_POWER : Nat := 0x1400174

end K

namespace F

def HLK_LINK_CTRL_ENABLE : Fld := ⟨0x100100, 0, 1, 0x4⟩
def HLK_LINK_CTRL_MAX_WIDTH : Fld := ⟨0x100100, 1, 2, 0x4⟩
def HLK_LINK_CTRL_RATE16 : Fld := ⟨0x100100, 3, 1, 0x4⟩
def HLK_LINK_CTRL_RETRAIN : Fld := ⟨0x100100, 4, 1, 0x4⟩
def HLK_LINK_STATUS_STATE : Fld := ⟨0x100104, 0, 3, 0x4⟩
def HLK_LINK_STATUS_WIDTH : Fld := ⟨0x100104, 3, 2, 0x4⟩
def HLK_LINK_STATUS_RATE : Fld := ⟨0x100104, 5, 2, 0x4⟩
def HLK_LANE_STATUS_RX_LOCK : Fld := ⟨0x100108, 0, 16, 0x4⟩
def HLK_LANE_STATUS_USED : Fld := ⟨0x100108, 16, 16, 0x4⟩
def HLK_RETRY_CFG_ACK_TIMEOUT : Fld := ⟨0x10010c, 0, 8, 0x4⟩
def HLK_RETRY_CFG_REPLAY_LIMIT : Fld := ⟨0x10010c, 8, 4, 0x4⟩
def HLK_CTX_CTRL_CTX0_EN : Fld := ⟨0x100110, 0, 1, 0x4⟩
def HLK_CTX_CTRL_CTX1_EN : Fld := ⟨0x100110, 1, 1, 0x4⟩
def HLK_CREDIT_ADV_VC0 : Fld := ⟨0x100114, 0, 8, 0x4⟩
def HLK_CREDIT_ADV_VC1 : Fld := ⟨0x100114, 8, 12, 0x4⟩
def HLK_CREDIT_ADV_VC2 : Fld := ⟨0x100114, 20, 8, 0x4⟩
def HLK_TX_CREDIT_VC0 : Fld := ⟨0x100118, 0, 8, 0x4⟩
def HLK_TX_CREDIT_VC1 : Fld := ⟨0x100118, 8, 12, 0x4⟩
def HLK_TX_CREDIT_VC2 : Fld := ⟨0x100118, 20, 8, 0x4⟩
def HLK_PEER_ADV_VC0 : Fld := ⟨0x10011c, 0, 8, 0x4⟩
def HLK_PEER_ADV_VC1 : Fld := ⟨0x10011c, 8, 12, 0x4⟩
def HLK_PEER_ADV_VC2 : Fld := ⟨0x10011c, 20, 8, 0x4⟩
def HLK_PEER_INFO_VERSION : Fld := ⟨0x100120, 0, 16, 0x4⟩
def HLK_PEER_INFO_MAX_WIDTH : Fld := ⟨0x100120, 16, 2, 0x4⟩
def HLK_PEER_INFO_MAX_RATE : Fld := ⟨0x100120, 18, 2, 0x4⟩
def HLK_SEQ_STATUS_TX_NEXT : Fld := ⟨0x100124, 0, 12, 0x4⟩
def HLK_SEQ_STATUS_RX_EXPECT : Fld := ⟨0x100124, 16, 12, 0x4⟩
def HLK_REPLAY_STATUS_UNACKED : Fld := ⟨0x100128, 0, 11, 0x4⟩
def HLK_REPLAY_STATUS_REPLAYS_LAST : Fld := ⟨0x100128, 16, 16, 0x4⟩
def HLK_LP_CTRL_ACK_WAIT : Fld := ⟨0x10012c, 0, 8, 0x4⟩
def HLK_LP_STATUS_IN_LP : Fld := ⟨0x100130, 0, 1, 0x4⟩
def HLK_LP_STATUS_EXIT_CAUSE : Fld := ⟨0x100130, 1, 2, 0x4⟩
def HLK_LP_STATUS_UNILATERAL : Fld := ⟨0x100130, 3, 1, 0x4⟩
def HLK_TS_OFFSET_NS : Fld := ⟨0x100134, 0, 16, 0x4⟩
def HLK_TICK_TS_LO_NS : Fld := ⟨0x100138, 0, 30, 0x4⟩
def HLK_TICK_TS_HI_S : Fld := ⟨0x10013c, 0, 32, 0x4⟩
def HLK_BAD_PKT_OP : Fld := ⟨0x100140, 0, 8, 0x4⟩
def HLK_BAD_PKT_CTX : Fld := ⟨0x100140, 8, 1, 0x4⟩
def HLK_BAD_PKT_VC : Fld := ⟨0x100140, 9, 2, 0x4⟩
def HLK_BAD_PKT_REASON : Fld := ⟨0x100140, 12, 4, 0x4⟩
def HLK_BAD_PKT_TAG : Fld := ⟨0x100140, 16, 16, 0x4⟩
def HLK_OUTSTANDING_CTX0 : Fld := ⟨0x100144, 0, 8, 0x4⟩
def HLK_OUTSTANDING_CTX1 : Fld := ⟨0x100144, 8, 8, 0x4⟩
def HLK_EVENT_PEND_PENDING : Fld := ⟨0x100148, 0, 1, 0x4⟩
def HLK_EVENT_PEND_MERGED : Fld := ⟨0x100148, 1, 1, 0x4⟩
def HLK_DOWN_INFO_CAUSE : Fld := ⟨0x100150, 0, 4, 0x4⟩
def HLK_DOWN_INFO_FIELD : Fld := ⟨0x100150, 16, 16, 0x4⟩
def HLK_TX_LAST_FLITS : Fld := ⟨0x100154, 0, 32, 0x4⟩
def HLK_RX_LAST_FLITS : Fld := ⟨0x100158, 0, 32, 0x4⟩
def HLK_EYE_CTRL_LANE : Fld := ⟨0x10015c, 0, 4, 0x4⟩
def HLK_EYE_CTRL_START : Fld := ⟨0x10015c, 7, 1, 0x4⟩
def HLK_EYE_RESULT_WIDTH : Fld := ⟨0x100160, 0, 8, 0x4⟩
def HLK_EYE_RESULT_HEIGHT : Fld := ⟨0x100160, 8, 8, 0x4⟩
def HLK_EYE_RESULT_VALID : Fld := ⟨0x100160, 16, 1, 0x4⟩
def HLK_TEST_CTRL_PRBS : Fld := ⟨0x100164, 0, 1, 0x4⟩
def HLK_TEST_RESULT_ERRORS : Fld := ⟨0x100168, 0, 32, 0x4⟩
def HLK_INJECT_CRC : Fld := ⟨0x10016c, 0, 1, 0x4⟩
def HLK_DMA_CTRL_RD_MAX : Fld := ⟨0x100170, 0, 5, 0x4⟩
def HLK_SCENE_CTRL_ENABLE : Fld := ⟨0x100200, 0, 1, 0x4⟩
def HLK_SCENE_CTRL_SRC_CTX : Fld := ⟨0x100200, 1, 1, 0x4⟩
def HLK_SCENE_CTRL_ALIVE_STEP : Fld := ⟨0x100200, 8, 8, 0x4⟩
def HLK_RING_BASE_LO_ADDR_LO : Fld := ⟨0x100204, 12, 20, 0x4⟩
def HLK_RING_BASE_HI_ADDR_HI : Fld := ⟨0x100208, 0, 8, 0x4⟩
def HLK_SLOT_SIZE_UNITS : Fld := ⟨0x10020c, 0, 20, 0x4⟩
def HLK_RING_STATUS_USE_SLOT : Fld := ⟨0x100210, 0, 2, 0x4⟩
def HLK_RING_STATUS_USE_VALID : Fld := ⟨0x100210, 2, 1, 0x4⟩
def HLK_RING_STATUS_READY_SLOT : Fld := ⟨0x100210, 3, 2, 0x4⟩
def HLK_RING_STATUS_READY_VALID : Fld := ⟨0x100210, 5, 1, 0x4⟩
def HLK_RING_STATUS_QUEUED_SLOT : Fld := ⟨0x100210, 6, 2, 0x4⟩
def HLK_RING_STATUS_QUEUED_VALID : Fld := ⟨0x100210, 8, 1, 0x4⟩
def HLK_RING_STATUS_FILL_SLOT : Fld := ⟨0x100210, 9, 2, 0x4⟩
def HLK_RING_STATUS_FILL_VALID : Fld := ⟨0x100210, 11, 1, 0x4⟩
def HLK_RING_STATUS_CREDIT_HELD : Fld := ⟨0x100210, 12, 1, 0x4⟩
def HLK_FILL_BYTES_BYTES : Fld := ⟨0x100214, 0, 32, 0x4⟩
def HLK_USE_INFO_ALIVE : Fld := ⟨0x100218, 0, 16, 0x4⟩
def HLK_USE_INFO_TIMED : Fld := ⟨0x100218, 16, 1, 0x4⟩
def HLK_USE_INFO_REPEATED : Fld := ⟨0x100218, 17, 1, 0x4⟩
def HLK_USE_FRAME_FRAME : Fld := ⟨0x10021c, 0, 32, 0x4⟩
def HLK_LAST_DISCARD_REASON : Fld := ⟨0x100220, 0, 8, 0x4⟩
def HLK_LAST_DISCARD_ALIVE : Fld := ⟨0x100220, 16, 16, 0x4⟩
def HLK_USE_TIME_NS_NS : Fld := ⟨0x100224, 0, 32, 0x4⟩
def HLK_USE_TIME_S_S : Fld := ⟨0x100228, 0, 32, 0x4⟩
def HLK_TX_SET_SWING : Fld := ⟨0x100300, 0, 4, 0x4⟩
def HLK_TX_SET_POST : Fld := ⟨0x100300, 4, 4, 0x4⟩
def HLK_RX_EQ_PEAK : Fld := ⟨0x100340, 0, 5, 0x4⟩
def HLK_LANE_ERR_MKR : Fld := ⟨0x100380, 0, 16, 0x4⟩
def CDC_JOB_BASE_LO_ADDR_LO : Fld := ⟨0x200100, 6, 26, 0x4⟩
def CDC_JOB_BASE_HI_ADDR_HI : Fld := ⟨0x200104, 0, 8, 0x4⟩
def CDC_JOB_SIZE_ENTRIES : Fld := ⟨0x200108, 0, 9, 0x4⟩
def CDC_JOB_HEAD_HEAD : Fld := ⟨0x20010c, 0, 8, 0x4⟩
def CDC_JOB_TAIL_TAIL : Fld := ⟨0x200110, 0, 8, 0x4⟩
def CDC_JOB_TAIL_RUNNING : Fld := ⟨0x200110, 8, 1, 0x4⟩
def CDC_JOB_TAIL_WAITING : Fld := ⟨0x200110, 9, 1, 0x4⟩
def CDC_JOB_ABORT_INDEX : Fld := ⟨0x200114, 0, 8, 0x4⟩
def CDC_JOB_ABORT_ALL : Fld := ⟨0x200114, 31, 1, 0x4⟩
def CDC_FLUSH_FLUSH : Fld := ⟨0x200118, 0, 1, 0x4⟩
def CDC_FIELD_CTRL_RATIO : Fld := ⟨0x200120, 0, 1, 0x4⟩
def CDC_PIPE_WEIGHT_OVL_WT : Fld := ⟨0x200124, 0, 4, 0x4⟩
def CDC_PIPE_WEIGHT_JOB_WT : Fld := ⟨0x200124, 4, 4, 0x4⟩
def CDC_LAST_CHECK_LAYER : Fld := ⟨0x200128, 0, 4, 0x4⟩
def CDC_LAST_CHECK_GROUP : Fld := ⟨0x200128, 4, 24, 0x4⟩
def MEM0_CFG_RATE : Fld := ⟨0x300100, 0, 2, 0x4⟩
def MEM0_CFG_CHANNELS : Fld := ⟨0x300100, 8, 4, 0x4⟩
def MEM0_CFG_SIZE_LOG2 : Fld := ⟨0x300100, 12, 4, 0x4⟩
def MEM0_MAP_MASK_MASK : Fld := ⟨0x300110, 0, 21, 0x4⟩
def MEM0_PORT_QOS_LAT_TARGET : Fld := ⟨0x300130, 0, 16, 0x4⟩
def MEM0_PORT_QOS_WEIGHT : Fld := ⟨0x300130, 16, 4, 0x4⟩
def MEM0_FOG_STATUS_P3 : Fld := ⟨0x300150, 0, 1, 0x4⟩
def MEM0_FOG_STATUS_P4 : Fld := ⟨0x300150, 1, 1, 0x4⟩
def MEM0_QUIET_CHANNEL : Fld := ⟨0x300160, 0, 4, 0x4⟩
def MEM0_QUIET_KIND : Fld := ⟨0x300160, 4, 1, 0x4⟩
def MEM0_TRAIN_CTRL_TRACK_PERIOD : Fld := ⟨0x300164, 0, 8, 0x4⟩
def MEM0_TRAIN_CTRL_DRIFT : Fld := ⟨0x300164, 8, 4, 0x4⟩
def MEM0_TRAIN_CTRL_TRACK_MIN : Fld := ⟨0x300164, 12, 8, 0x4⟩
def MEM0_TRAIN_REQ_TRACK : Fld := ⟨0x300168, 0, 8, 0x4⟩
def MEM0_TRAIN_REQ_RETRAIN : Fld := ⟨0x300168, 8, 8, 0x4⟩
def MEM0_MAP_STATUS_LIVE : Fld := ⟨0x300170, 0, 8, 0x4⟩
def MEM0_MAP_STATUS_LIMIT : Fld := ⟨0x300170, 8, 8, 0x4⟩
def MEM0_MAP_STATUS_FOLDED : Fld := ⟨0x300170, 16, 1, 0x4⟩
def MEM0_RETIRE_CTRL_RETRY : Fld := ⟨0x300174, 0, 8, 0x4⟩
def MEM0_RETRY_RESULT_CHANNEL : Fld := ⟨0x300178, 0, 4, 0x4⟩
def MEM0_RETRY_RESULT_OUTCOME : Fld := ⟨0x300178, 4, 2, 0x4⟩
def MEM0_PORT_BYTES_UNITS : Fld := ⟨0x300180, 0, 32, 0x4⟩
def MEM0_LAT_MAX_NS : Fld := ⟨0x3001a0, 0, 16, 0x4⟩
def MEMC_CH_STATUS_STATE : Fld := ⟨0x300100, 0, 2, 0x4⟩
def MEMC_CH_STATUS_RATE2X : Fld := ⟨0x300100, 2, 1, 0x4⟩
def MEMC_CH_STATUS_OWED_A : Fld := ⟨0x300100, 3, 4, 0x4⟩
def MEMC_CH_STATUS_OWED_B : Fld := ⟨0x300100, 7, 4, 0x4⟩
def MEMC_CH_STATUS_TEMP : Fld := ⟨0x300100, 16, 8, 0x4⟩
def MEMC_DOUBLE_READ_BANKS : Fld := ⟨0x300104, 0, 32, 0x4⟩
def MEMC_TRAIN_RESULT_KIND : Fld := ⟨0x300108, 0, 1, 0x4⟩
def MEMC_TRAIN_RESULT_OUTCOME : Fld := ⟨0x300108, 1, 2, 0x4⟩
def MEMC_TRAIN_RESULT_MARGIN : Fld := ⟨0x300108, 8, 8, 0x4⟩
def MEMC_TRAIN_RESULT_FIELD : Fld := ⟨0x300108, 16, 16, 0x4⟩
def MEMC_TRAIN_TEMP_TEMP : Fld := ⟨0x30010c, 0, 8, 0x4⟩
def MEMC_INJECT_PARITY : Fld := ⟨0x300110, 0, 1, 0x4⟩
def MEMC_REFRESH_CFG_POSTPONE_MAX : Fld := ⟨0x300114, 0, 4, 0x4⟩
def TLK_NODE_CFG_ID : Fld := ⟨0x400100, 0, 6, 0x4⟩
def TLK_NODE_CFG_PAIRED : Fld := ⟨0x400100, 6, 1, 0x4⟩
def TLK_NODE_CFG_SIDE : Fld := ⟨0x400100, 7, 1, 0x4⟩
def TLK_NODE_CFG_TENDER : Fld := ⟨0x400100, 8, 1, 0x4⟩
def TLK_PORT_CTRL_EN : Fld := ⟨0x400104, 0, 4, 0x4⟩
def TLK_PORT_CTRL_SPLIT : Fld := ⟨0x400104, 4, 3, 0x4⟩
def TLK_PORT_STATUS_STATE_U : Fld := ⟨0x400108, 0, 2, 0x4⟩
def TLK_PORT_STATUS_LOCK_U : Fld := ⟨0x400108, 2, 2, 0x4⟩
def TLK_PORT_STATUS_STATE_D0 : Fld := ⟨0x400108, 4, 2, 0x4⟩
def TLK_PORT_STATUS_LOCK_D0 : Fld := ⟨0x400108, 6, 2, 0x4⟩
def TLK_PORT_STATUS_STATE_D1 : Fld := ⟨0x400108, 8, 2, 0x4⟩
def TLK_PORT_STATUS_LOCK_D1 : Fld := ⟨0x400108, 10, 2, 0x4⟩
def TLK_PORT_STATUS_STATE_P : Fld := ⟨0x400108, 12, 2, 0x4⟩
def TLK_PORT_STATUS_LOCK_P : Fld := ⟨0x400108, 14, 2, 0x4⟩
def TLK_JOIN_STATUS_STATE : Fld := ⟨0x40010c, 0, 2, 0x4⟩
def TLK_JOIN_STATUS_DETACHED : Fld := ⟨0x40010c, 2, 1, 0x4⟩
def TLK_JOIN_STATUS_DEPTH : Fld := ⟨0x40010c, 4, 3, 0x4⟩
def TLK_JOIN_STATUS_REASON : Fld := ⟨0x40010c, 8, 4, 0x4⟩
def TLK_WALL_CTRL_SCENE_SYNC : Fld := ⟨0x400110, 0, 1, 0x4⟩
def TLK_WALL_CTRL_BARRIER_DELAY : Fld := ⟨0x400110, 8, 8, 0x4⟩
def TLK_WALL_CTRL_SUM_WAIT : Fld := ⟨0x400110, 16, 8, 0x4⟩
def TLK_WALL_CTRL_LEAVE_FIELDS : Fld := ⟨0x400110, 24, 4, 0x4⟩
def TLK_WALL_STATE_LEVEL : Fld := ⟨0x400114, 0, 3, 0x4⟩
def TLK_WALL_STATE_BIND : Fld := ⟨0x400114, 3, 1, 0x4⟩
def TLK_WALL_STATE_ANNOUNCED : Fld := ⟨0x400114, 4, 1, 0x4⟩
def TLK_WALL_STATE_MEMBERS : Fld := ⟨0x400114, 8, 7, 0x4⟩
def TLK_WALL_STATE_BRIGHT_CAP : Fld := ⟨0x400114, 16, 16, 0x4⟩
def TLK_MEMBERS_LO_MAP : Fld := ⟨0x400118, 0, 32, 0x4⟩
def TLK_MEMBERS_HI_MAP : Fld := ⟨0x40011c, 0, 32, 0x4⟩
def TLK_WALL_ERR_LO_MAP : Fld := ⟨0x400120, 0, 32, 0x4⟩
def TLK_WALL_ERR_HI_MAP : Fld := ⟨0x400124, 0, 32, 0x4⟩
def TLK_WALL_SUM_LEVEL_WANT : Fld := ⟨0x400128, 0, 3, 0x4⟩
def TLK_WALL_SUM_FLAGS : Fld := ⟨0x400128, 3, 5, 0x4⟩
def TLK_WALL_SUM_BUDGET_MAX : Fld := ⟨0x400128, 16, 11, 0x4⟩
def TLK_WALL_LATE_TILES : Fld := ⟨0x40012c, 0, 32, 0x4⟩
def TLK_JOIN_REFUSED_ID : Fld := ⟨0x400130, 0, 6, 0x4⟩
def TLK_JOIN_REFUSED_REASON : Fld := ⟨0x400130, 8, 4, 0x4⟩
def TLK_JOIN_REFUSED_VALID : Fld := ⟨0x400130, 31, 1, 0x4⟩
def TLK_MODE_SCHED_TARGET : Fld := ⟨0x400134, 0, 3, 0x4⟩
def TLK_MODE_SCHED_PENDING : Fld := ⟨0x400134, 3, 1, 0x4⟩
def TLK_MODE_SCHED_TIMING : Fld := ⟨0x400134, 8, 8, 0x4⟩
def TLK_MODE_SCHED_AT : Fld := ⟨0x400134, 16, 16, 0x4⟩
def TLK_PAIR_CTRL_MIRROR : Fld := ⟨0x400140, 0, 1, 0x4⟩
def TLK_PAIR_CTRL_RELEASE : Fld := ⟨0x400140, 1, 1, 0x4⟩
def TLK_PAIR_CTRL_DIVERGE_LIMIT : Fld := ⟨0x400140, 4, 4, 0x4⟩
def TLK_PAIR_CTRL_HB_WAIT : Fld := ⟨0x400140, 8, 8, 0x4⟩
def TLK_PAIR_STATUS_OWN : Fld := ⟨0x400144, 0, 1, 0x4⟩
def TLK_PAIR_STATUS_PARTNER_OWN : Fld := ⟨0x400144, 1, 1, 0x4⟩
def TLK_PAIR_STATUS_MISSED : Fld := ⟨0x400144, 2, 2, 0x4⟩
def TLK_PAIR_STATUS_DIVERGED : Fld := ⟨0x400144, 4, 1, 0x4⟩
def TLK_PAIR_STATUS_BLOCKED : Fld := ⟨0x400144, 5, 1, 0x4⟩
def TLK_PAIR_STATUS_PARTNER_MODE : Fld := ⟨0x400144, 6, 3, 0x4⟩
def TLK_PAIR_STATUS_PARTNER_ELIGIBLE : Fld := ⟨0x400144, 9, 1, 0x4⟩
def TLK_PAIR_STATUS_PARTNER_FIELD : Fld := ⟨0x400144, 16, 16, 0x4⟩
def TLK_DAYMARK_DIFF_REGIONS : Fld := ⟨0x400148, 0, 16, 0x4⟩
def TLK_REMOTE_ADDR_LO_ADDR : Fld := ⟨0x400150, 0, 32, 0x4⟩
def TLK_REMOTE_ADDR_HI_ADDR : Fld := ⟨0x400154, 0, 32, 0x4⟩
def TLK_REMOTE_DATA_DATA : Fld := ⟨0x400158, 0, 32, 0x4⟩
def TLK_REMOTE_CTRL_DEST : Fld := ⟨0x40015c, 0, 7, 0x4⟩
def TLK_REMOTE_CTRL_WRITE : Fld := ⟨0x40015c, 7, 1, 0x4⟩
def TLK_REMOTE_CTRL_GO : Fld := ⟨0x40015c, 8, 1, 0x4⟩
def TLK_REMOTE_CTRL_BUSY : Fld := ⟨0x40015c, 9, 1, 0x4⟩
def TLK_REMOTE_CTRL_STATUS : Fld := ⟨0x40015c, 16, 8, 0x4⟩
def TLK_TX_SET_SWING : Fld := ⟨0x400300, 0, 4, 0x4⟩
def TLK_TX_SET_POST : Fld := ⟨0x400300, 4, 4, 0x4⟩
def TLK_LANE_ERR_MKR : Fld := ⟨0x400340, 0, 16, 0x4⟩
def RAY_SYN_CTRL_SKIP_EN : Fld := ⟨0x500100, 0, 1, 0x4⟩
def RAY_SYN_CTRL_SPARSE_SKIP : Fld := ⟨0x500100, 1, 1, 0x4⟩
def RAY_SYN_CTRL_NEAREST_EN : Fld := ⟨0x500100, 2, 1, 0x4⟩
def RAY_SYN_CTRL_HALF_V : Fld := ⟨0x500100, 3, 1, 0x4⟩
def RAY_SYN_CTRL_FOLD : Fld := ⟨0x500100, 4, 1, 0x4⟩
def RAY_SYN_CTRL_ZERO_DIR : Fld := ⟨0x500100, 5, 1, 0x4⟩
def RAY_SYN_CTRL_ORDER : Fld := ⟨0x500100, 6, 2, 0x4⟩
def RAY_SYN_CTRL_ET_THRESH : Fld := ⟨0x500100, 8, 12, 0x4⟩
def RAY_NEAREST_Z_Z : Fld := ⟨0x500104, 0, 32, 0x4⟩
def RAY_FLATWIN_FILL_CODE : Fld := ⟨0x500108, 0, 30, 0x4⟩
def RAY_CTX_BASE_LO_ADDR_LO : Fld := ⟨0x50010c, 23, 9, 0x4⟩
def RAY_CTX_BASE_HI_ADDR_HI : Fld := ⟨0x500110, 0, 8, 0x4⟩
def RAY_L2_BASE_LO_ADDR_LO : Fld := ⟨0x500114, 23, 9, 0x4⟩
def RAY_L2_BASE_HI_ADDR_HI : Fld := ⟨0x500118, 0, 8, 0x4⟩
def RAY_CLUSTER_EN_EN : Fld := ⟨0x50011c, 0, 32, 0x4⟩
def RAY_CLUSTER_OUT_OUT : Fld := ⟨0x500120, 0, 32, 0x4⟩
def RAY_CLUSTER_WT_WT : Fld := ⟨0x500130, 0, 32, 0x4⟩
def RAY_CLASS_GRID_CLASS : Fld := ⟨0x500140, 0, 32, 0x4⟩
def RAY_TILE_PROBE_TILE : Fld := ⟨0x500200, 0, 20, 0x4⟩
def RAY_PROBE_LO_CTX : Fld := ⟨0x500204, 0, 32, 0x4⟩
def RAY_PROBE_HI_CTX : Fld := ⟨0x500208, 0, 32, 0x4⟩
def RAY_FIELD_STATUS_SECTOR : Fld := ⟨0x50020c, 0, 3, 0x4⟩
def RAY_FIELD_STATUS_SYNTH_DONE : Fld := ⟨0x50020c, 3, 1, 0x4⟩
def RAY_FIELD_STATUS_FOLDED_IDLE : Fld := ⟨0x50020c, 4, 1, 0x4⟩
def RAY_FIELD_STATUS_TILES_LEFT : Fld := ⟨0x50020c, 12, 20, 0x4⟩
def RAY_LATE_LAST_TILES : Fld := ⟨0x500210, 0, 20, 0x4⟩
def RAY_PARITY_TILE_TILE : Fld := ⟨0x500214, 0, 20, 0x4⟩
def RAY_PARITY_TILE_FILLED : Fld := ⟨0x500214, 20, 1, 0x4⟩
def RAY_STALL_LAST_CYCLES : Fld := ⟨0x500218, 0, 32, 0x4⟩
def LNS_LENS_PITCH_PITCH : Fld := ⟨0x600100, 0, 24, 0x4⟩
def LNS_LENS_PITCH_N_SP : Fld := ⟨0x600100, 24, 8, 0x4⟩
def LNS_LENS_SLANT_SLANT : Fld := ⟨0x600104, 0, 32, 0x4⟩
def LNS_LENS_PHASE_PHASE : Fld := ⟨0x600108, 0, 24, 0x4⟩
def LNS_SPREAD_X_SPREAD : Fld := ⟨0x60010c, 0, 20, 0x4⟩
def LNS_SPREAD_Y_SPREAD : Fld := ⟨0x600110, 0, 20, 0x4⟩
def LNS_TMAX_TMAX_X : Fld := ⟨0x600114, 0, 16, 0x4⟩
def LNS_TMAX_TMAX_Y : Fld := ⟨0x600114, 16, 16, 0x4⟩
def LNS_PIXEL_PITCH_NM : Fld := ⟨0x600118, 0, 20, 0x4⟩
def LNS_SEC_G_GX : Fld := ⟨0x600120, 0, 16, 0x4⟩
def LNS_SEC_G_GY : Fld := ⟨0x600120, 16, 16, 0x4⟩
def LNS_GRID_CFG_NX : Fld := ⟨0x600140, 0, 10, 0x4⟩
def LNS_GRID_CFG_NY : Fld := ⟨0x600140, 16, 10, 0x4⟩
def LNS_GRID_CFG_STEP_LOG2 : Fld := ⟨0x600140, 28, 3, 0x4⟩
def LNS_GRID_CFG_GRID_EN : Fld := ⟨0x600140, 31, 1, 0x4⟩
def LNS_GRID_BASE_LO_ADDR_LO : Fld := ⟨0x600144, 12, 20, 0x4⟩
def LNS_GRID_BASE_HI_ADDR_HI : Fld := ⟨0x600148, 0, 8, 0x4⟩
def LNS_CHAN_SECTOR_SECTOR : Fld := ⟨0x600150, 0, 32, 0x4⟩
def LNS_ZONE_GX_MIN : Fld := ⟨0x600180, 0, 16, 0x4⟩
def LNS_ZONE_GX_MAX : Fld := ⟨0x600180, 16, 16, 0x4⟩
def LNS_ZONE_GY_MIN : Fld := ⟨0x6001a0, 0, 16, 0x4⟩
def LNS_ZONE_GY_MAX : Fld := ⟨0x6001a0, 16, 16, 0x4⟩
def LNS_ZONE_CTRL_EN : Fld := ⟨0x6001c0, 0, 8, 0x4⟩
def LNS_CHECK_INFO_REASON : Fld := ⟨0x6001c4, 0, 8, 0x4⟩
def LNS_ZONE_TILES_TILES : Fld := ⟨0x6001e0, 0, 20, 0x4⟩
def LNS_ZONE_TILES_SECTOR : Fld := ⟨0x6001e0, 20, 3, 0x4⟩
def LNS_PROBE_SEL_SUBCOL : Fld := ⟨0x600200, 0, 16, 0x4⟩
def LNS_PROBE_SEL_ROW : Fld := ⟨0x600200, 16, 14, 0x4⟩
def LNS_PROBE_CTRL_SECTOR : Fld := ⟨0x600204, 0, 3, 0x4⟩
def LNS_PROBE_CTRL_FOLD : Fld := ⟨0x600204, 3, 1, 0x4⟩
def LNS_PROBE_X_XS : Fld := ⟨0x600208, 0, 32, 0x4⟩
def LNS_PROBE_Y_YS : Fld := ⟨0x60020c, 0, 32, 0x4⟩
def LNS_PROBE_GX_GX : Fld := ⟨0x600210, 0, 32, 0x4⟩
def LNS_PROBE_GY_GY : Fld := ⟨0x600214, 0, 32, 0x4⟩
def LNS_PROBE_PHASE_PHI : Fld := ⟨0x600218, 0, 16, 0x4⟩
def LNS_PROBE_PHASE_VIEW : Fld := ⟨0x600218, 16, 8, 0x4⟩
def LNS_PROBE_PHASE_CLAMP_X : Fld := ⟨0x600218, 24, 1, 0x4⟩
def LNS_PROBE_PHASE_CLAMP_Y : Fld := ⟨0x600218, 25, 1, 0x4⟩
def FST_FBUF_BASE0_LO_ADDR_LO : Fld := ⟨0x700100, 12, 20, 0x4⟩
def FST_FBUF_BASE0_HI_ADDR_HI : Fld := ⟨0x700104, 0, 8, 0x4⟩
def FST_FBUF_BASE1_LO_ADDR_LO : Fld := ⟨0x700108, 12, 20, 0x4⟩
def FST_FBUF_BASE1_HI_ADDR_HI : Fld := ⟨0x70010c, 0, 8, 0x4⟩
def FST_OH4_BASE_LO_ADDR_LO : Fld := ⟨0x700110, 12, 20, 0x4⟩
def FST_OH4_BASE_HI_ADDR_HI : Fld := ⟨0x700114, 0, 8, 0x4⟩
def FST_FBUF_SIZE_BYTES : Fld := ⟨0x700118, 0, 28, 0x4⟩
def FST_OH4_SIZE_BYTES : Fld := ⟨0x70011c, 0, 28, 0x4⟩
def FST_FBUF_STATUS_READ : Fld := ⟨0x700120, 0, 1, 0x4⟩
def FST_FBUF_STATUS_SWAP_SKIPPED : Fld := ⟨0x700120, 1, 1, 0x4⟩
def FST_FBUF_STATUS_CLEARED : Fld := ⟨0x700120, 2, 1, 0x4⟩
def FST_MASTER_PRI_CLASS : Fld := ⟨0x700124, 0, 16, 0x4⟩
def FST_AGE_LIMIT_CYCLES : Fld := ⟨0x700128, 0, 16, 0x4⟩
def FST_CONFLICT_CTRL_CLR : Fld := ⟨0x70012c, 0, 1, 0x4⟩
def FST_PARITY_INFO_BANK : Fld := ⟨0x700130, 0, 7, 0x4⟩
def FST_PARITY_INFO_MASTER : Fld := ⟨0x700130, 7, 3, 0x4⟩
def FST_PARITY_INFO_ROW : Fld := ⟨0x700130, 10, 11, 0x4⟩
def FST_PARITY_INFO_VALID : Fld := ⟨0x700130, 31, 1, 0x4⟩
def FST_CONFLICT_CYCLES : Fld := ⟨0x700140, 0, 32, 0x4⟩
def FST_WAIT_MAX_CYCLES : Fld := ⟨0x700160, 0, 16, 0x4⟩
def BLT_RING_BASE_LO_ADDR_LO : Fld := ⟨0x800100, 6, 26, 0x4⟩
def BLT_RING_BASE_HI_ADDR_HI : Fld := ⟨0x800104, 0, 8, 0x4⟩
def BLT_RING_HEAD_HEAD : Fld := ⟨0x800108, 0, 8, 0x4⟩
def BLT_RING_TAIL_TAIL : Fld := ⟨0x80010c, 0, 8, 0x4⟩
def BLT_RING_TAIL_RUNNING : Fld := ⟨0x80010c, 8, 1, 0x4⟩
def BLT_RING_TAIL_WAITING : Fld := ⟨0x80010c, 9, 1, 0x4⟩
def BLT_RING_TAIL_HELD : Fld := ⟨0x80010c, 10, 1, 0x4⟩
def BLT_ABORT_INDEX : Fld := ⟨0x800110, 0, 8, 0x4⟩
def BLT_ABORT_ALL : Fld := ⟨0x800110, 31, 1, 0x4⟩
def BLT_PROGRESS_LINE : Fld := ⟨0x800114, 0, 16, 0x4⟩
def BLT_PROGRESS_ROWS : Fld := ⟨0x800114, 16, 16, 0x4⟩
def BLT_LAST_DONE_INDEX : Fld := ⟨0x800118, 0, 8, 0x4⟩
def BLT_LAST_DONE_STATUS : Fld := ⟨0x800118, 8, 8, 0x4⟩
def BLT_LAST_DONE_TAG : Fld := ⟨0x800118, 16, 16, 0x4⟩
def BLT_INVALID_INFO_INDEX : Fld := ⟨0x80011c, 0, 8, 0x4⟩
def BLT_INVALID_INFO_WORD : Fld := ⟨0x80011c, 8, 6, 0x4⟩
def BLT_BEAM_CTRL_MARGIN : Fld := ⟨0x800120, 0, 8, 0x4⟩
def BLT_PIPE_EN_EN : Fld := ⟨0x800124, 0, 4, 0x4⟩
def BLT_RATE_UNITS : Fld := ⟨0x800128, 0, 16, 0x4⟩
def BLT_BEAM_STATUS_ROW : Fld := ⟨0x80012c, 0, 16, 0x4⟩
def BLT_BEAM_STATUS_VALID : Fld := ⟨0x80012c, 16, 1, 0x4⟩
def BLT_PIX_LAST_PIXELS : Fld := ⟨0x800130, 0, 32, 0x4⟩
def BLT_HOLD_LAST_CYCLES : Fld := ⟨0x800134, 0, 32, 0x4⟩
def BLT_RD_LAST_UNITS : Fld := ⟨0x800138, 0, 32, 0x4⟩
def BLT_WR_LAST_UNITS : Fld := ⟨0x80013c, 0, 32, 0x4⟩
def BLT_RING_COUNT_POSTED : Fld := ⟨0x800140, 0, 9, 0x4⟩
def BLT_FW_CTRL_EN : Fld := ⟨0x800200, 0, 16, 0x4⟩
def BLT_FW_STATE_STATE : Fld := ⟨0x800204, 0, 32, 0x4⟩
def BLT_FW_INFORCE_SYN : Fld := ⟨0x800208, 0, 16, 0x4⟩
def BLT_FW_INFORCE_OUT : Fld := ⟨0x800208, 16, 16, 0x4⟩
def BLT_FW_REFUSED_SLOT : Fld := ⟨0x80020c, 0, 4, 0x4⟩
def BLT_FW_REFUSED_REASON : Fld := ⟨0x80020c, 4, 4, 0x4⟩
def BLT_FW_REFUSED_VALID : Fld := ⟨0x80020c, 31, 1, 0x4⟩
def BLT_FW_EVENT_SLOT : Fld := ⟨0x800210, 0, 4, 0x4⟩
def BLT_FW_EVENT_STATE : Fld := ⟨0x800210, 4, 2, 0x4⟩
def BLT_FW_EVENT_FIELD : Fld := ⟨0x800210, 16, 16, 0x4⟩
def BLT_FW_ALIGN_AX : Fld := ⟨0x800214, 0, 16, 0x4⟩
def BLT_FW_ALIGN_AY : Fld := ⟨0x800214, 16, 16, 0x4⟩
def BLT_CHECK_INFO_REASON : Fld := ⟨0x800218, 0, 8, 0x4⟩
def BLT_FW_TL_X0 : Fld := ⟨0x800240, 0, 16, 0x4⟩
def BLT_FW_TL_Y0 : Fld := ⟨0x800240, 16, 16, 0x4⟩
def BLT_FW_BR_X1 : Fld := ⟨0x800280, 0, 16, 0x4⟩
def BLT_FW_BR_Y1 : Fld := ⟨0x800280, 16, 16, 0x4⟩
def SCN_TIMING_MODE : Fld := ⟨0x900100, 0, 8, 0x4⟩
def SCN_NATIVE_WIDTH : Fld := ⟨0x900104, 0, 16, 0x4⟩
def SCN_NATIVE_HEIGHT : Fld := ⟨0x900104, 16, 16, 0x4⟩
def SCN_PORT_CTRL_PORT_B : Fld := ⟨0x900108, 0, 2, 0x4⟩
def SCN_BASE_LF_ADDR : Fld := ⟨0x900110, 0, 28, 0x4⟩
def SCN_BASE_LF_SRC : Fld := ⟨0x900110, 28, 1, 0x4⟩
def SCN_BASE_LF_RATIO : Fld := ⟨0x900110, 29, 1, 0x4⟩
def SCN_LINEBUF_BASE_ADDR : Fld := ⟨0x900114, 0, 28, 0x4⟩
def SCN_FETCH_CTRL_FOG_MARK : Fld := ⟨0x900120, 0, 8, 0x4⟩
def SCN_FETCH_CTRL_PREFETCH : Fld := ⟨0x900120, 8, 8, 0x4⟩
def SCN_DRIVE_ARB_GUARD : Fld := ⟨0x900124, 0, 8, 0x4⟩
def SCN_PLANE_CTRL_EN : Fld := ⟨0x900140, 0, 1, 0x20⟩
def SCN_PLANE_CTRL_FMT : Fld := ⟨0x900140, 1, 3, 0x20⟩
def SCN_PLANE_CTRL_OPAQUE_EN : Fld := ⟨0x900140, 4, 1, 0x20⟩
def SCN_PLANE_CTRL_GALPHA : Fld := ⟨0x900140, 8, 8, 0x20⟩
def SCN_PLANE_BASE_ADDR : Fld := ⟨0x900144, 0, 28, 0x20⟩
def SCN_PLANE_PITCH_BYTES : Fld := ⟨0x900148, 0, 24, 0x20⟩
def SCN_PLANE_SRC_SX : Fld := ⟨0x90014c, 0, 16, 0x20⟩
def SCN_PLANE_SRC_SY : Fld := ⟨0x90014c, 16, 16, 0x20⟩
def SCN_PLANE_DST_DX : Fld := ⟨0x900150, 0, 16, 0x20⟩
def SCN_PLANE_DST_DY : Fld := ⟨0x900150, 16, 16, 0x20⟩
def SCN_PLANE_SIZE_W : Fld := ⟨0x900154, 0, 16, 0x20⟩
def SCN_PLANE_SIZE_H : Fld := ⟨0x900154, 16, 16, 0x20⟩
def SCN_OPAQUE_TL_X0 : Fld := ⟨0x900158, 0, 16, 0x20⟩
def SCN_OPAQUE_TL_Y0 : Fld := ⟨0x900158, 16, 16, 0x20⟩
def SCN_OPAQUE_BR_X1 : Fld := ⟨0x90015c, 0, 16, 0x20⟩
def SCN_OPAQUE_BR_Y1 : Fld := ⟨0x90015c, 16, 16, 0x20⟩
def SCN_DAYMARK_CTRL_K : Fld := ⟨0x900200, 0, 8, 0x4⟩
def SCN_DAYMARK_CTRL_ACTION : Fld := ⟨0x900200, 8, 1, 0x4⟩
def SCN_DAYMARK_STATUS_REGION : Fld := ⟨0x900204, 0, 4, 0x4⟩
def SCN_DAYMARK_STATUS_SECTOR : Fld := ⟨0x900204, 4, 3, 0x4⟩
def SCN_DAYMARK_STATUS_ALARM : Fld := ⟨0x900204, 7, 1, 0x4⟩
def SCN_DAYMARK_STATUS_MAX_COUNT : Fld := ⟨0x900204, 8, 8, 0x4⟩
def SCN_LINE_STATUS_LINE : Fld := ⟨0x900210, 0, 14, 0x4⟩
def SCN_LINE_STATUS_ACTIVE : Fld := ⟨0x900210, 14, 1, 0x4⟩
def SCN_LINE_STATUS_SECTOR : Fld := ⟨0x900210, 15, 3, 0x4⟩
def SCN_LINE_STATUS_FIELD : Fld := ⟨0x900210, 18, 14, 0x4⟩
def SCN_UNDERRUN_PLANES : Fld := ⟨0x900214, 1, 4, 0x4⟩
def SCN_LINE_PERIOD_PS : Fld := ⟨0x900218, 0, 24, 0x4⟩
def SCN_CHECK_INFO_REASON : Fld := ⟨0x90021c, 0, 8, 0x4⟩
def SCN_DAYMARK_SIG_SIG : Fld := ⟨0x900240, 0, 32, 0x4⟩
def SCN_DAYMARK_DIGEST_DIGEST : Fld := ⟨0x900280, 0, 32, 0x4⟩
def PCN_PRE_CTRL_MATRIX_EN : Fld := ⟨0xa00100, 0, 1, 0x4⟩
def PCN_PRE_CTRL_TM_EN : Fld := ⟨0xa00100, 1, 1, 0x4⟩
def PCN_PRE_CTRL_RESP_EN : Fld := ⟨0xa00100, 2, 1, 0x4⟩
def PCN_PRE_CTRL_KEY : Fld := ⟨0xa00100, 3, 2, 0x4⟩
def PCN_PRE_CTRL_RESP_BANK : Fld := ⟨0xa00100, 5, 1, 0x4⟩
def PCN_LUMA_W_WR : Fld := ⟨0xa00104, 0, 10, 0x4⟩
def PCN_LUMA_W_WG : Fld := ⟨0xa00104, 10, 10, 0x4⟩
def PCN_LUMA_W_WB : Fld := ⟨0xa00104, 20, 10, 0x4⟩
def PCN_MATRIX0_M_LO : Fld := ⟨0xa00110, 0, 16, 0x4⟩
def PCN_MATRIX0_M_HI : Fld := ⟨0xa00110, 16, 16, 0x4⟩
def PCN_MATRIX1_M_LO : Fld := ⟨0xa00130, 0, 16, 0x4⟩
def PCN_MATRIX1_M_HI : Fld := ⟨0xa00130, 16, 16, 0x4⟩
def PCN_TM_CTRL_DEFAULT : Fld := ⟨0xa00150, 0, 2, 0x4⟩
def PCN_TM_TAG_TRANSFER : Fld := ⟨0xa00160, 0, 2, 0x8⟩
def PCN_TM_TAG_VALID : Fld := ⟨0xa00160, 2, 1, 0x8⟩
def PCN_TM_PEAK_MIN : Fld := ⟨0xa00164, 0, 16, 0x8⟩
def PCN_TM_PEAK_MAX : Fld := ⟨0xa00164, 16, 16, 0x8⟩
def PCN_TBL_ADDR_INDEX : Fld := ⟨0xa00180, 0, 13, 0x4⟩
def PCN_TBL_ADDR_TABLE : Fld := ⟨0xa00180, 16, 4, 0x4⟩
def PCN_TBL_ADDR_AUTO_INC : Fld := ⟨0xa00180, 31, 1, 0x4⟩
def PCN_TBL_DATA_VALUE : Fld := ⟨0xa00184, 0, 16, 0x4⟩
def PCN_DEMURA_CTRL_EN : Fld := ⟨0xa00190, 0, 1, 0x4⟩
def PCN_DEMURA_CTRL_GRAN : Fld := ⟨0xa00190, 1, 1, 0x4⟩
def PCN_DEMURA_BASE_ADDR : Fld := ⟨0xa00194, 0, 28, 0x4⟩
def PCN_DEMURA_FETCH_FOG_MARK : Fld := ⟨0xa00198, 0, 8, 0x4⟩
def PCN_DEMURA_SIZE_BYTES : Fld := ⟨0xa0019c, 0, 28, 0x4⟩
def PCN_OD_CTRL_EN : Fld := ⟨0xa001a0, 0, 1, 0x4⟩
def PCN_OD_CTRL_DEADBAND : Fld := ⟨0xa001a0, 1, 1, 0x4⟩
def PCN_OD_CTRL_BANK : Fld := ⟨0xa001a0, 2, 1, 0x4⟩
def PCN_OD_CTRL_BANDS_M1 : Fld := ⟨0xa001a0, 3, 3, 0x4⟩
def PCN_OD_CTRL_FALLBACK : Fld := ⟨0xa001a0, 6, 3, 0x4⟩
def PCN_OD_TEMP0_T1 : Fld := ⟨0xa001a4, 0, 8, 0x4⟩
def PCN_OD_TEMP0_T2 : Fld := ⟨0xa001a4, 8, 8, 0x4⟩
def PCN_OD_TEMP0_T3 : Fld := ⟨0xa001a4, 16, 8, 0x4⟩
def PCN_OD_TEMP0_T4 : Fld := ⟨0xa001a4, 24, 8, 0x4⟩
def PCN_OD_TEMP1_T5 : Fld := ⟨0xa001a8, 0, 8, 0x4⟩
def PCN_OD_TEMP1_T6 : Fld := ⟨0xa001a8, 8, 8, 0x4⟩
def PCN_OD_TEMP1_T7 : Fld := ⟨0xa001a8, 16, 8, 0x4⟩
def PCN_DITHER_CTRL_MODE : Fld := ⟨0xa001b0, 0, 2, 0x4⟩
def PCN_DITHER_CTRL_SECTOR_AWARE : Fld := ⟨0xa001b0, 2, 1, 0x4⟩
def PCN_PACK_CTRL_DEPTH : Fld := ⟨0xa001b4, 0, 1, 0x4⟩
def PCN_PACK_CTRL_REVERSE : Fld := ⟨0xa001b4, 1, 1, 0x4⟩
def PCN_HOLD_CTRL_DIV2 : Fld := ⟨0xa001b8, 0, 1, 0x4⟩
def PCN_COND_STATUS_TM_SET : Fld := ⟨0xa001c0, 0, 2, 0x4⟩
def PCN_COND_STATUS_TM_MATCHED : Fld := ⟨0xa001c0, 2, 1, 0x4⟩
def PCN_COND_STATUS_RESP_BANK : Fld := ⟨0xa001c0, 3, 1, 0x4⟩
def PCN_COND_STATUS_OD_BAND : Fld := ⟨0xa001c0, 4, 3, 0x4⟩
def PCN_COND_STATUS_OD_BYPASSED : Fld := ⟨0xa001c0, 7, 1, 0x4⟩
def PCN_COND_STATUS_OD_BANK : Fld := ⟨0xa001c0, 8, 1, 0x4⟩
def PCN_COND_STATUS_PANEL_TEMP : Fld := ⟨0xa001c0, 16, 8, 0x4⟩
def PCN_COND_STATUS_TEMP_VALID : Fld := ⟨0xa001c0, 24, 1, 0x4⟩
def PCN_CHECK_INFO_REASON : Fld := ⟨0xa001c4, 0, 8, 0x4⟩
def PCN_PROBE_SEL_X : Fld := ⟨0xa00200, 0, 16, 0x4⟩
def PCN_PROBE_SEL_Y : Fld := ⟨0xa00200, 16, 14, 0x4⟩
def PCN_PROBE_SEL_CHANNEL : Fld := ⟨0xa00200, 30, 2, 0x4⟩
def PCN_PROBE_A_IN : Fld := ⟨0xa00204, 0, 10, 0x4⟩
def PCN_PROBE_A_DEMURA : Fld := ⟨0xa00204, 12, 12, 0x4⟩
def PCN_PROBE_B_DRIVE : Fld := ⟨0xa00208, 0, 12, 0x4⟩
def PCN_PROBE_B_HIST_IN : Fld := ⟨0xa00208, 12, 4, 0x4⟩
def PCN_PROBE_B_HIST_OUT : Fld := ⟨0xa00208, 16, 4, 0x4⟩
def PCN_PROBE_B_CODE : Fld := ⟨0xa00208, 20, 10, 0x4⟩
def PCN_PROBE_B_VALID : Fld := ⟨0xa00208, 31, 1, 0x4⟩
def SER0_RATE_FWD : Fld := ⟨0xb00100, 0, 3, 0x4⟩
def SER0_RATE_REG : Fld := ⟨0xb00100, 3, 3, 0x4⟩
def SER0_TRAIN_CTRL_ADAPT : Fld := ⟨0xb00104, 0, 1, 0x4⟩
def SER0_TRAIN_STATUS_PHASE : Fld := ⟨0xb00108, 0, 3, 0x4⟩
def SER0_TRAIN_STATUS_DONE : Fld := ⟨0xb00108, 3, 1, 0x4⟩
def SER0_TRAIN_STATUS_PORT_A_FAIL : Fld := ⟨0xb00108, 4, 1, 0x4⟩
def SER0_FAIL_CTRL_FAIL_FIELDS : Fld := ⟨0xb0010c, 0, 4, 0x4⟩
def SER0_FAIL_CTRL_CTRL_REDUNDANT : Fld := ⟨0xb0010c, 4, 1, 0x4⟩
def SER0_FAIL_CTRL_BAD_LIMIT : Fld := ⟨0xb0010c, 8, 8, 0x4⟩
def SER0_FAIL_CTRL_ROW_DRIVERS : Fld := ⟨0xb0010c, 16, 8, 0x4⟩
def SER0_PAT_CTRL_PRBS : Fld := ⟨0xb00110, 0, 1, 0x4⟩
def SER0_EYE_CTRL_LANE : Fld := ⟨0xb00114, 0, 7, 0x4⟩
def SER0_EYE_CTRL_START : Fld := ⟨0xb00114, 7, 1, 0x4⟩
def SER0_EYE_RESULT_WIDTH : Fld := ⟨0xb00118, 0, 8, 0x4⟩
def SER0_EYE_RESULT_HEIGHT : Fld := ⟨0xb00118, 8, 8, 0x4⟩
def SER0_EYE_RESULT_VALID : Fld := ⟨0xb00118, 16, 1, 0x4⟩
def SER0_BLACK_CODE10 : Fld := ⟨0xb0011c, 0, 10, 0x4⟩
def SER0_BLACK_CODE8 : Fld := ⟨0xb0011c, 10, 8, 0x4⟩
def SER0_SLACK_MIN_NS : Fld := ⟨0xb00120, 0, 16, 0x4⟩
def SER0_GATE_GATE_ON : Fld := ⟨0xb00124, 0, 10, 0x4⟩
def SER0_GATE_GATE_OFF : Fld := ⟨0xb00124, 16, 10, 0x4⟩
def SER0_OE_OE_START : Fld := ⟨0xb00128, 0, 12, 0x4⟩
def SER0_OE_OE_END : Fld := ⟨0xb00128, 16, 12, 0x4⟩
def SER0_SCAN_CTRL_SCAN_DIR : Fld := ⟨0xb0012c, 0, 1, 0x4⟩
def SER0_SCAN_CTRL_SCAN_MARK_EN : Fld := ⟨0xb0012c, 1, 1, 0x4⟩
def SER0_SCAN_CTRL_APL_SYNC_EN : Fld := ⟨0xb0012c, 2, 1, 0x4⟩
def SER0_STATUS_LAST_FIELD_LO : Fld := ⟨0xb00130, 0, 8, 0x4⟩
def SER0_STATUS_LAST_ALL_REPORTED : Fld := ⟨0xb00130, 8, 1, 0x4⟩
def SER0_INJECT_LANE : Fld := ⟨0xb00134, 0, 7, 0x4⟩
def SER0_INJECT_CRC : Fld := ⟨0xb00134, 7, 1, 0x4⟩
def SERP_PORT_STATUS_LOCKED : Fld := ⟨0xb00140, 0, 6, 0x4⟩
def SERP_PORT_STATUS_MASKED : Fld := ⟨0xb00140, 8, 6, 0x4⟩
def SERP_PORT_STATUS_RET0_LOCK : Fld := ⟨0xb00140, 16, 1, 0x4⟩
def SERP_PORT_STATUS_RET1_LOCK : Fld := ⟨0xb00140, 17, 1, 0x4⟩
def SERP_RX_EQ_PEAK0 : Fld := ⟨0xb00144, 0, 5, 0x4⟩
def SERP_RX_EQ_PEAK1 : Fld := ⟨0xb00144, 8, 5, 0x4⟩
def SERP_LANE_EN_LO_EN : Fld := ⟨0xb00148, 0, 32, 0x4⟩
def SERP_LANE_EN_HI_EN : Fld := ⟨0xb0014c, 0, 32, 0x4⟩
def SERP_LOCK_LO_LOCK : Fld := ⟨0xb00150, 0, 32, 0x4⟩
def SERP_LOCK_HI_LOCK : Fld := ⟨0xb00154, 0, 32, 0x4⟩
def SERP_MASKED_LO_MASKED : Fld := ⟨0xb00158, 0, 32, 0x4⟩
def SERP_MASKED_HI_MASKED : Fld := ⟨0xb0015c, 0, 32, 0x4⟩
def SERP_RETRY_LO_RETRY : Fld := ⟨0xb00160, 0, 32, 0x4⟩
def SERP_RETRY_HI_RETRY : Fld := ⟨0xb00164, 0, 32, 0x4⟩
def SERP_LAST_BAD_LANE : Fld := ⟨0xb00168, 0, 7, 0x4⟩
def SERP_LAST_BAD_LINE : Fld := ⟨0xb00168, 8, 14, 0x4⟩
def SERP_LAST_BAD_FIELD_LO : Fld := ⟨0xb00168, 24, 8, 0x4⟩
def SERP_RET_STATUS_MISSING : Fld := ⟨0xb0016c, 0, 16, 0x4⟩
def SERP_RET_STATUS_BAD_FRAMES : Fld := ⟨0xb0016c, 16, 16, 0x4⟩
def SERP_CMD_ERRS_CMD_CRC : Fld := ⟨0xb00170, 0, 16, 0x4⟩
def SERP_CMD_ERRS_SEQ : Fld := ⟨0xb00170, 16, 16, 0x4⟩
def SERP_TX_SET_SWING : Fld := ⟨0xb00200, 0, 4, 0x4⟩
def SERP_TX_SET_POST : Fld := ⟨0xb00200, 4, 4, 0x4⟩
def SERP_TX_SET_POST_USED : Fld := ⟨0xb00200, 8, 4, 0x4⟩
def SERP_LANE_ERR_CRC : Fld := ⟨0xb00300, 0, 16, 0x4⟩
def SERP_LANE_ERR_HDR : Fld := ⟨0xb00300, 16, 16, 0x4⟩
def SERP_LANE_MKR_MKR : Fld := ⟨0xb00400, 0, 16, 0x4⟩
def SERP_LANE_MKR_MARGIN : Fld := ⟨0xb00400, 16, 8, 0x4⟩
def SEC_LIGHT_CTRL_SWITCH_EN : Fld := ⟨0xc00100, 0, 1, 0x4⟩
def SEC_LIGHT_CTRL_LIN_FALLBACK : Fld := ⟨0xc00100, 1, 1, 0x4⟩
def SEC_LIGHT_CTRL_LAG : Fld := ⟨0xc00100, 4, 4, 0x4⟩
def SEC_LIGHT_CTRL_EVEN_GAIN : Fld := ⟨0xc00100, 8, 8, 0x4⟩
def SEC_LIGHT_CTRL_FW_COVER : Fld := ⟨0xc00100, 16, 8, 0x4⟩
def SEC_OWNER_DRIVE : Fld := ⟨0xc00104, 0, 1, 0x4⟩
def SEC_BRIGHT_LEVEL : Fld := ⟨0xc00108, 0, 16, 0x4⟩
def SEC_PEAK_MA : Fld := ⟨0xc0010c, 0, 11, 0x4⟩
def SEC_SENSE_CFG_RSENSE : Fld := ⟨0xc00110, 0, 10, 0x4⟩
def SEC_SENSE_CFG_HYST : Fld := ⟨0xc00110, 10, 6, 0x4⟩
def SEC_PRECHARGE_VPRE : Fld := ⟨0xc00114, 0, 12, 0x4⟩
def SEC_PRECHARGE_PC_TIME : Fld := ⟨0xc00114, 12, 8, 0x4⟩
def SEC_SETTLE_US : Fld := ⟨0xc00118, 0, 10, 0x4⟩
def SEC_LIN_SET_GLOBAL : Fld := ⟨0xc0011c, 0, 8, 0x4⟩
def SEC_CHAN_MODE_MODE : Fld := ⟨0xc00120, 0, 32, 0x4⟩
def SEC_LIN_CH_P : Fld := ⟨0xc00140, 0, 32, 0x4⟩
def SEC_TRIM_TRIM_0 : Fld := ⟨0xc001a0, 0, 16, 0x4⟩
def SEC_TRIM_TRIM_1 : Fld := ⟨0xc001a0, 16, 16, 0x4⟩
def SEC_DIAG_V_VOPEN : Fld := ⟨0xc00260, 0, 12, 0x4⟩
def SEC_DIAG_V_VSHORT : Fld := ⟨0xc00260, 16, 12, 0x4⟩
def SEC_VLED_WIN_MIN : Fld := ⟨0xc00264, 0, 16, 0x4⟩
def SEC_VLED_WIN_MAX : Fld := ⟨0xc00264, 16, 16, 0x4⟩
def SEC_VLED_MEAS_MV : Fld := ⟨0xc00268, 0, 16, 0x4⟩
def SEC_VLED_MEAS_IN_WIN : Fld := ⟨0xc00268, 16, 1, 0x4⟩
def SEC_SLOT_STATUS_SLOT : Fld := ⟨0xc0026c, 0, 4, 0x4⟩
def SEC_SLOT_STATUS_LINE : Fld := ⟨0xc0026c, 4, 4, 0x4⟩
def SEC_SLOT_STATUS_SECTOR : Fld := ⟨0xc0026c, 8, 3, 0x4⟩
def SEC_SLOT_STATUS_EVEN : Fld := ⟨0xc0026c, 11, 1, 0x4⟩
def SEC_SLOT_STATUS_DARK : Fld := ⟨0xc0026c, 12, 1, 0x4⟩
def SEC_MARGIN_LINES : Fld := ⟨0xc00270, 0, 16, 0x4⟩
def SEC_SLOT_TIME_W : Fld := ⟨0xc00274, 0, 20, 0x4⟩
def SEC_MEAS_SEL_CHANNEL : Fld := ⟨0xc00280, 0, 7, 0x4⟩
def SEC_MEAS_SEL_LINE : Fld := ⟨0xc00280, 8, 4, 0x4⟩
def SEC_MEAS_RESULT_I : Fld := ⟨0xc00284, 0, 16, 0x4⟩
def SEC_MEAS_RESULT_V : Fld := ⟨0xc00284, 16, 16, 0x4⟩
def SEC_PHOTO_VALUE : Fld := ⟨0xc00290, 0, 16, 0x4⟩
def SEC_PHOTO_FIELD : Fld := ⟨0xc00290, 16, 16, 0x4⟩
def SEC_PHOTO_CTRL_EN : Fld := ⟨0xc002a0, 0, 4, 0x4⟩
def SEC_PHOTO_CTRL_TRIG : Fld := ⟨0xc002a0, 4, 4, 0x4⟩
def SEC_AGE_SEL_CHANNEL : Fld := ⟨0xc002b0, 0, 7, 0x4⟩
def SEC_AGE_LO_MC : Fld := ⟨0xc002b4, 0, 16, 0x4⟩
def SEC_AGE_HI_MC : Fld := ⟨0xc002b8, 0, 16, 0x4⟩
def SEC_FAULT_SEL_LINE : Fld := ⟨0xc002c0, 0, 4, 0x4⟩
def SEC_FAULT_OPEN_MAP : Fld := ⟨0xc002c4, 0, 32, 0x4⟩
def SEC_FAULT_SHORT_MAP : Fld := ⟨0xc002d0, 0, 32, 0x4⟩
def SEC_EVEN_MAP_MAP : Fld := ⟨0xc002dc, 0, 32, 0x4⟩
def SEC_CHAN_LOST_MAP : Fld := ⟨0xc002e8, 0, 32, 0x4⟩
def SEC_SCAN_FAULT_DROPPED : Fld := ⟨0xc002f4, 0, 16, 0x4⟩
def SEC_SCAN_FAULT_DARK_REPLAN : Fld := ⟨0xc002f4, 16, 1, 0x4⟩
def SEC_RETRY_CROSSINGS : Fld := ⟨0xc002f8, 0, 1, 0x4⟩
def SEC_RETRY_CHANNELS : Fld := ⟨0xc002f8, 1, 1, 0x4⟩
def SEC_RETRY_SCAN : Fld := ⟨0xc002f8, 2, 1, 0x4⟩
def SEC_CHECK_INFO_REASON : Fld := ⟨0xc002fc, 0, 8, 0x4⟩
def SEC_CH_X_X0 : Fld := ⟨0xc00300, 0, 16, 0x4⟩
def SEC_CH_X_X1 : Fld := ⟨0xc00300, 16, 16, 0x4⟩
def APL_GEOM_NCX : Fld := ⟨0xd00100, 0, 10, 0x4⟩
def APL_GEOM_NCY : Fld := ⟨0xd00100, 16, 10, 0x4⟩
def APL_GEOM_LEVELS : Fld := ⟨0xd00100, 28, 1, 0x4⟩
def APL_GEOM_PRESENT : Fld := ⟨0xd00100, 31, 1, 0x4⟩
def APL_CELL_CELL_W : Fld := ⟨0xd00104, 0, 8, 0x4⟩
def APL_CELL_CELL_H : Fld := ⟨0xd00104, 8, 8, 0x4⟩
def APL_WF_BANK_BANK : Fld := ⟨0xd00108, 0, 1, 0x4⟩
def APL_BAND_T0_T1 : Fld := ⟨0xd0010c, 0, 8, 0x4⟩
def APL_BAND_T0_T2 : Fld := ⟨0xd0010c, 8, 8, 0x4⟩
def APL_BAND_T0_T3 : Fld := ⟨0xd0010c, 16, 8, 0x4⟩
def APL_BAND_T0_T4 : Fld := ⟨0xd0010c, 24, 8, 0x4⟩
def APL_BAND_T1_T5 : Fld := ⟨0xd00110, 0, 8, 0x4⟩
def APL_BAND_T1_BANDS_M1 : Fld := ⟨0xd00110, 8, 3, 0x4⟩
def APL_BAND_RATE_RATE0 : Fld := ⟨0xd00114, 0, 8, 0x4⟩
def APL_BAND_RATE_RATE1 : Fld := ⟨0xd00114, 8, 8, 0x4⟩
def APL_BAND_RATE_RATE2 : Fld := ⟨0xd00114, 16, 8, 0x4⟩
def APL_BAND_RATE_RATE3 : Fld := ⟨0xd00114, 24, 8, 0x4⟩
def APL_BAND_RATE1_RATE4 : Fld := ⟨0xd00118, 0, 8, 0x4⟩
def APL_BAND_RATE1_RATE5 : Fld := ⟨0xd00118, 8, 8, 0x4⟩
def APL_ROW_TIME_TIME : Fld := ⟨0xd0011c, 0, 10, 0x4⟩
def APL_IDLE_KA_RATE : Fld := ⟨0xd00120, 0, 4, 0x4⟩
def APL_RAIL_CTRL_EN : Fld := ⟨0xd00124, 0, 1, 0x4⟩
def APL_RAIL_CTRL_VCOM : Fld := ⟨0xd00124, 4, 12, 0x4⟩
def APL_RAIL_STATUS_OK : Fld := ⟨0xd00128, 0, 5, 0x4⟩
def APL_RAIL_STATUS_READY : Fld := ⟨0xd00128, 8, 1, 0x4⟩
def APL_RAIL_STATUS_FAULT : Fld := ⟨0xd00128, 9, 1, 0x4⟩
def APL_OWNER_DRIVE : Fld := ⟨0xd0012c, 0, 1, 0x4⟩
def APL_REQ_TL_X0 : Fld := ⟨0xd00140, 0, 10, 0x4⟩
def APL_REQ_TL_Y0 : Fld := ⟨0xd00140, 16, 10, 0x4⟩
def APL_REQ_BR_X1 : Fld := ⟨0xd00144, 0, 10, 0x4⟩
def APL_REQ_BR_Y1 : Fld := ⟨0xd00144, 16, 10, 0x4⟩
def APL_REQ_CTRL_TARGET : Fld := ⟨0xd00148, 0, 2, 0x4⟩
def APL_REQ_CTRL_START : Fld := ⟨0xd00148, 2, 2, 0x4⟩
def APL_REQ_CTRL_ID : Fld := ⟨0xd00148, 8, 8, 0x4⟩
def APL_REQ_POST_POST : Fld := ⟨0xd0014c, 0, 1, 0x4⟩
def APL_REQ_RESULT_ID : Fld := ⟨0xd00150, 0, 8, 0x4⟩
def APL_REQ_RESULT_RESULT : Fld := ⟨0xd00150, 8, 4, 0x4⟩
def APL_ABORT_ID : Fld := ⟨0xd00154, 0, 8, 0x4⟩
def APL_ABORT_ALL : Fld := ⟨0xd00154, 31, 1, 0x4⟩
def APL_QUEUE_STATUS_IN_FLIGHT : Fld := ⟨0xd00158, 0, 5, 0x4⟩
def APL_QUEUE_STATUS_QUEUED : Fld := ⟨0xd00158, 5, 6, 0x4⟩
def APL_QUEUE_STATUS_PENDING : Fld := ⟨0xd00158, 11, 6, 0x4⟩
def APL_QUEUE_STATUS_BAND : Fld := ⟨0xd00158, 17, 3, 0x4⟩
def APL_QUEUE_STATUS_TEMP_OK : Fld := ⟨0xd00158, 20, 1, 0x4⟩
def APL_QUEUE_STATUS_RESERVE_OK : Fld := ⟨0xd00158, 21, 1, 0x4⟩
def APL_QUEUE_STATUS_BAND_PENDING : Fld := ⟨0xd00158, 22, 1, 0x4⟩
def APL_LAST_DONE_ID : Fld := ⟨0xd00160, 0, 8, 0x4⟩
def APL_LAST_DONE_STATUS : Fld := ⟨0xd00160, 8, 8, 0x4⟩
def APL_LAST_DONE_OUTCOME : Fld := ⟨0xd00160, 16, 2, 0x4⟩
def APL_LAST_DONE_ABORT_LATE : Fld := ⟨0xd00160, 18, 1, 0x4⟩
def APL_LAST_REFUSED_ID : Fld := ⟨0xd00164, 0, 8, 0x4⟩
def APL_LAST_REFUSED_REASON : Fld := ⟨0xd00164, 8, 4, 0x4⟩
def APL_LAST_REFUSED_VALID : Fld := ⟨0xd00164, 31, 1, 0x4⟩
def APL_FRAME_COUNT_FRAME : Fld := ⟨0xd00168, 0, 16, 0x4⟩
def APL_TEMP_PANEL_TEMP : Fld := ⟨0xd0016c, 0, 8, 0x4⟩
def APL_TEMP_VALID : Fld := ⟨0xd0016c, 8, 1, 0x4⟩
def APL_CELL_PROBE_X : Fld := ⟨0xd00170, 0, 10, 0x4⟩
def APL_CELL_PROBE_Y : Fld := ⟨0xd00170, 16, 10, 0x4⟩
def APL_CELL_STATE_STATE : Fld := ⟨0xd00174, 0, 4, 0x4⟩
def APL_RECOVER_UNFREEZE : Fld := ⟨0xd00178, 0, 1, 0x4⟩
def APL_SLOT_STATE_ID : Fld := ⟨0xd00180, 0, 8, 0x4⟩
def APL_SLOT_STATE_FRAMES_DONE : Fld := ⟨0xd00180, 8, 6, 0x4⟩
def APL_SLOT_STATE_LENGTH : Fld := ⟨0xd00180, 14, 6, 0x4⟩
def APL_SLOT_STATE_TARGET : Fld := ⟨0xd00180, 20, 2, 0x4⟩
def APL_SLOT_STATE_PHASE : Fld := ⟨0xd00180, 22, 2, 0x4⟩
def APL_SLOT_STATE_RESTARTS : Fld := ⟨0xd00180, 24, 2, 0x4⟩
def APL_TBL_ADDR_INDEX : Fld := ⟨0xd001c0, 0, 9, 0x4⟩
def APL_TBL_ADDR_TABLE : Fld := ⟨0xd001c0, 16, 1, 0x4⟩
def APL_TBL_ADDR_AUTO_INC : Fld := ⟨0xd001c0, 31, 1, 0x4⟩
def APL_TBL_DATA_VALUE : Fld := ⟨0xd001c4, 0, 32, 0x4⟩
def APL_CHECK_INFO_REASON : Fld := ⟨0xd001c8, 0, 8, 0x4⟩
def KPR_CHIP_INT_REGIONS : Fld := ⟨0xe00100, 0, 4, 0x4⟩
def KPR_CHIP_INT_CHIP_EVT : Fld := ⟨0xe00100, 8, 1, 0x4⟩
def KPR_REGION_SUM_BLOCKS : Fld := ⟨0xe00104, 1, 20, 0x4⟩
def KPR_REGION_SUM_REGION_EVT : Fld := ⟨0xe00104, 31, 1, 0x4⟩
def KPR_HOST_ROUTE_BLOCK_MASK : Fld := ⟨0xe00114, 1, 20, 0x4⟩
def KPR_HOST_ROUTE_REGION_MASK : Fld := ⟨0xe00114, 30, 1, 0x4⟩
def KPR_HOST_ROUTE_CHIP_MASK : Fld := ⟨0xe00114, 31, 1, 0x4⟩
def KPR_MODE_STATUS_MODE : Fld := ⟨0xe00120, 0, 3, 0x4⟩
def KPR_MODE_STATUS_PREV : Fld := ⟨0xe00120, 3, 3, 0x4⟩
def KPR_MODE_STATUS_CHANGING : Fld := ⟨0xe00120, 6, 1, 0x4⟩
def KPR_MODE_STATUS_CAUSE : Fld := ⟨0xe00120, 8, 4, 0x4⟩
def KPR_MODE_STATUS_TIMING : Fld := ⟨0xe00120, 16, 8, 0x4⟩
def KPR_MODE_STATUS_HOLD_VAR : Fld := ⟨0xe00120, 24, 3, 0x4⟩
def KPR_BOOT_STATUS_STEP : Fld := ⟨0xe00124, 0, 4, 0x4⟩
def KPR_BOOT_STATUS_IMAGE : Fld := ⟨0xe00124, 4, 1, 0x4⟩
def KPR_BOOT_STATUS_A_RESULT : Fld := ⟨0xe00124, 5, 3, 0x4⟩
def KPR_BOOT_STATUS_B_RESULT : Fld := ⟨0xe00124, 8, 3, 0x4⟩
def KPR_BOOT_STATUS_PROFILE_OK : Fld := ⟨0xe00124, 11, 1, 0x4⟩
def KPR_BOOT_STATUS_WARM : Fld := ⟨0xe00124, 12, 1, 0x4⟩
def KPR_BOOT_TIME_FIRST_PICTURE : Fld := ⟨0xe00128, 0, 16, 0x4⟩
def KPR_BOOT_TIME_TARGET : Fld := ⟨0xe00128, 16, 16, 0x4⟩
def KPR_FW_VERSION_VERSION : Fld := ⟨0xe0012c, 0, 32, 0x4⟩
def KPR_ADAPT_STATUS_LEVEL : Fld := ⟨0xe00130, 0, 3, 0x4⟩
def KPR_ADAPT_STATUS_WANT : Fld := ⟨0xe00130, 3, 3, 0x4⟩
def KPR_ADAPT_STATUS_WALL : Fld := ⟨0xe00130, 6, 1, 0x4⟩
def KPR_ADAPT_STATUS_AT_MAX : Fld := ⟨0xe00130, 7, 1, 0x4⟩
def KPR_ADAPT_STATUS_LOW : Fld := ⟨0xe00130, 8, 8, 0x4⟩
def KPR_ADAPT_STATUS_HIGH : Fld := ⟨0xe00130, 16, 2, 0x4⟩
def KPR_ADAPT_STATUS_CAUSE : Fld := ⟨0xe00130, 18, 3, 0x4⟩
def KPR_ADAPT_USE_LAST : Fld := ⟨0xe00134, 0, 11, 0x4⟩
def KPR_ADAPT_USE_MAX : Fld := ⟨0xe00134, 16, 11, 0x4⟩
def KPR_POWER_STATUS_MODULE : Fld := ⟨0xe00138, 0, 16, 0x4⟩
def KPR_POWER_STATUS_CAP : Fld := ⟨0xe00138, 16, 16, 0x4⟩
def KPR_REGION_POWER_MEAS : Fld := ⟨0xe00140, 0, 16, 0x4⟩
def KPR_REGION_POWER_SHARE : Fld := ⟨0xe00140, 16, 16, 0x4⟩
def KPR_THROTTLE_SCENE : Fld := ⟨0xe00150, 0, 3, 0x4⟩
def KPR_THROTTLE_RAY : Fld := ⟨0xe00150, 3, 3, 0x4⟩
def KPR_THROTTLE_PANEL : Fld := ⟨0xe00150, 6, 3, 0x4⟩
def KPR_LUM_STATUS_G : Fld := ⟨0xe00154, 0, 16, 0x4⟩
def KPR_LUM_STATUS_WATCHED : Fld := ⟨0xe00154, 16, 8, 0x4⟩
def KPR_LUM_STATUS_LUM_ACTIVE : Fld := ⟨0xe00154, 24, 1, 0x4⟩
def KPR_LUM_STATUS_ZONE_ACTIVE : Fld := ⟨0xe00154, 25, 1, 0x4⟩
def KPR_BRIGHT_STATUS_REQUESTED : Fld := ⟨0xe00158, 0, 16, 0x4⟩
def KPR_BRIGHT_STATUS_APPLIED : Fld := ⟨0xe00158, 16, 16, 0x4⟩
def KPR_SEC_STATUS_SET : Fld := ⟨0xe0015c, 0, 2, 0x4⟩
def KPR_SEC_STATUS_REVOKED : Fld := ⟨0xe0015c, 2, 2, 0x4⟩
def KPR_SEC_STATUS_SCOPES : Fld := ⟨0xe0015c, 4, 3, 0x4⟩
def KPR_SEC_STATUS_DEBUG_SEEN : Fld := ⟨0xe0015c, 7, 1, 0x4⟩
def KPR_SEC_STATUS_ROLLBACK : Fld := ⟨0xe0015c, 8, 7, 0x4⟩
def KPR_SEC_STATUS_DEBUG_LEFT : Fld := ⟨0xe0015c, 16, 16, 0x4⟩
def KPR_PROFILE_INFO_VERSION : Fld := ⟨0xe00160, 0, 32, 0x4⟩
def KPR_POLICY_INFO_VERSION : Fld := ⟨0xe00164, 0, 32, 0x4⟩
def KPR_OBJ_STATUS_STORED : Fld := ⟨0xe00168, 0, 1, 0x4⟩
def KPR_OBJ_STATUS_ACTIVE : Fld := ⟨0xe00168, 1, 1, 0x4⟩
def KPR_OBJ_STATUS_OVERRIDE : Fld := ⟨0xe00168, 2, 1, 0x4⟩
def KPR_OBJ_STATUS_KEY_SLOT : Fld := ⟨0xe00168, 3, 1, 0x4⟩
def KPR_OBJ_STATUS_LAST_RESULT : Fld := ⟨0xe00168, 8, 8, 0x4⟩
def KPR_OBJ_STATUS_LAST_OP : Fld := ⟨0xe00168, 16, 8, 0x4⟩
def KPR_DIGEST_SEL_WHICH : Fld := ⟨0xe0016c, 0, 2, 0x4⟩
def KPR_DIGEST_SEL_WORD : Fld := ⟨0xe0016c, 2, 4, 0x4⟩
def KPR_DIGEST_DATA_BYTES : Fld := ⟨0xe00170, 0, 32, 0x4⟩
def KPR_WDOG_RESTARTS : Fld := ⟨0xe00174, 0, 16, 0x4⟩
def MBX0_TX_DATA_DATA : Fld := ⟨0xf00100, 0, 32, 0x4⟩
def MBX0_TX_POST_DEST : Fld := ⟨0xf00140, 0, 7, 0x4⟩
def MBX0_TX_POST_FAR : Fld := ⟨0xf00140, 8, 2, 0x4⟩
def MBX0_TX_RESULT_STATUS : Fld := ⟨0xf00144, 0, 8, 0x4⟩
def MBX0_TX_RESULT_DEST : Fld := ⟨0xf00144, 8, 7, 0x4⟩
def MBX0_TX_RESULT_FREE : Fld := ⟨0xf00144, 16, 3, 0x4⟩
def MBX0_EP_RESET_RESET : Fld := ⟨0xf00148, 0, 1, 0x4⟩
def MBX0_EP_MAP_PRESENT : Fld := ⟨0xf0014c, 0, 5, 0x4⟩
def MBX0_EP_MAP_WORKERS : Fld := ⟨0xf0014c, 5, 1, 0x4⟩
def MBX0_EPOCH_EPOCH : Fld := ⟨0xf00150, 0, 32, 0x4⟩
def MBX0_EP_PEND_PEND : Fld := ⟨0xf00180, 0, 32, 0x4⟩
def MBX0_LOCK_STATE : Fld := ⟨0xf00200, 0, 2, 0x4⟩
def MBX0_LOCK_HOLDER : Fld := ⟨0xf00200, 4, 3, 0x4⟩
def MBX0_LOCK_FIELD : Fld := ⟨0xf00200, 16, 16, 0x4⟩
def MBX0_LOCK_VIEW_STATE : Fld := ⟨0xf00300, 0, 2, 0x4⟩
def MBX0_LOCK_VIEW_HOLDER : Fld := ⟨0xf00300, 4, 3, 0x4⟩
def MBX0_LOCK_VIEW_FIELD : Fld := ⟨0xf00300, 16, 16, 0x4⟩
def MBX0_LOCK_HELD_LO_HELD : Fld := ⟨0xf00400, 0, 32, 0x4⟩
def MBX0_LOCK_HELD_HI_HELD : Fld := ⟨0xf00404, 0, 32, 0x4⟩
def MBXE_DB_BITS : Fld := ⟨0xf00100, 0, 32, 0x4⟩
def MBXE_DB_SET_BITS : Fld := ⟨0xf00210, 0, 31, 0x4⟩
def MBXE_DB_MASK_MASK : Fld := ⟨0xf00320, 0, 32, 0x4⟩
def MBXE_CH_STATUS_COUNT : Fld := ⟨0xf00430, 0, 4, 0x4⟩
def MBXE_CH_STATUS_EPOCH : Fld := ⟨0xf00430, 4, 4, 0x4⟩
def MBXE_CH_STATUS_ABORTED : Fld := ⟨0xf00430, 8, 4, 0x4⟩
def MBXE_CH_STATUS_PEER_RESET : Fld := ⟨0xf00430, 12, 1, 0x4⟩
def MBXE_CH_STATUS_NOTICE_CLR : Fld := ⟨0xf00430, 31, 1, 0x4⟩
def MBXE_CH_PEND_PEND : Fld := ⟨0xf00540, 0, 32, 0x4⟩
def MBXE_DB_PEND_PEND : Fld := ⟨0xf00550, 0, 32, 0x4⟩
def MBXE_RX_SEL_CHANNEL : Fld := ⟨0xf00560, 0, 7, 0x4⟩
def MBXE_RX_INFO_VALID : Fld := ⟨0xf00564, 7, 1, 0x4⟩
def MBXE_RX_INFO_EPOCH : Fld := ⟨0xf00564, 8, 4, 0x4⟩
def MBXE_RX_INFO_SENDER_RESET : Fld := ⟨0xf00564, 12, 1, 0x4⟩
def MBXE_RX_INFO_FIELD : Fld := ⟨0xf00564, 16, 16, 0x4⟩
def MBXE_RX_POP_POP : Fld := ⟨0xf00568, 0, 1, 0x4⟩
def MBXE_RX_DATA_DATA : Fld := ⟨0xf00580, 0, 32, 0x4⟩
def CHKU_CFG_ALGO : Fld := ⟨0x1000100, 0, 2, 0x4⟩
def CHKU_CFG_CMP_EN : Fld := ⟨0x1000100, 2, 1, 0x4⟩
def CHKU_CFG_ALIVE_EN : Fld := ⟨0x1000100, 3, 1, 0x4⟩
def CHKU_CFG_ALIVE_STEP : Fld := ⟨0x1000100, 8, 8, 0x4⟩
def CHKU_CFG_ALIVE_OFF : Fld := ⟨0x1000100, 16, 12, 0x4⟩
def CHKU_CMD_START : Fld := ⟨0x1000104, 0, 1, 0x4⟩
def CHKU_CMD_FINISH : Fld := ⟨0x1000104, 1, 1, 0x4⟩
def CHKU_CMD_RESYNC : Fld := ⟨0x1000104, 2, 1, 0x4⟩
def CHKU_DATA32_DATA : Fld := ⟨0x1000108, 0, 32, 0x4⟩
def CHKU_DATA8_DATA : Fld := ⟨0x100010c, 0, 8, 0x4⟩
def CHKU_VALUE_LO_VALUE : Fld := ⟨0x1000110, 0, 32, 0x4⟩
def CHKU_VALUE_HI_VALUE : Fld := ⟨0x1000114, 0, 32, 0x4⟩
def CHKU_COUNT_BYTES : Fld := ⟨0x1000118, 0, 32, 0x4⟩
def CHKU_EXPECT_LO_EXPECT : Fld := ⟨0x100011c, 0, 32, 0x4⟩
def CHKU_EXPECT_HI_EXPECT : Fld := ⟨0x1000120, 0, 32, 0x4⟩
def CHKU_RESULT_LO_RESULT : Fld := ⟨0x1000124, 0, 32, 0x4⟩
def CHKU_RESULT_HI_RESULT : Fld := ⟨0x1000128, 0, 32, 0x4⟩
def CHKU_ALIVE_LAST : Fld := ⟨0x100012c, 0, 16, 0x4⟩
def CHKU_ALIVE_VALID : Fld := ⟨0x100012c, 16, 1, 0x4⟩
def TIM_NOW_FRAC_FRAC : Fld := ⟨0x1100100, 0, 32, 0x4⟩
def TIM_NOW_NS_NS : Fld := ⟨0x1100104, 0, 30, 0x4⟩
def TIM_NOW_S_LO_S : Fld := ⟨0x1100108, 0, 32, 0x4⟩
def TIM_NOW_S_HI_S : Fld := ⟨0x110010c, 0, 16, 0x4⟩
def TIM_RATE_RATE : Fld := ⟨0x1100110, 0, 32, 0x4⟩
def TIM_STEP_S_LO_S : Fld := ⟨0x1100114, 0, 32, 0x4⟩
def TIM_STEP_S_HI_S : Fld := ⟨0x1100118, 0, 16, 0x4⟩
def TIM_STEP_NS_NS : Fld := ⟨0x110011c, 0, 31, 0x4⟩
def TIM_STEP_GO_GO : Fld := ⟨0x1100120, 0, 1, 0x4⟩
def TIM_TIME_STATUS_SYNC_STATE : Fld := ⟨0x1100124, 0, 3, 0x4⟩
def TIM_TIME_STATUS_RATE_CLAMPED : Fld := ⟨0x1100124, 3, 1, 0x4⟩
def TIM_TIME_STATUS_DISC_COUNT : Fld := ⟨0x1100124, 4, 8, 0x4⟩
def TIM_TIME_STATUS_SOURCE : Fld := ⟨0x1100124, 12, 3, 0x4⟩
def TIM_OFFSET_NS : Fld := ⟨0x1100128, 0, 32, 0x4⟩
def TIM_PATH_DELAY_NS : Fld := ⟨0x110012c, 0, 32, 0x4⟩
def TIM_UTC_OFFSET_SECONDS : Fld := ⟨0x1100130, 0, 16, 0x4⟩
def TIM_UTC_OFFSET_VALID : Fld := ⟨0x1100130, 16, 1, 0x4⟩
def TIM_PTP_CTRL_ROLE : Fld := ⟨0x1100140, 0, 2, 0x4⟩
def TIM_PTP_CTRL_PROFILE : Fld := ⟨0x1100140, 2, 1, 0x4⟩
def TIM_PTP_CTRL_TRANSPORT : Fld := ⟨0x1100140, 3, 1, 0x4⟩
def TIM_PTP_CTRL_SLAVE_ONLY : Fld := ⟨0x1100140, 4, 1, 0x4⟩
def TIM_PTP_CTRL_UPSTREAM : Fld := ⟨0x1100140, 5, 1, 0x4⟩
def TIM_PTP_CTRL_DOMAIN : Fld := ⟨0x1100140, 8, 8, 0x4⟩
def TIM_PTP_CTRL_LOG_TL : Fld := ⟨0x1100140, 16, 8, 0x4⟩
def TIM_PTP_INTERVAL_LOG_SYNC : Fld := ⟨0x1100144, 0, 8, 0x4⟩
def TIM_PTP_INTERVAL_LOG_ANNOUNCE : Fld := ⟨0x1100144, 8, 8, 0x4⟩
def TIM_PTP_INTERVAL_LOG_DELAY_REQ : Fld := ⟨0x1100144, 16, 8, 0x4⟩
def TIM_PTP_INTERVAL_ANNOUNCE_TIMEOUT : Fld := ⟨0x1100144, 24, 8, 0x4⟩
def TIM_PORT_STATE_TP0_UP : Fld := ⟨0x1100150, 0, 1, 0x4⟩
def TIM_PORT_STATE_TP1_UP : Fld := ⟨0x1100150, 1, 1, 0x4⟩
def TIM_PORT_STATE_TP0_SGMII : Fld := ⟨0x1100150, 2, 1, 0x4⟩
def TIM_PORT_STATE_TP1_SGMII : Fld := ⟨0x1100150, 3, 1, 0x4⟩
def TIM_PORT_ASYM_ASYM : Fld := ⟨0x1100160, 0, 32, 0x4⟩
def TIM_TICK_CTRL_SRC : Fld := ⟨0x1100180, 0, 2, 0x4⟩
def TIM_TICK_CTRL_REPHASE_AUTO : Fld := ⟨0x1100180, 2, 1, 0x4⟩
def TIM_TICK_CTRL_HOST_DELAY : Fld := ⟨0x1100180, 16, 16, 0x4⟩
def TIM_TICK_STATUS_LOCKED : Fld := ⟨0x1100184, 0, 1, 0x4⟩
def TIM_TICK_STATUS_HOLDOVER : Fld := ⟨0x1100184, 1, 1, 0x4⟩
def TIM_TICK_STATUS_REPHASE_PENDING : Fld := ⟨0x1100184, 2, 1, 0x4⟩
def TIM_TICK_STATUS_PHASE_ERR : Fld := ⟨0x1100184, 16, 16, 0x4⟩
def TIM_TRIG_CTRL_EN : Fld := ⟨0x1100200, 0, 1, 0x20⟩
def TIM_TRIG_CTRL_PERIODIC : Fld := ⟨0x1100200, 1, 1, 0x20⟩
def TIM_TRIG_CTRL_IRQ : Fld := ⟨0x1100200, 2, 1, 0x20⟩
def TIM_TRIG_START_NS_NS : Fld := ⟨0x1100204, 0, 30, 0x20⟩
def TIM_TRIG_START_S_LO_S : Fld := ⟨0x1100208, 0, 32, 0x20⟩
def TIM_TRIG_START_S_HI_S : Fld := ⟨0x110020c, 0, 16, 0x20⟩
def TIM_TRIG_START_FRAC_FRAC : Fld := ⟨0x1100210, 0, 32, 0x20⟩
def TIM_TRIG_PERIOD_NS_NS : Fld := ⟨0x1100214, 0, 32, 0x20⟩
def TIM_TRIG_PERIOD_FRAC_FRAC : Fld := ⟨0x1100218, 0, 32, 0x20⟩
def TIM_TRIG_STATUS_FIRED : Fld := ⟨0x110021c, 0, 1, 0x20⟩
def TIM_TRIG_STATUS_DISC : Fld := ⟨0x110021c, 1, 1, 0x20⟩
def TIM_TRIG_STATUS_MISSED : Fld := ⟨0x110021c, 8, 8, 0x20⟩
def TIM_TRIG_STATUS_FIRES : Fld := ⟨0x110021c, 16, 16, 0x20⟩
def CAL_BG_CFG_PASS_INTERVAL : Fld := ⟨0x1200100, 0, 16, 0x4⟩
def CAL_BG_CFG_STEP_PERIOD : Fld := ⟨0x1200100, 16, 8, 0x4⟩
def CAL_BG_STATUS_SPARE : Fld := ⟨0x1200104, 0, 7, 0x4⟩
def CAL_BG_STATUS_NEXT_CH : Fld := ⟨0x1200104, 8, 7, 0x4⟩
def CAL_BG_STATUS_PHASE : Fld := ⟨0x1200104, 16, 2, 0x4⟩
def CAL_BG_STATUS_PASSES : Fld := ⟨0x1200104, 20, 12, 0x4⟩
def CAL_REF_STATUS_CALV : Fld := ⟨0x1200108, 0, 16, 0x4⟩
def CAL_REF_STATUS_CALI : Fld := ⟨0x1200108, 16, 15, 0x4⟩
def CAL_REF_STATUS_REF_OK : Fld := ⟨0x1200108, 31, 1, 0x4⟩
def CAL_FULL_STATUS_RUNNING : Fld := ⟨0x120010c, 0, 1, 0x4⟩
def CAL_FULL_STATUS_FAILURES : Fld := ⟨0x120010c, 8, 8, 0x4⟩
def CAL_PLAUS_INFO_ITEM : Fld := ⟨0x1200110, 0, 4, 0x4⟩
def CAL_PLAUS_INFO_ELEMENT : Fld := ⟨0x1200110, 4, 10, 0x4⟩
def CAL_PLAUS_INFO_LIMIT : Fld := ⟨0x1200110, 14, 2, 0x4⟩
def CAL_PLAUS_INFO_VALID : Fld := ⟨0x1200110, 31, 1, 0x4⟩
def CAL_SET_INFO_ORIGIN : Fld := ⟨0x1200114, 0, 2, 0x4⟩
def CAL_SET_INFO_WRITES : Fld := ⟨0x1200114, 8, 8, 0x4⟩
def CAL_SET_INFO_VALID : Fld := ⟨0x1200114, 16, 1, 0x4⟩
def CAL_PENDING_LED : Fld := ⟨0x1200118, 0, 1, 0x4⟩
def CAL_PENDING_LADDER : Fld := ⟨0x1200118, 1, 1, 0x4⟩
def CAL_PENDING_MEM : Fld := ⟨0x1200118, 8, 8, 0x4⟩
def CAL_RETIRED_MAP : Fld := ⟨0x1200120, 0, 32, 0x4⟩
def CAL_CONV_MAP_CONV : Fld := ⟨0x1200140, 0, 32, 0x4⟩
def CAL_CONV_SEL_CONV : Fld := ⟨0x12001a0, 0, 7, 0x4⟩
def CAL_CONV_I_GAIN : Fld := ⟨0x12001a4, 0, 16, 0x4⟩
def CAL_CONV_I_OFFSET : Fld := ⟨0x12001a4, 16, 16, 0x4⟩
def CAL_CONV_V_GAIN : Fld := ⟨0x12001a8, 0, 16, 0x4⟩
def CAL_CONV_V_OFFSET : Fld := ⟨0x12001a8, 16, 16, 0x4⟩
def CAL_SINK_INFO_CHANNEL : Fld := ⟨0x12001b0, 0, 7, 0x4⟩
def CAL_SINK_INFO_SPARES_USED : Fld := ⟨0x12001b0, 8, 5, 0x4⟩
def CAL_LADDER_INFO_TAP_OFFSET : Fld := ⟨0x12001b4, 0, 16, 0x4⟩
def THM_SENSOR_TEMP : Fld := ⟨0x1300100, 0, 16, 0x4⟩
def THM_SENSOR_STATE : Fld := ⟨0x1300100, 16, 2, 0x4⟩
def THM_SENSOR_ZONE : Fld := ⟨0x1300100, 20, 3, 0x4⟩
def THM_ZONE_TEMP : Fld := ⟨0x13001a0, 0, 16, 0x4⟩
def THM_ZONE_RISE : Fld := ⟨0x13001a0, 16, 16, 0x4⟩
def THM_RISE_LIMIT_WARN : Fld := ⟨0x13001c0, 0, 16, 0x4⟩
def THM_RISE_LIMIT_ACTION : Fld := ⟨0x13001c0, 16, 16, 0x4⟩
def THM_SAMPLE_FAST : Fld := ⟨0x13001e0, 0, 1, 0x4⟩
def THM_HW_STEP_SCENE : Fld := ⟨0x13001e4, 0, 3, 0x4⟩
def THM_HW_STEP_RAY : Fld := ⟨0x13001e4, 3, 3, 0x4⟩
def THM_HW_STEP_PANEL : Fld := ⟨0x13001e4, 6, 3, 0x4⟩
def THM_LIMITS_AT_100 : Fld := ⟨0x13001e8, 0, 6, 0x4⟩
def THM_LIMITS_AT_105 : Fld := ⟨0x13001e8, 8, 6, 0x4⟩
def THM_HOTTEST_SENSOR : Fld := ⟨0x13001ec, 0, 6, 0x4⟩
def THM_HOTTEST_TEMP : Fld := ⟨0x13001ec, 16, 16, 0x4⟩
def THM_BROKEN_LO_MAP : Fld := ⟨0x13001f0, 0, 32, 0x4⟩
def THM_BROKEN_HI_MAP : Fld := ⟨0x13001f4, 0, 32, 0x4⟩
def THM_GATES_CHARGE_OK : Fld := ⟨0x13001f8, 0, 1, 0x4⟩
def THM_GATES_LAYER_OK : Fld := ⟨0x13001f8, 1, 1, 0x4⟩
def THM_GATES_FLASH_OK : Fld := ⟨0x13001f8, 2, 1, 0x4⟩
def THM_GATES_SAVE_OK : Fld := ⟨0x13001f8, 3, 1, 0x4⟩
def THM_BROKEN_RETRY_RETRY : Fld := ⟨0x13001fc, 0, 1, 0x4⟩
def PWR_VIN_MV : Fld := ⟨0x1400100, 0, 16, 0x4⟩
def PWR_VIN_SLOPE : Fld := ⟨0x1400100, 16, 16, 0x4⟩
def PWR_VIN_MIN_MV : Fld := ⟨0x1400104, 0, 16, 0x4⟩
def PWR_VIN_MIN_CLR : Fld := ⟨0x1400104, 31, 1, 0x4⟩
def PWR_REGION_STATE_POWERED : Fld := ⟨0x1400108, 0, 4, 0x4⟩
def PWR_REGION_STATE_RAIL_OK : Fld := ⟨0x1400108, 16, 12, 0x4⟩
def PWR_RAIL_MV : Fld := ⟨0x1400110, 0, 16, 0x4⟩
def PWR_RAIL_CURRENT : Fld := ⟨0x1400110, 16, 16, 0x4⟩
def PWR_RAIL_FAULT_MAP : Fld := ⟨0x1400140, 0, 12, 0x4⟩
def PWR_CAP_CTRL_CHARGE_EN : Fld := ⟨0x1400144, 0, 1, 0x4⟩
def PWR_CAP_CTRL_MEASURE : Fld := ⟨0x1400144, 1, 1, 0x4⟩
def PWR_CAP_STATUS_STATE : Fld := ⟨0x1400148, 0, 3, 0x4⟩
def PWR_CAP_STATUS_CHARGING : Fld := ⟨0x1400148, 3, 1, 0x4⟩
def PWR_CAP_STATUS_TEMP_HOLD : Fld := ⟨0x1400148, 4, 1, 0x4⟩
def PWR_CAP_STATUS_RESERVE_OK : Fld := ⟨0x1400148, 5, 1, 0x4⟩
def PWR_CAP_V_MV : Fld := ⟨0x140014c, 0, 16, 0x4⟩
def PWR_CAP_C_UF : Fld := ⟨0x1400150, 0, 16, 0x4⟩
def PWR_CAP_C_LIMIT : Fld := ⟨0x1400150, 16, 16, 0x4⟩
def PWR_RESERVE_MJ : Fld := ⟨0x1400154, 0, 16, 0x4⟩
def PWR_RESERVE_NEED : Fld := ⟨0x1400154, 16, 16, 0x4⟩
def PWR_EDGE_TEMP_TEMP : Fld := ⟨0x1400158, 0, 16, 0x4⟩
def PWR_EDGE_TEMP_BROKEN : Fld := ⟨0x1400158, 16, 1, 0x4⟩
def PWR_PANEL_TEMP_TEMP : Fld := ⟨0x140015c, 0, 16, 0x4⟩
def PWR_PANEL_TEMP_VALID : Fld := ⟨0x140015c, 16, 1, 0x4⟩
def PWR_RECORD_STATUS_NEXT : Fld := ⟨0x1400160, 0, 3, 0x4⟩
def PWR_RECORD_STATUS_READY : Fld := ⟨0x1400160, 3, 1, 0x4⟩
def PWR_RECORD_SEQ_SEQ : Fld := ⟨0x1400164, 0, 32, 0x4⟩
def PWR_LAST_RECORD_KIND : Fld := ⟨0x1400168, 0, 3, 0x4⟩
def PWR_LAST_RECORD_VALID : Fld := ⟨0x1400168, 3, 1, 0x4⟩
def PWR_LAST_RECORD_LAYER_CUT : Fld := ⟨0x1400168, 4, 1, 0x4⟩
def PWR_LAST_RECORD_ENERGY : Fld := ⟨0x1400168, 16, 16, 0x4⟩
def PWR_MOORING_TEST_GO : Fld := ⟨0x1400170, 0, 1, 0x4⟩
def PWR_INPUT_POWER_P : Fld := ⟨0x1400174, 0, 16, 0x4⟩

end F

end Sys2Proof.Machine
end

