-- ==== Sys2Proof/Machine/Store.lean ====
section
/-!
DEFINITION. Machine/Store.lean: sparse data by key in one canonical form. A store is a list of (key, value) pairs,
keys strictly rising, and no value listed that equals what an unlisted key reads as (`d`). Memory and the register
files are stores.
-/

namespace Sys2Proof.Machine

/-- What key `k` reads as: its listed value, else the value `d k` of an unlisted key. -/
def storeGet {β : Type} (d : Nat → β) : List (Nat × β) → Nat → β
  | [], k => d k
  | (j, v) :: t, k => if j = k then v else storeGet d t k

/-- Every key that `p` names is set back to what an unlisted key reads as. -/
def storeDrop {β : Type} (p : Nat → Bool) (m : List (Nat × β)) : List (Nat × β) :=
  m.filter (fun e => !p e.1)

/-- Key `k` set to `v`: the canonical form is kept, so writing what an unlisted key reads as removes the entry. Every
entry of `k` goes then, so that what `k` reads as afterwards needs no premise on the list. -/
def storePut {β : Type} [DecidableEq β] (d : Nat → β) : List (Nat × β) → Nat → β → List (Nat × β)
  | [], k, v => if v = d k then [] else [(k, v)]
  | (j, w) :: t, k, v =>
    if k < j then (if v = d k then (j, w) :: storeDrop (fun i => i = k) t else (k, v) :: (j, w) :: t)
    else if k = j then (if v = d k then storeDrop (fun i => i = k) t else (k, v) :: t)
    else (j, w) :: storePut d t k v

/-- The canonical form: keys strictly rising and no listed value equal to the unlisted one. -/
abbrev storeWf {β : Type} (d : Nat → β) (m : List (Nat × β)) : Prop :=
  m.Pairwise (fun a b => a.1 < b.1) ∧ ∀ e ∈ m, e.2 ≠ d e.1

/-- The stores `ws`, oldest first, made one after another. -/
def storeAll {β : Type} [DecidableEq β] (d : Nat → β) (m : List (Nat × β)) (ws : List (Nat × β)) : List (Nat × β) :=
  ws.foldl (fun m e => storePut d m e.1 e.2) m

end Sys2Proof.Machine
end

