-- ==== Sys2Proof/Machine/State.lean ====
section
/-!
DEFINITION. Machine/State.lean: the state of the module as plain data: the register file, every engine's own state, the
device memory and the queue of waiting commands; the reasons a step can stop; and the state after reset.
-/

namespace Sys2Proof.Machine

/-- The reasons for a fault: none. Every row of the table has an effect the spec gives (NOTES.md, Stops), so the type
has no constructor. -/
inductive Fault where
  deriving DecidableEq, Repr

/-- The reasons for a refusal. -/
inductive Refusal where
  /-- Raised by an arm of `exec` whose command has no meaning yet, with the row's mnemonic. Safe: nothing is claimed of
  such a command. -/
  | notModelled (mnemonic : String)
  deriving DecidableEq, Repr

/-- What the module answers to one access (spec/17_adeak_link.md Table 6). -/
inductive Status where
  | ok | unmapped | unaligned | locked | parity | busy | invalid | full
  deriving DecidableEq, Repr

/-- The answer to the last register or memory access: its status and the word read. -/
structure Response where
  status : Status := .ok
  data : Word := 0
  deriving DecidableEq, Repr

/-- The operating modes of R68 Table 1. -/
inductive Mode where
  | off | standby | boot | safe | flat | lightfield | hold | mooring
  deriving DecidableEq, Repr

/-- A change of a whole range of device memory at once. -/
inductive MemFill where
  /-- Every byte from `lo` up to `hi` takes 0: the clears of R202 and R365, and fill-path blocks of code 0. -/
  | zero (lo hi : Nat)
  /-- The 1 048 576 tile contexts at `base` take PROXY 0, OCC 0xFFFF and all other fields 0 (R169). -/
  | contexts (base : Nat)
  /-- STALE is set in every tile context at `base` (R169). -/
  | stale (base : Nat)
  /-- The first `n` tile contexts at `base` as the fill path leaves them: CARRIED set, FINISHED and FLAT_WIN clear (R169,
  R198). -/
  | carried (base n : Nat)
  /-- All of LPDDR6 takes what re-fold number `n` leaves there (R365, R383). -/
  | refold (n : Nat)
  deriving DecidableEq, Repr

/-- One store of this step into device memory; `run` applies them, oldest first, at the end of the step. -/
inductive MemOp where
  /-- One byte at a device address. -/
  | byte (addr : Nat) (b : Byte)
  /-- A change of a whole range. -/
  | fill (f : MemFill)
  deriving DecidableEq, Repr

/-- Device memory: the changes of whole ranges made so far, newest first, and the listed bytes. A byte that is not
listed reads as the changes of whole ranges leave it, 0 where there is none. -/
structure Memory where
  cells : List Host.Cell := []
  fills : List MemFill := []
  deriving DecidableEq, Repr

/-- The three value tiers of the register pages (R15), by key; a key no list names holds its reset value. -/
structure Regs where
  /-- The value at the register's own offset: the staged value of a staged field, the value of every other field. -/
  imm : List (Nat × Word) := []
  /-- The value taken at plan lock. -/
  locked : List (Nat × Word) := []
  /-- The value that governs, read at offset + 0x800. -/
  active : List (Nat × Word) := []
  /-- Keys staged since the last plan lock, first staged first. -/
  dirty : List Nat := []
  /-- Keys whose locked value waits for the coming commit. -/
  waiting : List Nat := []
  /-- Keys whose stored byte parity is inverted (R66). -/
  badParity : List Nat := []
  /-- Pages that asked for a block reset at the next commit (R57). -/
  inReset : List Nat := []
  /-- Pages whose locked set was rejected at the last plan lock, and waits for the commit. -/
  rejectNow : List Nat := []
  /-- Pages whose STAGE.REJECTED reads 1. -/
  rejected : List Nat := []
  /-- The last REGISTER_WRITE that changed staged bits, by key and master: a write in the same cycle is judged by it
  (R24). -/
  last : Option (Nat × Master) := none
  deriving DecidableEq, Repr

/-- Error events of one page in the current frame, by the class they reached (R43). -/
structure PageCount where
  corr : Nat := 0
  cont : Nat := 0
  isol : Nat := 0
  deriving DecidableEq, Repr

/-- One entry of the error log (R536, R567). -/
structure LogEntry where
  field : Nat
  sec : Nat
  ns : Nat
  block : Nat
  inst : Nat
  entry : Nat
  code : Nat
  info : Word
  addrLo : Word
  addrHi : Word
  deriving DecidableEq, Repr

/-- A FATAL event that waits for the next tick (R45). -/
structure FatalEvent where
  page : Nat
  code : Nat
  deriving DecidableEq, Repr

/-- The error ladder's own state. -/
structure Ladder where
  counts : List (Nat × PageCount) := []
  fatal : Option FatalEvent := none
  /-- Pages whose held record an event of the running command filled: events of one command fall in one cycle (R48). -/
  now : List Nat := []
  deriving DecidableEq, Repr

/-- Event packets to one host context (R64, R402): a delivered bit rose and no packet has gone out since; the 10 µs
after a packet are running; the packet merged one or more rises for want of a credit; the first packet after the link
resumed. -/
structure HostEvents where
  rise : Bool := false
  window : Bool := false
  merged : Bool := false
  resume : Bool := false
  deriving DecidableEq, Repr

/-- The field tick and the plan (chapter 1). -/
structure Tick where
  /-- The 32-bit field counter (R10). -/
  field : Nat := 0
  /-- The 32-bit frame counter. -/
  frame : Nat := 0
  /-- The sector of the field being scanned out. -/
  sector : Nat := 0
  /-- 1 from plan lock to the commit. -/
  planLocked : Bool := false
  /-- The target of the next sector-0 tick that a host tick packet gave, in seconds and nanoseconds of local time (R11). -/
  hostTarget : Option (Nat × Nat) := none
  /-- The target of the last sector-0 tick under HOST, from which the other ticks of its frame are spaced (R11). -/
  hostBase : Option (Nat × Nat) := none
  /-- The last target tick that trigger unit 0 delivered under TIME, in seconds and nanoseconds (R11, R449). -/
  timeTarget : Option (Nat × Nat) := none
  deriving DecidableEq, Repr

/-- The local time of the time base: seconds, nanoseconds and 2⁻³² ns (R435). -/
structure Clock where
  sec : Nat := 0
  ns : Nat := 0
  frac : Nat := 0
  deriving DecidableEq, Repr


/-! ### Flash held by the Keeper: the error log (R51, R567) -/

/-- The error log in flash and the entries that wait for the flash gate. -/
structure ErrorLog where
  /-- The newest 256 entries, oldest first. -/
  entries : List LogEntry := []
  /-- Entries appended since manufacture. -/
  total : Nat := 0
  /-- Entries that wait while the flash-write gate is closed, oldest first. -/
  waiting : List LogEntry := []
  /-- Entries lost because 32 waited already. -/
  lost : Nat := 0
  deriving DecidableEq, Repr

/-! ### Timing modes (chapter 10) -/

/-- A timing mode's figures (R216 Table 1). -/
structure Timing where
  width : Nat
  height : Nat
  frameHz : Nat
  sectors : Nat
  /-- Blanking lines at the head of the interval. -/
  blank : Nat
  laneGbps : Nat
  lanes : Nat
  deriving DecidableEq, Repr

/-- A rectangle with half-open spans. -/
structure Rect where
  x0 : Nat
  y0 : Nat
  x1 : Nat
  y1 : Nat
  deriving DecidableEq, Repr

/-! ### The scene ring (chapter 5) -/

/-- A layer descriptor as HLK read it (R99). -/
structure Layer where
  lt48 : Bool
  ratio : Nat
  width : Nat
  height : Nat
  /-- Z_k, signed 16.16. -/
  z : Int
  /-- RELIEF_STEP, unsigned 4.12. -/
  relief : Nat
  scaleX : Nat
  scaleY : Nat
  /-- OFF_X and OFF_Y, signed 24.8. -/
  offX : Int
  offY : Int
  groups : Nat
  deriving DecidableEq, Repr

/-- What HLK keeps of a scene frame's header (R98) and its layers. -/
structure Frame where
  alive : Nat := 0
  timed : Bool := false
  lateDrop : Bool := false
  transfer : Nat := 0
  primaries : Nat := 0
  target : Nat := 0
  sourcePeak : Nat := 0
  totalGroups : Nat := 0
  frameBytes : Nat := 0
  timeNs : Nat := 0
  timeS : Nat := 0
  layers : List Layer := []
  deriving DecidableEq, Repr

/-- A complete frame and the ring slot that holds it. -/
structure SlotFrame where
  slot : Nat
  frame : Frame
  /-- The 16 input digests of R238. -/
  digests : List Nat := []
  deriving DecidableEq, Repr

/-- The frame that is landing: its slot and the bytes as they landed, in order. -/
structure Fill where
  slot : Nat
  bytes : List Byte
  deriving DecidableEq, Repr

/-- The three-slot ring (R104 to R106). -/
structure Ring where
  use : Option SlotFrame := none
  ready : Option SlotFrame := none
  queued : Option SlotFrame := none
  /-- Complete but unplaced: its slot stays in state FILL (R106). -/
  unplaced : Option SlotFrame := none
  fill : Option Fill := none
  /-- Packets up to the next START belong to a discarded frame and are not counted in STRAY (R110). -/
  skip : Bool := false
  /-- ALIVE of the last frame that completed since ENABLE rose (R103). -/
  lastAlive : Option Nat := none
  deriving DecidableEq, Repr

/-! ### The block codec (chapter 6) -/

/-- The coded formats (R119). -/
inductive Fmt where
  | lt48 | lt40 | px30 | ov32
  deriving DecidableEq, Repr

/-- A job or command posted in a descriptor ring: its slot, its START (R20), the field number at whose commit it may
start, and how it will end when it reaches the head of the ring, if that is decided (a STATUS). -/
structure Posted where
  index : Nat
  start : Nat
  plan : Nat
  doom : Option Nat := none
  /-- The descriptor's words as they were checked: at posting for ASAP, else at the head of the ring (R138). -/
  words : Option (List Nat) := none
  deriving DecidableEq, Repr

/-- The running CDC job: its slot, START, descriptor words 0 to 11 as they were checked, the texel counts at which it was
flushed (R132), and the field that its plan starts (R139). -/
structure CdcJob where
  index : Nat
  start : Nat
  words : List Nat
  flushAt : List Nat := []
  plan : Nat := 0
  deriving DecidableEq, Repr

/-- CDC's own state. -/
structure Cdc where
  posted : List Posted := []
  running : Option CdcJob := none
  /-- Slots whose job completed since they were last posted (R143). -/
  done : List Nat := []
  /-- Slots whose TICK job completed since the last synthesis deadline (R21). -/
  tickDone : List Nat := []
  /-- The rows of the field that the running CAPTURE job has tapped: (row, PX30 words). -/
  captured : List (Nat × List Nat) := []
  deriving DecidableEq, Repr

/-- A decoded block of a scene layer in the level-2 texel cache: its layer, block column and row (R149, R150). -/
structure TexLine where
  layer : Nat
  bx : Nat
  bty : Nat
  /-- The way of its set that holds it: its 512 bytes lie in the SRAM range at L2_BASE. -/
  way : Nat
  deriving DecidableEq, Repr

/-! ### The ray engine, the lens map and the field store (chapters 7 to 9) -/

/-- A tile in flight: its cluster, number, occupancy mask, deadline class, and what its attempt has met. -/
structure TileSlot where
  cluster : Nat
  tile : Nat
  mask : Nat
  cls : Nat
  ctxBad : Bool
  /-- A parity error restarted it once (R175). -/
  parity : Bool
  deriving DecidableEq, Repr

/-- A block in a cluster's level-1 cache: its tag. -/
structure L1Tag where
  cluster : Nat
  layer : Nat
  bx : Nat
  bty : Nat
  deriving DecidableEq, Repr

/-- A level-1 line: the tag and the 512 bytes of its 64 texels (R149). -/
structure L1Line where
  tag : L1Tag
  data : List Byte
  deriving DecidableEq, Repr

/-- The ray engine's own state. -/
structure Ray where
  /-- Synthesis runs in this interval. -/
  running : Bool := false
  /-- The sector it synthesises. -/
  sector : Nat := 0
  slots : List TileSlot := []
  /-- The next tile to look at in schedule order: deadline class, then tile number (R166). -/
  nextCls : Nat := 0
  nextTile : Nat := 0
  /-- Tiles of a cluster taken out of service, to be dispatched again (R178). -/
  redo : List Nat := []
  /-- Tiles that finished, or were filled, in this interval. -/
  finished : List Nat := []
  /-- Level-2 lines, least recently used first, and the level-1 lines of every cluster likewise (R149, R150). -/
  lines : List TexLine := []
  l1 : List L1Line := []
  /-- Blocks asked of CDC: the cluster that waits and the block. -/
  asked : List L1Tag := []
  /-- Groups (layer, number) that R111 made transparent for this display frame. -/
  transparent : List (Nat × Nat) := []
  /-- Segment classes other than UNKNOWN: ((layer, block row, segment), class) (R171). -/
  segs : List ((Nat × Nat × Nat) × Nat) := []
  /-- Clusters of the tiles filled under R176 in this frame. -/
  parityFills : List Nat := []
  /-- Clusters whose return was asked for (R178), a bit each. -/
  returning : Nat := 0
  /-- A ray was clamped in this interval. -/
  clamped : Bool := false
  deriving DecidableEq, Repr

/-- The lens map's own state. -/
structure Lens where
  /-- Grid nodes read as 0 for the rest of the interval (R189), by address. -/
  zeroed : List Nat := []
  /-- Tiles that met each viewer zone in this interval (R196). -/
  zones : List Nat := [0, 0, 0, 0, 0, 0, 0, 0]
  /-- A direction was clamped in this interval. -/
  clamped : Bool := false
  /-- Fields are filled with code 0 because no accepted set covers the mode (R198). -/
  rejectFill : Bool := false
  deriving DecidableEq, Repr

/-- The field store's own state: for buffers 0 and 1, the base and coding ratio each was last written at (R211). -/
structure FieldStore where
  base0 : Nat := 0x1000000000
  base1 : Nat := 0x1009E34000
  ratio0 : Nat := 0
  ratio1 : Nat := 0
  deriving DecidableEq, Repr

/-! ### Panel conditioning (chapter 12) -/

/-- PCN's own state. -/
structure Pcn where
  /-- Table entries that differ from their reset value, by table × 8 192 + index (R276). -/
  table : List (Nat × Nat) := []
  /-- The band chosen at plan lock, for the commit (R273). -/
  bandNext : Nat := 0
  /-- No commit has come since the Panel region was powered. -/
  firstBand : Bool := true
  /-- Overdrive is bypassed in the field being scanned out (R212). -/
  bypass : Bool := false
  /-- Bypass the first field of the next plan. -/
  bypassNext : Bool := true
  /-- Demura is off for the rest of the field (R269). -/
  demuraOff : Bool := false
  /-- Demura blocks whose cells take m = 1 024 and h = 0 in this field, by block number. -/
  demuraBad : List Nat := []
  /-- Pixels (x, y) whose history read repeated its parity error in this field (R213). -/
  histBad : List (Nat × Nat) := []
  /-- PROBE_SEL was written and nothing has latched since; the first field to latch from has started. -/
  probeAsked : Bool := false
  probeArmed : Bool := false
  deriving DecidableEq, Repr

/-! ### Scan-out and the panel lanes (chapters 10 and 13) -/

/-- What Daymark keeps of a field (R237, R239): its signatures, the regions that an opaque rectangle in force or a flat
window wholly holds, and the ALIVE and input digests of the scene frame it shows. -/
structure FieldRec where
  sigs : List Nat := []
  /-- The frame counter in that field. -/
  frame : Nat := 0
  covered : List Bool := []
  alive : Option Nat := none
  digests : List Nat := []
  deriving DecidableEq, Repr

/-- Scan-out's own state. -/
structure Scan where
  /-- The next line period of the field. -/
  next : Nat := 0
  /-- The field is one that R280 skips. -/
  skip : Bool := false
  /-- The opaque rectangles in force, decided at the commit (R226, R227), by plane. -/
  opaques : List (Nat × Rect) := []
  /-- Plane-0 blocks whose parity error repeated in this field (R213). -/
  lfBad : List Nat := []
  /-- The running CRC of each region's pixels in this field, and whether its lines pass through conditioning. -/
  crcs : List Nat := []
  /-- ALIVE and digests of the scene frame that the frame being scanned out is bound to. -/
  alive : Option Nat := none
  digests : List Nat := []
  /-- The last field of each sector. -/
  prev : List (Nat × FieldRec) := []
  /-- c[s][r] at key 16 s + r (R239). -/
  counts : List (Nat × Nat) := []
  /-- A field of this raster is in progress: its end is judged at the next commit. -/
  live : Bool := false
  /-- The module was in Hold at the last commit (R240). -/
  held : Bool := false
  deriving DecidableEq, Repr

/-- The counts of a driver's last status frame, by port × 256 + GROUP. -/
structure DriverCounts where
  crc : Nat := 0
  hdr : Nat := 0
  mkr : Nat := 0
  deriving DecidableEq, Repr

/-- A status frame that arrived in the running field: the driver, how far CRC_ERRS advanced, and LOCK. -/
structure FrameSeen where
  port : Nat
  group : Nat
  adv : Nat
  lock : Bool
  deriving DecidableEq, Repr

/-- How a lane has been judged: consecutive bad fields, and the fields left before it is judged afresh (R300). -/
structure LaneJudge where
  bad : Nat := 0
  wait : Nat := 0
  deriving DecidableEq, Repr

/-- The serial lanes' own state. -/
structure Lanes where
  /-- The line packets of the last line sent, one per data lane of port A and of port B; none on a lane in electrical idle. -/
  packets : List (List Byte) := []
  packetsB : List (List Byte) := []
  /-- The commands of the line period in progress, first sent first (R235, R294), and when each starts, in ns from the first
  of its drive events (R235). -/
  commands : List (List Byte) := []
  starts : List Nat := []
  drivers : List (Nat × DriverCounts) := []
  seen : List FrameSeen := []
  /-- Frames of this field that failed HCRC, by port. -/
  badFrames : List Nat := [0, 0, 0, 0]
  /-- Lanes by port × 64 + lane. -/
  judge : List (Nat × LaneJudge) := []
  /-- Return receivers, by port × 2 + path, whose lanes are not judged: out of lock, or regained since the last commit
  (R301). -/
  lost : List Nat := [2, 3, 4, 5, 6]
  /-- A training runs; the lanes whose drivers did not report LOCK 1 at its first check, by port × 64 + lane. -/
  training : Bool := false
  unlocked : List Nat := []
  /-- The last frame of each driver since the training began. -/
  trainFrames : List FrameSeen := []
  deriving DecidableEq, Repr

/-! ### The 2D engine (chapter 11) -/

/-- The running BLT command: its slot, START, words 0 to 34 as checked, rows completed, pixels written, whether a row was
held, whether the next row's hold was counted, and whether a read repeated a parity error. -/
structure BltCmd where
  index : Nat
  start : Nat
  words : List Nat
  rows : Nat := 0
  pixels : Nat := 0
  held : Bool := false
  counted : Bool := false
  parity : Bool := false
  deriving DecidableEq, Repr

/-- The 2D engine's own state. -/
structure Blt where
  posted : List Posted := []
  running : Option BltCmd := none
  /-- Slots whose command completed since they were last posted, and those whose TICK command completed since the last
  synthesis deadline (R21). -/
  done : List Nat := []
  tickDone : List Nat := []
  /-- Pixels written in the running interval. -/
  pixels : Nat := 0
  /-- Window slots in CLOSING whose clearing update is posted at the next commit (R255, R257). -/
  clearNext : List Nat := []
  /-- Region-layer updates that windows wait for: (slot, update number). -/
  updates : List (Nat × Nat) := []
  deriving DecidableEq, Repr

/-! ### The sector light (chapter 14) -/

/-- What lights in a field, as R313 Table 4 distinguishes it. -/
inductive LightState where
  /-- No channel. -/
  | dark
  /-- Lightfield or Hold RESYNTH under a light-field mode. -/
  | sectors
  /-- Flat under a light-field mode: every channel at EVEN_GAIN. -/
  | evenAll
  /-- A flat timing mode: every channel. -/
  | flat
  /-- Safe: every channel through its linear sink, at the settings of R70. -/
  | safe
  deriving DecidableEq, Repr

/-- The scan-out-side values of a plan that govern the lighting of its field (R312). -/
structure LightPlan where
  state : LightState := .dark
  sector : Nat := 0
  chanSector : List Nat := []
  bright : Nat := 0
  trim : List Nat := []
  evenGain : Nat := 0
  chanMode : List Nat := []
  switchEn : Bool := false
  linGlobal : Nat := 0
  linCh : List Nat := []
  windows : List Rect := []
  fwCover : Nat := 0
  spans : List (Nat × Nat) := []
  height : Nat := 0
  /-- PEAK, PC_TIME, HYST, LIN_FALLBACK, VOPEN and VSHORT. -/
  peak : Nat := 0
  pcTime : Nat := 10
  hyst : Nat := 20
  linFallback : Bool := true
  vOpen : Nat := 4000
  vShort : Nat := 100
  deriving DecidableEq, Repr

/-- A channel that conducts in the lit window in progress: its current in µA, its target in µA, and its lit time in 10 ns. -/
structure Lit where
  ch : Nat
  flow : Nat
  target : Nat
  time : Nat
  deriving DecidableEq, Repr

/-- The low-side gate drive CH_G of a channel in SWITCH mode: whether it is on, and when it last turned on, in ns of the lit
window (R318). -/
structure Gate where
  ch : Nat
  on : Bool := false
  last : Option Nat := none
  deriving DecidableEq, Repr

/-- The sector light's own state. Crossings are numbered line × 128 + channel. -/
structure Sec where
  /-- The next slot of the interval, and the scan line of the slot in progress where one is lit. -/
  next : Nat := 0
  line : Option Nat := none
  /-- The plan of the field being scanned out and the one before it. -/
  cur : LightPlan := {}
  prev : LightPlan := {}
  /-- LAG in force, the one before it, and whether this is the first interval under it. -/
  lag : Nat := 2
  lagOld : Nat := 2
  lagFirst : Bool := false
  /-- The slot's lit window is still to start. -/
  awaiting : Bool := false
  /-- I_CAP of the slot in progress, in mA (R316). -/
  iCap : Nat := 0
  /-- The channels that conduct in the lit window in progress, and CH_G of those in SWITCH mode. -/
  running : List Lit := []
  gates : List Gate := []
  /-- OWNER.DRIVE as it has committed. -/
  drive : Bool := true
  /-- A Mooring trigger has come. -/
  moored : Bool := false
  /-- VLED left its window and switching has not resumed; it has been inside for 10 ms. -/
  vledOut : Bool := false
  vledReady : Bool := false
  /-- Crossings marked open and short. -/
  openMarks : List Nat := []
  shortMarks : List Nat := []
  /-- Consecutive failed checks of a crossing: open, short. -/
  fails : List (Nat × (Nat × Nat)) := []
  /-- Crossings checked in this frame, and those marked faulty in it. -/
  checked : List Nat := []
  fresh : List Nat := []
  /-- Channels lost: 2 with their switching stage, 0 altogether. -/
  lost : List (Nat × Nat) := []
  /-- Consecutive lit windows in which a channel did not reach half its target. -/
  slow : List (Nat × Nat) := []
  /-- Consecutive slots in which a channel carried current with its gates off. -/
  stuck : List (Nat × Nat) := []
  /-- Frames in a row, and the last of them, in which a line's checks failed open; slots in a row of the scan-short test. -/
  scanOpen : List (Nat × (Nat × Nat)) := []
  scanShort : List (Nat × Nat) := []
  /-- Charge passed by each channel, in pC; 10⁹ of them are 1 mC. -/
  charge : List (Nat × Nat) := []
  /-- The last conversion of a crossing: 0.1 mA and 10 mV. -/
  meas : List (Nat × (Nat × Nat)) := []
  deriving DecidableEq, Repr
/-! ### The region layer (chapter 15) -/

/-- A rectangle of cells that took a level, or that can no longer be vouched for (R336); the newest comes last. -/
structure Paint where
  rect : Rect
  /-- The level, or none: UNKNOWN is set and the level bits stay. -/
  level : Option Nat
  deriving DecidableEq, Repr

/-- An update: the number it got when it was posted, its ID, rectangle and target, whether it runs in the two steps of
R355, and whether it belongs to the boot repair. -/
structure AplUpdate where
  num : Nat
  id : Nat
  rect : Rect
  target : Nat
  two : Bool := false
  boot : Bool := false
  deriving DecidableEq, Repr

/-- An update in flight (R349 to R355). -/
structure AplRun where
  u : AplUpdate
  slot : Nat
  bank : Nat
  /-- 0 its only phase, 1 the first and 2 the second of two. -/
  phase : Nat
  /-- Frames of the phase that have started, and the phase's length. -/
  done : Nat := 0
  len : Nat
  /-- Frames of finished phases. -/
  before : Nat := 0
  /-- It stops under R351 and ends ABORTED. -/
  stop : Bool := false
  /-- It stops by reversal, with so many reversed frames left. -/
  rev : Option Nat := none
  /-- It ends with the phase in progress (R353). -/
  phaseOnly : Bool := false
  suspended : Bool := false
  restarts : Nat := 0
  deriving DecidableEq, Repr

/-- A layer frame that waits for its report (R346): its number, rows and updates, the drivers that have reported, and
whether it counted in UNVERIFIED. -/
structure AplFrame where
  num : Nat
  rows : List Nat
  updates : List AplUpdate
  reported : List Nat := []
  unverified : Bool := false
  deriving DecidableEq, Repr

/-- An entry of a record's region-layer part (R359 Table 4). -/
structure AplEntry where
  rect : Rect
  level : Nat
  /-- 0 HELD, 1 COMPLETED, 2 REVERSED, 3 UNKNOWN. -/
  outcome : Nat
  id : Nat
  deriving DecidableEq, Repr

/-- The region layer's own state. -/
structure Apl where
  paints : List Paint := []
  /-- Updates that wait to start, in order, and those that wait for their plan's commit. -/
  queue : List AplUpdate := []
  plans : List (AplUpdate × Nat) := []
  runs : List AplRun := []
  /-- The last completion of each ID, and completions whose frames still wait for a report. -/
  done : List AplUpdate := []
  nextNum : Nat := 0
  held : List (Rect × Nat) := []
  overflow : Bool := false
  frames : List AplFrame := []
  /-- How far each driver's error counts have advanced since its last report, by GROUP. -/
  adv : List (Nat × Nat) := []
  /-- The band in force, a change that waits, and whether none has been chosen yet. -/
  band : Nat := 0
  bandNext : Option Nat := none
  firstBand : Bool := true
  frozen : Bool := false
  /-- OWNER.DRIVE as it is in force, and whether its rise restarts the updates in flight. -/
  drive : Bool := true
  restartUp : Bool := false
  /-- Rails: 0 down, 1 rising, 2 up; for each rail, the consecutive checks that found it outside its window. -/
  rails : Nat := 0
  railBad : List Nat := []
  /-- RAIL_CTRL.EN committed to 0: updates stop and the queue is held. -/
  hold : Bool := false
  /-- No update starts until the next power-up: the layer stops for Mooring, shutdown or FATAL. -/
  halted : Bool := false
  /-- A block reset waits for the stops (R352). -/
  resetting : Bool := false
  /-- The held list as it stood when the layer stopped for a record, and the entries of the updates it stopped. -/
  snap : Option (List (Rect × Nat) × Bool) := none
  ends : List AplEntry := []
  /-- The map is rebuilt from the last record once the profile's values have committed (R360). -/
  rebuild : Bool := false
  /-- Waveform words by bank × 512 + INDEX (R362). -/
  table : List (Nat × Nat) := []
  /-- The packets of the last frame sent: those of lane 0, then 1, 2 and 3. -/
  sent : List (List Byte) := []
  deriving DecidableEq, Repr


/-! ### The LPDDR6 controller (chapter 16) -/

/-- A request of at most 64 bytes that waits at a port: its port and source, the bytes it writes (none for a read), its
address and length, how long it has waited in ns, and the job it belongs to. -/
structure MemReq where
  port : Nat
  source : Nat
  write : Option (List Byte)
  addr : Nat
  len : Nat
  age : Nat := 0
  job : Nat
  deriving DecidableEq, Repr

/-- What a read returned to its job: the address, the data, and whether it came with status PARITY. -/
structure MemDone where
  job : Nat
  addr : Nat
  data : List Byte
  bad : Bool
  deriving DecidableEq, Repr

/-- A sub-channel: the bank the next refresh falls on, the banks of owed refreshes (oldest first), those a quiet window
holds, how many owed refreshes must issue now, and the weighted round-robin's port and grants left. -/
structure SubChannel where
  nextBank : Nat := 0
  owed : List Nat := []
  held : List Nat := []
  must : Nat := 0
  rrPort : Nat := 0
  rrLeft : Nat := 0
  deriving DecidableEq, Repr

/-- A granted training: the channel index, RETRAIN rather than TRACK, the windows left in this interval, and whether it
was granted by RETIRE_CTRL.RETRY. -/
structure Quiet where
  ch : Nat
  retrain : Bool
  left : Nat
  retry : Bool
  deriving DecidableEq, Repr

/-- The memory controller's own state. -/
structure Dram where
  /-- Live channels, by index 0 to 7, ascending. -/
  live : List Nat := []
  /-- Requests that wait, in arrival order, and what reads have returned. -/
  reqs : List MemReq := []
  done : List MemDone := []
  /-- Sub-channels, by channel index × 2 + sub-channel. -/
  subs : List (Nat × SubChannel) := []
  /-- The fog port served last, 0 P3 or 1 P4. -/
  fogLast : Nat := 1
  quiet : Option Quiet := none
  /-- Channels that retire, and that rejoin, at the next frame boundary. -/
  retire : List Nat := []
  rejoin : List Nat := []
  /-- Re-folds since the Scene region was powered first. -/
  refolds : Nat := 0
  deriving DecidableEq, Repr
/-! ### Mode changes (chapter 4) -/

/-- A MODE_SET that waits or acts (R76, R77). -/
structure ModeRequest where
  /-- The mailbox endpoint it came from. -/
  ep : Nat
  target : Nat
  timing : Nat
  holdVar : Nat
  tag : Nat
  deriving DecidableEq, Repr

/-- A dark sequence (R80): the timing mode it changes to and the one it leaves, its stage (0 two black fields of the old
mode, 1 the training slot, 2 two black fields of the new mode), the commits left of a black stage, and whether it re-phases
the raster under R13. -/
structure DarkSeq where
  timing : Nat
  old : Nat
  stage : Nat := 0
  left : Nat := 1
  phase : Bool := false
  deriving DecidableEq, Repr

/-- A shutdown order (R88): where it leads and why, and the commits left of its black fields. -/
structure Shutdown where
  target : Mode
  cause : Nat
  left : Nat
  deriving DecidableEq, Repr

/-- A transition that waits for its instant. -/
structure Transition where
  target : Mode
  timing : Nat
  cause : Nat
  holdVar : Nat := 0
  /-- It runs a dark sequence though the timing mode stays (R13, R470), and whether to re-phase. -/
  dark : Bool := false
  phase : Bool := false
  deriving DecidableEq, Repr

/-- The module's mode changes. -/
structure Modes where
  dark : Option DarkSeq := none
  shutdown : Option Shutdown := none
  /-- The pending request, and the one whose transition runs. -/
  pending : Option ModeRequest := none
  acting : Option ModeRequest := none
  /-- A transition taken at the plan lock for the coming frame boundary. -/
  next : Option Transition := none
  /-- The commit of its frame boundary has come. -/
  due : Bool := false
  /-- A transition whose cause has arisen and that waits for a plan lock. -/
  wanted : Option Transition := none
  /-- Mode and timing mode held before Hold. -/
  holdMode : Mode := .flat
  holdTiming : Nat := 0
  /-- In FLAT_HOLD the last swap of the field buffers has been made (R278). -/
  holdSwapped : Bool := false
  /-- VIN has been at or above 6.0 V for 2 ms; PWR_EN. -/
  vinValid : Bool := true
  pwrEn : Bool := true
  /-- PWR_EN fell during Boot: the shutdown order follows the step in progress. -/
  stopBoot : Bool := false
  /-- The boot ROM runs: no firmware image was accepted (R86). -/
  bootRom : Bool := false
  /-- A re-phase in the dark is wanted at the next frame boundary (R13). -/
  rephase : Bool := false
  deriving DecidableEq, Repr

/-! ### The Adeak link (chapter 17) -/

/-- A DATA flit that no ACK covers yet: its sequence number, virtual channel, 64 payload bytes and how often it was resent
(R394). -/
structure TxFlit where
  seq : Nat
  vc : Nat
  data : List Byte
  resent : Nat := 0
  deriving DecidableEq, Repr

/-- A DMA read or write whose memory accesses run, by its job number. -/
structure DmaJob where
  job : Nat
  ctx : Nat
  tag : Nat
  addr : Nat
  len : Nat
  write : Bool
  ackreq : Bool := false
  /-- A read of SRAM: the bytes as they stood when it was issued (R208), and the 64-byte lines of bad parity among them. -/
  data : List Byte := []
  stuck : List Nat := []
  deriving DecidableEq, Repr

/-- The Adeak link's own state. -/
structure Hlk where
  /-- A NAK was sent and the flit it named has not been accepted. -/
  nak : Bool := false
  replay : List TxFlit := []
  /-- Payloads that wait to be sent for the first time: virtual channel and 64 bytes. -/
  waiting : List (Nat × List Byte) := []
  /-- VC1 flits sent in a row while VC0 or VC2 had one ready (R396). -/
  vc1Run : Nat := 0
  /-- Credits held, and the peer's buffers as its INIT advertised them, by virtual channel. -/
  credits : List Nat := [0, 0, 0]
  peerBuf : List Nat := [0, 0, 0]
  /-- Buffers in use or freed and not returned yet, by virtual channel. -/
  held : List Nat := [0, 0, 0]
  owed : List Nat := [0, 0, 0]
  /-- Flit payloads of the packets now arriving, by virtual channel. -/
  parts : List (Nat × List (List Byte)) := []
  /-- DMA accesses in progress, and reads behind RD_MAX of their context, in order. -/
  dma : List DmaJob := []
  readQueue : List Packet := []
  nextJob : Nat := 0
  /-- Lanes the peer last reported, lanes that pass here, and the rate being tried: 0 8, 1 16, 2 32 Gb/s. -/
  peerLanes : Nat := 0
  ownLanes : Nat := 0
  trainRate : Nat := 0
  /-- The two sides agree on a width and a rate: INIT flits cross. -/
  agreed : Bool := false
  /-- Width code and rate before the RECOVER that runs. -/
  oldWidth : Nat := 3
  oldRate : Nat := 0
  /-- The link has been UP before. -/
  wasUp : Bool := false
  /-- Requests are no longer executed (R405), and LP_REQ has been sent. -/
  stopped : Bool := false
  lpReq : Bool := false
  /-- A host wrote ENABLE 0 over the link: it goes DOWN once the completion has been sent. -/
  downNext : Bool := false
  /-- Flits of this interval: DATA sent, DATA received, resend episodes. -/
  txCount : Nat := 0
  rxCount : Nat := 0
  replays : Nat := 0
  /-- The flits that the last link command put on the lanes, 72 bytes each; idle NULL flits are not listed. -/
  wire : List (List Byte) := []
  deriving DecidableEq, Repr


/-! ### The tile link (chapter 18) -/

/-- A sequenced tile frame that no ACK covers yet (R412): its number, type, ID, payload and how often it was resent. -/
structure TileTx where
  seq : Nat
  kind : Nat
  id : Nat
  data : List Byte
  resent : Nat := 0
  deriving DecidableEq, Repr

/-- A frame that waits for room in the replay buffer. -/
structure TileWait where
  kind : Nat
  id : Nat
  data : List Byte
  deriving DecidableEq, Repr

/-- One link of a port: the whole port, or one lane of a SPLIT port. -/
structure TileLink where
  up : Bool := false
  /-- It retrains with its numbers and buffers kept. -/
  kept : Bool := false
  /-- The next number expected and the next number to use. -/
  expect : Nat := 0
  next : Nat := 0
  /-- A NAK was sent and the frame it named has not been accepted. -/
  nak : Bool := false
  replay : List TileTx := []
  waiting : List TileWait := []
  /-- The last received frame had ACTIVE 1. -/
  active : Bool := false
  deriving DecidableEq, Repr

/-- A member of the wall as its Tender keeps it: its ID, PAIRED, the sides that joined, and consecutive summaries without
it. -/
structure TileMember where
  id : Nat
  paired : Bool
  sides : List Nat
  absent : Nat := 0
  deriving DecidableEq, Repr

/-- A summary (Table 5). -/
structure Summary where
  plan : Nat
  level : Nat
  flags : Nat
  bright : Nat
  budget : Nat
  members : Nat
  events : Nat
  late : Nat
  deriving DecidableEq, Repr

/-- A barrier (Table 4). -/
structure Barrier where
  field : Nat
  frame : Nat
  level : Nat
  flags : Nat
  cap : Nat
  target : Nat
  timing : Nat
  holdVar : Nat
  at_ : Nat
  deriving DecidableEq, Repr

/-- A wall-wide transition that the Tender announces (R423): the request, AT once it is fixed, and whether it is
cancelled. -/
structure WallMove where
  ep : Nat
  target : Nat
  timing : Nat
  holdVar : Nat
  tag : Nat
  at_ : Option Nat := none
  cancel : Bool := false
  deriving DecidableEq, Repr

/-- The first half of a mailbox message that has arrived over a port: (port, ID, type of the half) and its 32 bytes. -/
structure MbxHalf where
  port : Nat
  id : Nat
  kind : Nat
  data : List Byte
  deriving DecidableEq, Repr

/-- The tile link's own state. Links are numbered port × 2 + lane; a port that is not SPLIT is its lane 0. -/
structure Tlk where
  links : List TileLink := List.replicate 8 {}
  /-- The lane last acted on, by port. -/
  acted : List Nat := [0, 0, 0, 0]
  /-- The D port whose subtree holds an ID, as upward frames showed it: (ID, port). -/
  routes : List (Nat × Nat) := []
  members : List TileMember := []
  /-- The barrier accepted for the coming plan, the one its plan lock took, and the wall values in force. -/
  barrier : Option Barrier := none
  taken : Option Barrier := none
  force : Option Barrier := none
  /-- Plan lock found no barrier for the coming plan. -/
  missing : Bool := false
  /-- Fields in a row without an accepted barrier. -/
  quiet : Nat := 0
  /-- The counters have been set to the wall's since the worker joined. -/
  synced : Bool := false
  /-- The own and merged summary that waits for children, the D ports it waits for, and summaries of the coming plan. -/
  summary : Option Summary := none
  awaited : List Nat := []
  early : List (Nat × Summary) := []
  /-- The last complete merged summary (Tender). -/
  merged : Option Summary := none
  /-- A CONT, ISOL or FATAL event has come since the last summary. -/
  events : Bool := false
  move : Option WallMove := none
  halves : List MbxHalf := []
  /-- Pairs: a heartbeat has been accepted since port P came up, the FIELD of the last one, RELEASING in it, the partner's
  signatures 0 to 7, and consecutive fields with an unequal region. -/
  seen : Bool := false
  beat : Option Nat := none
  releasing : Bool := false
  sigs : List Nat := []
  diverged : Nat := 0
  /-- PAIR_OWN_I fell since the last commit; both DRIVE bits are staged for a takeover. -/
  fell : Bool := false
  takeover : Bool := false
  /-- Ownership was taken at the last commit. -/
  took : Bool := false
  /-- RELEASING goes out with the coming heartbeat; PAIR_OWN_O falls once light and rails are off. -/
  release : Bool := false
  lowering : Bool := false
  /-- SEC and APL outputs have left high impedance. -/
  outputs : Bool := true
  /-- Mirrored writes (address, data) tagged for the plan after the open one: they join it at the next plan lock. -/
  mirrored : List (Nat × Nat) := []
  /-- The frames that the last command put on the links: (link, 40 bytes); idle frames are not listed. -/
  wire : List (Nat × List Byte) := []
  deriving DecidableEq, Repr

/-! ### Mailboxes and locks (chapter 21) -/

/-- A message in a channel (R480): its 64 bytes, the sender's epoch, SENDER_RESET, the field at landing, and FAR. -/
structure MbxMsg where
  data : List Byte
  epoch : Nat
  reset : Bool := false
  field : Nat
  far : Nat := 0
  deriving DecidableEq, Repr

/-- A held lock: its holder and the field at acquisition. -/
structure LockHold where
  holder : Nat
  field : Nat
  deriving DecidableEq, Repr

/-- The mailboxes' own state. -/
structure Mbx where
  /-- Channels that hold messages, by receiver × 128 + sender, oldest message first. -/
  chans : List (Nat × List MbxMsg) := []
  /-- Held locks, by number. -/
  locks : List (Nat × Option LockHold) := []
  /-- TX_DATA words by master × 16 + w, and TX_RESULT by master. -/
  tx : List (Nat × Word) := []
  results : List (Nat × Word) := []
  /-- Outboxes: the senders of waiting messages in posting order as (endpoint, sender); the message in flight to an
  endpoint; the channels that wait 100 µs after FULL. -/
  order : List (Nat × Nat) := []
  flight : List (Nat × Nat) := []
  hold : List (Nat × Nat) := []
  deriving DecidableEq, Repr

/-! ### Check-value units (chapter 21) -/

/-- A unit's record in progress: the two bytes at ALIVE_OFF, where they have been fed, and those of records that software
switched away from, by (VALUE, COUNT). -/
structure ChkUnit where
  lo : Option Nat := none
  hi : Option Nat := none
  parked : List ((Nat × Nat) × (Option Nat × Option Nat)) := []
  deriving DecidableEq, Repr

/-! ### The time base (chapter 19) -/

/-- A two-step Sync whose residence waits for its Follow_Up (R446): the port it came in on, its sequenceId and
sourcePortIdentity, and the correction to add, in 2⁻¹⁶ ns. -/
structure HeldSync where
  port : Nat
  seq : Nat
  source : Nat
  corr : Int
  deriving DecidableEq, Repr

/-- A two-step Sync that the module itself follows: its sequenceId and source, its receive time and correction. -/
structure OwnSync where
  seq : Nat
  source : Nat
  t2 : Int
  corr : Int
  deriving DecidableEq, Repr

/-- A Delay_Req sent and not answered: where (0, 1 a time port, 2 the tile link), sequenceId and send time. -/
structure DelayReq where
  port : Nat
  seq : Nat
  t3 : Int
  deriving DecidableEq, Repr

/-- The time base's own state. Times are in 2⁻¹⁶ ns. -/
structure Tim where
  /-- Snapshots, by master. -/
  snaps : List (Nat × Clock) := []
  /-- The offset of a step that waits for the next reference cycle: seconds and nanoseconds. -/
  step : Option (Int × Int) := none
  /-- Targets of the enabled trigger units. -/
  targets : List (Nat × Clock) := []
  /-- Units whose next firing sets DISC. -/
  disc : List Nat := []
  /-- The reference has stopped. -/
  lost : Bool := false
  /-- Consecutive Syncs within ±100 ns. -/
  good : Nat := 0
  /-- The port whose master the module follows as a slave. -/
  slaveOf : Option Nat := none
  held : List HeldSync := []
  own : Option OwnSync := none
  reqs : List DelayReq := []
  /-- t2 − t1 − correction of the last Sync, which the next Delay_Resp completes. -/
  ms : Option Int := none
  nextSeq : Nat := 0
  /-- Messages that the last command sent on the time ports. -/
  wire : List (Nat × PtpMsg) := []
  deriving DecidableEq, Repr

/-! ### Calibration (chapter 22) -/

/-- A sense converter's values: comparator, current and voltage gain (2.14), offsets in LSB. -/
structure Conv where
  comp : Nat := 0
  igain : Nat := 16384
  ioff : Int := 0
  vgain : Nat := 16384
  voff : Int := 0
  deriving DecidableEq, Repr

/-- The values of the calibrated elements: what no list names is nominal: nominal gains, the first 255 cells of each sink
DAC, the centre ladder tap, and bytes 0 (R513). `carried` is bytes 5 260 to 5 931 of the set. -/
structure CalValues where
  conv : List (Nat × Conv) := []
  sinks : List (Nat × Nat) := []
  ladder : Int := 0
  mem : List (Nat × List Byte) := []
  carried : List Byte := []
  deriving DecidableEq, Repr

/-- The calibration set in flash (R512). -/
structure CalSet where
  origin : Nat := 1
  writes : Nat := 0
  uid : Nat := 0
  vals : CalValues := {}
  deriving DecidableEq, Repr

/-- A CAL_RUN whose reply waits for completion: the endpoint, its TAG, and plausibility failures so far. -/
structure CalAsked where
  ep : Nat
  tag : Nat
  fails : Nat := 0
  deriving DecidableEq, Repr

/-- Calibration's own state. -/
structure Cal where
  /-- The set in flash, none where the region holds no valid set. -/
  stored : Option CalSet := some {}
  active : CalValues := {}
  /-- Consecutive failed results by converter. -/
  fails : List (Nat × Nat) := []
  /-- A pass runs: successful steps so far, in the pause mode or not. -/
  pass : Option Nat := none
  pausing : Bool := false
  /-- Results that wait for the next commit: converters in place, sink masks; and whether the spare takes over a channel. -/
  conv : List (Nat × Conv) := []
  sinks : List (Nat × Nat) := []
  handover : Option Nat := none
  /-- Channels the spare takes from a retired converter at the next commit. -/
  relief : List Nat := []
  unsensed : List Nat := []
  ladder : Option Int := none
  mem : List (Nat × List Byte) := []
  /-- A FULL run: asked for, and its light dark. -/
  full : Option CalAsked := none
  dark : Bool := false
  /-- Its results wait for the frame boundary at which light returns. -/
  ended : Bool := false
  /-- A background pass that a request asked for. -/
  asked : Option CalAsked := none
  deriving DecidableEq, Repr

/-! ### Supply and heat (chapter 23) -/

/-- The kinds of Mooring trigger (R529), as a record's KIND names them. -/
inductive MooringKind where
  | supply | rail | thermal | test
  deriving DecidableEq, Repr

/-- A Mooring or orderly record (R535 Table 8). -/
structure Record where
  kind : Nat
  layerCut : Bool := false
  reserveOk : Bool := false
  seq : Nat := 0
  uid : Nat := 0
  sec : Nat := 0
  ns : Nat := 0
  field : Nat := 0
  frame : Nat := 0
  mode : Nat := 0
  timing : Nat := 0
  level : Nat := 0
  want : Nat := 0
  rails : Nat := 0
  vin : Nat := 0
  capV : Nat := 0
  reserve : Nat := 0
  energy : Nat := 0
  /-- KPR ADAPT_STATUS, THROTTLE and BRIGHT_STATUS. -/
  keeper : List Nat := []
  /-- Ageing accumulators in mC. -/
  ageing : List Nat := []
  entries : List AplEntry := []
  overflow : Bool := false
  counters : List Nat := []
  errCounts : List Nat := []
  tail : List LogEntry := []
  deriving DecidableEq, Repr

/-- Mooring as it runs: what the record will say of the trigger, and whether a record may be written at all. -/
structure MooringRun where
  record : Record
  write : Bool
  /-- The save gate as THM last gave it, once THM is unpowered. -/
  save : Option Bool := none
  deriving DecidableEq, Repr

/-- The supply's own state. -/
structure Pwr where
  /-- The stored records, by slot. -/
  slots : List (Nat × Record) := []
  /-- The record that the last start took (R537). -/
  last : Option Record := none
  mooring : Option MooringRun := none
  /-- In Off the capacitor is bled (R528), and the capacitance in µF last measured. -/
  bleed : Bool := false
  uf : Nat := 0
  /-- In Off after Mooring, the 50 ms have not passed. -/
  holdoff : Bool := false
  /-- Ageing and the region-layer part as they stood when the Panel region last powered down. -/
  saved : Option (List Nat × (List AplEntry × Bool)) := none
  /-- The last 8 samples of the panel thermistor, newest first, in 1/8 °C. -/
  panel : List Int := []
  deriving DecidableEq, Repr

/-- A thermal sensor as it is judged (R540): its last count and how often in a row it came, and samples in a row far from
its zone's mean. -/
structure SensorJudge where
  count : Nat := 0
  same : Nat := 0
  far : Nat := 0
  deriving DecidableEq, Repr

/-- The thermal block's own state. -/
structure Thm where
  judge : List (Nat × SensorJudge) := []
  /-- Zone temperatures of valid sensors 0, 100, …, 900 µs before the last sample, newest first. -/
  hist : List (List Int) := []
  /-- Fast samples in a row that met no condition. -/
  calm : Nat := 0
  deriving DecidableEq, Repr

/-! ### The Keeper (chapter 20) -/

/-- OTP (R467): unique ID, customer slot digests, revoke bits, anti-rollback counter. -/
structure Otp where
  uid : Nat := 0
  slot0 : Option Nat := none
  slot1 : Option Nat := none
  revoked : Nat := 0
  rollback : Nat := 0
  deriving DecidableEq, Repr

/-- A firmware image area (R85): its header's version and rollback index, none where it is absent or malformed; whether its
signature verifies; its digest; and the words the boot ROM has since written over the image whose digest is `base` (R86). -/
structure FwImage where
  header : Option (Nat × Nat) := none
  signed : Bool := false
  digest : Nat := 0
  base : Nat := 0
  words : List (Nat × Nat) := []
  deriving DecidableEq, Repr

/-- A stored customer object: version, digest, signing slot, the digest it is bound to, a policy's 64 bytes, and the flash
slot that holds it. -/
structure StoredObj where
  version : Nat
  digest : Nat
  slot : Nat
  bind : Nat
  table : List Byte := []
  place : Nat := 0
  deriving DecidableEq, Repr

/-- What the request in progress waits for: a flash write, with what it stores when its program and read-back are done, or a
calibration run. -/
inductive FlashWrite where
  | profile (o : StoredObj) (activate : Bool)
  | policy (o : Option StoredObj) (activate : Bool)
  | image (area : Nat) (i : FwImage)
  | cal (s : CalSet)
  | run
  deriving DecidableEq, Repr

/-- The Keeper's own state. -/
structure Kpr where
  otp : Otp := {}
  images : List FwImage := [{ header := some (1, 0), signed := true }, {}]
  profile : Option StoredObj := none
  override : Option StoredObj := none
  /-- The profile whose tables are loaded, and the policy table in force. -/
  active : Option StoredObj := none
  policy : List Byte := []
  /-- A stored profile or policy takes effect at the next frame boundary through a dark sequence. -/
  activate : Bool := false
  /-- A profile has been accepted since Safe was entered with PROFILE_INVALID. -/
  accepted : Bool := false
  /-- The request in progress with what it waits for, and those that wait. -/
  busy : Option (KeeperReq × FlashWrite) := none
  waiting : List KeeperReq := []
  /-- The current debug challenge. -/
  challenge : Option (List Byte) := none
  /-- F of the frame being synthesised so far, and late tiles above LATE_MAX in some field of it and of the one before. -/
  use : Nat := 0
  late : Bool := false
  lateBefore : Bool := false
  /-- The cause of an immediate trigger since the last commit (as ADAPT_STATUS.CAUSE), and the steps of throttling taken,
  last first, by region. -/
  trigger : Option Nat := none
  taken : List Nat := []
  /-- WANT was applicable at the last evaluation; the level whose RAY settings were staged last. -/
  fit : Bool := true
  rayLevel : Nat := 0
  /-- Frames in a row cool and below 0.9 × POWER_CAP. -/
  calm : Nat := 0
  /-- BRIGHT_SET: the level asked for, the level the ramp started at, its length in fields and the fields done. -/
  bright : Nat := 0
  rampFrom : Nat := 0
  rampLen : Nat := 0
  rampDone : Nat := 0
  /-- The module's own BRIGHT_MAX (R461). -/
  brightMax : Nat := 65535
  /-- The TRIM values that luminance tracking wants, towards which sector-0 plans stage. -/
  trims : List (Nat × Nat) := []
  /-- A sensor was at or above THROTTLE_PRE at the last commit. -/
  hot : Bool := false
  /-- Second of the local time at which a debug unlock ends. -/
  debugEnd : Nat := 0
  /-- Bytes 0 to 63 of the panel EEPROM, as start-up step 4 read them. -/
  identity : List Byte := []
  /-- The processor restarts; seconds of its restarts. -/
  restarting : Bool := false
  restarts : List Nat := []
  deriving DecidableEq, Repr


/-! ### The module -/

/-- Everything the module holds but its memory and the queue of waiting commands. -/
structure Chip where
  variant : Variant := .c16
  regs : Regs := {}
  ladder : Ladder := {}
  resp : Response := {}
  log : ErrorLog := {}
  host0 : HostEvents := {}
  host1 : HostEvents := {}
  mode : Mode := .boot
  /-- Codes of the blocks that are powered: after reset those of the Keeper region (R68). -/
  blocksOn : List Nat := [14, 15, 16, 17, 18, 19, 20]
  tick : Tick := {}
  clock : Clock := {}
  ring : Ring := {}
  cdc : Cdc := {}
  ray : Ray := {}
  lens : Lens := {}
  fst : FieldStore := {}
  pcn : Pcn := {}
  blt : Blt := {}
  scan : Scan := {}
  lanes : Lanes := {}
  sec : Sec := {}
  dram : Dram := {}
  apl : Apl := {}
  hlk : Hlk := {}
  modes : Modes := {}
  tlk : Tlk := {}
  mbx : Mbx := {}
  tim : Tim := {}
  cal : Cal := {}
  pwr : Pwr := {}
  thm : Thm := {}
  kpr : Kpr := {}
  chk : List (Nat × ChkUnit) := []
  /-- How many free values have been drawn: the model's own field. -/
  fresh : Nat := 0
  /-- The stores of the running step, newest first; empty between steps: the model's own field. -/
  out : List MemOp := []
  /-- Device addresses whose stored byte parity is inverted (R385, R66). -/
  badMem : List Nat := []
  deriving DecidableEq, Repr

/-- The state: the module, its memory and the commands that wait, first in, first out. -/
structure State where
  chip : Chip := {}
  mem : Memory := {}
  pending : List Instr := []
  deriving DecidableEq, Repr

/-- The module right after reset. -/
def State.reset : State := {}

end Sys2Proof.Machine
end

