-- ==== Sys2Proof/Machine/Ops.lean ====
section
/-!
DEFINITION. Machine/Ops.lean: the shared operations over the register file, over device memory and over free values, and
`run`, by which every command takes its step.
-/

namespace Sys2Proof.Machine

/-! ### Small arithmetic -/

/-- Ceiling division. -/
def ceilDiv (a b : Nat) : Nat := (a + b - 1) / b

/-- The `w`-bit two's-complement number that the low `w` bits of `n` spell. -/
def signed (w n : Nat) : Int :=
  let m := n % 2 ^ w
  if m < 2 ^ (w - 1) then (m : Int) else (m : Int) - (2 ^ w : Nat)

/-- The low `w` bits of an integer, as two's complement. -/
def unsigned (w : Nat) (z : Int) : Nat := (z % (2 ^ w : Nat)).toNat

/-- The signed difference a − b modulo 2^w (R51). -/
def signedDiff (w : Nat) (a b : Nat) : Int := signed w (a % 2 ^ w + 2 ^ w - b % 2 ^ w)

/-- `z` held between `lo` and `hi`. -/
def clampInt (lo hi z : Int) : Int := max lo (min hi z)

/-- Bit `i` of `n`. -/
def bit (n i : Nat) : Bool := n / 2 ^ i % 2 = 1

/-- Bits [hi:lo] of `n`. -/
def bitsOf (n hi lo : Nat) : Nat := n / 2 ^ lo % 2 ^ (hi + 1 - lo)

/-- `n` with bit `i` set or cleared. -/
def withBit (n i : Nat) (b : Bool) : Nat :=
  let base := if bit n i then n - 2 ^ i else n
  if b then base + 2 ^ i else base

/-- 0 or 1. -/
def b2n (b : Bool) : Nat := if b then 1 else 0

/-- A list without the entries equal to `x`, then `x` at its end. -/
def putLast {α : Type} [DecidableEq α] (l : List α) (x : α) : List α := l.filter (· ≠ x) ++ [x]

/-- Element `i` of a list replaced by `f` of it. -/
def modifyAt {α : Type} (l : List α) (i : Nat) (f : α → α) : List α :=
  match l, i with
  | [], _ => []
  | a :: t, 0 => f a :: t
  | a :: t, n + 1 => a :: modifyAt t n f

/-- The steps of a list of updates, first to last. -/
def foldOver {α β : Type} (l : List α) (f : α → β → β) (b : β) : β := l.foldl (fun b a => f a b) b

/-! ### Pages and keys (R54) -/

/-- The page of a key: the key of its offset 0. -/
def pageOf (key : Nat) : Nat := key / 4096 * 4096

/-- The offset of a key in its page. -/
def offOf (key : Nat) : Nat := key % 4096

/-- The block code of a page or key. -/
def blockOf (key : Nat) : Nat := key / 1048576

/-- The instance number of a page or key. -/
def instOf (key : Nat) : Nat := key / 4096 % 256

/-- The page of an instance of a block. -/
def mkPage (block inst : Nat) : Nat := block * 1048576 + inst * 4096

namespace P

def HLK : Nat := 0x100000
def CDC : Nat := 0x200000
def MEM : Nat := 0x300000
def TLK : Nat := 0x400000
def RAY : Nat := 0x500000
def LNS : Nat := 0x600000
def FST : Nat := 0x700000
def BLT : Nat := 0x800000
def SCN : Nat := 0x900000
def PCN : Nat := 0xA00000
def SER : Nat := 0xB00000
def SEC : Nat := 0xC00000
def APL : Nat := 0xD00000
def KPR : Nat := 0xE00000
def MBX : Nat := 0xF00000
def CHK : Nat := 0x1000000
def TIM : Nat := 0x1100000
def CAL : Nat := 0x1200000
def THM : Nat := 0x1300000
def PWR : Nat := 0x1400000

end P

/-- The page of MEM[n], n = 1 to 8, for channel index n − 1. -/
def memPage (ch : Nat) : Nat := P.MEM + (ch + 1) * 4096

/-- The instances of a block that R67 Table 8 lists; those of MBX by role. -/
def instancesOf (block : Nat) : List Nat :=
  if block = 3 then List.range 9
  else if block = 11 then List.range 4
  else if block = 15 then List.range 69
  else if block = 16 then List.range 21
  else [0]

/-! ### Reset values -/

/-- The registers of the page header that are stored (R56 Table 3). CTRL holds only what a block's chapter defines in
BLOCK_CTRL: CAL [1:0] (R516) and TIM [0], which is read-only (chapter 19). -/
def regsHeader (block : Nat) : List RegDef :=
  [ ⟨0x008, 1, 4, if block = 18 then 3 else 0, 0, 0, 0, 0xC0000000, if block = 17 then 1 else 0,
      if block = 18 then 2 else if block = 17 then 1 else 0⟩
  , ⟨0x00C, 1, 4, 0, 0, 0, 0, 0, 0xFFFFFFFF, 0⟩
  , ⟨0x010, 1, 4, 0, 0, 0xFFFFFFFF, 0, 0, 0, 0⟩
  , ⟨0x014, 1, 4, 0xFFFFFFFF, 0, 0, 0, 0, 0, 0xE⟩
  , ⟨0x01C, 1, 4, 0, 0, 0, 0, 0xFFFFFFFF, 0, 0⟩
  , ⟨0x020, 1, 4, 0, 0, 0x10, 0, 0, 0x0FFFFF2F, 0⟩
  , ⟨0x024, 1, 4, 0, 0, 0, 0, 0, 0xFFFFFFFF, 0⟩
  , ⟨0x028, 1, 4, 0, 0, 0, 0, 0, 0xFFFF07FF, 0⟩
  , ⟨0x02C, 1, 4, 0, 0, 0, 0, 0, 0xFFFFFFFF, 0⟩
  , ⟨0x030, 1, 4, 0, 0, 0, 0, 0x08000000, 0x87FF07FF, 0⟩
  , ⟨0x038, 1, 4, 0x1F, 0, 0, 0x80000000, 0x40000000, 0, 0x1F⟩
  , ⟨0x03C, 1, 4, 1, 0, 0, 2, 0, 0, 1⟩
  , ⟨0x040, 1, 4, 0, 0xFFFFFF, 0, 0, 0, 0, 0x00010420⟩
  , ⟨0x044, 47, 4, 0, 0, 0, 0, 0, 0xFFFFFFFF, 0⟩ ]

/-- The block registers of a page. -/
def regsOf (block inst : Nat) : List RegDef :=
  match block with
  | 1 => regsHLK
  | 2 => regsCDC
  | 3 => if inst = 0 then regsMEM0 else regsMEMC
  | 4 => regsTLK
  | 5 => regsRAY
  | 6 => regsLNS
  | 7 => regsFST
  | 8 => regsBLT
  | 9 => regsSCN
  | 10 => regsPCN
  | 11 => if inst = 0 then regsSER0 else regsSERP
  | 12 => regsSEC
  | 13 => regsAPL
  | 14 => regsKPR
  | 15 => if inst = 0 then regsMBX0 else regsMBXE
  | 16 => if inst = 0 then [] else regsCHKU
  | 17 => regsTIM
  | 18 => regsCAL
  | 19 => regsTHM
  | 20 => regsPWR
  | _ => []

/-- Whether a definition covers an offset. -/
def RegDef.covers (d : RegDef) (off : Nat) : Bool :=
  d.off ≤ off && (off - d.off) % d.stride = 0 && (off - d.off) / d.stride < d.count

/-- The definition of the register at a key, if one lies there. -/
def findReg (key : Nat) : Option RegDef :=
  let off := offOf key
  (if off < 0x100 then regsHeader (blockOf key) else regsOf (blockOf key) (instOf key)).find? (·.covers off)

/-- Table 2 of chapter 16: MAP_MASK[k] at reset. -/
def mapMaskReset : List Nat := [0x121, 0x242, 0x484, 0x808, 0x1010, 0xA000, 0x14000, 0xA0000]

/-- Table 3 of chapter 16: PORT_QOS[p] at reset, LAT_TARGET then WEIGHT. -/
def portQosReset : List Nat :=
  [4000 + 4 * 65536, 1000 + 8 * 65536, 1000 + 8 * 65536, 2000 + 4 * 65536,
   2000 + 2 * 65536, 4000 + 2 * 65536, 2000 + 1 * 65536, 4000 + 1 * 65536]

/-- The zone of a ring-oscillator sensor (R538 Table 9a). -/
def zoneOfSensor (n : Nat) : Nat :=
  if n < 16 then 0 else if n < 24 then 1 else if n < 30 then 2 else if n < 34 then 3 else if n < 38 then 4 else 5

/-- The reset values that the register tables give by table, by variant or by formula instead of as a number. -/
def resetOverride (v : Variant) (key : Nat) : Option Nat :=
  let off := offOf key
  match blockOf key with
  | 3 =>
    if instOf key ≠ 0 then none
    else if off = 0x100 then some ((if v = .c8 then 3 else 4) * 4096 + 0x802)
    else if 0x110 ≤ off && off < 0x130 then mapMaskReset[(off - 0x110) / 4]?
    else if 0x130 ≤ off && off < 0x150 then portQosReset[(off - 0x130) / 4]?
    else none
  | 10 =>
    if off = 0x110 || off = 0x118 || off = 0x120 || off = 0x130 || off = 0x138 || off = 0x140 then some 8192 else none
  | 11 =>
    if off = 0x148 then
      some (if instOf key = 3 then 0xF else if instOf key = 0 then 0 else if v = .c8 then 0x3FFFFFF else 0xFFFFFFFF)
    else if off = 0x14C then some (if instOf key = 3 || instOf key = 0 || v = .c8 then 0 else 0x3FFFF)
    else none
  | 18 =>
    if 0x140 ≤ off && off < 0x1A0 then
      let w := (off - 0x140) / 4
      some (4 * w + (4 * w + 1) * 256 + (4 * w + 2) * 65536 + (4 * w + 3) * 16777216)
    else none
  | 19 => if 0x100 ≤ off && off < 0x1A0 then some (zoneOfSensor ((off - 0x100) / 4) * 1048576) else none
  | _ => none

/-- The reset value of the register at a key. -/
def resetWord (v : Variant) (key : Nat) : Word :=
  match resetOverride v key with
  | some n => BitVec.ofNat 32 n
  | none => match findReg key with
    | some d => BitVec.ofNat 32 d.reset
    | none => 0

/-! ### The register file -/

/-- The word at a key: the staged value of staged bits. -/
def Chip.w (c : Chip) (key : Nat) : Word := storeGet (resetWord c.variant) c.regs.imm key

/-- The locked word at a key. -/
def Chip.lw (c : Chip) (key : Nat) : Word := storeGet (resetWord c.variant) c.regs.locked key

/-- The active word at a key. -/
def Chip.aw (c : Chip) (key : Nat) : Word := storeGet (resetWord c.variant) c.regs.active key

/-- The word at a key set, as hardware sets it: no access code, no plan. -/
def Chip.setw (c : Chip) (key : Nat) (w : Word) : Chip :=
  { c with regs := { c.regs with imm := storePut (resetWord c.variant) c.regs.imm key w } }

/-- The active word at a key set. -/
def Chip.setAct (c : Chip) (key : Nat) (w : Word) : Chip :=
  { c with regs := { c.regs with active := storePut (resetWord c.variant) c.regs.active key w } }

/-- The locked word at a key set. -/
def Chip.setLocked (c : Chip) (key : Nat) (w : Word) : Chip :=
  { c with regs := { c.regs with locked := storePut (resetWord c.variant) c.regs.locked key w } }

/-- A field of a word. -/
def fldGet (w : Word) (f : Fld) : Nat := w.toNat / 2 ^ f.lo % 2 ^ f.wd

/-- A word with a field replaced by the low bits of `v`. -/
def fldPut (w : Word) (f : Fld) (v : Nat) : Word :=
  BitVec.ofNat 32 (w.toNat - fldGet w f * 2 ^ f.lo + v % 2 ^ f.wd * 2 ^ f.lo)

/-- A field's value at its own offset. -/
def Chip.get (c : Chip) (f : Fld) : Nat := fldGet (c.w f.key) f

/-- A field's locked value. -/
def Chip.lck (c : Chip) (f : Fld) : Nat := fldGet (c.lw f.key) f

/-- A field's active value, which governs the hardware (R15). -/
def Chip.act (c : Chip) (f : Fld) : Nat := fldGet (c.aw f.key) f

/-- A one-bit field's active value. -/
def Chip.on (c : Chip) (f : Fld) : Bool := c.act f = 1

/-- A one-bit field's value at its own offset. -/
def Chip.is (c : Chip) (f : Fld) : Bool := c.get f = 1

/-- A field set, as hardware sets it. -/
def Chip.set (c : Chip) (f : Fld) (v : Nat) : Chip := c.setw f.key (fldPut (c.w f.key) f v)

/-- A field set to a signed value. -/
def Chip.setZ (c : Chip) (f : Fld) (v : Int) : Chip := c.set f (unsigned f.wd v)

/-- A one-bit field set. -/
def Chip.setB (c : Chip) (f : Fld) (b : Bool) : Chip := c.set f (b2n b)

/-- A counting field that saturates. -/
def Chip.incSat (c : Chip) (f : Fld) (n : Nat := 1) : Chip := c.set f (min (c.get f + n) (2 ^ f.wd - 1))

/-- A counting field that wraps. -/
def Chip.incWrap (c : Chip) (f : Fld) (n : Nat := 1) : Chip := c.set f (c.get f + n)

/-- `n` more on event counter `i` of a page, modulo 2³² (R58). -/
def Chip.count (c : Chip) (page i : Nat) (n : Nat := 1) : Chip :=
  let k := page + 0x44 + 4 * i
  c.setw k (c.w k + BitVec.ofNat 32 n)

/-- The 40-bit address that a LO and a HI field hold, active values. -/
def Chip.addrAct (c : Chip) (lo hi : Fld) : Nat := c.act lo * 2 ^ lo.lo + c.act hi * 2 ^ 32

/-- The same, values at the registers' own offsets. -/
def Chip.addrGet (c : Chip) (lo hi : Fld) : Nat := c.get lo * 2 ^ lo.lo + c.get hi * 2 ^ 32

/-- The same, locked values. -/
def Chip.addrLck (c : Chip) (lo hi : Fld) : Nat := c.lck lo * 2 ^ lo.lo + c.lck hi * 2 ^ 32

/-- The change `f` made where `b` holds. -/
def Chip.when (c : Chip) (b : Bool) (f : Chip → Chip) : Chip := if b then f c else c

/-- A BLOCK_STATUS or DEGRADED bit of a page's STATUS register set or cleared (R56 Table 4). -/
def Chip.statusBit (c : Chip) (page i : Nat) (b : Bool) : Chip := c.set ⟨page + 0x00C, i, 1, 4⟩ (b2n b)

/-- A staged value written by Keeper firmware: it joins the open plan (R22). -/
def Chip.stage (c : Chip) (f : Fld) (v : Nat) : Chip :=
  let c' := c.set f v
  { c' with regs := { c'.regs with dirty := putLast c'.regs.dirty f.key } }

/-- All registers of the pages that `p` names return to their reset values, every tier, but for the offsets that
`keep` names. -/
def Chip.resetPages (c : Chip) (p : Nat → Bool) (keep : Nat → Bool := fun _ => false) : Chip :=
  let d := fun k => p (pageOf k) && !keep (offOf k)
  { c with regs := { c.regs with
      imm := storeDrop d c.regs.imm, locked := storeDrop d c.regs.locked, active := storeDrop d c.regs.active,
      dirty := c.regs.dirty.filter (fun k => !d k), waiting := c.regs.waiting.filter (fun k => !d k),
      badParity := c.regs.badParity.filter (fun k => !d k),
      rejected := c.regs.rejected.filter (fun q => !p q), rejectNow := c.regs.rejectNow.filter (fun q => !p q) } }

/-! ### Free values -/

/-- The next free value: nothing constrains it. -/
def Chip.freeNat (c : Chip) : Nat := Config.freeNat c.fresh

/-- The state after a free value was drawn. -/
def Chip.drew (c : Chip) : Chip := { c with fresh := c.fresh + 1 }

/-! ### Device memory (R52) -/

/-- The first address above LPDDR6 in the device map; the SRAM base. -/
def sramBase : Nat := 0x1000000000

/-- The first address above the on-chip SRAM. -/
def sramEnd : Nat := 0x1030000000

/-- The base of control space. -/
def controlBase : Nat := 0x2000000000

/-- The first address above control space. -/
def controlEnd : Nat := 0x2010000000

/-- The bytes of the tile-context area (R168). -/
def ctxBytes : Nat := 8388608

/-- Byte `i` of a context as R169 initialises it: OCC 0xFFFF in bits [45:30], all else 0. -/
def ctxInitByte (i : Nat) : Byte := if i = 3 then 0xC0 else if i = 4 then 0xFF else if i = 5 then 0x3F else 0

/-- The byte at an address after a change of a whole range, where it was `v` before. -/
def MemFill.over (f : MemFill) (a : Nat) (v : Byte) : Byte :=
  match f with
  | .zero lo hi => if lo ≤ a ∧ a < hi then 0 else v
  | .contexts b => if b ≤ a ∧ a < b + ctxBytes then ctxInitByte ((a - b) % 8) else v
  | .stale b => if b ≤ a ∧ a < b + ctxBytes ∧ (a - b) % 8 = 6 then v ||| 0x10 else v
  | .carried b n =>
    if b ≤ a ∧ a < b + 8 * n then
      (if (a - b) % 8 = 5 then (v &&& 0xBF) ||| 0x80 else if (a - b) % 8 = 6 then v &&& 0xFE else v)
    else v
  | .refold n => if a < sramBase then Config.refoldByte n a else v

/-- Whether a change leaves nothing of an earlier change `g`. -/
def MemFill.hides (f g : MemFill) : Bool :=
  match f, g with
  | .zero lo hi, .zero lo' hi' => lo ≤ lo' && hi' ≤ hi
  | .zero lo hi, .contexts b => lo ≤ b && b + ctxBytes ≤ hi
  | .zero lo hi, .stale b => lo ≤ b && b + ctxBytes ≤ hi
  | .zero lo hi, .carried b n => lo ≤ b && b + 8 * n ≤ hi
  | .zero lo hi, .refold _ => lo = 0 && sramBase ≤ hi
  | .contexts b, .contexts b' => b = b'
  | .contexts b, .stale b' => b = b'
  | .contexts b, .carried b' n => b = b' && 8 * n ≤ ctxBytes
  | .contexts _, _ => false
  | .stale _, _ => false
  | .carried b n, .carried b' n' => b = b' && n' ≤ n
  | .carried _ _, _ => false
  | .refold _, .refold _ => true
  | .refold _, .zero _ hi => hi ≤ sramBase
  | .refold _, _ => false

/-- What an address with nothing listed reads as. -/
def memDefault (fills : List MemFill) (a : Nat) : Byte := fills.foldr (fun f v => f.over a v) 0

/-- The changes of whole ranges after one more: those it hides are dropped, and one that repeats the newest adds
nothing. -/
def pushFill (f : MemFill) (fills : List MemFill) : List MemFill :=
  match f, fills with
  | .stale b, .stale b' :: t => if b = b' then .stale b' :: t else .stale b :: .stale b' :: t
  | f, fills => f :: fills.filter (fun g => !f.hides g)

/-- Memory after one store. -/
def Memory.apply (m : Memory) : MemOp → Memory
  | .byte a b => { m with cells := storePut (memDefault m.fills) m.cells a b }
  | .fill f =>
    let fills := pushFill f m.fills
    { fills := fills
      cells := (m.cells.map (fun e => (e.1, f.over e.1 e.2))).filter (fun e => decide (e.2 ≠ memDefault fills e.1)) }

/-- Memory after the stores of a step, given newest first. -/
def Memory.applyAll (m : Memory) (ops : List MemOp) : Memory := ops.reverse.foldl Memory.apply m

/-- The byte at a device address of a memory. -/
def Memory.read (m : Memory) (a : Nat) : Byte := storeGet (memDefault m.fills) m.cells a

/-- The canonical form of the memory. -/
abbrev Memory.wf (m : Memory) : Prop := storeWf (memDefault m.fills) m.cells

/-- The byte at a device address, through the stores this step has made. -/
def loadThrough (m : Memory) : List MemOp → Nat → Byte
  | [], a => m.read a
  | .byte b v :: t, a => if a = b then v else loadThrough m t a
  | .fill f :: t, a => f.over a (loadThrough m t a)

/-- The byte at a device address. -/
def Chip.load (c : Chip) (m : Memory) (a : Nat) : Byte := loadThrough m c.out a

/-- `n` bytes from a device address. -/
def Chip.loads (c : Chip) (m : Memory) (a n : Nat) : List Byte := (List.range n).map (fun i => c.load m (a + i))

/-- The number that bytes spell, least significant first. -/
def leNat : List Byte → Nat
  | [] => 0
  | b :: t => b.toNat + 256 * leNat t

/-- The number that `n` bytes at a device address spell, least significant first. -/
def Chip.loadLE (c : Chip) (m : Memory) (a n : Nat) : Nat := leNat (c.loads m a n)

/-- The low `n` bytes of a number, least significant first. -/
def leBytes (n v : Nat) : List Byte := (List.range n).map (fun i => BitVec.ofNat 8 (v / 256 ^ i))

/-- One byte stored; its parity is then right. -/
def Chip.store (c : Chip) (a : Nat) (b : Byte) : Chip :=
  { c with out := .byte a b :: c.out, badMem := c.badMem.filter (· ≠ a) }

/-- A whole range of memory changed; parity there is then right. -/
def Chip.fillMem (c : Chip) (f : MemFill) : Chip :=
  let covers := fun a => match f with
    | .zero lo hi => decide (lo ≤ a ∧ a < hi)
    | .contexts b => decide (b ≤ a ∧ a < b + ctxBytes)
    | .stale _ => false
    | .carried _ _ => false
    | .refold _ => decide (a < sramBase)
  { c with out := .fill f :: c.out, badMem := c.badMem.filter (fun a => !covers a) }

/-- Bytes stored at rising addresses. -/
def Chip.stores (c : Chip) (a : Nat) : List Byte → Chip
  | [] => c
  | b :: t => (c.store a b).stores (a + 1) t

/-- The low `n` bytes of a number stored, least significant first. -/
def Chip.storeLE (c : Chip) (a n v : Nat) : Chip := c.stores a (leBytes n v)

/-- CRC-32C (Castagnoli, reflected, initial and final 0xFFFF_FFFF; chapter 5), one byte into the running value. -/
def crc32cByte (s : Nat) (b : Byte) : Nat :=
  let f := fun x : Nat => if x % 2 = 1 then (x / 2) ^^^ 0x82F63B78 else x / 2
  f (f (f (f (f (f (f (f (s ^^^ b.toNat))))))))

/-- CRC-32C of bytes. -/
def crc32c (l : List Byte) : Nat := (l.foldl crc32cByte 0xFFFFFFFF) ^^^ 0xFFFFFFFF

/-! ### The step of a command -/

/-- The module as a command finds it: no flit, frame or store of an earlier command stands, and no event of its cycle. -/
def Chip.quiet (c : Chip) : Chip :=
  { c with
    hlk := { c.hlk with wire := [] }, tlk := { c.tlk with wire := [] }, tim := { c.tim with wire := [] }, out := []
    ladder := { c.ladder with now := [] } }

/-- A command's step: the module changes as `f` says; memory takes the stores the change made, and the queue stays. -/
def State.run (s : State) (f : Memory → Chip → Chip) : Host.Outcome State Fault Refusal :=
  let c := f s.mem s.chip.quiet
  .next { s with chip := { c with out := [] }, mem := s.mem.applyAll c.out }

end Sys2Proof.Machine
end

