-- ==== Sys2Proof/Machine/Ladder.lean ====
section
/-!
DEFINITION. Machine/Ladder.lean: interrupts, their delivery, and the error ladder of chapter 2: one event is recorded,
counted, escalated and logged here, whatever block it occurs in.
-/

namespace Sys2Proof.Machine

/-- INT_PEND of a page: INT_RAW AND INT_EN (R61). -/
def Chip.intPend (c : Chip) (page : Nat) : Nat := (c.w (page + 0x10)).toNat &&& (c.w (page + 0x14)).toNat

/-- The block bit of R63: INT_PEND is non-zero in some page of the block. -/
def Chip.blockPend (c : Chip) (block : Nat) : Bool :=
  (instancesOf block).any (fun i => c.intPend (mkPage block i) ≠ 0)

/-- The region of a block (R35 Table 2): 0 Scene, 1 Ray, 2 Panel, 3 Keeper. -/
def regionOf (block : Nat) : Nat := if block ≤ 4 then 0 else if block ≤ 8 then 1 else if block ≤ 13 then 2 else 3

/-- A delivered bit rose for host context `h` (R64). -/
def Chip.hostRise (c : Chip) (h : Nat) : Chip :=
  if h = 0 then { c with host0 := { c.host0 with rise := true } } else { c with host1 := { c.host1 with rise := true } }

/-- A rise of a roll-up bit (bit [20:1] a block, 30 a region event, 31 a chip event) reaches the host contexts whose
HOST_ROUTE delivers it. A write of HOST_ROUTE that delivers a bit already 1 is no rise of that bit (R64; DEDUCED,
log 89). -/
def Chip.deliverRise (c : Chip) (rollupBit : Nat) : Chip :=
  let go := fun (c : Chip) (h : Nat) => if bit (c.w (K.KPR_HOST_ROUTE + 4 * h)).toNat rollupBit then c.hostRise h else c
  go (go c 0) 1

/-- After a change `f` of a page's INT_RAW or INT_EN: a rise of its block's bit is delivered. -/
def Chip.intChange (c : Chip) (page : Nat) (f : Chip → Chip) : Chip :=
  let was := c.blockPend (blockOf page)
  let c' := f c
  if !was && c'.blockPend (blockOf page) then c'.deliverRise (blockOf page) else c'

/-- INT_RAW bits of a page set (R61). -/
def Chip.raise (c : Chip) (page mask : Nat) : Chip :=
  c.intChange page (fun c => c.setw (page + 0x10) (c.w (page + 0x10) ||| BitVec.ofNat 32 mask))

/-- INT_RAW bit `i` of a page set. -/
def Chip.irq (c : Chip) (page i : Nat) : Chip := c.raise page (2 ^ i)

/-- A region-level event in region `r` sets REGION_EVT (R63). -/
def Chip.regionEvt (c : Chip) (r : Nat) : Chip :=
  let f := F.KPR_REGION_SUM_REGION_EVT.ix r
  if c.is f then c else (c.set f 1).deliverRise 30

/-- A chip-level event sets CHIP_EVT (R63). -/
def Chip.chipEvt (c : Chip) : Chip :=
  if c.is F.KPR_CHIP_INT_CHIP_EVT then c else (c.set F.KPR_CHIP_INT_CHIP_EVT 1).deliverRise 31

/-- INT_N[h] is driven low while any bit that HOST_ROUTE[h] delivers is 1 (R64). -/
def Chip.intN (c : Chip) (h : Nat) : Bool :=
  let r := (c.w (K.KPR_HOST_ROUTE + 4 * h)).toNat
  !((List.range 20).any (fun i => bit r (i + 1) && c.blockPend (i + 1))
    || (bit r 30 && (List.range 4).any (fun q => c.is (F.KPR_REGION_SUM_REGION_EVT.ix q)))
    || (bit r 31 && c.is F.KPR_CHIP_INT_CHIP_EVT))

/-- The value of a class in error records (R41 Table 4), which is also the level that handles it. -/
def classCode : ErrClass → Nat
  | .corr => 0
  | .cont => 1
  | .isol => 2
  | .fatal => 3

/-- The event codes of R47 Table 7. -/
inductive Code where
  | parity | check | alive | timeout | deadline | invalidPlan | threshold | retryFail | noReplan | unmapped
  /-- A code of the block's own chapter, 0x10 to 0xFF. -/
  | own (n : Nat)
  deriving DecidableEq, Repr

/-- The value of an event code. -/
def Code.value : Code → Nat
  | .parity => 1
  | .check => 2
  | .alive => 3
  | .timeout => 4
  | .deadline => 5
  | .invalidPlan => 6
  | .threshold => 7
  | .retryFail => 8
  | .noReplan => 9
  | .unmapped => 10
  | .own n => n

/-- The events of a page that this frame has counted. -/
def Chip.pageCount (c : Chip) (page : Nat) : PageCount := storeGet (fun _ => {}) c.ladder.counts page

/-- An entry appended to the error log: while the flash-write gate is closed up to 32 wait, and later ones are lost; the
newest 256 stay (R567). -/
def Chip.logAppend (c : Chip) (e : LogEntry) : Chip :=
  if c.is F.THM_GATES_FLASH_OK then
    let l := c.log.entries ++ [e]
    { c with log := { c.log with entries := l.drop (l.length - 256), total := c.log.total + 1 } }
  else if 32 ≤ c.log.waiting.length then { c with log := { c.log with lost := c.log.lost + 1 } }
  else { c with log := { c.log with waiting := c.log.waiting ++ [e] } }

/-- The class and code at which an event ends (R42, R45, R50): a count over its level's limit takes it one class up, and
an ISOL event whose region has no re-plan is FATAL with NO_REPLAN. Also the page's counts after it. -/
def climb (corrLim contLim isolLim : Nat) (n : PageCount) (replan : Bool) (cls : ErrClass) (code : Code) :
    ErrClass × Code × PageCount :=
  let (cls, code, n) : ErrClass × Code × PageCount :=
    if cls = .corr then
      let n := { n with corr := n.corr + 1 }
      if corrLim ≠ 0 ∧ corrLim < n.corr then (.cont, .threshold, n) else (.corr, code, n)
    else (cls, code, n)
  let (cls, code, n) : ErrClass × Code × PageCount :=
    if cls = .cont then
      let n := { n with cont := n.cont + 1 }
      if contLim ≠ 0 ∧ contLim < n.cont then (.isol, .threshold, n) else (.cont, code, n)
    else (cls, code, n)
  if cls = .isol then
    let n := { n with isol := n.isol + 1 }
    if !replan then (.fatal, .noReplan, n)
    else if max 1 isolLim < n.isol then (.fatal, .threshold, n) else (.isol, code, n)
  else (cls, code, n)

/-- The log entry of a record that an event of the same cycle replaces gives way to the new one (R48). -/
def Chip.logReplace (c : Chip) (info : Word) (e : LogEntry) : Chip :=
  let swap := fun (l : List LogEntry) =>
    l.map (fun o => if o.block = e.block ∧ o.inst = e.inst ∧ o.field = e.field
      ∧ withBit o.info.toNat 5 false = withBit info.toNat 5 false then e else o)
  { c with log := { c.log with entries := swap c.log.entries, waiting := swap c.log.waiting } }

/-- The event is captured in ERR_INFO, ERR_ADDR_LO and ERR_ADDR_HI where R47 and R48 have it captured: in an empty record,
over a lower class, and among events of one cycle over an equal class with a higher CELL. It is logged then unless it is
CORR (R567); else MORE is set. -/
def Chip.capture (c : Chip) (page : Nat) (cls : ErrClass) (code : Code) (cell kind addr : Nat) : Chip :=
  let old := (c.w (page + 0x20)).toNat
  let valid := bit old 4
  let now := c.ladder.now.contains page
  if !valid || old % 4 < (classCode cls) || (now && old % 4 = classCode cls && decide (cell % 4096 < old / 65536 % 4096)) then
    let info := BitVec.ofNat 32 ((classCode cls) + 4 * (classCode cls) + 16 + (if valid then 32 else 0)
      + code.value * 256 + cell % 4096 * 65536)
    let lo := BitVec.ofNat 32 addr
    let hi := BitVec.ofNat 32 ((if kind = 1 then addr / 2 ^ 32 % 256 else 0) + kind * 256 + c.tick.field % 65536 * 65536)
    let c := ((c.setw (page + 0x20) info).setw (page + 0x24) lo).setw (page + 0x28) hi
    let c := { c with ladder := { c.ladder with now := page :: c.ladder.now.filter (· ≠ page) } }
    let e : LogEntry :=
      { field := c.tick.field, sec := c.clock.sec % 2 ^ 32, ns := c.clock.ns, block := blockOf page,
        inst := instOf page, entry := 0, code := code.value, info := info, addrLo := lo, addrHi := hi }
    if cls = .corr then c
    else if now && valid && old % 4 ≠ 0 then c.logReplace (BitVec.ofNat 32 old) e
    else c.logAppend e
  else c.setw (page + 0x20) (BitVec.ofNat 32 (withBit old 5 true))

/-- ERR_COUNT: one more CORR event, or one more of the other classes; each half stops at 0xFFFF (R49). -/
def Chip.errCount (c : Chip) (page : Nat) (cls : ErrClass) : Chip :=
  c.incSat (if cls = .corr then ⟨page + 0x2C, 0, 16, 4⟩ else ⟨page + 0x2C, 16, 16, 4⟩)

/-- What an event does once its class is decided: recorded, counted, its INT_RAW bit and roll-up bits raised (R46); a
FATAL event waits for the next tick (R45). -/
def Chip.record (c : Chip) (page : Nat) (cls : ErrClass) (code : Code) (cell kind addr : Nat) : Chip :=
  let c := ((c.capture page cls code cell kind addr).errCount page cls).irq page (classCode cls)
  let c := if cls = .corr then c else { c with tlk := { c.tlk with events := true } }
  match cls with
  | .corr => c
  | .cont => c
  | .isol => c.regionEvt (regionOf (blockOf page))
  | .fatal =>
    let c := c.chipEvt
    { c with ladder := { c.ladder with
        fatal := match c.ladder.fatal with | some f => some f | none => some { page := page, code := code.value } } }

/-- The class and code at which an event in a page ends, under the page's active ERR_THRESH. -/
def Chip.climbed (c : Chip) (page : Nat) (cls : ErrClass) (code : Code) (replan : Bool) :
    ErrClass × Code × PageCount :=
  let t := (c.aw (page + 0x40)).toNat
  climb (t % 256) (t / 256 % 256) (t / 65536 % 256) (c.pageCount page) replan cls code

/-- One error event in a page (R41 to R49). `replan` says whether the region could go on after an ISOL event. -/
def Chip.event (c : Chip) (page : Nat) (cls : ErrClass) (code : Code) (cell : Nat := 0xFFF) (kind : Nat := 0)
    (addr : Nat := 0) (replan : Bool := Config.replanExists page) : Chip :=
  let r := c.climbed page cls code replan
  let c := { c with ladder := { c.ladder with
      counts := storePut (fun _ => {}) c.ladder.counts page r.2.2 } }
  c.record page r.1 r.2.1 cell kind addr

/-- The class at which the event would end: what the block's chapter does next depends on it. -/
def Chip.eventClass (c : Chip) (page : Nat) (cls : ErrClass) (code : Code)
    (replan : Bool := Config.replanExists page) : ErrClass := (c.climbed page cls code replan).1

/-- ERR_THRESH counts restart at 0 in the commit that starts a frame (R43). -/
def Chip.restartCounts (c : Chip) : Chip := { c with ladder := { c.ladder with counts := [] } }

end Sys2Proof.Machine
end

