-- ==== Sys2Proof/Machine/Operands.lean ====
section
/-!
DEFINITION. Machine/Operands.lean: what the commands' operands mean: masters, timing modes, geometry, and address
ranges of the device map.
-/

namespace Sys2Proof.Machine

/-- The WRITERS bit of a master (R65 Table 7). -/
def masterBit : Master → Nat
  | .keeper => 0
  | .host0 => 1
  | .host1 => 2
  | .tender => 3
  | .partner => 4

/-- A host context as a master. -/
def hostMaster (ctx : Nat) : Master := if ctx = 0 then .host0 else .host1

/-- Whether the variant is the 8K module. -/
def Chip.isC8 (c : Chip) : Bool := c.variant = .c8

/-- The timing modes of R216 Table 1; `nw` and `nh` are the native geometry of 0x0E. -/
def timingOf (nw nh id : Nat) : Option Timing :=
  match id with
  | 0x01 => some ⟨15360, 8640, 60, 4, 72, 32, 48⟩
  | 0x02 => some ⟨15360, 8640, 50, 4, 72, 32, 48⟩
  | 0x03 => some ⟨15360, 8640, 48, 4, 72, 32, 48⟩
  | 0x04 => some ⟨7680, 4320, 60, 8, 36, 32, 24⟩
  | 0x05 => some ⟨7680, 4320, 50, 8, 36, 32, 24⟩
  | 0x06 => some ⟨7680, 4320, 48, 8, 36, 32, 24⟩
  | 0x07 => some ⟨7680, 4320, 60, 4, 36, 16, 24⟩
  | 0x08 => some ⟨7680, 4320, 120, 4, 36, 32, 24⟩
  | 0x09 => some ⟨15360, 8640, 60, 1, 72, 8, 48⟩
  | 0x0A => some ⟨15360, 8640, 120, 1, 72, 16, 48⟩
  | 0x0B => some ⟨7680, 4320, 60, 1, 36, 8, 24⟩
  | 0x0C => some ⟨7680, 4320, 120, 1, 36, 8, 24⟩
  | 0x0D => some ⟨7680, 4320, 240, 1, 36, 16, 24⟩
  | 0x0E => some ⟨nw, nh, 60, 1, ceilDiv nh 120, 8, ceilDiv nw 320⟩
  | _ => none

/-- A 16K timing mode. -/
def is16K (id : Nat) : Bool := id = 1 || id = 2 || id = 3 || id = 9 || id = 10

/-- A light-field timing mode: more than one sector field per frame. -/
def isLightfieldTiming (id : Nat) : Bool := 1 ≤ id && id ≤ 8

/-- A flat timing mode that a request may name. -/
def isFlatTiming (id : Nat) : Bool := 9 ≤ id && id ≤ 13

/-- Field rate in Hz. -/
def Timing.fieldHz (t : Timing) : Nat := t.frameHz * t.sectors

/-- Lines per field, blanking included. -/
def Timing.total (t : Timing) : Nat := t.height + t.blank

/-- The tick interval in ns, rounded down. -/
def Timing.fieldNs (t : Timing) : Nat := 1000000000 / t.fieldHz

/-- The line period in ps, rounded down (R216). -/
def Timing.linePs (t : Timing) : Nat := 1000000000000 / (t.fieldHz * t.total)

/-- The timing mode of an ID on this module. -/
def Chip.timingOf (c : Chip) (id : Nat) : Option Timing :=
  Machine.timingOf (c.get F.SCN_NATIVE_WIDTH) (c.get F.SCN_NATIVE_HEIGHT) id

/-- A raster runs: the module ticks (R219, R242). -/
def Chip.raster (c : Chip) : Bool := c.is ⟨P.SCN + 0x00C, 3, 1, 4⟩

/-- The ID of the timing mode whose geometry runs: through the black fields that begin a dark sequence it is the old one
(R219). -/
def Chip.modeId (c : Chip) : Nat :=
  match c.modes.dark with
  | some d => if d.stage = 0 then d.old else c.act F.SCN_TIMING_MODE
  | none => c.act F.SCN_TIMING_MODE

/-- The timing mode now active; where none is, the geometry of 0x0E. -/
def Chip.timing (c : Chip) : Timing :=
  match c.timingOf c.modeId with
  | some t => t
  | none => ⟨c.get F.SCN_NATIVE_WIDTH, c.get F.SCN_NATIVE_HEIGHT, 60, 1, 1, 8, 0⟩

/-- Sectors per frame now. -/
def Chip.sectors (c : Chip) : Nat := c.timing.sectors

/-- The sector whose field is synthesised in the interval that scans out sector `c.tick.sector` (R18). -/
def Chip.synthSector (c : Chip) : Nat := (c.tick.sector + 1) % c.sectors

/-- Tiles of 16 × 8 modulator pixels in the active area. -/
def Chip.tileCols (c : Chip) : Nat := ceilDiv c.timing.width 16
def Chip.tileRows (c : Chip) : Nat := ceilDiv c.timing.height 8
def Chip.tileCount (c : Chip) : Nat := c.tileCols * c.tileRows

/-- Two half-open ranges meet. -/
def rangesMeet (a0 a1 b0 b1 : Nat) : Bool := a0 < b1 && b0 < a1

/-- A half-open range lies inside another. -/
def rangeIn (a0 a1 b0 b1 : Nat) : Bool := b0 ≤ a0 && a1 ≤ b1

/-! Rectangles. -/

def Rect.empty (r : Rect) : Bool := r.x1 ≤ r.x0 || r.y1 ≤ r.y0
def Rect.inside (r o : Rect) : Bool := o.x0 ≤ r.x0 && r.x1 ≤ o.x1 && o.y0 ≤ r.y0 && r.y1 ≤ o.y1
def Rect.meets (r o : Rect) : Bool := rangesMeet r.x0 r.x1 o.x0 o.x1 && rangesMeet r.y0 r.y1 o.y0 o.y1
def Rect.has (r : Rect) (x y : Nat) : Bool := r.x0 ≤ x && x < r.x1 && r.y0 ≤ y && y < r.y1

/-- The channels of the module with one bit each in `live`: how many are in service. -/
def popCount (n w : Nat) : Nat := ((List.range w).filter (bit n)).length

/-- The mapped LPDDR6 range is 0 to this address less 1 (R52, R369): MAP_STATUS.LIMIT in units of 256 MiB. -/
def Chip.dramLimit (c : Chip) : Nat := c.dram.live.length * (if c.isC8 then 0x80000000 else 0x100000000)

/-! Roles in a wall and a pair (R414, R430). -/

/-- A pair member. -/
def Chip.paired (c : Chip) : Bool := c.is F.TLK_NODE_CFG_PAIRED

/-- The Tender. -/
def Chip.isTender (c : Chip) : Bool := c.get F.TLK_NODE_CFG_ID = 0

/-- SEC and APL outputs may leave high impedance: always on a module that is no pair member; on a member while it asserts
PAIR_OWN_O, 2 µs have passed, and PAIR_OWN_I is low. -/
def Chip.outputsLive (c : Chip) : Bool :=
  !c.paired || (c.is F.TLK_PAIR_STATUS_OWN && c.tlk.outputs && !c.is F.TLK_PAIR_STATUS_PARTNER_OWN)

end Sys2Proof.Machine
end

