-- ==== Sys2Proof/Machine/Mem.lean ====
section
/-!
DEFINITION. Machine/Mem.lean: the LPDDR6 controller (chapter 16): the address map, parity, the port scheduler, refresh,
training, retirement; and the test of mapped memory that every engine uses.
-/

namespace Sys2Proof.Machine

/-! ### The address map (R368, R369) -/

/-- The parity of the low `w` bits of `n`. -/
def parityOf (w n : Nat) : Nat := popCount n w % 2

/-- MEM.MAP_MASK[k], active. -/
def Chip.mapMask (c : Chip) (k : Nat) : Nat := c.act (F.MEM0_MAP_MASK_MASK.ix k)

/-- sel[k] of R368. -/
def Chip.sel (c : Chip) (a k : Nat) : Nat :=
  (a / 2 ^ (6 + k) + parityOf 21 (a / 2 ^ 14 &&& c.mapMask k)) % 2

/-- A location of R368. -/
structure DramLoc where
  ch : Nat
  sub : Nat
  group : Nat
  bank : Nat
  row : Nat
  col : Nat
  byte : Nat
  deriving DecidableEq, Repr

/-- The location of an offset in the LPDDR6 range (R369). -/
def Chip.location (c : Chip) (a : Nat) : DramLoc :=
  let n := c.dram.live.length
  let u := a / 64
  let b := if n = 8 then a else u / n * 512 + a % 64
  let ch := if n = 8 then c.sel a 0 + 2 * c.sel a 1 + 4 * c.sel a 2 else c.dram.live.getD (u % n) 0
  { ch := ch, sub := c.sel b 3, group := c.sel b 4 + 2 * c.sel b 5, bank := c.sel b 6 + 2 * c.sel b 7
    row := b / 2 ^ 19 % (if c.isC8 then 2 ^ 15 else 2 ^ 16), col := b / 2 ^ 14 % 32, byte := b % 64 }

/-- The bank cell of a location, within its channel (R35): sub-channel × 16 + bank group × 4 + bank. -/
def DramLoc.cell (l : DramLoc) : Nat := l.sub * 16 + l.group * 4 + l.bank

/-! ### Mapped memory (R52, R53) -/

/-- A block is powered. -/
def Chip.blockOn (c : Chip) (b : Nat) : Bool := c.blocksOn.contains b

/-- The memory or picture of region `r` is powered: MEM for Scene, FST for Ray, SCN for Panel (R68). -/
def Chip.powered (c : Chip) (r : Nat) : Bool := c.blockOn ([3, 7, 9, 14].getD r 14)

/-- The bytes from `a` up to `a + n` lie in mapped memory: mapped LPDDR6 while the Scene region is powered, or on-chip
SRAM while the field store is. -/
def Chip.memMapped (c : Chip) (a n : Nat) : Bool :=
  if a < sramBase then c.powered 0 && decide (a + n ≤ c.dramLimit)
  else rangeIn a (a + n) sramBase sramEnd && c.powered 1

/-- The 64-byte lines that an access to [a, a + n) moves (R366) and in which a byte's stored parity is inverted. -/
def Chip.stuckLines (c : Chip) (a n : Nat) : List Nat :=
  ((c.badMem.filter (fun b => a / 64 ≤ b / 64 && b / 64 ≤ (a + n - 1) / 64)).map (fun b => b / 64 * 64)).eraseDups

/-! ### Training requests and channel state -/

/-- A TRAIN_REQ bit of channel index `ch` set or cleared. -/
def Chip.trainReq (c : Chip) (retrain : Bool) (ch : Nat) (b : Bool) : Chip :=
  let f := if retrain then F.MEM0_TRAIN_REQ_RETRAIN else F.MEM0_TRAIN_REQ_TRACK
  c.set f (withBit (c.get f) ch b)

/-- DOUBLE_READ of a channel, with DEGRADED (R386). -/
def Chip.setDouble (c : Chip) (ch banks : Nat) : Chip :=
  (c.set (F.MEMC_DOUBLE_READ_BANKS.inst (ch + 1)) banks).statusBit (memPage ch) 2 (banks ≠ 0)

/-- What every CONT in a channel does (R367), and every ISOL (R382), after the event itself. -/
def Chip.channelAfter (c : Chip) (ch cell : Nat) (cls : ErrClass) : Chip :=
  match cls with
  | .corr => c
  | .cont =>
    (c.setDouble ch (withBit (c.get (F.MEMC_DOUBLE_READ_BANKS.inst (ch + 1))) cell true)).trainReq true ch true
  | .isol => { c with dram := { c.dram with retire := putLast c.dram.retire ch } }
  | .fatal => c

/-- The Scene region has a re-plan for the loss of channel `ch` beside those that retire already: four stay live (R382). -/
def Chip.canRetire (c : Chip) (ch : Nat) : Bool :=
  4 ≤ (c.dram.live.filter (fun i => i ≠ ch && !c.dram.retire.contains i)).length

/-- An event in a channel with its consequences. -/
def Chip.channelEvent (c : Chip) (ch : Nat) (cls : ErrClass) (code : Code) (cell addr : Nat) : Chip :=
  let page := memPage ch
  let reached := c.eventClass page cls code (c.canRetire ch)
  (c.event page cls code cell 1 addr (c.canRetire ch)).channelAfter ch cell reached

/-- A read of device address `a` in LPDDR6 met a parity error (R367): clean on the re-read, or repeated. -/
def Chip.dramParity (c : Chip) (a : Nat) (repeated : Bool) : Chip :=
  let l := c.location a
  let c := c.count (memPage l.ch) 2
  if repeated then (c.count (memPage l.ch) 3).channelEvent l.ch .cont .retryFail l.cell a
  else c.channelEvent l.ch .corr .parity l.cell a

/-- A parity error on an SRAM read (R213): counted and latched; `repeated` where the re-read met it too. -/
def Chip.sramParity (c : Chip) (addr master : Nat) (repeated : Bool) : Chip :=
  let u := (addr - sramBase) / 4096
  let c := c.count P.FST 2 (if repeated then 2 else 1)
  let c := c.when repeated (fun c => c.count P.FST 3)
  let c := (c.set F.FST_PARITY_INFO_BANK (u % 96)).set F.FST_PARITY_INFO_MASTER master
  let c := (c.set F.FST_PARITY_INFO_ROW (u / 96)).set F.FST_PARITY_INFO_VALID 1
  c.irq P.FST 6

/-- The 64-byte lines whose read meets a parity error, and whether the re-read repeats it: those with inverted stored parity,
`stuck`; where there is none, the first line of the byte ranges read, as `f` says. -/
def stuckFaults (stuck : List Nat) (ranges : List (Nat × Nat)) (f : ReadFault) : List (Nat × Bool) :=
  match stuck, f, ranges.filter (fun r => 0 < r.2) with
  | [], .once, r :: _ => [(r.1 / 64 * 64, false)]
  | [], .twice, r :: _ => [(r.1 / 64 * 64, true)]
  | l, _, _ => l.map (fun a => (a, true))

/-- The bank of an address is read twice (R367). -/
def Chip.doubleRead (c : Chip) (a : Nat) : Bool :=
  let l := c.location a
  bit (c.get (F.MEMC_DOUBLE_READ_BANKS.inst (l.ch + 1))) l.cell

/-- The faulty lines of a read of the byte ranges [a, a + n). In a bank that is read twice any error counts as repeated. -/
def Chip.faultLines (c : Chip) (ranges : List (Nat × Nat)) (f : ReadFault) : List (Nat × Bool) :=
  (stuckFaults (if c.badMem.isEmpty then [] else
    ((ranges.filter (fun r => 0 < r.2)).flatMap (fun r => c.stuckLines r.1 r.2)).eraseDups) ranges f).map
      (fun e => (e.1, e.2 || decide (e.1 < sramBase) && c.doubleRead e.1))

/-- The events that go with an engine's faulty reads (R213, R367): in LPDDR6 the channel's; in SRAM the block's whose master
read. -/
def Chip.readFaults (c : Chip) (page master : Nat) (l : List (Nat × Bool)) : Chip :=
  foldOver l (fun (e : Nat × Bool) (c : Chip) =>
    if e.1 < sramBase then c.dramParity e.1 e.2
    else (c.sramParity e.1 master e.2).event page (if e.2 then .cont else .corr) .parity 0xFFF 1 e.1) c

/-- An engine's read of the ranges: whether some of it came with status PARITY, and the events that go with it. `page` is the
engine's page and `master` its field-store master. -/
def Chip.engineReads (c : Chip) (page master : Nat) (ranges : List (Nat × Nat)) (f : ReadFault) : Bool × Chip :=
  let l := c.faultLines ranges f
  (l.any (·.2), c.readFaults page master l)

/-! ### Requests (R371 to R375) -/

/-- A sub-channel. -/
def Chip.subch (c : Chip) (ch sub : Nat) : SubChannel := storeGet (fun _ => {}) c.dram.subs (2 * ch + sub)

/-- A sub-channel set; OWED_A and OWED_B follow it. -/
def Chip.setSubch (c : Chip) (ch sub : Nat) (s : SubChannel) : Chip :=
  let c := { c with dram := { c.dram with subs := storePut (fun _ => {}) c.dram.subs (2 * ch + sub) s } }
  c.set ((if sub = 0 then F.MEMC_CH_STATUS_OWED_A else F.MEMC_CH_STATUS_OWED_B).inst (ch + 1)) (min 15 s.owed.length)

/-- A job's bytes, cut into accesses of 64 bytes: addresses and lengths. -/
def accesses (a n : Nat) : List (Nat × Nat) :=
  (List.range (ceilDiv (a % 64 + n) 64)).map (fun i =>
    let lo := max a ((a / 64 + i) * 64)
    let hi := min (a + n) ((a / 64 + i + 1) * 64)
    (lo, hi - lo))

/-- A read job's requests join the queues. -/
def Chip.askRead (c : Chip) (port source job a n : Nat) : Chip :=
  let new := (accesses a n).map (fun p => ({ port := port, source := source, write := none, addr := p.1, len := p.2, job := job } : MemReq))
  { c with dram := { c.dram with reqs := c.dram.reqs ++ new } }

/-- A write job's requests join the queues. -/
def Chip.askWrite (c : Chip) (port source job a : Nat) (data : List Byte) : Chip :=
  let new := (accesses a data.length).map (fun p =>
    ({ port := port, source := source, write := some ((data.drop (p.1 - a)).take p.2), addr := p.1, len := p.2,
       job := job } : MemReq))
  { c with dram := { c.dram with reqs := c.dram.reqs ++ new } }

/-- The requests that wait at a sub-channel, oldest first. -/
def Chip.waitingAt (c : Chip) (ch sub : Nat) : List MemReq :=
  c.dram.reqs.filter (fun r => (c.location r.addr).ch = ch && (c.location r.addr).sub = sub)

/-- The urgency of a wait `t` against a target `l`, both in ns (R372). -/
def urgency (t l : Nat) : Nat := if l ≤ t then 3 else if 3 * l ≤ 4 * t then 2 else if l ≤ 2 * t then 1 else 0

/-- The urgency of a port at a sub-channel, none where it has no request there. -/
def Chip.portUrgency (c : Chip) (l : List MemReq) (p : Nat) : Option Nat :=
  (l.find? (fun r => r.port = p)).map (fun r => urgency r.age (c.act (F.MEM0_PORT_QOS_LAT_TARGET.ix p)))

/-- The port that weighted round-robin serves next among `all` (R37, R373 item 4), with the state after it: a port of
WEIGHT 0 is served only where no weighted port waits. -/
def Chip.weighted (c : Chip) (s : SubChannel) (all : List Nat) : Nat × SubChannel :=
  let heavy := all.filter (fun p => c.act (F.MEM0_PORT_QOS_WEIGHT.ix p) ≠ 0)
  let ps := if heavy.isEmpty then all else heavy
  if ps.contains s.rrPort && 0 < s.rrLeft then (s.rrPort, { s with rrLeft := s.rrLeft - 1 })
  else
    let order := (List.range 8).map (fun i => (s.rrPort + 1 + i) % 8)
    let p := ((order.find? (fun p => ps.contains p))).getD 0
    (p, { s with rrPort := p, rrLeft := c.act (F.MEM0_PORT_QOS_WEIGHT.ix p) - 1 })

/-- Why a port is granted a slot: its fog signal, the highest urgency, or its turn in the weighted round-robin. -/
inductive SlotWhy where
  | fog | urgency | turn
  deriving DecidableEq, Repr

/-- What a command slot's list (R373) chooses: a refresh that must issue, or the request of a port, `urgent` at urgency 3. -/
inductive SlotItem where
  | refresh
  | request (port : Nat) (urgent : Bool) (why : SlotWhy)
  | idle
  deriving DecidableEq, Repr

/-- The choice of R373. -/
def Chip.slotItem (c : Chip) (ch sub : Nat) : SlotItem :=
  let s := c.subch ch sub
  let l := c.waitingAt ch sub
  let has := fun p => l.any (fun r => r.port = p)
  let at3 := fun p => decide (c.portUrgency l p = some 3)
  let fog := fun p => has p && c.is (if p = 3 then F.MEM0_FOG_STATUS_P3 else F.MEM0_FOG_STATUS_P4)
  if 0 < s.must && !s.owed.isEmpty then .refresh
  else if fog 3 || fog 4 then
    let p := if fog 3 && (!fog 4 || c.dram.fogLast = 1) then 3 else 4
    .request p (at3 p) .fog
  else
    let ports := (List.range 8).filter has
    let u := ports.map (fun p => (p, (c.portUrgency l p).getD 0))
    let top := u.foldl (fun m e => max m e.2) 0
    if ports.isEmpty then .idle
    else if 0 < top then
      match u.find? (fun e => e.2 = top) with
      | some e => .request e.1 (top = 3) .urgency
      | none => .idle
    else .request (c.weighted s ports).1 false .turn

/-- One request served: a write lands, with the parity injection of its channel; a read returns its data. `once` and
`twice` say whether the read met a parity error in the first read, and in both. -/
def Chip.serve (m : Memory) (c : Chip) (r : MemReq) (once twice : Bool) : Chip :=
  let l := c.location r.addr
  let page := memPage l.ch
  let c := { c with dram := { c.dram with reqs := c.dram.reqs.erase r } }
  let c := c.set (F.MEM0_LAT_MAX_NS.ix r.port) (max (c.get (F.MEM0_LAT_MAX_NS.ix r.port)) (min 65535 r.age))
  match r.write with
  | some data =>
    let c := (c.count page 1).stores r.addr data
    let inject := F.MEMC_INJECT_PARITY.inst (l.ch + 1)
    if c.is inject then
      let c := c.set inject 0
      { c with badMem := putLast c.badMem (r.addr / 64 * 64) }
    else c
  | none =>
    let bad := !(c.stuckLines r.addr r.len).isEmpty
    let double := c.doubleRead r.addr
    let rep := bad || twice || (double && once)
    let c := c.count page 0 (if double then 2 else 1)
    let c := if rep then c.dramParity r.addr true else if once then c.dramParity r.addr false else c
    { c with dram := { c.dram with done := c.dram.done ++ [⟨r.job, r.addr, c.loads m r.addr r.len, rep⟩] } }

/-- One owed refresh of a sub-channel whose bank no request waits for issues (R376). -/
def Chip.refreshFree (c : Chip) (ch sub : Nat) : Chip :=
  let s := c.subch ch sub
  let l := c.waitingAt ch sub
  match s.owed.find? (fun b => !l.any (fun r => (c.location r.addr).cell % 16 = b)) with
  | some b => c.setSubch ch sub { s with owed := s.owed.erase b, must := s.must - 1 }
  | none => c

/-- DRAM_COMMAND_SLOT of a sub-channel, `ns` after its last one (R373). A channel in a quiet window serves nothing. -/
def Chip.commandSlot (m : Memory) (c : Chip) (ch sub ns : Nat) (once twice : Bool) : Chip :=
  if !c.dram.live.contains ch || 2 ≤ sub || !c.powered 0 then c
  else
    let mine := fun (r : MemReq) => (c.location r.addr).ch = ch && (c.location r.addr).sub = sub
    let c := { c with dram := { c.dram with
      reqs := c.dram.reqs.map (fun r => if mine r then { r with age := r.age + ns } else r) } }
    match c.slotItem ch sub with
    | .idle => c.refreshFree ch sub
    | .refresh =>
      let s := c.subch ch sub
      (c.setSubch ch sub { s with owed := s.owed.drop 1, must := s.must - 1 }).count (memPage ch) 5
    | .request p urgent why =>
      match (c.waitingAt ch sub).find? (fun r => r.port = p) with
      | none => c
      | some r =>
        let c := c.when urgent (fun c => c.count P.MEM 2)
        let c := match why with
          | .fog => { c with dram := { c.dram with fogLast := p - 3 } }
          | .urgency => c
          | .turn => c.setSubch ch sub (c.weighted (c.subch ch sub) ((List.range 8).filter (fun p =>
              (c.waitingAt ch sub).any (fun r => r.port = p)))).2
        (c.serve m r once twice).refreshFree ch sub

/-- The fog signal of P3 or P4 is asserted or not now (R373, R386); an assertion counts. -/
def Chip.fogSignal (c : Chip) (p4 now : Bool) : Chip :=
  let f := if p4 then F.MEM0_FOG_STATUS_P4 else F.MEM0_FOG_STATUS_P3
  let was := c.is f
  let c := c.setB f now
  if !now || was then c
  else
    let c := c.count P.MEM (b2n p4)
    c.when (bit (c.w (P.MEM + 0x014)).toNat 7) (fun c => c.irq P.MEM 7)

/-! ### Refresh (R376 to R378) -/

/-- The postponement limit in force of a channel. -/
def Chip.postponeLimit (c : Chip) (ch : Nat) : Nat :=
  let lim := c.act (F.MEMC_REFRESH_CFG_POSTPONE_MAX.inst (ch + 1))
  if c.is (F.MEMC_CH_STATUS_RATE2X.inst (ch + 1)) then min 4 lim else lim

/-- REFRESH_DUE: the next bank's refresh falls due. It issues if no request waits for the bank; else it is postponed, and
at the limit the refresh must issue. In a quiet window it is held. -/
def Chip.refreshDue (c : Chip) (ch sub : Nat) (inWindow : Bool) : Chip :=
  if !c.dram.live.contains ch || 2 ≤ sub then c
  else
    let s := c.subch ch sub
    let b := s.nextBank
    let s := { s with nextBank := (b + 1) % 16 }
    let waits := (c.waitingAt ch sub).any (fun r => (c.location r.addr).cell % 16 = b)
    if inWindow && (match c.dram.quiet with | some q => decide (q.ch = ch) | none => false) then
      c.setSubch ch sub { s with held := s.held ++ [b] }
    else if c.postponeLimit ch ≤ s.owed.length then
      c.setSubch ch sub { s with owed := s.owed ++ [b], must := s.must + 1 }
    else if waits then
      (c.setSubch ch sub { s with owed := s.owed ++ [b] }).count (memPage ch) 4
    else c.setSubch ch sub s

/-- Refreshes that a quiet window held issue at its end. -/
def Chip.releaseHeld (c : Chip) (ch : Nat) : Chip :=
  foldOver [0, 1] (fun sub c =>
    let s := c.subch ch sub
    c.setSubch ch sub { s with owed := s.owed ++ s.held, held := [], must := s.must + s.held.length }) c

/-- DEVICE_TEMP_REPORT (R377, R381): a report of `temp` °C, `hot` where it is above the device's threshold. -/
def Chip.tempReport (c : Chip) (ch : Nat) (temp : Int) (hot : Bool) : Chip :=
  if !c.dram.live.contains ch then c
  else
    let rate := F.MEMC_CH_STATUS_RATE2X.inst (ch + 1)
    let was := c.is rate
    let c := (c.setZ (F.MEMC_CH_STATUS_TEMP.inst (ch + 1)) temp).setB rate hot
    let c := c.when (hot && !was) (fun c =>
      let c := foldOver [0, 1] (fun sub c =>
        let s := c.subch ch sub
        c.setSubch ch sub { s with must := s.owed.length }) c
      (c.count (memPage ch) 6).irq (memPage ch) 7)
    let drift := c.act F.MEM0_TRAIN_CTRL_DRIFT
    let at_ := signed 8 (c.get (F.MEMC_TRAIN_TEMP_TEMP.inst (ch + 1)))
    c.when (0 < drift && decide ((drift : Int) ≤ (temp - at_).natAbs)) (fun c => c.trainReq false ch true)

/-! ### Training (R379 to R382) -/

/-- TRACK_REQUEST: TRACK_PERIOD has passed since a live channel's last accepted training. -/
def Chip.trackRequest (c : Chip) (ch : Nat) : Chip :=
  c.when (c.dram.live.contains ch && c.act F.MEM0_TRAIN_CTRL_TRACK_PERIOD ≠ 0) (fun c => c.trainReq false ch true)

/-- The windows that the committed plan grants (R379, R381, R382): a retry first, else QUIET. -/
def Chip.quietGrant (c : Chip) : Chip :=
  let retry := c.get F.MEM0_RETIRE_CTRL_RETRY
  let retired := fun ch => ch < 8 && !c.dram.live.contains ch && c.get (F.MEMC_CH_STATUS_STATE.inst (ch + 1)) = 2
  match (List.range 8).find? (fun ch => bit retry ch && retired ch) with
  | some ch =>
    let c := c.set F.MEM0_RETIRE_CTRL_RETRY (withBit retry ch false)
    let c := (c.set F.MEM0_RETRY_RESULT_CHANNEL (ch + 1)).set F.MEM0_RETRY_RESULT_OUTCOME 3
    { c with dram := { c.dram with quiet := some ⟨ch, true, 4, true⟩ } }
  | none =>
    let c := c.set F.MEM0_RETIRE_CTRL_RETRY 0
    let n := c.act F.MEM0_QUIET_CHANNEL
    let re := c.act F.MEM0_QUIET_KIND = 1
    if n = 0 || !c.dram.live.contains (n - 1) then { c with dram := { c.dram with quiet := none } }
    else
      let c := foldOver [0, 1] (fun sub c => c.setSubch (n - 1) sub { c.subch (n - 1) sub with owed := [], must := 0 }) c
      let c := { c with dram := { c.dram with quiet := some ⟨n - 1, re, if re then 4 else 1, false⟩ } }
      if c.regs.dirty.contains K.MEM0_QUIET then c
      else (c.stage F.MEM0_QUIET_CHANNEL 0).set F.MEM0_QUIET_KIND 0

/-- QUIET_WINDOW: one granted window of the channel has run; `margin` is the worst eye margin of the setting found, and
`found` says whether a RETRAIN's candidates included one that passes. The ISOL record of a RETRAIN that accepts nothing
carries CELL 0xFFF, ADDR_KIND 0b001 and device address 0 (the rules give none; DESIGN CHOICE, log 88). -/
def Chip.quietWindow (c : Chip) (ch margin : Nat) (found : Bool) : Chip :=
  match c.dram.quiet with
  | none => c
  | some q =>
    if q.ch ≠ ch || q.left = 0 then c
    else
      let page := memPage ch
      let i := fun (f : Fld) => f.inst (ch + 1)
      let ok := if q.retrain then found else decide (c.act F.MEM0_TRAIN_CTRL_TRACK_MIN ≤ margin)
      let last := ok || q.left = 1
      let c := { c with dram := { c.dram with quiet := if last then none else some { q with left := q.left - 1 } } }
      let c := c.releaseHeld ch
      let c := c.when (q.left = (if q.retrain then 4 else 1)) (fun c => c.count page (if q.retrain then 8 else 7))
      let c := c.when last (fun c =>
        let c := (c.setB (i F.MEMC_TRAIN_RESULT_KIND) q.retrain).set (i F.MEMC_TRAIN_RESULT_OUTCOME) (if ok then 1 else 2)
        (c.set (i F.MEMC_TRAIN_RESULT_MARGIN) (min 255 margin)).set (i F.MEMC_TRAIN_RESULT_FIELD) c.tick.field)
      if ok then
        let c := ((c.setDouble ch 0).trainReq false ch false).trainReq true ch false
        let c := (c.set (i F.MEMC_TRAIN_TEMP_TEMP) (c.get (i F.MEMC_CH_STATUS_TEMP))).irq page 6
        if q.retry then
          let c := c.set F.MEM0_RETRY_RESULT_OUTCOME 1
          { c with dram := { c.dram with rejoin := putLast c.dram.rejoin ch } }
        else c
      else if !last then c
      else if !q.retrain then c.trainReq true ch true
      else
        let c := c.count page 9
        if q.retry then c.set F.MEM0_RETRY_RESULT_OUTCOME 2
        else c.channelEvent ch .isol .retryFail 0xFFF 0

/-! ### Checks at plan lock (R385) -/

/-- MEM[0]'s checks: the first offending offset. -/
def Chip.memBad (c : Chip) : Option Nat :=
  let mask := fun k => c.lck (F.MEM0_MAP_MASK_MASK.ix k)
  match (List.range 8).find? (fun k => 5 < popCount (mask k) 21 || (c.isC8 && bit (mask k) 20)) with
  | some k => some (0x110 + 4 * k)
  | none => match (List.range 8).find? (fun p => c.lck (F.MEM0_PORT_QOS_LAT_TARGET.ix p) = 0) with
    | some p => some (0x130 + 4 * p)
    | none => if 9 ≤ c.lck F.MEM0_QUIET_CHANNEL then some 0x160 else none

/-- A channel page's check. -/
def Chip.memChanBad (c : Chip) (ch : Nat) : Option Nat :=
  let n := c.lck (F.MEMC_REFRESH_CFG_POSTPONE_MAX.inst (ch + 1))
  if n = 0 || 8 < n then some 0x114 else none

/-! ### The map as it stands (R369, R382) -/

/-- MAP_STATUS, CH_STATUS.STATE and DEGRADED follow the live channels. -/
def Chip.mapStatus (c : Chip) : Chip :=
  let live := c.dram.live
  let c := c.set F.MEM0_MAP_STATUS_LIVE (live.foldl (fun n ch => n + 2 ^ ch) 0)
  let c := (c.set F.MEM0_MAP_STATUS_LIMIT (c.dramLimit / 268435456)).setB F.MEM0_MAP_STATUS_FOLDED (live.length ≠ 8)
  foldOver (List.range 8) (fun ch c =>
    c.set (F.MEMC_CH_STATUS_STATE.inst (ch + 1)) (if live.contains ch then 1 else 2)) (c.statusBit P.MEM 2 (live.length ≠ 8))

/-- Requests that wait complete under the old map before a re-fold (R383). -/
def Chip.drainRequests (m : Memory) (c : Chip) : Chip := c.dram.reqs.foldl (fun c r => c.serve m r false false) c

/-- The Scene region's memory is powered and trained (R365, R382): the channels of `mask` are live, the others retired,
and every byte is 0. -/
def Chip.dramPowerUp (c : Chip) (mask : Nat) : Chip :=
  let c := { c with dram := { live := (List.range 8).filter (bit mask), refolds := c.dram.refolds } }
  let c := (c.set F.MEM0_CFG_RATE 2).fillMem (.zero 0 sramBase)
  c.mapStatus

/-- DRAM loses power. -/
def Chip.dramPowerDown (c : Chip) : Chip := { c with dram := { refolds := c.dram.refolds } }

/-- The operating point of a timing mode as MEM.CFG.RATE encodes it (R364). -/
def dramRate (id : Nat) : Nat :=
  if (1 ≤ id && id ≤ 8) || id = 10 then 0 else if id = 9 || id = 12 || id = 13 then 1 else 2

end Sys2Proof.Machine
end

