-- ==== Sys2Proof/Machine/Scene.lean ====
section
/-!
DEFINITION. Machine/Scene.lean: the layered scene stream (chapter 5): ingest of scene packets, the three-slot ring,
and binding at a commit.
-/

namespace Sys2Proof.Machine

/-! ### Reading the stream -/

/-- A little-endian word of a byte sequence. -/
def wordAt (l : List Byte) (off : Nat) : Nat := leNat ((l.drop off).take 4)

/-- The block size in bytes of a layer's format and ratio (R99); none for a reserved ratio. -/
def slsBlockBytes (lt48 : Bool) (ratio : Nat) : Option Nat :=
  if lt48 then (if ratio = 0 then some 96 else if ratio = 1 then some 128 else if ratio = 2 then some 192 else none)
  else (if ratio = 0 then some 80 else if ratio = 2 then some 160 else none)

/-- The block size of a layer. -/
def Layer.blockBytes (l : Layer) : Nat := (slsBlockBytes l.lt48 l.ratio).getD 0

/-- Blocks per block row, and block rows, of a layer. -/
def Layer.blockCols (l : Layer) : Nat := l.width / 8
def Layer.blockRows (l : Layer) : Nat := l.height / 8

/-- The faults of R110 Table 6 that ingest finds. -/
inductive SlsFault where
  | header | layout | short | tooLarge | trailer
  deriving DecidableEq, Repr

/-- The event code of an ingest fault. -/
def SlsFault.code : SlsFault → Nat
  | .header => 0x10
  | .layout => 0x11
  | .short => 0x12
  | .tooLarge => 0x13
  | .trailer => 0x14

/-- What the checks of R102 say of the bytes that have landed: more are wanted, the frame is complete, or a fault at an
offset of the frame. -/
inductive SlsResult where
  | partialOk
  | complete (f : Frame)
  | bad (fault : SlsFault) (off : Nat)
  deriving DecidableEq, Repr

/-- A check of landed bytes: whether it holds, the offset it names, and the offset at which its bytes end. -/
structure SlsTest where
  ok : Bool
  off : Nat
  stop : Nat
  deriving DecidableEq, Repr

/-- Of a list of checks the first that fails, its bytes being among the `n` that have landed (R102): its offset. -/
def firstBad (n : Nat) (l : List SlsTest) : Option Nat := (l.find? (fun t => !t.ok && decide (t.stop ≤ n))).map (·.off)

/-- A byte of a byte sequence. -/
def byteAt (l : List Byte) (off : Nat) : Nat := (l.getD off 0).toNat

/-- Reserved bytes from `off`, each of which must be 0. -/
def zeroBytes (l : List Byte) (off n : Nat) : List SlsTest :=
  (List.range n).map (fun i => ⟨decide (byteAt l (off + i) = 0), off + i, off + i + 1⟩)

/-- The header's own fields against Table 1 (R98), as far as they have landed: the offset of the first offending byte. -/
def headerBad (l : List Byte) : Option Nat :=
  let b := byteAt l
  firstBad l.length (
    [ ⟨b 0 = 0x53, 0, 1⟩, ⟨b 1 = 1, 1, 2⟩, ⟨b 2 / 16 = 0, 2, 3⟩, ⟨b 3 = 0, 3, 4⟩
    , ⟨b 6 / 4 % 4 ≠ 3, 6, 7⟩, ⟨b 6 / 32 = 0, 6, 7⟩, ⟨b 7 = 0, 7, 8⟩ ] ++ zeroBytes l 14 2
    ++ [ ⟨wordAt l 16 % 2 ^ 24 ≠ 0, 16, 19⟩, ⟨b 19 = 0, 19, 20⟩, ⟨wordAt l 24 < 1000000000, 24, 28⟩ ] ++ zeroBytes l 32 28)

/-- The header's fields. -/
def headerOf (l : List Byte) : Frame :=
  let w := wordAt l
  { alive := w 4 % 65536, timed := bit (w 4) 16, lateDrop := bit (w 4) 17, transfer := w 4 / 2 ^ 18 % 4
    primaries := w 4 / 2 ^ 20 % 2, target := w 8, sourcePeak := w 12 % 65536, totalGroups := w 16 % 2 ^ 24
    frameBytes := w 20, timeNs := w 24, timeS := w 28 }

/-- The number of layers the header names. -/
def layerCount (l : List Byte) : Nat := wordAt l 0 / 65536 % 16 + 1

/-- The layer descriptor at an offset. -/
def layerAt (l : List Byte) (off : Nat) : Layer :=
  let w := fun i => wordAt l (off + 4 * i)
  { lt48 := bit (w 0) 4, ratio := w 0 / 32 % 4, width := w 1 % 2 ^ 14, height := w 1 / 2 ^ 16 % 2 ^ 14
    z := signed 32 (w 2), relief := w 3 % 65536, scaleX := w 4 % 65536, scaleY := w 4 / 65536
    offX := signed 32 (w 5), offY := signed 32 (w 6), groups := w 7 % 2 ^ 24 }

/-- A layer descriptor against Table 3 and the layer before it (R96, R99), as far as it has landed: the offset of the first
offending byte. Table 3 lists no use for bits [15:14] and [31:30] of word 1; they must be 0 like the reserved bits it does
list (DESIGN CHOICE, log 93). -/
def layerBad (l : List Byte) (k : Nat) (prevZ : Option Int) : Option Nat :=
  let off := 64 + 32 * k
  let b := fun i => byteAt l (off + i)
  let d := layerAt l off
  let rises := match prevZ with
    | some z => decide (z ≤ d.z)
    | none => true
  firstBad l.length (
    [ ⟨b 0 % 16 = k, off, off + 1⟩, ⟨(slsBlockBytes d.lt48 d.ratio).isSome, off, off + 1⟩, ⟨b 0 / 128 = 0, off, off + 1⟩ ]
    ++ zeroBytes l (off + 1) 3
    ++ [ ⟨8 ≤ d.width ∧ d.width ≤ 8192 ∧ d.width % 8 = 0, off + 4, off + 6⟩, ⟨b 5 / 64 = 0, off + 5, off + 6⟩
       , ⟨8 ≤ d.height ∧ d.height ≤ 4608 ∧ d.height % 8 = 0, off + 6, off + 8⟩, ⟨b 7 / 64 = 0, off + 7, off + 8⟩
       , ⟨rises, off + 8, off + 12⟩, ⟨d.lt48 ∨ d.relief = 0, off + 12, off + 14⟩ ]
    ++ zeroBytes l (off + 14) 2
    ++ [ ⟨d.scaleX ≠ 0, off + 16, off + 18⟩, ⟨d.scaleY ≠ 0, off + 18, off + 20⟩
       , ⟨ceilDiv d.blockCols 64 * d.blockRows ≤ d.groups, off + 28, off + 31⟩, ⟨b 31 = 0, off + 31, off + 32⟩ ])

/-- All the layer descriptors checked in order. -/
def layersBad (l : List Byte) : Nat → Nat → Option Int → Option Nat
  | 0, _, _ => none
  | n + 1, k, z =>
    match layerBad l k z with
    | some o => some o
    | none => layersBad l n (k + 1) (some (layerAt l (64 + 32 * k)).z)

/-- The walk of R568 over a layer's blocks and trailers. -/
structure Walk where
  layers : List Layer
  /-- Blocks of the current block row that have passed, and block rows. -/
  col : Nat := 0
  row : Nat := 0
  /-- Blocks of the open group that have passed. -/
  cnt : Nat := 0
  /-- Groups of the current layer that have closed. -/
  groups : Nat := 0
  /-- A block has just ended, so 8 bytes decide whether a trailer stands here. -/
  after : Bool := false
  pos : Nat
  deriving DecidableEq, Repr

/-- The walk after a trailer: the next group, the next row, or the next layer, whose GROUPS must have been met. -/
def Walk.close (w : Walk) (l : Layer) (rest : List Layer) (rowEnd : Bool) : Option Walk :=
  let g := w.groups + 1
  if rowEnd then
    if w.row + 1 = l.blockRows then
      if g = l.groups then some { layers := rest, pos := w.pos + 8 } else none
    else some { w with col := 0, row := w.row + 1, cnt := 0, groups := g, after := false, pos := w.pos + 8 }
  else some { w with cnt := 0, groups := g, after := false, pos := w.pos + 8 }

/-- The walk over the bytes that have landed (`l`, from the walk's position on). -/
def walk (alive : Nat) : Nat → Walk → List Byte → SlsResult × Nat
  | 0, w, _ => (.partialOk, w.pos)
  | fuel + 1, w, l =>
    match w.layers with
    | [] => (if l.isEmpty then .partialOk else .bad .layout 20, w.pos)
    | d :: rest =>
      if w.after then
        if l.length < 8 then (.partialOk, w.pos)
        else
          let a := leNat ((l.drop 4).take 2)
          let n := leNat ((l.drop 6).take 1)
          let b := leNat ((l.drop 7).take 1)
          let rowEnd := decide (w.col = d.blockCols)
          if w.cnt = 64 ∨ rowEnd then
            if a ≠ alive then (.bad .trailer (w.pos + (if a % 256 = alive % 256 then 5 else 4)), w.pos)
            else if n ≠ w.cnt then (.bad .trailer (w.pos + 6), w.pos)
            else if b ≠ b2n rowEnd then (.bad .trailer (w.pos + 7), w.pos)
            else match w.close d rest rowEnd with
              | some w' => walk alive fuel w' (l.drop 8)
              | none => (.bad .layout 20, w.pos)
          else if a = alive ∧ n = w.cnt ∧ b = 2 then
            match w.close d rest false with
            | some w' => walk alive fuel w' (l.drop 8)
            | none => (.bad .layout 20, w.pos)
          else walk alive fuel { w with after := false } l
      else
        if l.length < d.blockBytes then (.partialOk, w.pos)
        else walk alive fuel { w with after := true, cnt := w.cnt + 1, col := w.col + 1, pos := w.pos + d.blockBytes }
              (l.drop d.blockBytes)

/-- The bytes R99 gives a frame of these layers. -/
def frameBytesOf (layers : List Layer) : Nat :=
  64 + 32 * layers.length
    + (layers.map (fun d => d.groups * 8 + d.blockCols * d.blockRows * d.blockBytes)).sum

/-- Every check of R102 that the landed bytes allow, in stream order; `slot` is the slot's size in bytes. R110 names no first
offending byte for a wrong HDR_CRC, sum or walk: recorded are HDR_CRC (60), TOTAL_GROUPS (16) and FRAME_BYTES (20); a packet
beyond FRAME_BYTES offends with the byte after the frame's last (DESIGN CHOICE, log 93). -/
def slsCheck (l : List Byte) (slot : Nat) : SlsResult :=
  match headerBad l with
  | some o => .bad .header o
  | none =>
    if l.length < 64 then .partialOk
    else
    let h := headerOf l
    let n := layerCount l
    let body := 64 + 32 * n
    if slot < h.frameBytes then .bad .tooLarge 20
    else if h.frameBytes < body then .bad .layout 20
    else match layersBad l (min n (ceilDiv (l.length - 64) 32)) 0 none with
    | some o => .bad .layout o
    | none =>
      if l.length < body then .partialOk
      else if crc32c (l.take 60 ++ (l.drop 64).take (32 * n)) ≠ wordAt l 60 then .bad .header 60
      else
        let layers := (List.range n).map (fun k => layerAt l (64 + 32 * k))
        if (layers.map Layer.groups).sum ≠ h.totalGroups then .bad .layout 16
        else if frameBytesOf layers ≠ h.frameBytes then .bad .layout 20
        else match walk h.alive (2 * l.length) { layers := layers, pos := body } ((l.take h.frameBytes).drop body) with
          | (.bad f o, _) => .bad f o
          | (_, p) =>
            if h.frameBytes < l.length then .bad .layout h.frameBytes
            else if l.length < h.frameBytes then .partialOk
            else if p = h.frameBytes then .complete { h with layers := layers }
            else .bad .layout 20

/-! ### The ring (R104 to R106) -/

/-- The slots that hold a frame, or part of one. -/
def Ring.taken (r : Ring) : List Nat :=
  (r.use.map SlotFrame.slot).toList ++ (r.ready.map SlotFrame.slot).toList ++ (r.queued.map SlotFrame.slot).toList
    ++ (r.unplaced.map SlotFrame.slot).toList ++ (r.fill.map Fill.slot).toList

/-- The lowest-numbered FREE slot. -/
def Ring.freeSlot (r : Ring) : Option Nat := [0, 1, 2].find? (fun s => !r.taken.contains s)

/-- VC1 scene credits are withheld: no slot is FREE and no frame in FILL lacks bytes (R105). -/
def Ring.creditHeld (r : Ring) : Bool := r.freeSlot.isNone && r.fill.isNone

/-- The ring changed by `f`. -/
def Chip.ringUp (c : Chip) (f : Ring → Ring) : Chip := { c with ring := f c.ring }

/-- RING_BASE, active. -/
def Chip.ringBase (c : Chip) : Nat := c.addrAct F.HLK_RING_BASE_LO_ADDR_LO F.HLK_RING_BASE_HI_ADDR_HI

/-- The size of a slot in bytes. -/
def Chip.slotBytes (c : Chip) : Nat := c.act F.HLK_SLOT_SIZE_UNITS * 4096

/-- The device address of a ring slot. -/
def Chip.slotAddr (c : Chip) (slot : Nat) : Nat := c.ringBase + slot * c.slotBytes

/-- A discard recorded in LAST_DISCARD, with FRAME_DISCARDED raised (R110, R118). -/
def Chip.noteDiscard (c : Chip) (reason alive : Nat) : Chip :=
  ((c.set F.HLK_LAST_DISCARD_REASON reason).set F.HLK_LAST_DISCARD_ALIVE alive).irq P.HLK 7

/-- The frame in FILL refused (R110 Table 6): the slot becomes FREE, and packets up to the next START go with it. -/
def Chip.sceneRefuse (c : Chip) (fl : Fill) (fault : SlsFault) (off : Nat) : Chip :=
  let addr := c.slotAddr fl.slot + (if fault = .short then 0 else off)
  let alive := if fl.bytes.length < 6 then c.freeNat else wordAt fl.bytes 4
  let c := c.when (fl.bytes.length < 6) Chip.drew
  let c := c.ringUp (fun r => { r with fill := none, skip := true })
  let c := c.event P.HLK .cont (.own fault.code) 0xFFF 1 addr
  let c := c.count P.HLK (if fault = .short then 3 else 4)
  c.noteDiscard fault.code alive

/-- A complete frame placed as READY or QUEUED, or left unplaced (R105, R106). -/
def Chip.placeFrame (c : Chip) (f : SlotFrame) : Chip :=
  match c.ring.ready with
  | none => (c.ringUp (fun r => { r with ready := some f })).irq P.HLK 6
  | some old =>
    if !old.frame.timed then
      let c := (c.count P.HLK 2).noteDiscard 0x15 old.frame.alive
      (c.ringUp (fun r => { r with ready := some f })).irq P.HLK 6
    else if c.ring.queued.isNone then (c.ringUp (fun r => { r with queued := some f })).irq P.HLK 6
    else c.ringUp (fun r => { r with unplaced := some f })

/-- The floor of a rational, numerator and positive denominator. -/
def floorDiv (a : Int) (b : Nat) : Int := a / (b : Int)

/-- The digest regions (R237, R238): whether the texel rectangle of blocks `b0` to `b1` of block row `row` of a layer,
mapped to the display plane by R93, meets region `r` of a `w` × `h` active area. Display coordinates are in units of
1/(256 × SCALE). -/
def groupMeetsRegion (d : Layer) (b0 b1 row w h r : Nat) : Bool :=
  let rx := r % 4
  let ry := r / 4
  -- X = u / SCALE + OFF_X, with SCALE = scale / 2^14 and OFF = off / 2^8: X · 2^8 · scale = u · 2^22 + off · scale
  let xOf := fun (u : Nat) => (u : Int) * 2 ^ 22 + d.offX * d.scaleX
  let yOf := fun (v : Nat) => (v : Int) * 2 ^ 22 + d.offY * d.scaleY
  let xl := ((rx * w / 4 : Nat) : Int) * 256 * d.scaleX
  let xr := (((rx + 1) * w / 4 : Nat) : Int) * 256 * d.scaleX
  let yt := ((ry * h / 4 : Nat) : Int) * 256 * d.scaleY
  let yb := (((ry + 1) * h / 4 : Nat) : Int) * 256 * d.scaleY
  decide (xOf (8 * b0) < xr) && decide (xl < xOf (8 * b1))
    && decide (yOf (8 * row) < yb) && decide (yt < yOf (8 * row + 8))

/-- The groups of a frame in stream order: their layer, block row, first and end block, offset of the group and of its
trailer. -/
structure GroupAt where
  layer : Nat
  row : Nat
  col0 : Nat
  col1 : Nat
  start : Nat
  trailer : Nat
  deriving DecidableEq, Repr

/-- The walk of R568 over a whole frame, listing its groups. `k` is the layer, `g0` the offset of the open group. -/
def groupWalk (alive : Nat) : Nat → Nat → Nat → Walk → List Byte → List GroupAt
  | 0, _, _, _, _ => []
  | fuel + 1, k, g0, w, l =>
    match w.layers with
    | [] => []
    | d :: rest =>
      if w.after then
        let a := leNat ((l.drop 4).take 2)
        let n := leNat ((l.drop 6).take 1)
        let b := leNat ((l.drop 7).take 1)
        let rowEnd := decide (w.col = d.blockCols)
        if w.cnt = 64 ∨ rowEnd ∨ (a = alive ∧ n = w.cnt ∧ b = 2) then
          let here : GroupAt := ⟨k, w.row, w.col - w.cnt, w.col, g0, w.pos⟩
          match w.close d rest rowEnd with
          | some w' =>
            here :: groupWalk alive fuel (if w'.layers.length < w.layers.length then k + 1 else k) w'.pos w' (l.drop 8)
          | none => [here]
        else groupWalk alive fuel k g0 { w with after := false } l
      else groupWalk alive fuel k g0
            { w with after := true, cnt := w.cnt + 1, col := w.col + 1, pos := w.pos + d.blockBytes }
            (l.drop d.blockBytes)

/-- The groups of a complete frame. -/
def groupsOf (f : Frame) (l : List Byte) : List GroupAt :=
  let body := 64 + 32 * f.layers.length
  groupWalk f.alive (2 * l.length) 0 body { layers := f.layers, pos := body } (l.drop body)

/-- The 16 input digests of a frame (R238). -/
def digestsOf (f : Frame) (l : List Byte) (w h : Nat) : List Nat :=
  let gs := groupsOf f l
  (List.range 16).map (fun r =>
    let mine := gs.filter (fun g => match f.layers[g.layer]? with
      | some d => groupMeetsRegion d g.col0 g.col1 g.row w h r
      | none => false)
    if mine.isEmpty then 0 else crc32c (mine.flatMap (fun g => (l.drop g.trailer).take 4)))

/-- A frame whose bytes have landed and whose checks have passed (R102, R103): its ALIVE judged, its digests taken, and
the frame placed. -/
def Chip.sceneComplete (c : Chip) (fl : Fill) (f : Frame) : Chip :=
  let step := c.act F.HLK_SCENE_CTRL_ALIVE_STEP
  let c := c.count P.HLK 0
  let last := c.ring.lastAlive
  let sf : SlotFrame := ⟨fl.slot, f, digestsOf f fl.bytes c.timing.width c.timing.height⟩
  let c := c.ringUp (fun r => { r with fill := none, skip := false, lastAlive := some f.alive })
  let compared := last.isSome && step ≠ 0
  let lastV := last.getD 0
  if !compared || (f.alive + 2 * 65536 - lastV - step) % 65536 = 0 then c.placeFrame sf
  else if f.alive = lastV then
    let c := c.event P.HLK .cont .alive 0xFFF 1 (c.slotAddr fl.slot + 4)
    (c.count P.HLK 5).noteDiscard 0x03 f.alive
  else
    let c := c.event P.HLK .corr .alive 0xFFF 1 (c.slotAddr fl.slot + 4)
    (c.count P.HLK 6).placeFrame sf

/-- Bytes of a scene packet into the frame in FILL: written from the slot's running offset, none beyond FRAME_BYTES or
the slot, then checked (R101, R102). -/
def Chip.sceneBytes (c : Chip) (fl : Fill) (data : List Byte) : Chip :=
  let all := fl.bytes ++ data
  let frameBytes := if all.length < 24 then c.slotBytes else wordAt all 20
  let room := min frameBytes c.slotBytes - fl.bytes.length
  let c := c.stores (c.slotAddr fl.slot + fl.bytes.length) (data.take room)
  let fl := { fl with bytes := all }
  match slsCheck all c.slotBytes with
  | .partialOk => c.ringUp (fun r => { r with fill := some fl })
  | .complete f => c.sceneComplete fl f
  | .bad fault off => c.sceneRefuse fl fault off

/-- A scene packet of context `ctx` (R101): into the frame in progress, a new frame, or a stray. -/
def Chip.scenePacket (c : Chip) (ctx : Nat) (start : Bool) (data : List Byte) : Chip :=
  if !c.on F.HLK_SCENE_CTRL_ENABLE || c.act F.HLK_SCENE_CTRL_SRC_CTX ≠ ctx then c.count P.HLK 10
  else if start then
    match c.ring.fill with
    | some fl =>
      ((c.sceneRefuse fl .short 0).ringUp (fun r => { r with skip := false })).sceneBytes ⟨fl.slot, []⟩ data
    | none =>
      let c := c.ringUp (fun r => { r with skip := false })
      match c.ring.freeSlot with
      | some s => c.sceneBytes ⟨s, []⟩ data
      | none => c.count P.HLK 10
  else match c.ring.fill with
    | some fl => c.sceneBytes fl data
    | none => if c.ring.skip then c else c.count P.HLK 10

/-! ### Binding at the commit that starts sector-0 synthesis (R107, R108) -/

/-- What a candidate frame does at the binding that serves frame number `n`. -/
inductive BindWay where
  | bind | wait | bindLate | drop
  deriving DecidableEq, Repr

/-- R107 for one candidate. -/
def bindWay (f : Frame) (n : Nat) : BindWay :=
  if !f.timed then .bind
  else
    let e := signedDiff 32 f.target n
    if 0 < e then .wait else if e = 0 then .bind else if f.lateDrop then .drop else .bindLate

/-- A frame bound: its registers, counters and digests (R107, R109, R238). -/
def Chip.bindFrame (c : Chip) (f : SlotFrame) (n : Nat) (late : Bool) : Chip :=
  let c := c.count P.HLK 1
  let c := c.when late (fun c => (c.count P.HLK 7).irq P.HLK 9)
  let c := c.ringUp (fun r => { r with use := some f })
  let c := (c.set F.HLK_USE_INFO_ALIVE f.frame.alive).setB F.HLK_USE_INFO_TIMED f.frame.timed
  let c := (c.set F.HLK_USE_INFO_REPEATED 0).set F.HLK_USE_FRAME_FRAME n
  let c := (c.set F.HLK_USE_TIME_NS_NS f.frame.timeNs).set F.HLK_USE_TIME_S_S f.frame.timeS
  foldOver (List.range 16) (fun r c => c.set (F.SCN_DAYMARK_DIGEST_DIGEST.ix r) (f.digests.getD r 0)) c

/-- A late frame dropped at binding. -/
def Chip.lateDropped (c : Chip) (f : SlotFrame) : Chip :=
  ((c.count P.HLK 8).noteDiscard 0x16 f.frame.alive).irq P.HLK 9

/-- The QUEUED frame moves to READY. -/
def Chip.promoteQueued (c : Chip) : Chip :=
  match c.ring.ready, c.ring.queued with
  | none, some q => (c.ringUp (fun r => { r with ready := some q, queued := none })).irq P.HLK 6
  | _, _ => c

/-- The unplaced frame placed once QUEUED is empty (R106). -/
def Chip.placeUnplaced (c : Chip) : Chip :=
  match c.ring.unplaced with
  | some f => if c.ring.queued.isNone then (c.ringUp (fun r => { r with unplaced := none })).placeFrame f else c
  | none => c

/-- READY and then QUEUED considered for frame number `n` (R107): whether one bound. -/
def Chip.considerReady (c : Chip) (n : Nat) : Bool × Chip :=
  match c.ring.ready with
  | none => (false, c)
  | some f =>
    let gone := fun (c : Chip) => c.ringUp (fun r => { r with ready := none })
    match bindWay f.frame n with
    | .bind => (true, (gone c).bindFrame f n false)
    | .bindLate => (true, (gone c).bindFrame f n true)
    | .wait => (false, c)
    | .drop =>
      let c := (gone c).lateDropped f
      match c.ring.queued with
      | none => (false, c)
      | some q =>
        let goneQ := fun (c : Chip) => c.ringUp (fun r => { r with queued := none })
        match bindWay q.frame n with
        | .bind => (true, (goneQ c).bindFrame q n false)
        | .bindLate => (true, (goneQ c).bindFrame q n true)
        | .wait => (false, c)
        | .drop => (false, (goneQ c).lateDropped q)

/-- The binding of a commit at which synthesis of sector 0 starts; `n` is the frame number it serves. `hold` keeps every
candidate waiting, as a wall's barrier may (chapter 18). -/
def Chip.sceneBind (c : Chip) (n : Nat) (hold : Bool := false) : Chip :=
  let r := if hold then (false, c) else c.considerReady n
  let c := r.2
  let c := if r.1 then c
    else match c.ring.use with
      | some _ => (((c.count P.HLK 9).set F.HLK_USE_INFO_REPEATED 1).set F.HLK_USE_FRAME_FRAME n).irq P.HLK 8
      | none => (c.set F.HLK_USE_INFO_REPEATED 0).set F.HLK_USE_FRAME_FRAME n
  c.promoteQueued.placeUnplaced

/-- ENABLE commits to 0: FILL, READY and QUEUED frames are discarded, USE stays bound (R117). -/
def Chip.sceneDisable (c : Chip) : Chip :=
  c.ringUp (fun r => { r with ready := none, queued := none, unplaced := none, fill := none, skip := false })

/-- Every frame of the ring discarded: a re-fold (R383) or an HLK block reset (R117). ALIVE of the last complete frame stays
for the comparison of R103. -/
def Chip.sceneDropAll (c : Chip) : Chip := c.ringUp (fun r => { lastAlive := r.lastAlive })

/-- HLK's scene registers at plan lock (R117): the first offending offset. -/
def Chip.sceneRingBad (c : Chip) : Option Nat :=
  let base := c.addrLck F.HLK_RING_BASE_LO_ADDR_LO F.HLK_RING_BASE_HI_ADDR_HI
  let units := c.lck F.HLK_SLOT_SIZE_UNITS
  let en := c.lck F.HLK_SCENE_CTRL_ENABLE = 1
  let both := en && c.on F.HLK_SCENE_CTRL_ENABLE
  if c.dramLimit < base + 3 * units * 4096 then some 0x204
  else if en ∧ units = 0 then some 0x20C
  else if both && base ≠ c.ringBase then some 0x204
  else if both && units ≠ c.act F.HLK_SLOT_SIZE_UNITS then some 0x20C
  else none

/-- RING_STATUS as read (R117 Table 10). -/
def Chip.ringStatus (c : Chip) : Nat :=
  let slotV := fun (o : Option SlotFrame) (lo : Nat) => match o with
    | some f => f.slot * 2 ^ lo + 2 ^ (lo + 2)
    | none => 0
  let fillS := match c.ring.fill, c.ring.unplaced with
    | some f, _ => f.slot * 2 ^ 9 + 2 ^ 11
    | none, some f => f.slot * 2 ^ 9 + 2 ^ 11
    | none, none => 0
  slotV c.ring.use 0 + slotV c.ring.ready 3 + slotV c.ring.queued 6 + fillS + b2n c.ring.creditHeld * 2 ^ 12

/-- FILL_BYTES as read. -/
def Chip.fillBytes (c : Chip) : Nat :=
  match c.ring.fill, c.ring.unplaced with
  | some f, _ => f.bytes.length
  | none, some f => f.frame.frameBytes
  | none, none => 0

end Sys2Proof.Machine
end

