-- ==== Sys2Proof/Machine/Codec.lean ====
section
/-!
DEFINITION. Machine/Codec.lean: the fixed-ratio block codec (chapter 6): formats, the decoder of R127 to the bit, the
module's own encoder as a free value that is always a valid block (R128), and group checks.
-/

namespace Sys2Proof.Machine

/-- Channel widths in coding order (R121 Table 2). -/
def Fmt.widths : Fmt → List Nat
  | .lt48 => [10, 10, 10, 8, 10]
  | .lt40 => [10, 10, 10, 8]
  | .px30 => [10, 10, 10]
  | .ov32 => [8, 8, 8, 8]

/-- W: the coded bits of one texel. -/
def Fmt.bits (f : Fmt) : Nat := f.widths.sum

/-- C: the channels. -/
def Fmt.chans (f : Fmt) : Nat := f.widths.length

/-- The coded block size in bytes at a ratio: 0 4:1, 1 3:1, 2 2:1 (R119 Table 1). -/
def Fmt.blockBytes : Fmt → Nat → Option Nat
  | .lt48, 0 => some 96
  | .lt48, 1 => some 128
  | .lt48, 2 => some 192
  | .lt40, 0 => some 80
  | .lt40, 2 => some 160
  | .px30, 1 => some 80
  | .px30, 2 => some 120
  | .ov32, 0 => some 64
  | .ov32, 2 => some 128
  | _, _ => none

/-- The bytes of one texel's byte image (R122). -/
def Fmt.imageBytes : Fmt → Nat
  | .lt48 => 6
  | .lt40 => 5
  | .px30 => 4
  | .ov32 => 4

/-- G: the index sets of a SETS value, none where it is reserved for the format (R124 Table 4). -/
def Fmt.setCount (f : Fmt) (sets : Nat) : Option Nat :=
  match f, sets with
  | _, 0 => some 1
  | .px30, 1 => none
  | _, 1 => some 2
  | .lt48, 2 => some 3
  | _, 2 => none
  | f, _ => some f.chans

/-- The index of the set that governs channel `ch` (R124). -/
def setOf (sets ch : Nat) : Nat :=
  if sets = 0 then 0 else if sets = 1 then (if ch < 3 then 0 else 1) else if sets = 2 then (ch - 2) else ch

/-- The fields of a mode byte (R123 Table 3). -/
def blkKind (m : Nat) : Nat := m % 4
def blkRes (m : Nat) : Nat := m / 4 % 4
def blkShift (m : Nat) : Nat := m / 16 % 16

/-- The layout size of a mode in payload bits, none where the mode byte is reserved for the format (R125, R126). -/
def layoutBits (f : Fmt) (mode : Nat) : Option Nat :=
  let r := blkRes mode
  match blkKind mode with
  | 0 => if mode = 0 then some f.bits else none
  | 1 => if blkShift mode ≤ 10 then some (3 * f.bits + 64 * f.chans * r) else none
  | 2 => if blkShift mode = 0 then (f.setCount r).map (fun g => 8 * f.bits + 128 * g) else none
  | _ => if blkShift mode = 0 then (f.setCount r).map (fun g => 8 * f.bits + 192 * g) else none

/-- Whether a block whose mode byte is `mode` is valid (R126). -/
def blockValid (f : Fmt) (ratio mode : Nat) : Bool :=
  match f.blockBytes ratio, layoutBits f mode with
  | some s, some n => n ≤ 8 * s - 8
  | _, _ => false

/-- `n` bits of a block from bit `pos` (R123). -/
def takeBits (blk pos n : Nat) : Nat := blk / 2 ^ pos % 2 ^ n

/-- The coded bits of the channels before channel `ch`. -/
def Fmt.before (f : Fmt) (ch : Nat) : Nat := (f.widths.take ch).sum

/-- The endpoint weights (R127). -/
def epWeight (b idx : Nat) : Nat :=
  if b = 2 then [0, 21, 43, 64].getD idx 0 else [0, 9, 18, 27, 37, 46, 55, 64].getD idx 0

/-- Channel `ch` of texel `t` of a valid block (R127): `blk` is the block as a little-endian number. -/
def decodeChan (f : Fmt) (blk t ch : Nat) : Nat :=
  let mode := blk % 256
  let w := f.widths.getD ch 0
  let x := t % 8
  let y := t / 8
  match blkKind mode with
  | 0 => takeBits blk (8 + f.before ch) w
  | 1 =>
    let r := blkRes mode
    let at3 := 8 + 3 * f.before ch
    let p := takeBits blk at3 w
    let gx := signed w (takeBits blk (at3 + w) w)
    let gy := signed w (takeBits blk (at3 + 2 * w) w)
    let base := (16 * (p : Int) + gx * (2 * (x : Int) - 7) + gy * (2 * (y : Int) - 7) + 8) / 16
    let res := takeBits blk (8 + 3 * f.bits + r * (f.chans * t + ch)) r
    let e : Int := if r = 0 then 0 else (2 * (res : Int) + 1 - 2 ^ r) * 2 ^ blkShift mode
    (clampInt 0 (2 ^ w - 1) (base + e)).toNat
  | k =>
    let b := if k = 2 then 2 else 3
    let sets := blkRes mode
    let g := (f.setCount sets).getD 0
    let q := 2 * (y / 4) + x / 4
    let u := 4 * (y % 4) + x % 4
    let qb := 8 + q * (2 * f.bits + 16 * b * g)
    let e0 := takeBits blk (qb + f.before ch) w
    let e1 := takeBits blk (qb + f.bits + f.before ch) w
    let wt := epWeight b (takeBits blk (qb + 2 * f.bits + b * (16 * setOf sets ch + u)) b)
    (e0 * (64 - wt) + e1 * wt + 32) / 64

/-- Texel `t` of a block: its channel codes; 0 in every channel of an invalid block (R126). -/
def decodeTexel (f : Fmt) (ratio blk t : Nat) : List Nat :=
  if blockValid f ratio (blk % 256) then (List.range f.chans).map (decodeChan f blk t)
  else (List.range f.chans).map (fun _ => 0)

/-- The 64 texels of a block, in raster order (R127). -/
def decodeBlock (f : Fmt) (ratio : Nat) (blk : List Byte) : List (List Nat) :=
  let n := leNat blk
  (List.range 64).map (decodeTexel f ratio n)

/-- The byte image of a texel (R122): D in two's complement, LT40's reserved bits 0. -/
def texelImage (f : Fmt) (t : List Nat) : List Byte :=
  let v := fun i => t.getD i 0
  match f with
  | .lt48 => leBytes 6 (v 0 + v 1 * 2 ^ 10 + v 2 * 2 ^ 20 + v 3 * 2 ^ 30 + (v 4 + 512) % 1024 * 2 ^ 38)
  | .lt40 => leBytes 5 (v 0 + v 1 * 2 ^ 10 + v 2 * 2 ^ 20 + v 3 * 2 ^ 30)
  | .px30 => leBytes 4 (v 0 + v 1 * 2 ^ 10 + v 2 * 2 ^ 20)
  | .ov32 => leBytes 4 (v 0 + v 1 * 2 ^ 8 + v 2 * 2 ^ 16 + v 3 * 2 ^ 24)

/-- The channel codes that a texel's byte image spells. -/
def imageTexel (f : Fmt) (l : List Byte) : List Nat :=
  let n := leNat l
  match f with
  | .lt48 => [n % 1024, n / 2 ^ 10 % 1024, n / 2 ^ 20 % 1024, n / 2 ^ 30 % 256, (n / 2 ^ 38 + 512) % 1024]
  | .lt40 => [n % 1024, n / 2 ^ 10 % 1024, n / 2 ^ 20 % 1024, n / 2 ^ 30 % 256]
  | .px30 => [n % 1024, n / 2 ^ 10 % 1024, n / 2 ^ 20 % 1024]
  | .ov32 => [n % 256, n / 256 % 256, n / 65536 % 256, n / 2 ^ 24 % 256]

/-- The byte images of a block's texels, as a group check takes them (R131). -/
def blockImages (f : Fmt) (ts : List (List Nat)) : List Byte := ts.flatMap (texelImage f)

/-- A FLAT block of one value per channel (R123, R135). -/
def flatBlock (f : Fmt) (size : Nat) (v : List Nat) : List Byte :=
  leBytes size ((List.range f.chans).foldl (fun n ch => n + v.getD ch 0 * 2 ^ (8 + f.before ch)) 0)

/-- The format as an index for the free encoder. -/
def Fmt.index : Fmt → Nat
  | .lt48 => 0
  | .lt40 => 1
  | .px30 => 2
  | .ov32 => 3

/-- A block that the module's own encoder writes for 64 texels: a free value, but always of the block's size and valid,
as R128 has it, with 0 in the bits after its layout's last field (R123); where the free bytes are neither, the FLAT block of
the first texel, which is one of the valid choices. -/
def encodeBlock (f : Fmt) (ratio : Nat) (ts : List (List Nat)) : List Byte :=
  let size := (f.blockBytes ratio).getD 0
  let b := Config.encodeBlock f.index ratio ts
  let mode := leNat (b.take 1)
  if b.length = size ∧ blockValid f ratio mode then leBytes size (leNat b % 2 ^ (8 + (layoutBits f mode).getD 0))
  else flatBlock f size (ts.headD [])

/-! ### Group decode for the texel caches (R111, R134) -/

/-- The format of a scene layer. -/
def Layer.fmt (l : Layer) : Fmt := if l.lt48 then .lt48 else .lt40

/-- A texel outside a layer: q, a12 and D of R157 are 0; coded with D + 512. -/
def emptyTexel (f : Fmt) : List Nat :=
  match f with
  | .lt48 => [0, 0, 0, 0, 512]
  | _ => [0, 0, 0, 0]

/-! ### The level-2 texel cache (R149, R150) -/

/-- A line's bytes: each texel's byte image widened to 8 bytes. -/
def lineBytes (f : Fmt) (texels : List (List Nat)) : List Byte :=
  texels.flatMap (fun t => (texelImage f t ++ List.replicate 8 0).take 8)

/-- Texel `t` of a line. -/
def lineTexel (f : Fmt) (data : List Byte) (t : Nat) : List Nat := imageTexel f ((data.drop (8 * t)).take 8)

/-- A level-2 line holds this block. -/
def TexLine.holds (l : TexLine) (layer bx bty : Nat) : Bool := l.layer = layer && l.bx = bx && l.bty = bty

/-- The active base of the level-2 cache. -/
def Chip.l2Base (c : Chip) : Nat := c.addrAct F.RAY_L2_BASE_LO_ADDR_LO F.RAY_L2_BASE_HI_ADDR_HI

/-- The set of a block in the level-2 cache. -/
def l2Set (layer bx bty : Nat) : Nat := Config.cacheSet 2 layer bx bty % 16384

/-- Where a line's bytes lie: the sets stand one after another, each with its 16 ways in turn (DESIGN CHOICE, log 19: the
spec gives the range and the organisation, not the order). -/
def Chip.l2Addr (c : Chip) (l : TexLine) : Nat := c.l2Base + 512 * (16 * l2Set l.layer l.bx l.bty + l.way)

/-- A block enters the level-2 cache: in the way that holds it, else in a free way of its set, else in that of the set's least
recently used line. -/
def Chip.l2Fill (c : Chip) (layer bx bty : Nat) (data : List Byte) : Chip :=
  let set := l2Set layer bx bty
  let inSet := fun (l : TexLine) => decide (l2Set l.layer l.bx l.bty = set)
  let mine := c.ray.lines.filter inSet
  let way := match mine.find? (·.holds layer bx bty), (List.range 16).find? (fun w => !mine.any (·.way = w)), mine with
    | some l, _, _ => l.way
    | none, some w, _ => w
    | none, none, l :: _ => l.way
    | none, none, [] => 0
  let line : TexLine := ⟨layer, bx, bty, way⟩
  let c := { c with ray := { c.ray with lines := c.ray.lines.filter (fun l => !(inSet l && l.way = way)) ++ [line] } }
  c.stores (c.l2Addr line) data

/-- The group within its layer that holds a block, and its number. -/
def groupHolding (groups : List GroupAt) (layer bx bty : Nat) : Option (Nat × GroupAt) :=
  let mine := groups.filter (fun g => g.layer = layer)
  match mine.findIdx? (fun g => g.row = bty && g.col0 ≤ bx && bx < g.col1) with
  | some i => (mine[i]?).map (fun g => (i, g))
  | none => none

/-- SEGMENT_CLASSIFY (R171): a checked group that covers a whole segment classes it: 1 EMPTY, 2 SPARSE, 3 DENSE. `texels` gives
a block's texels; `clear` says that R111 made the group transparent. -/
def Chip.segClassify (c : Chip) (d : Layer) (g : GroupAt) (clear : Bool) (texels : Nat → List (List Nat)) : Chip :=
  if g.col0 % 64 = 0 && (g.col1 = g.col0 + 64 || g.col1 = d.blockCols) then
    let n := g.col1 - g.col0
    let alphas := ((List.range n).map (fun i => ((texels i).filter (fun t => 0 < t.getD 3 0)).length)).sum
    let cls := if clear || alphas = 0 then 1 else if alphas ≤ 64 * n / 100 then 2 else 3
    let key := (g.layer, g.row, g.col0 / 64)
    { c with ray := { c.ray with segs := c.ray.segs.filter (fun e => e.1 ≠ key) ++ [(key, cls)] } }
  else c

/-- A group's blocks released to the level-2 cache (R111), and its segment classed. -/
def Chip.groupRelease (c : Chip) (d : Layer) (g : GroupAt) (texels : Nat → List (List Nat)) : Chip :=
  let c := foldOver (List.range (g.col1 - g.col0)) (fun (i : Nat) (c : Chip) =>
    c.l2Fill g.layer (g.col0 + i) g.row (lineBytes d.fmt (texels i))) c
  c.segClassify d g false texels

/-- A group that R111 has made transparent: nothing is released, and no cluster waits for its blocks any longer. -/
def Chip.groupTransparent (c : Chip) (d : Layer) (g : GroupAt) (group : Nat) : Chip :=
  let c := { c with ray := { c.ray with
    transparent := putLast c.ray.transparent (g.layer, group)
    asked := c.ray.asked.filter (fun l => !(l.layer = g.layer && l.bty = g.row && g.col0 ≤ l.bx && l.bx < g.col1)) } }
  c.segClassify d g true (fun _ => [])

/-- A scene group of the bound frame read and decoded for a cache miss (R111, R134). `p1` and `p2` say whether MEM
returned a byte of it with status PARITY in the first and the second attempt; bytes whose stored parity is inverted
fail both. The pipe is one of cells 0 to 5 (R133). -/
def Chip.groupDecode (m : Memory) (c : Chip) (layer group pipe : Nat) (p1 p2 : Bool) : Chip :=
  match c.ring.use with
  | none => c
  | some sf =>
    let base := c.slotAddr sf.slot
    let bytes := c.loads m base sf.frame.frameBytes
    let mine := (groupsOf sf.frame bytes).filter (fun g => g.layer = layer)
    match sf.frame.layers[layer]?, mine[group]? with
    | some d, some g =>
      if c.ray.transparent.contains (layer, group) then c.groupTransparent d g group
      else
        let pipe := pipe % 6
        let bs := d.blockBytes
        let blk := fun i => (bytes.drop (g.start + i * bs)).take bs
        let n := g.col1 - g.col0
        let texels := fun i => decodeBlock d.fmt d.ratio (blk i)
        let bad := c.stuckLines (base + g.start) (n * bs + 8)
        let stuck := !bad.isEmpty
        let crc := crc32c ((List.range n).flatMap (fun i => blockImages d.fmt (texels i)))
        let mismatch := decide (crc ≠ wordAt bytes g.trailer)
        let fail1 := p1 || stuck || mismatch
        let fail2 := p2 || stuck || mismatch
        let invalid := ((List.range n).filter (fun i => !blockValid d.fmt d.ratio (leNat ((blk i).take 1)))).length
        let c := c.count P.CDC 0
        let c := c.when (0 < invalid) (fun c => (c.count P.CDC 4 invalid).irq P.CDC 8)
        let addr := base + g.start
        let memory := fun (c : Chip) (p : Bool) =>
          if stuck then foldOver bad (fun a c => c.dramParity a true) c else if p then c.dramParity addr true else c
        let release := fun (c : Chip) => c.groupRelease d g texels
        let noteCheck := fun (c : Chip) =>
          (c.set F.CDC_LAST_CHECK_LAYER layer).set F.CDC_LAST_CHECK_GROUP group
        if !fail1 then release c
        else
          let c := (noteCheck ((memory c p1).count P.CDC 2))
          let c := memory c p2
          if !fail2 then release (c.event P.CDC .corr .check pipe 1 addr)
          else
            ((c.count P.CDC 3).event P.CDC .cont .check pipe 1 addr).groupTransparent d g group
    | _, _ => c

end Sys2Proof.Machine
end

