-- ==== Sys2Proof/Machine/Lens.lean ====
section
/-!
DEFINITION. Machine/Lens.lean: the lens map (chapter 8): the direction of a subpixel in a sector, the correction grid,
tile bounds, viewer zones, the checks at plan lock and the probe.
-/

namespace Sys2Proof.Machine

/-- The values of R184 to R188, read from a tier of the registers. -/
structure LensVals where
  pitch : Nat
  slant : Int
  phase : Nat
  spreadX : Int
  spreadY : Int
  secX : List Int
  secY : List Int
  gridEn : Bool
  nx : Nat
  ny : Nat
  step : Nat
  base : Nat
  gmaxX : Int
  gmaxY : Int
  deriving DecidableEq, Repr

/-- GMAX of R188: (TMAX × 1 000 000) div PIXEL_PITCH, at most 524 287, 0 while PIXEL_PITCH is 0. -/
def gmaxOf (tmax nm : Nat) : Int := if nm = 0 then 0 else (min (tmax * 1000000 / nm) 524287 : Nat)

/-- The lens values that `g` reads. -/
def lensVals (g : Fld → Nat) : LensVals :=
  { pitch := g F.LNS_LENS_PITCH_PITCH
    slant := signed 32 (g F.LNS_LENS_SLANT_SLANT)
    phase := g F.LNS_LENS_PHASE_PHASE
    spreadX := signed 20 (g F.LNS_SPREAD_X_SPREAD)
    spreadY := signed 20 (g F.LNS_SPREAD_Y_SPREAD)
    secX := (List.range 8).map (fun s => signed 16 (g (F.LNS_SEC_G_GX.ix s)))
    secY := (List.range 8).map (fun s => signed 16 (g (F.LNS_SEC_G_GY.ix s)))
    gridEn := g F.LNS_GRID_CFG_GRID_EN = 1
    nx := g F.LNS_GRID_CFG_NX
    ny := g F.LNS_GRID_CFG_NY
    step := g F.LNS_GRID_CFG_STEP_LOG2
    base := g F.LNS_GRID_BASE_LO_ADDR_LO * 4096 + g F.LNS_GRID_BASE_HI_ADDR_HI * 2 ^ 32
    gmaxX := gmaxOf (g F.LNS_TMAX_TMAX_X) (g F.LNS_PIXEL_PITCH_NM)
    gmaxY := gmaxOf (g F.LNS_TMAX_TMAX_Y) (g F.LNS_PIXEL_PITCH_NM) }

/-- The address of grid node (i, j) (R187). -/
def LensVals.nodeAddr (v : LensVals) (i j : Nat) : Nat := v.base + (j * v.nx + i) * 8

/-- A grid node: DX, DY, DGX, DGY (R187 Table 1). -/
structure GridNode where
  dx : Int
  dy : Int
  dgx : Int
  dgy : Int
  deriving DecidableEq, Repr

/-- Whether a stored byte from `a` up to `a + n` has inverted parity. -/
def Chip.stuckAt (c : Chip) (a n : Nat) : Bool := c.badMem.any (fun b => a ≤ b && b < a + n)

/-- The node at an address, as stored. -/
def Chip.gridNode (m : Memory) (c : Chip) (a : Nat) : GridNode :=
  let w := fun o => signed 16 (c.loadLE m (a + o) 2)
  ⟨w 0, w 2, w 4, w 6⟩

/-- A node as an interpolator uses it: 0 where its parity error repeats (R189). -/
def Chip.gridUse (m : Memory) (c : Chip) (a : Nat) : GridNode :=
  if c.lens.zeroed.contains a || c.stuckAt a 8 then ⟨0, 0, 0, 0⟩ else c.gridNode m a

/-- The interpolation of R187 of four nodes for pixel offsets `fx`, `fy` in a cell of 2^L pixels. -/
def gridMix (l : Nat) (fx fy : Nat) (e00 e10 e01 e11 : Int) : Int :=
  let n : Int := 2 ^ l
  ((n - fx) * (n - fy) * e00 + fx * (n - fy) * e10 + (n - fx) * fy * e01 + (fx : Int) * fy * e11 + 2 ^ (2 * l - 1))
    / 2 ^ (2 * l)

/-- The four corrections for pixel (x, y) (R187); `node` gives the node at an address. -/
def LensVals.grid (v : LensVals) (node : Nat → GridNode) (x y : Nat) : GridNode :=
  if !v.gridEn then ⟨0, 0, 0, 0⟩
  else
    let i := x / 2 ^ v.step
    let fx := x % 2 ^ v.step
    let j := y / 2 ^ v.step
    let fy := y % 2 ^ v.step
    let n00 := node (v.nodeAddr i j)
    let n10 := node (v.nodeAddr (i + 1) j)
    let n01 := node (v.nodeAddr i (j + 1))
    let n11 := node (v.nodeAddr (i + 1) (j + 1))
    let mix := gridMix v.step fx fy
    ⟨mix n00.dx n10.dx n01.dx n11.dx, mix n00.dy n10.dy n01.dy n11.dy,
     mix n00.dgx n10.dgx n01.dgx n11.dgx, mix n00.dgy n10.dgy n01.dgy n11.dgy⟩

/-- What LNS delivers for a ray (R152, R184). -/
structure Direction where
  xs : Int
  ys : Int
  gx : Int
  gy : Int
  phi : Nat
  clampX : Bool
  clampY : Bool
  deriving DecidableEq, Repr

/-- The tilt of a sector, or the folded tilt of its pair (R184, R185). -/
def LensVals.tilt (v : LensVals) (fold : Bool) (s : Nat) : Int × Int :=
  let at_ := fun (l : List Int) (i : Nat) => l.getD i 0
  if fold then
    let j := s / 2
    ((at_ v.secX (2 * j) + at_ v.secX (2 * j + 1)) / 2, (at_ v.secY (2 * j) + at_ v.secY (2 * j + 1)) / 2)
  else (at_ v.secX s, at_ v.secY s)

/-- The spread term of R184 at phase `phi`. -/
def spreadTerm (spread : Int) (phi : Nat) : Int := (spread * ((phi : Int) - 32768) + 32768) / 65536

/-- The direction of subpixel column `c` in row `y` for sector `s` (R184). -/
def LensVals.direction (v : LensVals) (node : Nat → GridNode) (fold : Bool) (c y s : Nat) : Direction :=
  let spos : Int := (2 * c + 1 : Nat) * 32768 + ((2 * y + 1 : Nat) * v.slant + 1) / 2 - v.phase
  let phi := ((spos % v.pitch) * 65536 / v.pitch).toNat
  let e := v.grid node (c / 3) y
  let t := v.tilt fold s
  let gx := spreadTerm v.spreadX phi + 16 * t.1 + 8 * e.dgx
  let gy := spreadTerm v.spreadY phi + 16 * t.2 + 8 * e.dgy
  { xs := (((2 * c + 1) * 128 + 1) / 3 : Nat) + e.dx
    ys := ((2 * y + 1) * 128 : Nat) + e.dy
    gx := clampInt (-v.gmaxX) v.gmaxX gx
    gy := clampInt (-v.gmaxY) v.gmaxY gy
    phi := phi
    clampX := decide (gx < -v.gmaxX) || decide (v.gmaxX < gx)
    clampY := decide (gy < -v.gmaxY) || decide (v.gmaxY < gy) }

/-- The active lens values. -/
def Chip.lensNow (c : Chip) : LensVals := lensVals c.act

/-- The grid nodes that tile (tx, ty) touches (R191), by address. -/
def LensVals.tileNodes (v : LensVals) (tx ty : Nat) : List Nat :=
  if !v.gridEn then []
  else
    let i0 := 16 * tx / 2 ^ v.step
    let i1 := (16 * tx + 15) / 2 ^ v.step + 1
    let j0 := 8 * ty / 2 ^ v.step
    let j1 := (8 * ty + 7) / 2 ^ v.step + 1
    (List.range (j1 + 1 - j0)).flatMap (fun j => (List.range (i1 + 1 - i0)).map (fun i => v.nodeAddr (i0 + i) (j0 + j)))

/-- The bounds that R170 and R196 use of a tile: slopes, and shifts of its rectangle in 1/256 pixel (R191). -/
structure TileBounds where
  gx0 : Int
  gx1 : Int
  gy0 : Int
  gy1 : Int
  dx0 : Int
  dx1 : Int
  dy0 : Int
  dy1 : Int
  deriving DecidableEq, Repr

/-- Least and greatest of a list, 0 where it is empty. -/
def leastOf (l : List Int) : Int := match l with | [] => 0 | a :: t => t.foldl min a
def greatestOf (l : List Int) : Int := match l with | [] => 0 | a :: t => t.foldl max a

/-- The bounds of tile (tx, ty) (R191). `flat` replaces the slopes by 0 (R183). -/
def LensVals.bounds (v : LensVals) (node : Nat → GridNode) (flat fold : Bool) (s tx ty : Nat) : TileBounds :=
  let ns := (v.tileNodes tx ty).map node
  let t := v.tilt fold s
  let sp := fun (spread : Int) => (min (spreadTerm spread 0) (spreadTerm spread 65535),
    max (spreadTerm spread 0) (spreadTerm spread 65535))
  let sx := sp v.spreadX
  let sy := sp v.spreadY
  let cx := clampInt (-v.gmaxX) v.gmaxX
  let cy := clampInt (-v.gmaxY) v.gmaxY
  let z := fun (g : Int) => if flat then 0 else g
  { gx0 := z (cx (sx.1 + 16 * t.1 + 8 * leastOf (ns.map (·.dgx))))
    gx1 := z (cx (sx.2 + 16 * t.1 + 8 * greatestOf (ns.map (·.dgx))))
    gy0 := z (cy (sy.1 + 16 * t.2 + 8 * leastOf (ns.map (·.dgy))))
    gy1 := z (cy (sy.2 + 16 * t.2 + 8 * greatestOf (ns.map (·.dgy))))
    dx0 := leastOf (ns.map (·.dx)), dx1 := greatestOf (ns.map (·.dx))
    dy0 := leastOf (ns.map (·.dy)), dy1 := greatestOf (ns.map (·.dy)) }

/-- The mode at a commit: the target of a transition that this frame boundary takes, else the mode held (R72). -/
def Chip.modeHere (c : Chip) : Mode :=
  match c.modes.next, c.modes.due with
  | some t, true => if t.target = .off || t.target = .standby || t.target = .boot then c.mode else t.target
  | _, _ => c.mode

/-- Flat under a light-field timing mode (R69): one field per frame is synthesised and shown in every sector field. -/
def Chip.flatLf (c : Chip) : Bool := decide (c.modeHere = .flat) && isLightfieldTiming c.modeId

/-- Whether the slopes are replaced by 0: a flat timing mode, ZERO_DIR (R183), or Flat under a light-field timing mode
(R69). -/
def Chip.flatDir (c : Chip) : Bool := !isLightfieldTiming c.modeId || c.on F.RAY_SYN_CTRL_ZERO_DIR || c.flatLf

/-- Whether a tile of these bounds meets viewer zone `z` (R196); zone edges are signed 4.12, slopes 4.16. -/
def Chip.meetsZone (c : Chip) (b : TileBounds) (z : Nat) : Bool :=
  let e := fun (f : Fld) => 16 * signed 16 (c.act (f.ix z))
  bit (c.act F.LNS_ZONE_CTRL_EN) z
    && decide (e F.LNS_ZONE_GX_MIN ≤ e F.LNS_ZONE_GX_MAX) && decide (e F.LNS_ZONE_GY_MIN ≤ e F.LNS_ZONE_GY_MAX)
    && decide (b.gx0 ≤ e F.LNS_ZONE_GX_MAX) && decide (e F.LNS_ZONE_GX_MIN ≤ b.gx1)
    && decide (b.gy0 ≤ e F.LNS_ZONE_GY_MAX) && decide (e F.LNS_ZONE_GY_MIN ≤ b.gy1)


/-- One grid node read by interpolator `cell` with a parity error (R189): clean on the re-read, or zeroed for the rest
of the interval. -/
def Chip.gridParity (c : Chip) (cell addr : Nat) (repeated : Bool) : Chip :=
  let c := (c.sramParity addr 3 repeated).count P.LNS 2 (if repeated then 2 else 1)
  if repeated then
    let c := ((c.event P.LNS .cont (.own 0x10) cell 1 addr).count P.LNS 3).irq P.LNS 7
    { c with lens := { c.lens with zeroed := c.lens.zeroed ++ [addr] } }
  else c.event P.LNS .corr .parity cell 1 addr

/-- The grid reads of a tile's delivery: nodes whose stored parity is inverted repeat their error, those of `retried`
show it once. -/
def Chip.gridReads (c : Chip) (cell : Nat) (nodes retried : List Nat) : Chip :=
  foldOver nodes (fun a c =>
    if c.lens.zeroed.contains a then c
    else if c.stuckAt a 8 then c.gridParity cell a true
    else if retried.contains a then c.gridParity cell a false
    else c) c

/-! ### The checks of R197 -/

/-- The bytes of the grid of these values. -/
def LensVals.gridBytes (v : LensVals) : Nat := v.nx * v.ny * 8

/-- The RAY ranges that others must not overlap, read from a tier: contexts, then the level-2 cache. -/
def rayRanges (g : Fld → Nat) : List (Nat × Nat) :=
  let a := fun (lo hi : Fld) => g lo * 2 ^ lo.lo + g hi * 2 ^ 32
  let ctx := a F.RAY_CTX_BASE_LO_ADDR_LO F.RAY_CTX_BASE_HI_ADDR_HI
  let l2 := a F.RAY_L2_BASE_LO_ADDR_LO F.RAY_L2_BASE_HI_ADDR_HI
  [(ctx, ctx + ctxBytes), (l2, l2 + 134217728)]

/-- The first failing case of R197 Table 3, 0 where the set is accepted. `g` reads the set, `gr` the RAY ranges that
commit, `id` and `t` are the timing mode that commits. -/
def lensReason (g gr : Fld → Nat) (id : Nat) (t : Timing) : Nat :=
  let v := lensVals g
  let lf := isLightfieldTiming id
  let chan := fun ch => g (F.LNS_CHAN_SECTOR_SECTOR.ix (ch / 8)) / 2 ^ (4 * (ch % 8)) % 16
  let chans := (List.range 96).map chan
  if v.pitch < 131072 then 1
  else if v.pitch ≤ v.phase then 2
  else if v.gridEn && (v.nx < 2 || 512 < v.nx || v.ny < 2 || 288 < v.ny || v.step < 4
      || v.nx < (t.width - 1) / 2 ^ v.step + 2 || v.ny < (t.height - 1) / 2 ^ v.step + 2) then 3
  else if v.gridEn && (!rangeIn v.base (v.base + v.gridBytes) sramBase sramEnd
      || (rayRanges gr).any (fun r => rangesMeet v.base (v.base + v.gridBytes) r.1 r.2)) then 4
  else if chans.any (fun e => 8 ≤ e && e < 15) then 5
  else if lf && chans.any (fun e => t.sectors ≤ e && e < 8) then 6
  else if lf && (List.range t.sectors).any (fun s => !chans.contains s) then 7
  else if lf && (g F.LNS_TMAX_TMAX_X = 0 || g F.LNS_TMAX_TMAX_Y = 0) then 8
  else if lf && g F.LNS_PIXEL_PITCH_NM = 0 then 9
  else 0

/-- The offset recorded for a failing case of R197: of a CHAN_SECTOR case, the first word that holds an offending entry. -/
def lensReasonOffset (g : Fld → Nat) (t : Timing) (r : Nat) : Nat :=
  let word := fun (bad : Nat → Bool) =>
    0x150 + 4 * (((List.range 96).find? (fun ch =>
      bad (g (F.LNS_CHAN_SECTOR_SECTOR.ix (ch / 8)) / 2 ^ (4 * (ch % 8)) % 16))).getD 0 / 8)
  if r = 5 then word (fun e => 8 ≤ e && e < 15)
  else if r = 6 then word (fun e => t.sectors ≤ e && e < 8)
  else [0, 0x100, 0x108, 0x140, 0x144, 0x150, 0x150, 0x150, 0x114, 0x118].getD r 0

/-! ### The probe (R199) -/

/-- The subpixel that PROBE_SEL names, where it lies inside the committed geometry: column and row. -/
def Chip.probeAt (c : Chip) : Option (Nat × Nat) :=
  let col := c.get F.LNS_PROBE_SEL_SUBCOL
  let row := c.get F.LNS_PROBE_SEL_ROW
  if c.timing.width * 3 ≤ col || c.timing.height ≤ row then none else some (col, row)

/-- The grid nodes that the probe reads with a parity error, and whether the second read repeats it: those whose stored parity
is bad; where there is none, the first node read, as `f` says. -/
def Chip.probeFaults (c : Chip) (f : ReadFault) : List (Nat × Bool) :=
  let v := c.lensNow
  match c.probeAt with
  | some (col, row) =>
    if !v.gridEn then []
    else
      let i := col / 3 / 2 ^ v.step
      let j := row / 2 ^ v.step
      let nodes := [v.nodeAddr i j, v.nodeAddr (i + 1) j, v.nodeAddr i (j + 1), v.nodeAddr (i + 1) (j + 1)]
      match nodes.filter (fun a => c.stuckAt a 8), f with
      | [], .once => [(v.nodeAddr i j, false)]
      | [], .twice => [(v.nodeAddr i j, true)]
      | l, _ => l.map (fun a => (a, true))
  | none => []

/-- The values the probe registers show; `none` where PROBE_SEL lies outside the committed geometry. Nodes whose error
repeats count as 0 in this result. -/
def Chip.lensProbe (m : Memory) (c : Chip) (f : ReadFault) : Option Direction :=
  c.probeAt.map (fun e =>
    let bad := c.probeFaults f
    let node := fun a => if bad.contains (a, true) then ⟨0, 0, 0, 0⟩ else c.gridNode m a
    c.lensNow.direction node (c.is F.LNS_PROBE_CTRL_FOLD) e.1 e.2 (c.get F.LNS_PROBE_CTRL_SECTOR))

/-- The word a probe register reads as. -/
def Chip.lensProbeWord (m : Memory) (c : Chip) (off : Nat) (f : ReadFault) : Word :=
  match c.lensProbe m f with
  | none => 0
  | some d =>
    if off = 0x208 then BitVec.ofInt 32 d.xs
    else if off = 0x20C then BitVec.ofInt 32 d.ys
    else if off = 0x210 then BitVec.ofInt 32 d.gx
    else if off = 0x214 then BitVec.ofInt 32 d.gy
    else
      let view := c.sectors * (d.phi * c.act F.LNS_LENS_PITCH_N_SP / 65536) + c.get F.LNS_PROBE_CTRL_SECTOR
      BitVec.ofNat 32 (d.phi + view % 256 * 65536 + b2n d.clampX * 2 ^ 24 + b2n d.clampY * 2 ^ 25)

/-- A read of a probe register: the events of its own grid reads (R199). The CORR record carries the node's address too, as the
CONT record does (DEDUCED, log 95). -/
def Chip.lensProbeRead (f : ReadFault) (c : Chip) : Chip :=
  foldOver (c.probeFaults f) (fun (e : Nat × Bool) (c : Chip) =>
    let c := (c.sramParity e.1 3 e.2).count P.LNS 2 (if e.2 then 2 else 1)
    if e.2 then c.event P.LNS .cont (.own 0x10) 0xFFF 1 e.1 else c.event P.LNS .corr .parity 0xFFF 1 e.1) c

end Sys2Proof.Machine
end

