-- ==== Sys2Proof/Machine/LightTables.lean ====
section
/-!
DEFINITION. Machine/LightTables.lean: the fixed tables of R156 that take a colour code to linear light, 1 024 entries of
18 bits for each TRANSFER: entry c is round(262 143 × L(c / 1 023)), ties up. L is the inverse of the SMPTE ST 2084
encoding, the inverse OETF of ITU-R BT.2100 HLG, and x^2.4. The entries were computed from those formulas to 60 digits.
-/

namespace Sys2Proof.Machine

def lightPq_0 : List (List Nat) :=
  [ [0, 0, 0, 0, 0, 0, 0, 0, 0, 0, 0, 0, 0, 0, 0, 0, 0, 0, 0, 0, 0, 0, 0, 0, 0, 0, 0, 0, 0, 0, 0, 1]
  , [1, 1, 1, 1, 1, 1, 1, 1, 1, 1, 1, 1, 1, 1, 1, 1, 1, 1, 1, 2, 2, 2, 2, 2, 2, 2, 2, 2, 2, 2, 2, 3]
  , [3, 3, 3, 3, 3, 3, 3, 3, 4, 4, 4, 4, 4, 4, 4, 4, 5, 5, 5, 5, 5, 5, 5, 6, 6, 6, 6, 6, 6, 7, 7, 7]
  , [7, 7, 8, 8, 8, 8, 8, 9, 9, 9, 9, 10, 10, 10, 10, 11, 11, 11, 11, 12, 12, 12, 12, 13, 13, 13, 14, 14, 14, 15, 15, 15]
  , [16, 16, 16, 17, 17, 17, 18, 18, 19, 19, 19, 20, 20, 21, 21, 21, 22, 22, 23, 23, 24, 24, 25, 25, 26, 26, 27, 27, 28, 28, 29, 29]
  , [30, 30, 31, 31, 32, 33, 33, 34, 34, 35, 36, 36, 37, 38, 38, 39, 40, 40, 41, 42, 42, 43, 44, 45, 45, 46, 47, 48, 49, 49, 50, 51]
  , [52, 53, 54, 55, 55, 56, 57, 58, 59, 60, 61, 62, 63, 64, 65, 66, 67, 68, 69, 70, 71, 73, 74, 75, 76, 77, 78, 80, 81, 82, 83, 84]
  , [86, 87, 88, 90, 91, 92, 94, 95, 97, 98, 99, 101, 102, 104, 105, 107, 108, 110, 111, 113, 115, 116, 118, 120, 121, 123, 125, 127, 128, 130, 132, 134] ]

def lightPq_1 : List (List Nat) :=
  [ [136, 137, 139, 141, 143, 145, 147, 149, 151, 153, 155, 157, 160, 162, 164, 166, 168, 171, 173, 175, 177, 180, 182, 185, 187, 189, 192, 194, 197, 199, 202, 205]
  , [207, 210, 213, 215, 218, 221, 224, 227, 230, 233, 235, 238, 241, 244, 248, 251, 254, 257, 260, 263, 267, 270, 273, 277, 280, 284, 287, 291, 294, 298, 302, 305]
  , [309, 313, 317, 320, 324, 328, 332, 336, 340, 344, 348, 353, 357, 361, 365, 370, 374, 379, 383, 388, 392, 397, 401, 406, 411, 416, 421, 425, 430, 435, 441, 446]
  , [451, 456, 461, 467, 472, 477, 483, 488, 494, 500, 505, 511, 517, 523, 529, 535, 541, 547, 553, 560, 566, 572, 579, 585, 592, 598, 605, 612, 619, 626, 633, 640]
  , [647, 654, 661, 668, 676, 683, 691, 698, 706, 714, 722, 730, 738, 746, 754, 762, 770, 779, 787, 796, 804, 813, 822, 831, 840, 849, 858, 867, 876, 886, 895, 905]
  , [915, 924, 934, 944, 954, 965, 975, 985, 996, 1006, 1017, 1028, 1038, 1049, 1060, 1072, 1083, 1094, 1106, 1117, 1129, 1141, 1153, 1165, 1177, 1189, 1202, 1214, 1227, 1240, 1253, 1266]
  , [1279, 1292, 1305, 1319, 1332, 1346, 1360, 1374, 1388, 1402, 1417, 1431, 1446, 1461, 1476, 1491, 1506, 1521, 1537, 1553, 1568, 1584, 1600, 1617, 1633, 1650, 1666, 1683, 1700, 1717, 1735, 1752]
  , [1770, 1788, 1806, 1824, 1842, 1861, 1879, 1898, 1917, 1936, 1956, 1975, 1995, 2015, 2035, 2055, 2076, 2096, 2117, 2138, 2160, 2181, 2203, 2224, 2246, 2269, 2291, 2314, 2337, 2360, 2383, 2406] ]

def lightPq_2 : List (List Nat) :=
  [ [2430, 2454, 2478, 2502, 2527, 2552, 2577, 2602, 2627, 2653, 2679, 2705, 2732, 2758, 2785, 2812, 2840, 2867, 2895, 2923, 2952, 2980, 3009, 3039, 3068, 3098, 3128, 3158, 3188, 3219, 3250, 3282]
  , [3313, 3345, 3378, 3410, 3443, 3476, 3509, 3543, 3577, 3611, 3646, 3681, 3716, 3752, 3788, 3824, 3860, 3897, 3935, 3972, 4010, 4048, 4087, 4126, 4165, 4205, 4245, 4285, 4326, 4367, 4408, 4450]
  , [4492, 4535, 4577, 4621, 4665, 4709, 4753, 4798, 4843, 4889, 4935, 4982, 5029, 5076, 5124, 5172, 5221, 5270, 5319, 5369, 5420, 5471, 5522, 5574, 5626, 5679, 5732, 5785, 5840, 5894, 5949, 6005]
  , [6061, 6118, 6175, 6232, 6290, 6349, 6408, 6468, 6528, 6589, 6650, 6712, 6775, 6838, 6901, 6965, 7030, 7095, 7161, 7227, 7294, 7362, 7430, 7499, 7568, 7638, 7709, 7780, 7852, 7925, 7998, 8072]
  , [8146, 8222, 8298, 8374, 8451, 8529, 8608, 8687, 8767, 8848, 8929, 9011, 9094, 9178, 9262, 9347, 9433, 9520, 9607, 9695, 9784, 9874, 9965, 10056, 10148, 10241, 10335, 10430, 10525, 10622, 10719, 10817]
  , [10916, 11016, 11116, 11218, 11320, 11424, 11528, 11633, 11739, 11847, 11955, 12064, 12174, 12285, 12397, 12510, 12624, 12739, 12855, 12972, 13090, 13209, 13329, 13450, 13573, 13696, 13821, 13946, 14073, 14201, 14330, 14460]
  , [14591, 14724, 14858, 14992, 15128, 15266, 15404, 15544, 15685, 15827, 15970, 16115, 16261, 16409, 16557, 16707, 16858, 17011, 17165, 17321, 17477, 17635, 17795, 17956, 18118, 18282, 18448, 18614, 18783, 18952, 19124, 19297]
  , [19471, 19647, 19824, 20003, 20184, 20366, 20550, 20736, 20923, 21112, 21302, 21494, 21688, 21884, 22082, 22281, 22482, 22684, 22889, 23095, 23304, 23514, 23726, 23940, 24155, 24373, 24593, 24814, 25038, 25264, 25491, 25721] ]

def lightPq_3 : List (List Nat) :=
  [ [25953, 26186, 26422, 26660, 26900, 27143, 27387, 27634, 27882, 28133, 28387, 28642, 28900, 29160, 29423, 29688, 29955, 30225, 30497, 30771, 31048, 31328, 31609, 31894, 32181, 32471, 32763, 33058, 33355, 33655, 33958, 34264]
  , [34572, 34883, 35197, 35514, 35833, 36156, 36481, 36810, 37141, 37475, 37812, 38153, 38496, 38842, 39192, 39545, 39901, 40260, 40622, 40988, 41357, 41729, 42105, 42484, 42866, 43252, 43641, 44034, 44431, 44831, 45235, 45642]
  , [46053, 46468, 46886, 47309, 47735, 48165, 48599, 49036, 49478, 49924, 50374, 50828, 51286, 51748, 52215, 52685, 53160, 53640, 54123, 54611, 55104, 55601, 56102, 56609, 57119, 57635, 58155, 58680, 59209, 59744, 60283, 60827]
  , [61376, 61931, 62490, 63054, 63624, 64199, 64779, 65364, 65955, 66551, 67152, 67759, 68372, 68990, 69614, 70244, 70880, 71521, 72168, 72821, 73480, 74146, 74817, 75494, 76178, 76868, 77565, 78267, 78977, 79692, 80415, 81144]
  , [81880, 82622, 83372, 84128, 84892, 85662, 86440, 87224, 88016, 88816, 89623, 90437, 91259, 92088, 92925, 93770, 94623, 95483, 96352, 97229, 98113, 99007, 99908, 100818, 101736, 102663, 103598, 104542, 105495, 106457, 107428, 108408]
  , [109397, 110395, 111402, 112419, 113446, 114482, 115528, 116583, 117649, 118724, 119810, 120906, 122012, 123128, 124255, 125393, 126541, 127700, 128869, 130050, 131242, 132446, 133660, 134886, 136124, 137373, 138634, 139907, 141192, 142489, 143798, 145120]
  , [146454, 147801, 149160, 150533, 151918, 153317, 154729, 156154, 157593, 159046, 160512, 161992, 163486, 164995, 166518, 168055, 169607, 171174, 172756, 174353, 175965, 177593, 179236, 180895, 182569, 184260, 185967, 187690, 189430, 191186, 192960, 194750]
  , [196557, 198382, 200225, 202085, 203963, 205859, 207773, 209706, 211657, 213628, 215617, 217625, 219653, 221700, 223768, 225855, 227962, 230090, 232239, 234408, 236598, 238810, 241043, 243297, 245574, 247873, 250194, 252538, 254904, 257294, 259707, 262143] ]

/-- The table of R156 for Pq. -/
def lightPq : List (List Nat) := lightPq_0 ++ lightPq_1 ++ lightPq_2 ++ lightPq_3

def lightHlg_0 : List (List Nat) :=
  [ [0, 0, 0, 1, 1, 2, 3, 4, 5, 7, 8, 10, 12, 14, 16, 19, 21, 24, 27, 30, 33, 37, 40, 44, 48, 52, 56, 61, 65, 70, 75, 80]
  , [85, 91, 97, 102, 108, 114, 121, 127, 134, 140, 147, 154, 162, 169, 177, 184, 192, 200, 209, 217, 226, 235, 243, 253, 262, 271, 281, 291, 301, 311, 321, 331]
  , [342, 353, 364, 375, 386, 398, 409, 421, 433, 445, 457, 470, 482, 495, 508, 521, 534, 548, 561, 575, 589, 603, 618, 632, 647, 661, 676, 691, 707, 722, 738, 754]
  , [769, 786, 802, 818, 835, 852, 869, 886, 903, 921, 938, 956, 974, 992, 1010, 1029, 1047, 1066, 1085, 1104, 1124, 1143, 1163, 1182, 1202, 1222, 1243, 1263, 1284, 1305, 1326, 1347]
  , [1368, 1389, 1411, 1433, 1455, 1477, 1499, 1522, 1544, 1567, 1590, 1613, 1637, 1660, 1684, 1707, 1731, 1756, 1780, 1804, 1829, 1854, 1879, 1904, 1929, 1955, 1980, 2006, 2032, 2058, 2084, 2111]
  , [2137, 2164, 2191, 2218, 2246, 2273, 2301, 2329, 2357, 2385, 2413, 2442, 2470, 2499, 2528, 2557, 2586, 2616, 2645, 2675, 2705, 2735, 2766, 2796, 2827, 2858, 2889, 2920, 2951, 2983, 3014, 3046]
  , [3078, 3110, 3142, 3175, 3208, 3240, 3273, 3307, 3340, 3373, 3407, 3441, 3475, 3509, 3543, 3578, 3612, 3647, 3682, 3717, 3753, 3788, 3824, 3860, 3896, 3932, 3968, 4005, 4041, 4078, 4115, 4152]
  , [4189, 4227, 4265, 4302, 4340, 4379, 4417, 4455, 4494, 4533, 4572, 4611, 4650, 4690, 4730, 4769, 4809, 4850, 4890, 4930, 4971, 5012, 5053, 5094, 5135, 5177, 5219, 5260, 5302, 5344, 5387, 5429] ]

def lightHlg_1 : List (List Nat) :=
  [ [5472, 5515, 5558, 5601, 5644, 5688, 5732, 5775, 5819, 5864, 5908, 5952, 5997, 6042, 6087, 6132, 6177, 6223, 6269, 6314, 6360, 6407, 6453, 6499, 6546, 6593, 6640, 6687, 6734, 6782, 6830, 6877]
  , [6925, 6974, 7022, 7071, 7119, 7168, 7217, 7266, 7316, 7365, 7415, 7465, 7515, 7565, 7615, 7666, 7716, 7767, 7818, 7869, 7921, 7972, 8024, 8076, 8128, 8180, 8232, 8285, 8338, 8390, 8443, 8497]
  , [8550, 8604, 8657, 8711, 8765, 8819, 8874, 8928, 8983, 9038, 9093, 9148, 9203, 9259, 9314, 9370, 9426, 9483, 9539, 9595, 9652, 9709, 9766, 9823, 9881, 9938, 9996, 10054, 10112, 10170, 10228, 10287]
  , [10345, 10404, 10463, 10523, 10582, 10641, 10701, 10761, 10821, 10881, 10942, 11002, 11063, 11124, 11185, 11246, 11307, 11369, 11431, 11492, 11555, 11617, 11679, 11742, 11804, 11867, 11930, 11993, 12057, 12120, 12184, 12248]
  , [12312, 12376, 12441, 12505, 12570, 12635, 12700, 12765, 12830, 12896, 12962, 13027, 13094, 13160, 13226, 13293, 13359, 13426, 13493, 13561, 13628, 13695, 13763, 13831, 13899, 13967, 14036, 14104, 14173, 14242, 14311, 14380]
  , [14449, 14519, 14589, 14659, 14729, 14799, 14869, 14940, 15011, 15081, 15153, 15224, 15295, 15367, 15438, 15510, 15582, 15655, 15727, 15800, 15872, 15945, 16018, 16091, 16165, 16238, 16312, 16386, 16460, 16534, 16609, 16683]
  , [16758, 16833, 16908, 16983, 17059, 17134, 17210, 17286, 17362, 17438, 17514, 17591, 17668, 17745, 17822, 17899, 17976, 18054, 18132, 18210, 18288, 18366, 18444, 18523, 18602, 18680, 18760, 18839, 18918, 18998, 19078, 19157]
  , [19237, 19318, 19398, 19479, 19559, 19640, 19721, 19803, 19884, 19966, 20047, 20129, 20211, 20294, 20376, 20459, 20541, 20624, 20707, 20791, 20874, 20958, 21041, 21125, 21209, 21294, 21378, 21463, 21547, 21632, 21717, 21803] ]

def lightHlg_2 : List (List Nat) :=
  [ [21888, 21974, 22060, 22147, 22234, 22322, 22410, 22499, 22588, 22678, 22768, 22859, 22950, 23042, 23134, 23227, 23320, 23414, 23508, 23603, 23698, 23794, 23890, 23987, 24085, 24182, 24281, 24380, 24479, 24580, 24680, 24781]
  , [24883, 24985, 25088, 25192, 25296, 25400, 25505, 25611, 25717, 25824, 25932, 26040, 26148, 26258, 26368, 26478, 26589, 26701, 26813, 26926, 27039, 27153, 27268, 27384, 27500, 27616, 27733, 27851, 27970, 28089, 28209, 28330]
  , [28451, 28573, 28695, 28818, 28942, 29067, 29192, 29318, 29445, 29572, 29700, 29829, 29958, 30088, 30219, 30350, 30483, 30616, 30749, 30884, 31019, 31155, 31292, 31429, 31567, 31706, 31846, 31986, 32128, 32270, 32412, 32556]
  , [32700, 32845, 32991, 33138, 33286, 33434, 33583, 33733, 33884, 34036, 34188, 34341, 34496, 34651, 34806, 34963, 35121, 35279, 35438, 35598, 35760, 35921, 36084, 36248, 36413, 36578, 36744, 36912, 37080, 37249, 37419, 37590]
  , [37762, 37935, 38109, 38284, 38459, 38636, 38814, 38992, 39172, 39353, 39534, 39717, 39901, 40085, 40271, 40457, 40645, 40834, 41024, 41214, 41406, 41599, 41793, 41988, 42184, 42381, 42579, 42779, 42979, 43180, 43383, 43587]
  , [43792, 43997, 44205, 44413, 44622, 44833, 45044, 45257, 45471, 45686, 45902, 46120, 46339, 46559, 46780, 47002, 47226, 47450, 47676, 47904, 48132, 48362, 48593, 48825, 49059, 49293, 49529, 49767, 50005, 50245, 50487, 50729]
  , [50973, 51219, 51465, 51713, 51963, 52213, 52466, 52719, 52974, 53230, 53488, 53747, 54007, 54269, 54533, 54798, 55064, 55332, 55601, 55871, 56144, 56417, 56692, 56969, 57247, 57527, 57808, 58091, 58375, 58661, 58948, 59237]
  , [59528, 59820, 60114, 60409, 60706, 61005, 61305, 61607, 61911, 62216, 62523, 62832, 63142, 63454, 63768, 64083, 64400, 64719, 65040, 65362, 65686, 66012, 66340, 66670, 67001, 67334, 67669, 68006, 68345, 68685, 69027, 69372] ]

def lightHlg_3 : List (List Nat) :=
  [ [69718, 70066, 70416, 70768, 71122, 71477, 71835, 72195, 72556, 72920, 73285, 73653, 74023, 74394, 74768, 75144, 75521, 75901, 76283, 76667, 77053, 77442, 77832, 78225, 78619, 79016, 79415, 79816, 80220, 80625, 81033, 81443]
  , [81855, 82270, 82687, 83106, 83527, 83951, 84377, 84806, 85236, 85669, 86105, 86543, 86983, 87426, 87871, 88318, 88768, 89221, 89676, 90133, 90593, 91056, 91521, 91988, 92458, 92931, 93406, 93884, 94365, 94848, 95333, 95822]
  , [96313, 96807, 97303, 97803, 98305, 98809, 99317, 99827, 100340, 100856, 101375, 101896, 102421, 102948, 103478, 104011, 104547, 105086, 105628, 106173, 106721, 107272, 107826, 108382, 108942, 109505, 110072, 110641, 111213, 111789, 112367, 112949]
  , [113534, 114122, 114714, 115308, 115906, 116508, 117112, 117720, 118331, 118945, 119563, 120185, 120809, 121437, 122069, 122704, 123342, 123984, 124630, 125279, 125931, 126587, 127247, 127911, 128578, 129248, 129923, 130601, 131282, 131968, 132657, 133350]
  , [134047, 134748, 135452, 136160, 136873, 137589, 138309, 139033, 139761, 140493, 141229, 141969, 142713, 143461, 144213, 144969, 145730, 146495, 147263, 148037, 148814, 149595, 150381, 151171, 151966, 152765, 153568, 154376, 155188, 156004, 156825, 157651]
  , [158481, 159315, 160154, 160998, 161846, 162699, 163557, 164420, 165287, 166158, 167035, 167917, 168803, 169694, 170590, 171491, 172397, 173308, 174223, 175144, 176070, 177001, 177937, 178878, 179825, 180776, 181733, 182695, 183662, 184635, 185613, 186596]
  , [187585, 188579, 189578, 190583, 191594, 192610, 193632, 194659, 195692, 196730, 197774, 198824, 199880, 200941, 202009, 203082, 204161, 205246, 206337, 207434, 208536, 209645, 210760, 211881, 213009, 214142, 215282, 216428, 217580, 218738, 219903, 221074]
  , [222252, 223436, 224627, 225824, 227027, 228238, 229455, 230678, 231909, 233146, 234389, 235640, 236897, 238162, 239433, 240711, 241997, 243289, 244588, 245895, 247209, 248529, 249858, 251193, 252536, 253886, 255243, 256608, 257981, 259360, 260748, 262143] ]

/-- The table of R156 for Hlg. -/
def lightHlg : List (List Nat) := lightHlg_0 ++ lightHlg_1 ++ lightHlg_2 ++ lightHlg_3

def lightGamma24_0 : List (List Nat) :=
  [ [0, 0, 0, 0, 0, 1, 1, 2, 2, 3, 4, 5, 6, 7, 9, 10, 12, 14, 16, 18, 21, 23, 26, 29, 32, 35, 39, 43, 47, 51, 55, 59]
  , [64, 69, 74, 80, 85, 91, 97, 103, 110, 116, 123, 130, 138, 145, 153, 161, 170, 178, 187, 196, 206, 215, 225, 235, 246, 256, 267, 279, 290, 302, 314, 326]
  , [339, 351, 365, 378, 392, 406, 420, 434, 449, 464, 480, 495, 511, 528, 544, 561, 578, 596, 614, 632, 650, 669, 688, 707, 727, 747, 767, 788, 809, 830, 852, 874]
  , [896, 919, 941, 965, 988, 1012, 1036, 1061, 1086, 1111, 1137, 1162, 1189, 1215, 1242, 1269, 1297, 1325, 1353, 1382, 1411, 1440, 1470, 1500, 1531, 1561, 1593, 1624, 1656, 1688, 1721, 1754]
  , [1787, 1821, 1855, 1889, 1924, 1959, 1995, 2031, 2067, 2104, 2141, 2178, 2216, 2254, 2293, 2332, 2371, 2411, 2451, 2491, 2532, 2573, 2615, 2657, 2699, 2742, 2785, 2829, 2873, 2917, 2962, 3007]
  , [3053, 3099, 3145, 3192, 3239, 3287, 3335, 3383, 3432, 3481, 3531, 3581, 3632, 3683, 3734, 3786, 3838, 3890, 3943, 3997, 4050, 4105, 4159, 4214, 4270, 4326, 4382, 4439, 4496, 4553, 4612, 4670]
  , [4729, 4788, 4848, 4908, 4969, 5030, 5091, 5153, 5216, 5278, 5342, 5405, 5470, 5534, 5599, 5665, 5730, 5797, 5864, 5931, 5999, 6067, 6135, 6204, 6274, 6344, 6414, 6485, 6556, 6628, 6700, 6773]
  , [6846, 6920, 6994, 7068, 7143, 7218, 7294, 7371, 7447, 7525, 7602, 7681, 7759, 7838, 7918, 7998, 8079, 8160, 8241, 8323, 8406, 8489, 8572, 8656, 8740, 8825, 8910, 8996, 9082, 9169, 9256, 9344] ]

def lightGamma24_1 : List (List Nat) :=
  [ [9432, 9521, 9610, 9700, 9790, 9880, 9971, 10063, 10155, 10248, 10341, 10434, 10528, 10623, 10718, 10813, 10909, 11006, 11103, 11200, 11298, 11397, 11496, 11595, 11695, 11796, 11897, 11998, 12100, 12203, 12306, 12409]
  , [12513, 12618, 12723, 12829, 12935, 13041, 13148, 13256, 13364, 13473, 13582, 13691, 13802, 13912, 14023, 14135, 14247, 14360, 14473, 14587, 14701, 14816, 14932, 15047, 15164, 15281, 15398, 15516, 15635, 15754, 15873, 15993]
  , [16114, 16235, 16357, 16479, 16601, 16725, 16848, 16973, 17098, 17223, 17349, 17475, 17602, 17730, 17858, 17986, 18116, 18245, 18375, 18506, 18637, 18769, 18902, 19035, 19168, 19302, 19437, 19572, 19707, 19843, 19980, 20117]
  , [20255, 20394, 20533, 20672, 20812, 20953, 21094, 21236, 21378, 21521, 21664, 21808, 21952, 22097, 22243, 22389, 22536, 22683, 22831, 22979, 23128, 23278, 23428, 23578, 23729, 23881, 24034, 24186, 24340, 24494, 24648, 24804]
  , [24959, 25116, 25272, 25430, 25588, 25746, 25905, 26065, 26225, 26386, 26548, 26710, 26872, 27035, 27199, 27364, 27528, 27694, 27860, 28026, 28194, 28361, 28530, 28699, 28868, 29038, 29209, 29380, 29552, 29725, 29898, 30071]
  , [30245, 30420, 30596, 30772, 30948, 31125, 31303, 31481, 31660, 31840, 32020, 32201, 32382, 32564, 32746, 32929, 33113, 33297, 33482, 33668, 33854, 34040, 34227, 34415, 34604, 34793, 34982, 35173, 35364, 35555, 35747, 35940]
  , [36133, 36327, 36521, 36716, 36912, 37108, 37305, 37503, 37701, 37900, 38099, 38299, 38500, 38701, 38902, 39105, 39308, 39512, 39716, 39921, 40126, 40332, 40539, 40746, 40954, 41163, 41372, 41582, 41792, 42003, 42215, 42427]
  , [42640, 42853, 43067, 43282, 43498, 43714, 43930, 44148, 44365, 44584, 44803, 45023, 45243, 45464, 45686, 45908, 46131, 46355, 46579, 46803, 47029, 47255, 47482, 47709, 47937, 48165, 48395, 48625, 48855, 49086, 49318, 49550] ]

def lightGamma24_2 : List (List Nat) :=
  [ [49783, 50017, 50251, 50486, 50722, 50958, 51195, 51433, 51671, 51910, 52149, 52389, 52630, 52871, 53113, 53356, 53599, 53843, 54088, 54333, 54579, 54825, 55073, 55320, 55569, 55818, 56068, 56318, 56569, 56821, 57074, 57327]
  , [57580, 57835, 58090, 58345, 58602, 58859, 59116, 59375, 59634, 59893, 60153, 60414, 60676, 60938, 61201, 61465, 61729, 61994, 62259, 62525, 62792, 63060, 63328, 63597, 63866, 64137, 64407, 64679, 64951, 65224, 65498, 65772]
  , [66047, 66322, 66598, 66875, 67153, 67431, 67710, 67989, 68270, 68551, 68832, 69114, 69397, 69681, 69965, 70250, 70536, 70822, 71109, 71397, 71685, 71974, 72264, 72554, 72845, 73137, 73429, 73722, 74016, 74310, 74606, 74901]
  , [75198, 75495, 75793, 76091, 76391, 76691, 76991, 77292, 77594, 77897, 78200, 78504, 78809, 79115, 79421, 79727, 80035, 80343, 80652, 80962, 81272, 81583, 81894, 82207, 82520, 82833, 83148, 83463, 83779, 84095, 84412, 84730]
  , [85049, 85368, 85688, 86009, 86330, 86652, 86975, 87299, 87623, 87948, 88273, 88599, 88926, 89254, 89583, 89912, 90241, 90572, 90903, 91235, 91568, 91901, 92235, 92570, 92905, 93241, 93578, 93916, 94254, 94593, 94933, 95273]
  , [95614, 95956, 96299, 96642, 96986, 97331, 97676, 98022, 98369, 98717, 99065, 99414, 99763, 100114, 100465, 100817, 101169, 101523, 101877, 102231, 102587, 102943, 103300, 103657, 104016, 104375, 104734, 105095, 105456, 105818, 106181, 106544]
  , [106908, 107273, 107639, 108005, 108372, 108740, 109108, 109477, 109847, 110218, 110589, 110961, 111334, 111708, 112082, 112457, 112833, 113209, 113586, 113964, 114343, 114722, 115102, 115483, 115865, 116247, 116630, 117014, 117399, 117784, 118170, 118557]
  , [118944, 119332, 119721, 120111, 120502, 120893, 121285, 121677, 122071, 122465, 122860, 123255, 123652, 124049, 124447, 124845, 125245, 125645, 126046, 126447, 126850, 127253, 127656, 128061, 128466, 128872, 129279, 129687, 130095, 130504, 130914, 131324] ]

def lightGamma24_3 : List (List Nat) :=
  [ [131736, 132148, 132561, 132974, 133388, 133804, 134219, 134636, 135053, 135471, 135890, 136310, 136730, 137151, 137573, 137996, 138419, 138843, 139268, 139693, 140120, 140547, 140975, 141404, 141833, 142263, 142694, 143126, 143558, 143991, 144425, 144860]
  , [145296, 145732, 146169, 146607, 147045, 147485, 147925, 148366, 148807, 149250, 149693, 150137, 150581, 151027, 151473, 151920, 152368, 152816, 153266, 153716, 154166, 154618, 155070, 155524, 155978, 156432, 156888, 157344, 157801, 158259, 158717, 159177]
  , [159637, 160098, 160559, 161022, 161485, 161949, 162414, 162879, 163345, 163813, 164280, 164749, 165218, 165689, 166160, 166631, 167104, 167577, 168051, 168526, 169002, 169478, 169956, 170434, 170912, 171392, 171872, 172354, 172836, 173318, 173802, 174286]
  , [174771, 175257, 175744, 176231, 176719, 177208, 177698, 178189, 178680, 179172, 179665, 180159, 180654, 181149, 181645, 182142, 182640, 183138, 183637, 184138, 184638, 185140, 185643, 186146, 186650, 187155, 187660, 188167, 188674, 189182, 189691, 190201]
  , [190711, 191222, 191734, 192247, 192761, 193275, 193790, 194307, 194823, 195341, 195859, 196379, 196899, 197420, 197941, 198464, 198987, 199511, 200036, 200561, 201088, 201615, 202143, 202672, 203202, 203732, 204264, 204796, 205329, 205862, 206397, 206932]
  , [207468, 208005, 208543, 209082, 209621, 210161, 210702, 211244, 211787, 212330, 212874, 213420, 213965, 214512, 215060, 215608, 216157, 216707, 217258, 217809, 218362, 218915, 219469, 220024, 220580, 221136, 221693, 222252, 222811, 223370, 223931, 224492]
  , [225055, 225618, 226181, 226746, 227312, 227878, 228445, 229013, 229582, 230151, 230722, 231293, 231865, 232438, 233012, 233587, 234162, 234738, 235315, 235893, 236472, 237051, 237632, 238213, 238795, 239378, 239961, 240546, 241131, 241717, 242304, 242892]
  , [243481, 244070, 244661, 245252, 245844, 246437, 247030, 247625, 248220, 248816, 249413, 250011, 250610, 251209, 251809, 252411, 253013, 253615, 254219, 254824, 255429, 256035, 256642, 257250, 257859, 258468, 259079, 259690, 260302, 260915, 261528, 262143] ]

/-- The table of R156 for Gamma24. -/
def lightGamma24 : List (List Nat) := lightGamma24_0 ++ lightGamma24_1 ++ lightGamma24_2 ++ lightGamma24_3

/-- The linear light of a colour code under a TRANSFER (R156): 18 bits. -/
def linearLight (transfer code : Nat) : Nat :=
  let t := if transfer = 0 then lightPq else if transfer = 1 then lightHlg else lightGamma24
  ((t.getD (code / 32) []).getD (code % 32) 0)

end Sys2Proof.Machine
end

