-- ==== Sys2Proof/Machine/Pcn.lean ====
section
/-!
DEFINITION. Machine/Pcn.lean: panel conditioning (chapter 12): the pre-store half (matrix, tone map, response), the
post-store half (demura, overdrive, dither, packing), the tables behind TBL_ADDR, the overdrive band and the checks at
plan lock.
-/

namespace Sys2Proof.Machine

/-! ### Tables (R276) -/

/-- Entries of a table (R276 Table 4). -/
def pcnTableSize (t : Nat) : Nat :=
  if t < 4 then 209 else if t < 10 then 4096 else if t < 12 then 6936 else 0

/-- The reset value of an entry. -/
def pcnTableReset (k : Nat) : Nat :=
  let t := k / 8192
  let i := k % 8192
  if t < 4 then 4096 else if t < 10 then i / 4 else min (256 * (i % 17)) 4092

/-- The bits an entry holds. -/
def pcnTableMask (t : Nat) : Nat := if t < 4 then 65536 else if t < 10 then 1024 else 4096

/-- Entry `i` of table `t`. -/
def Chip.pcnEntry (c : Chip) (t i : Nat) : Nat := storeGet pcnTableReset c.pcn.table (t * 8192 + i)

/-- A write of TBL_DATA is refused BUSY: its target is the tone-map set in use, the active response bank or the active
overdrive bank (R276). -/
def Chip.pcnTableBusy (c : Chip) (t : Nat) : Bool :=
  if t < 4 then t = c.get F.PCN_COND_STATUS_TM_SET
  else if t < 10 then (t - 4) / 3 = c.act F.PCN_PRE_CTRL_RESP_BANK
  else if t < 12 then t - 10 = c.act F.PCN_OD_CTRL_BANK
  else false

/-- INDEX increments after an access while AUTO_INC is 1. -/
def Chip.pcnIndexStep (c : Chip) : Chip :=
  c.when (c.is F.PCN_TBL_ADDR_AUTO_INC) (fun c => c.incWrap F.PCN_TBL_ADDR_INDEX)

/-- A write of TBL_DATA. -/
def Chip.pcnTableWrite (c : Chip) (data : Nat) : Status × Chip :=
  let t := c.get F.PCN_TBL_ADDR_TABLE
  let i := c.get F.PCN_TBL_ADDR_INDEX
  if pcnTableSize t ≤ i then (.ok, c.pcnIndexStep)
  else if c.pcnTableBusy t then (.busy, c.pcnIndexStep)
  else
    let c := { c with pcn := { c.pcn with
      table := storePut pcnTableReset c.pcn.table (t * 8192 + i) (data % pcnTableMask t) } }
    (.ok, c.pcnIndexStep)

/-- A read of TBL_DATA: the entry, 0 beyond the table, and INDEX moves on. -/
def Chip.pcnTableRead (c : Chip) : Nat × Chip :=
  let t := c.get F.PCN_TBL_ADDR_TABLE
  let i := c.get F.PCN_TBL_ADDR_INDEX
  (if pcnTableSize t ≤ i then 0 else c.pcnEntry t i, c.pcnIndexStep)

/-! ### Pre-store (R261 to R264) -/

/-- A colour triple. -/
structure Rgb where
  r : Nat
  g : Nat
  b : Nat
  deriving DecidableEq, Repr

/-- One channel: 0 red, 1 green, 2 blue. -/
def Rgb.chan (c : Rgb) (i : Nat) : Nat := if i = 0 then c.r else if i = 1 then c.g else c.b

/-- The triple of a function of the channel. -/
def Rgb.of (f : Nat → Nat) : Rgb := ⟨f 0, f 1, f 2⟩

/-- Coefficient M[row][col] of MATRIX[p], signed 3.13 (Table 7). -/
def Chip.matrixCoef (c : Chip) (p row col : Nat) : Int :=
  let k := 3 * row + col
  let key := (if p = 0 then K.PCN_MATRIX0 else K.PCN_MATRIX1) + 4 * (k / 2)
  signed 16 ((c.aw key).toNat / 2 ^ (16 * (k % 2)))

/-- The matrix of R261; `p` is the bound frame's PRIMARIES. -/
def Chip.preMatrix (c : Chip) (p : Nat) (v : Rgb) : Rgb :=
  if !c.on F.PCN_PRE_CTRL_MATRIX_EN then v
  else Rgb.of (fun i =>
    (clampInt 0 262143 ((c.matrixCoef p i 0 * v.r + c.matrixCoef p i 1 * v.g + c.matrixCoef p i 2 * v.b + 4096) / 8192)).toNat)

/-- The key of R262. -/
def Chip.toneKey (c : Chip) (y : Rgb) : Nat :=
  if c.act F.PCN_PRE_CTRL_KEY = 0 then max y.r (max y.g y.b)
  else (c.act F.PCN_LUMA_W_WR * y.r + c.act F.PCN_LUMA_W_WG * y.g + c.act F.PCN_LUMA_W_WB * y.b + 512) / 1024

/-- The node index and fraction of a key (R262). -/
def toneIndex (k : Nat) : Nat × Nat :=
  if k < 64 then (k / 4, k % 4 * 64)
  else
    let s := Nat.log2 k - 5
    (16 * s + k / 2 ^ (s + 1) % 16, k % 2 ^ (s + 1) * 256 / 2 ^ (s + 1))

/-- The gain of tone-map set `set` for key `k` (R262). -/
def Chip.toneGain (c : Chip) (set k : Nat) : Nat :=
  if !c.on F.PCN_PRE_CTRL_TM_EN then 4096
  else
    let p := toneIndex k
    (c.pcnEntry set p.1 * (256 - p.2) + c.pcnEntry set (p.1 + 1) * p.2 + 128) / 256

/-- The floor square root of a number below 2²⁴ (R264). -/
def isqrt (n : Nat) : Nat :=
  [2048, 1024, 512, 256, 128, 64, 32, 16, 8, 4, 2, 1].foldl (fun r b => if (r + b) * (r + b) ≤ n then r + b else r) 0

/-- The response of R264 for channel `ch`. -/
def Chip.response (c : Chip) (ch z : Nat) : Nat :=
  let i := isqrt (64 * z)
  if !c.on F.PCN_PRE_CTRL_RESP_EN then i / 4
  else c.pcnEntry (4 + 3 * c.act F.PCN_PRE_CTRL_RESP_BANK + ch) i

/-- Cell 0: the panel code of channel `ch` for a ray's composite (R261 to R264). -/
def Chip.preStore (c : Chip) (primaries : Nat) (v : Rgb) (ch : Nat) : Nat :=
  let y := c.preMatrix primaries v
  let gain := c.toneGain (c.get F.PCN_COND_STATUS_TM_SET) (c.toneKey y)
  c.response ch (min 262143 ((y.chan ch * gain + 2048) / 4096))

/-- The peak that a frame's SOURCE_PEAK stands for (R98 Table 1, word 3). -/
def peakOf (f : Frame) : Nat := if f.sourcePeak ≠ 0 then f.sourcePeak else if f.transfer = 2 then 100 else 1000

/-- The tone-map set selected at a binding (R263); none bound leaves the selection in force. -/
def Chip.toneSelect (c : Chip) : Chip :=
  match c.ring.use with
  | none => c
  | some sf =>
    let peak := peakOf sf.frame
    let ok := fun t => c.act (F.PCN_TM_TAG_VALID.ix t) = 1 && c.act (F.PCN_TM_TAG_TRANSFER.ix t) = sf.frame.transfer
      && c.act (F.PCN_TM_PEAK_MIN.ix t) ≤ peak && peak ≤ c.act (F.PCN_TM_PEAK_MAX.ix t)
    match [0, 1, 2, 3].find? ok with
    | some t => (c.set F.PCN_COND_STATUS_TM_SET t).set F.PCN_COND_STATUS_TM_MATCHED 1
    | none =>
      let c := (c.set F.PCN_COND_STATUS_TM_SET (c.act F.PCN_TM_CTRL_DEFAULT)).set F.PCN_COND_STATUS_TM_MATCHED 0
      (c.count P.PCN 3).irq P.PCN 7

/-! ### Demura (R265 to R269) -/

/-- The cell edge in pixels. -/
def Chip.demuraEdge (c : Chip) : Nat := if c.on F.PCN_DEMURA_CTRL_GRAN then 2 else 1

/-- DEMURA_SIZE for a geometry (R265). -/
def demuraBytes (edge w h : Nat) : Nat := w / (8 * edge) * (h / (8 * edge)) * 96

/-- The block that holds pixel (x, y), and the cell's index in it. -/
def Chip.demuraCell (c : Chip) (x y : Nat) : Nat × Nat :=
  let e := c.demuraEdge
  let cx := x / e
  let cy := y / e
  (cy / 8 * (c.timing.width / (8 * e)) + cx / 8, 8 * (cy % 8) + cx % 8)

/-- Multiplier and offset that a demura block gives channel `ch` of cell `t` (R266, R267). -/
def demuraDecode (blk ch t : Nat) : Nat × Int :=
  let g0 := 144 * ch
  let wt := epWeight 2 (takeBits blk (g0 + 16 + 2 * t) 2)
  let g := (takeBits blk g0 8 * (64 - wt) + takeBits blk (g0 + 8) 8 * wt + 32) / 64
  let h0 := 432 + 80 * ch
  let h := if takeBits blk (h0 + 16 + t) 1 = 0 then signed 8 (takeBits blk h0 8) else signed 8 (takeBits blk (h0 + 8) 8)
  (896 + g, h)

/-- Whether demura applies in the field being scanned out. -/
def Chip.demuraOn (c : Chip) : Bool :=
  c.on F.PCN_DEMURA_CTRL_EN && c.modeId ≠ 0x0E && c.mode ≠ .safe && !c.pcn.demuraOff

/-- n of R267 for channel `ch` of pixel (x, y) with composed code `u`. -/
def Chip.demura (m : Memory) (c : Chip) (x y ch u : Nat) : Nat :=
  if !c.demuraOn then 4 * u
  else
    let p := c.demuraCell x y
    let base := c.act F.PCN_DEMURA_BASE_ADDR * 4096 + p.1 * 96
    let d := if c.pcn.demuraBad.contains p.1 || c.stuckAt base 96 then (1024, 0)
      else demuraDecode (c.loadLE m base 96) ch p.2
    (clampInt 0 4092 (((u * d.1 + 128) / 256 : Nat) + d.2)).toNat

/-! ### Overdrive (R270 to R273) -/

/-- The OH4 base and the address of the byte that holds bit `12x` of row `y` (R205). -/
def Chip.oh4Base (c : Chip) : Nat := c.addrAct F.FST_OH4_BASE_LO_ADDR_LO F.FST_OH4_BASE_HI_ADDR_HI

/-- The history word of pixel (x, y): red, green and blue in 4 bits each. -/
def Chip.history (m : Memory) (c : Chip) (x y : Nat) : Nat :=
  let row := c.oh4Base + y * (c.timing.width * 3 / 2)
  c.loadLE m (row + 12 * x / 8) 2 / 2 ^ (12 * x % 8) % 4096

/-- The history of pixel (x, y) set. -/
def Chip.setHistory (m : Memory) (c : Chip) (x y v : Nat) : Chip :=
  let row := c.oh4Base + y * (c.timing.width * 3 / 2)
  let a := row + 12 * x / 8
  let sh := 12 * x % 8
  let old := c.loadLE m a 2
  c.storeLE a 2 (old - old / 2 ^ sh % 4096 * 2 ^ sh + v % 4096 * 2 ^ sh)

/-- The drive value that the table gives for history `h4` and new value `n` (R270). -/
def Chip.odTable (c : Chip) (band ch h4 n : Nat) : Nat :=
  let bank := 10 + c.act F.PCN_OD_CTRL_BANK
  let od := fun i j => c.pcnEntry bank (band * 867 + ch * 289 + 17 * i + j)
  let j := n / 256
  let fn := n % 256
  let a := od h4 j * (256 - fn) + od h4 (j + 1) * fn
  let b := od (h4 + 1) j * (256 - fn) + od (h4 + 1) (j + 1) * fn
  min ((a + b + 256) / 512) 4092

/-- d of R270 and R271. -/
def Chip.overdrive (c : Chip) (x y ch h4 n : Nat) : Nat :=
  if !c.on F.PCN_OD_CTRL_EN || c.mode = .safe || c.modeId = 0x0E
      || (c.on F.PCN_OD_CTRL_DEADBAND && h4 = n / 256) || c.pcn.bypass || c.pcn.histBad.contains (x, y) then n
  else c.odTable (c.get F.PCN_COND_STATUS_OD_BAND) ch h4 n

/-- The band of R273 from a temperature in 1/8 °C, moved from band `b` with 1 °C of hysteresis; `first` chooses it
without. `temps` are the boundaries in °C. -/
def bandStep (temps : List Int) (n : Nat) (first : Bool) (temp : Int) (b : Nat) : Nat :=
  let up := fun (b : Nat) => b + 1 < n && decide (8 * temps.getD b 0 ≤ temp)
  let down := fun (b : Nat) => 0 < b && decide (temp < 8 * temps.getD (b - 1) 0 - 8)
  if first then ((List.range (n - 1)).filter (fun i => decide (8 * temps.getD i 0 ≤ temp))).length
  else
    let rec rise (fuel b : Nat) : Nat := match fuel with | 0 => b | k + 1 => if up b then rise k (b + 1) else b
    let rec fall (fuel b : Nat) : Nat := match fuel with | 0 => b | k + 1 => if down b then fall k (b - 1) else b
    if up b then rise 8 b else fall 8 b

/-- The overdrive temperatures T1 to T7 that `g` reads, signed °C. -/
def odTemps (g : Fld → Nat) : List Int :=
  [F.PCN_OD_TEMP0_T1, F.PCN_OD_TEMP0_T2, F.PCN_OD_TEMP0_T3, F.PCN_OD_TEMP0_T4,
   F.PCN_OD_TEMP1_T5, F.PCN_OD_TEMP1_T6, F.PCN_OD_TEMP1_T7].map (fun f => signed 8 (g f))

/-- The panel temperature in 1/8 °C and whether it is valid (R543). -/
def Chip.panelTemp (c : Chip) : Int × Bool :=
  (signed 16 (c.get F.PWR_PANEL_TEMP_TEMP), c.is F.PWR_PANEL_TEMP_VALID)

/-- A temperature in 1/8 °C rounded to the nearest °C (R543). -/
def roundDegrees (t : Int) : Int := (t + 4) / 8

/-- OD_BAND_SELECT at plan lock (R273): the band that will commit. -/
def Chip.odBandSelect (c : Chip) : Chip :=
  let n := c.lck F.PCN_OD_CTRL_BANDS_M1 + 1
  let t := c.panelTemp
  let b := if !t.2 then min (c.lck F.PCN_OD_CTRL_FALLBACK) (n - 1)
    else bandStep (odTemps c.lck) n c.pcn.firstBand t.1 (min (c.get F.PCN_COND_STATUS_OD_BAND) (n - 1))
  let c := (c.setZ F.PCN_COND_STATUS_PANEL_TEMP (roundDegrees t.1)).setB F.PCN_COND_STATUS_TEMP_VALID t.2
  { c with pcn := { c.pcn with bandNext := b } }

/-- The chosen band commits. -/
def Chip.odBandCommit (c : Chip) : Chip :=
  let was := c.get F.PCN_COND_STATUS_OD_BAND
  let c := c.set F.PCN_COND_STATUS_OD_BAND c.pcn.bandNext
  let c := { c with pcn := { c.pcn with firstBand := false } }
  c.when (was ≠ c.pcn.bandNext) (fun c => (c.count P.PCN 4).irq P.PCN 8)

/-! ### Dither and packing (R274, R275) -/

/-- The dither threshold m of R274. -/
def ditherThreshold (q x y ch : Nat) : Nat :=
  let o := [(0, 0), (4, 4), (4, 0), (0, 4)].getD q (0, 0)
  let cc := [(0, 0), (3, 5), (5, 3)].getD ch (0, 0)
  let xx := (x + o.1 + cc.1) % 8
  let yy := (y + o.2 + cc.2) % 8
  let a := xx ^^^ yy
  32 * (a % 2) + 16 * (yy % 2) + 8 * (a / 2 % 2) + 4 * (yy / 2 % 2) + 2 * (a / 4 % 2) + yy / 4 % 2

/-- Cell 3's output code for drive value `d` (R274). The Safe picture dithers with the reset settings (R70). -/
def Chip.dither (c : Chip) (sector x y ch d : Nat) : Nat :=
  let b := if c.on F.PCN_PACK_CTRL_DEPTH then 4 else 2
  let safe := decide (c.modeId = 0x0E)
  let mode := if safe then 2 else c.act F.PCN_DITHER_CTRL_MODE
  let sa := if safe then 1 else c.act F.PCN_DITHER_CTRL_SECTOR_AWARE
  let q := if mode = 2 then (c.tick.frame + sa * sector) % 4 else 0
  let th := if mode = 0 then 2 ^ (b - 1) else ditherThreshold q x y ch / 2 ^ (6 - b)
  min ((d + th) / 2 ^ b) (2 ^ (12 - b) - 1)

/-- The payload of a data lane: one code per subpixel column, in the order REVERSE sets, packed least-significant bit
first (R275). -/
def Chip.packLane (c : Chip) (codes : List Nat) : List Byte :=
  let w := if c.on F.PCN_PACK_CTRL_DEPTH then 8 else 10
  let l := if c.on F.PCN_PACK_CTRL_REVERSE then codes.reverse else codes
  leBytes (ceilDiv (w * l.length) 8) (l.foldr (fun v n => v % 2 ^ w + n * 2 ^ w) 0)

/-! ### The checks of R282 -/

/-- The first failing case of R282 Table 6. -/
def Chip.pcnReason (c : Chip) (id : Nat) (t : Timing) : Nat :=
  let g := c.lck
  let n := g F.PCN_OD_CTRL_BANDS_M1 + 1
  let temps := (odTemps g).take (n - 1)
  let ascending := (List.range (temps.length - 1)).all (fun i => decide (temps.getD i 0 < temps.getD (i + 1) 0))
  let edge := if g F.PCN_DEMURA_CTRL_GRAN = 1 then 2 else 1
  let size := if id = 0x0E then 0 else demuraBytes edge t.width t.height
  if 2 ≤ g F.PCN_PRE_CTRL_KEY then 1
  else if (List.range 4).any (fun s => g (F.PCN_TM_TAG_VALID.ix s) = 1
      && (g (F.PCN_TM_TAG_TRANSFER.ix s) = 3 || g (F.PCN_TM_PEAK_MAX.ix s) < g (F.PCN_TM_PEAK_MIN.ix s))) then 2
  else if g F.PCN_DEMURA_CTRL_EN = 1 && edge = 1 && is16K id then 3
  else if g F.PCN_DEMURA_CTRL_EN = 1 && c.dramLimit < g F.PCN_DEMURA_BASE_ADDR * 4096 + size then 4
  else if !ascending then 5
  else if g F.PCN_DITHER_CTRL_MODE = 3 then 6
  else 0

/-- The offset recorded for a failing case of R282. -/
def pcnReasonOffset (r : Nat) : Nat := [0, 0x100, 0x160, 0x190, 0x194, 0x1A4, 0x1B0].getD r 0

end Sys2Proof.Machine
end

