-- ==== Sys2Proof/Machine/Ray.lean ====
section
/-!
DEFINITION. Machine/Ray.lean: ray synthesis (chapter 7): the ray's arithmetic, tile order, dispatch, occupancy, tile
contexts, the deadline and parity handling; and the field store's buffers and swap (chapter 9).
-/

namespace Sys2Proof.Machine

/-! ### The ray (R152 to R161) -/

/-- A texel as the sampler reads it (R156, R157): premultiplied colour, 12-bit alpha and the depth offset. -/
structure Sample where
  q : Rgb
  a12 : Nat
  d : Int
  deriving DecidableEq, Repr

/-- A texel outside the layer. -/
def noTexel : Sample := ⟨⟨0, 0, 0⟩, 0, 0⟩

/-- The scale function s of R157. -/
def alphaScale (a : Nat) : Nat := a + a / 2048

/-- A decoded texel's channel codes as a sample (R156, R157). -/
def texelSample (transfer : Nat) (t : List Nat) : Sample :=
  let a8 := t.getD 3 0
  let a12 := 16 * a8 + a8 / 16
  let q := fun i => (linearLight transfer (t.getD i 0) * alphaScale a12 + 2048) / 4096
  ⟨⟨q 0, q 1, q 2⟩, a12, if t.length = 5 then (t.getD 4 512 : Int) - 512 else 0⟩

/-- The displacement at depth `z` for slope `g`, clamped to 1 024 pixels, and whether it was clamped (R153, R154). -/
def displace (z g : Int) : Int × Bool :=
  let d := (z * g + 8388608) / 16777216
  (clampInt (-262144) 262144 d, decide (d < -262144) || decide (262144 < d))

/-- A texel coordinate (R155). -/
def texelCoord (x off : Int) (scale : Nat) : Int := ((x - off) * scale + 8192) / 16384

/-- What a ray needs of the frame: its layers, its TRANSFER, and the texel at a layer's column and row. -/
structure SceneView where
  layers : List Layer
  transfer : Nat
  texel : Nat → Nat → Nat → List Nat

/-- The texel (i, j) of layer `k` as a sample; nothing outside the layer's rectangle (R157). -/
def SceneView.at_ (v : SceneView) (k : Nat) (d : Layer) (i j : Int) : Sample :=
  if 0 ≤ i ∧ i < d.width ∧ 0 ≤ j ∧ j < d.height then texelSample v.transfer (v.texel k i.toNat j.toNat) else noTexel

/-- The four texels and weights of a bilinear sample at (u, v) (R158). -/
def bilinear (f : Int → Int → Sample) (u v : Int) : List (Int × Sample) :=
  let u' := u - 128
  let v' := v - 128
  let i := u' / 256
  let fu := u' % 256
  let j := v' / 256
  let fv := v' % 256
  [((256 - fu) * (256 - fv), f i j), (fu * (256 - fv), f (i + 1) j), ((256 - fu) * fv, f i (j + 1)), (fu * fv, f (i + 1) (j + 1))]

/-- The texels that a sample at (u, v) reads (R158). -/
def samplePoints (nearest : Bool) (u v : Int) : List (Int × Int) :=
  if nearest then [(u / 256, v / 256)]
  else
    let i := (u - 128) / 256
    let j := (v - 128) / 256
    [(i, j), (i + 1, j), (i, j + 1), (i + 1, j + 1)]

/-- The blocks (layer, column, row) that hold those of the texels that lie in layer `k`'s rectangle. -/
def sampleBlocks (k : Nat) (d : Layer) (l : List (Int × Int)) : List (Nat × Nat × Nat) :=
  (l.filter (fun e => decide (0 ≤ e.1 ∧ e.1 < (d.width : Int) ∧ 0 ≤ e.2 ∧ e.2 < (d.height : Int)))).map
    (fun e => (k, e.1.toNat / 8, e.2.toNat / 8))

/-- A colour and alpha sample (R158). -/
def sampleColour (f : Int → Int → Sample) (nearest : Bool) (u v : Int) : Rgb × Nat :=
  let ws := if nearest then [(65536, f (u / 256) (v / 256))] else bilinear f u v
  let mix := fun (g : Sample → Nat) => (((ws.map (fun e => e.1 * (g e.2 : Int))).sum + 32768) / 65536).toNat
  (Rgb.of (fun i => mix (fun s => s.q.chan i)), mix (·.a12))

/-- A depth sample with 8 fraction bits (R158, R159). -/
def sampleDepth (f : Int → Int → Sample) (nearest : Bool) (u v : Int) : Int :=
  if nearest then 256 * (f (u / 256) (v / 256)).d
  else ((bilinear f u v).map (fun e => e.1 * e.2.d)).sum + 128 |> (· / 256)

/-- Where a ray is as it goes from layer to layer: light, cover, samples taken, whether a displacement was clamped, whether it
has ended and did so early (R160, R161), and the texel blocks it has read. -/
structure RayState where
  col : Rgb := ⟨0, 0, 0⟩
  a : Nat := 0
  n : Nat := 0
  clamped : Bool := false
  early : Bool := false
  ended : Bool := false
  blocks : List (Nat × Nat × Nat) := []
  deriving DecidableEq, Repr

/-- One layer of the ray (R159, R160). -/
def rayLayer (v : SceneView) (nearEn : Bool) (nearZ : Int) (et count occ : Nat) (xs ys gx gy : Int)
    (k : Nat) (r : RayState) : RayState :=
  match v.layers[k]? with
  | none => r
  | some d =>
    if r.ended || !bit occ k then r
    else
      let near := nearEn && decide (nearZ ≤ d.z)
      let f := v.at_ k d
      let point := fun (z : Int) =>
        let dx := displace z gx
        let dy := displace z gy
        (texelCoord (xs + dx.1) d.offX d.scaleX, texelCoord (ys + dy.1) d.offY d.scaleY, dx.2 || dy.2)
      let p0 := point d.z
      let dep := sampleDepth f near p0.1 p0.2.1
      let z := if d.lt48 then d.z + (dep * d.relief + 8) / 16 else d.z
      let p := if d.lt48 then point z else p0
      let s := sampleColour f near p.1 p.2.1
      let w := 4096 - alphaScale r.a
      let col := Rgb.of (fun i => min 262143 (r.col.chan i + (w * s.1.chan i + 2048) / 4096))
      let a := min 4095 (r.a + (w * s.2 + 2048) / 4096)
      { col := col, a := a, n := r.n + (if d.lt48 then 2 else 1)
        clamped := r.clamped || (d.lt48 && p0.2.2) || p.2.2
        ended := decide (et ≤ a), early := decide (et ≤ a) && decide (k + 1 < count)
        blocks := r.blocks ++ sampleBlocks k d
          ((if d.lt48 then samplePoints near p0.1 p0.2.1 else []) ++ samplePoints near p.1 p.2.1) }

/-- One ray through the frame's layers in index order (R159 to R161). -/
def traceRay (v : SceneView) (nearEn : Bool) (nearZ : Int) (et occ : Nat) (xs ys gx gy : Int) : RayState :=
  foldOver (List.range v.layers.length) (rayLayer v nearEn nearZ et v.layers.length occ xs ys gx gy) {}

/-! ### The bound scene as the engine sees it -/

/-- Texel `t` of a block of the bound frame as a tile of cluster `cl` samples it: 0 throughout in a group that R111 made
transparent; else from level 1, from level 2, or as CDC decodes the block. `tileFinish` has had CDC check every group that its
tile reads and no cache holds, before it samples. -/
def Chip.texelAt (m : Memory) (c : Chip) (sf : SlotFrame) (groups : List GroupAt) (cl k bx bty t : Nat) : List Nat :=
  match sf.frame.layers[k]?, groupHolding groups k bx bty with
  | some d, some (i, g) =>
    if c.ray.transparent.contains (k, i) then emptyTexel d.fmt
    else match c.ray.l1.find? (fun l => decide (l.tag = ⟨cl, k, bx, bty⟩)), c.ray.lines.find? (·.holds k bx bty) with
      | some l, _ => lineTexel d.fmt l.data t
      | none, some l => imageTexel d.fmt (c.loads m (c.l2Addr l + 8 * t) 8)
      | none, none =>
        decodeTexel d.fmt d.ratio (c.loadLE m (c.slotAddr sf.slot + g.start + (bx - g.col0) * d.blockBytes) d.blockBytes) t
  | _, _ => []

/-- The scene that synthesis reads for a tile of cluster `cl`: the bound frame, or the empty scene of R108. -/
def Chip.sceneView (m : Memory) (c : Chip) (cl : Nat) : SceneView :=
  match c.ring.use with
  | none => ⟨[], 0, fun _ _ _ => []⟩
  | some sf =>
    let groups := groupsOf sf.frame (c.loads m (c.slotAddr sf.slot) sf.frame.frameBytes)
    ⟨sf.frame.layers, sf.frame.transfer, fun k i j => c.texelAt m sf groups cl k (i / 8) (j / 8) (8 * (j % 8) + i % 8)⟩

/-! ### Tile contexts (R168, R169) -/

/-- The active base of the tile contexts. -/
def Chip.ctxBase (c : Chip) : Nat := c.addrAct F.RAY_CTX_BASE_LO_ADDR_LO F.RAY_CTX_BASE_HI_ADDR_HI

/-- The context of a tile, 64 bits. -/
def Chip.tileCtx (m : Memory) (c : Chip) (t : Nat) : Nat := c.loadLE m (c.ctxBase + 8 * t) 8

/-- The context of a tile set. -/
def Chip.setCtx (c : Chip) (t v : Nat) : Chip := c.storeLE (c.ctxBase + 8 * t) 8 v

/-- The fill path's change of a context: PROXY and SIG kept, CARRIED set, FINISHED and FLAT_WIN clear. -/
def ctxCarried (v : Nat) : Nat := withBit (withBit (withBit v 46 false) 47 true) 48 false

/-- A tile's context as its dispatch leaves it (R167, R168, R177): the fields that tell of its last synthesis are those of the one
that starts, CLASS and OCC among them; CTX_BAD is set where the context was read with a parity error, and stays until a
synthesis finishes. PROXY, SIG, FINISHED, CARRIED, FLAT_WIN and STALE stay (DEDUCED, log 95). -/
def ctxDispatched (v mask cls : Nat) (bad half : Bool) : Nat :=
  let keep := v % 2 ^ 30 + v / 2 ^ 46 % 8 * 2 ^ 46 + v / 2 ^ 52 % 2 * 2 ^ 52 + v / 2 ^ 58 % 64 * 2 ^ 58
  keep + mask % 65536 * 2 ^ 30 + b2n half * 2 ^ 51 + b2n (bad || bit v 53) * 2 ^ 53 + cls % 16 * 2 ^ 54

/-- A flat-window tile's context: FLAT_WIN set, FINISHED and CARRIED clear. -/
def ctxFlat (v : Nat) : Nat := withBit (withBit (withBit v 46 false) 47 false) 48 true

/-- Every tile context initialised (R169): on Ray power-up and at a commit that changes CTX_BASE. -/
def Chip.contextInit (c : Chip) : Chip := c.fillMem (.contexts c.ctxBase)

/-! ### The field buffer being written (R204, R210, R211) -/

/-- The WRITE buffer: 0 or 1. -/
def Chip.writeBuf (c : Chip) : Nat := 1 - c.get F.FST_FBUF_STATUS_READ

/-- Base and coding ratio (1 3:1, 2 2:1) of the WRITE buffer, and of the READ buffer. -/
def Chip.writeBase (c : Chip) : Nat := if c.writeBuf = 0 then c.fst.base0 else c.fst.base1
def Chip.readBase (c : Chip) : Nat := if c.writeBuf = 0 then c.fst.base1 else c.fst.base0
def Chip.writeRatio (c : Chip) : Nat := 1 + (if c.writeBuf = 0 then c.fst.ratio0 else c.fst.ratio1)
def Chip.readRatio (c : Chip) : Nat := 1 + (if c.writeBuf = 0 then c.fst.ratio1 else c.fst.ratio0)

/-- PX30 block bytes at a coding ratio. -/
def px30Bytes (ratio : Nat) : Nat := (Fmt.px30.blockBytes ratio).getD 0

/-- Where block (bx, by) of the WRITE buffer lies (R129, R204). -/
def Chip.writeBlockAddr (c : Chip) (bx bty : Nat) : Nat :=
  c.writeBase + (bty * (c.timing.width / 8) + bx) * px30Bytes c.writeRatio

/-- A tile written as two FLAT blocks of one code triple (R135). -/
def Chip.fillTile (c : Chip) (t code : Nat) : Chip :=
  let tx := t % c.tileCols
  let ty := t / c.tileCols
  let blk := flatBlock .px30 (px30Bytes c.writeRatio) [code % 1024, code / 1024 % 1024, code / 1048576 % 1024]
  (c.stores (c.writeBlockAddr (2 * tx) ty) blk).stores (c.writeBlockAddr (2 * tx + 1) ty) blk

/-- A tile written by the fill path from its PROXY, or code 0 where CTX_BAD is set (R172). -/
def Chip.proxyTile (m : Memory) (c : Chip) (t : Nat) : Chip :=
  let v := c.tileCtx m t
  (c.fillTile t (if bit v 53 then 0 else v % 2 ^ 30)).setCtx t (ctxCarried v)

/-- The size of one field buffer (R204) for a geometry and ratio bit, and of the OH4 plane (R205). -/
def fbufBytes (t : Timing) (ratio : Nat) : Nat := t.width / 8 * (t.height / 8) * px30Bytes (1 + ratio)
def oh4Bytes (t : Timing) : Nat := t.width * t.height * 3 / 2

/-- The field-buffer swap in the commit cycle (R210, R211): `skip` where the roles stay. The buffer that becomes WRITE
takes the committed base and ratio. -/
def Chip.bufferSwap (c : Chip) (skip : Bool) : Chip :=
  if skip then (c.set F.FST_FBUF_STATUS_SWAP_SKIPPED 1).count P.FST 1
  else
    let c := (c.set F.FST_FBUF_STATUS_SWAP_SKIPPED 0).count P.FST 0
    let c := c.set F.FST_FBUF_STATUS_READ (1 - c.get F.FST_FBUF_STATUS_READ)
    let ratio := c.act F.CDC_FIELD_CTRL_RATIO
    if c.writeBuf = 0 then
      { c with fst := { c.fst with base0 := c.addrAct F.FST_FBUF_BASE0_LO_ADDR_LO F.FST_FBUF_BASE0_HI_ADDR_HI, ratio0 := ratio } }
    else
      { c with fst := { c.fst with base1 := c.addrAct F.FST_FBUF_BASE1_LO_ADDR_LO F.FST_FBUF_BASE1_HI_ADDR_HI, ratio1 := ratio } }

/-- FBUF_SIZE and OH4_SIZE for the committed timing mode (R204, R205); 0 while no light-field or flat raster runs. -/
def Chip.fstSizes (c : Chip) : Chip :=
  if !c.blockOn 7 then c
  else
    let id := c.act F.SCN_TIMING_MODE
    let t := (c.timingOf id).getD c.timing
    let on := c.raster && decide (1 ≤ c.modeId ∧ c.modeId ≤ 13) && decide (1 ≤ id ∧ id ≤ 13)
    (c.set F.FST_FBUF_SIZE_BYTES (if on then fbufBytes t (c.act F.CDC_FIELD_CTRL_RATIO) else 0)).set
      F.FST_OH4_SIZE_BYTES (if on then oh4Bytes t else 0)

/-- FST's checks at plan lock (R214): the first offending offset. `id` and `t` are the mode that commits. -/
def Chip.fstBad (c : Chip) (id : Nat) (t : Timing) : Option Nat :=
  if id = 0 || 13 < id then none
  else
    let g := c.lck
    let a := fun (lo hi : Fld) => g lo * 2 ^ lo.lo + g hi * 2 ^ 32
    let size := fbufBytes t (g F.CDC_FIELD_CTRL_RATIO)
    let b0 := a F.FST_FBUF_BASE0_LO_ADDR_LO F.FST_FBUF_BASE0_HI_ADDR_HI
    let b1 := a F.FST_FBUF_BASE1_LO_ADDR_LO F.FST_FBUF_BASE1_HI_ADDR_HI
    let oh := a F.FST_OH4_BASE_LO_ADDR_LO F.FST_OH4_BASE_HI_ADDR_HI
    let rs := [(b0, b0 + size, 0x100), (b1, b1 + size, 0x108), (oh, oh + oh4Bytes t, 0x110)]
    let v := lensVals g
    let others := rayRanges g ++ (if v.gridEn then [(v.base, v.base + v.gridBytes)] else [])
    match rs.find? (fun r => !rangeIn r.1 r.2.1 sramBase sramEnd) with
    | some r => some r.2.2
    | none =>
      if rangesMeet b0 (b0 + size) b1 (b1 + size) then some 0x108
      else if rangesMeet b0 (b0 + size) oh (oh + oh4Bytes t) || rangesMeet b1 (b1 + size) oh (oh + oh4Bytes t) then some 0x110
      else (rs.find? (fun r => others.any (fun o => rangesMeet r.1 r.2.1 o.1 o.2))).map (fun r => r.2.2)

/-! ### Flat windows as synthesis sees them (R173, R256) -/

/-- Window slot `w`'s committed rectangle. -/
def Chip.fwRect (c : Chip) (w : Nat) : Rect :=
  ⟨c.act (F.BLT_FW_TL_X0.ix w), c.act (F.BLT_FW_TL_Y0.ix w), c.act (F.BLT_FW_BR_X1.ix w), c.act (F.BLT_FW_BR_Y1.ix w)⟩

/-- The rectangles in force on the synthesis side, and on the scan-out side. -/
def Chip.synWindows (c : Chip) : List Rect :=
  ((List.range 16).filter (fun w => bit (c.get F.BLT_FW_INFORCE_SYN) w)).map c.fwRect
def Chip.outWindows (c : Chip) : List Rect :=
  ((List.range 16).filter (fun w => bit (c.get F.BLT_FW_INFORCE_OUT) w)).map c.fwRect

/-- Tile `t`'s rectangle in modulator pixels. -/
def Chip.tileRect (c : Chip) (t : Nat) : Rect :=
  let tx := t % c.tileCols
  let ty := t / c.tileCols
  ⟨16 * tx, 8 * ty, 16 * tx + 16, 8 * ty + 8⟩

/-- Tile `t` lies wholly inside a flat window in force. -/
def Chip.inFlatWindow (c : Chip) (t : Nat) : Bool := c.synWindows.any (fun r => (c.tileRect t).inside r)

/-- The tiles wholly inside the windows in force, each once. -/
def Chip.flatTiles (c : Chip) : List Nat :=
  (c.synWindows.flatMap (fun r =>
    let x0 := ceilDiv r.x0 16
    let y0 := ceilDiv r.y0 8
    (List.range (r.y1 / 8 - y0)).flatMap (fun j => (List.range (r.x1 / 16 - x0)).map (fun i => (y0 + j) * c.tileCols + x0 + i)))).eraseDups

/-! ### Occupancy (R170, R171) -/

/-- The class of a segment: 0 UNKNOWN, 1 EMPTY, 2 SPARSE, 3 DENSE. -/
def Chip.segClass (c : Chip) (k row seg : Nat) : Nat :=
  match c.ray.segs.find? (fun e => e.1 = (k, row, seg)) with
  | some e => e.2
  | none => 0

/-- The occupancy bit of layer `k` for a tile of these bounds (R170). -/
def Chip.layerOccupied (c : Chip) (d : Layer) (k : Nat) (b : TileBounds) (tx ty : Nat) : Bool :=
  let z0 := if d.lt48 then d.z - 512 * d.relief * 16 else d.z
  let z1 := if d.lt48 then d.z + 511 * d.relief * 16 else d.z
  let ds := fun (g0 g1 : Int) => [(displace z0 g0).1, (displace z0 g1).1, (displace z1 g0).1, (displace z1 g1).1]
  let dx := ds b.gx0 b.gx1
  let dy := ds b.gy0 b.gy1
  let x0 : Int := (16 * tx * 256 : Nat) + b.dx0 + leastOf dx
  let x1 : Int := ((16 * tx + 16) * 256 : Nat) - 1 + b.dx1 + greatestOf dx
  let y0 : Int := (8 * ty * 256 : Nat) + b.dy0 + leastOf dy
  let y1 : Int := ((8 * ty + 8) * 256 : Nat) - 1 + b.dy1 + greatestOf dy
  let i0 := texelCoord x0 d.offX d.scaleX / 256 - 1
  let i1 := texelCoord x1 d.offX d.scaleX / 256 + 1
  let j0 := texelCoord y0 d.offY d.scaleY / 256 - 1
  let j1 := texelCoord y1 d.offY d.scaleY / 256 + 1
  if i1 < 0 || (d.width : Int) ≤ i0 || j1 < 0 || (d.height : Int) ≤ j0 then false
  else
    let ci := fun (i : Int) => (clampInt 0 (d.width - 1) i).toNat / 512
    let cj := fun (j : Int) => (clampInt 0 (d.height - 1) j).toNat / 8
    let sparse := c.on F.RAY_SYN_CTRL_SPARSE_SKIP
    (List.range (cj j1 + 1 - cj j0)).any (fun r => (List.range (ci i1 + 1 - ci i0)).any (fun s =>
      let cls := c.segClass k (cj j0 + r) (ci i0 + s)
      cls ≠ 1 && !(sparse && cls = 2)))

/-- The occupancy mask of a tile for the sector under synthesis (R170). -/
def Chip.occMask (c : Chip) (layers : List Layer) (b : TileBounds) (tx ty : Nat) : Nat :=
  ((List.range layers.length).map (fun k =>
    match layers[k]? with
    | some d => if !c.on F.RAY_SYN_CTRL_SKIP_EN || c.layerOccupied d k b tx ty then 2 ^ k else 0
    | none => 0)).sum

/-! ### Tile order and dispatch (R148, R166, R167) -/

/-- The deadline class of a tile (R167). -/
def Chip.tileClass (c : Chip) (t : Nat) : Nat :=
  if c.act F.RAY_SYN_CTRL_ORDER = 0 then 0
  else
    let tx := t % c.tileCols
    let ty := t / c.tileCols
    let gx := tx / (c.tileCols / 16)
    let gy := ty / (c.tileRows / 9)
    c.act (F.RAY_CLASS_GRID_CLASS.ix (2 * gy + gx / 8)) / 2 ^ (4 * (gx % 8)) % 16

/-- The first tile of class `cls` from `t` on that is not in a flat window. -/
def Chip.tileFrom (c : Chip) (cls : Nat) : Nat → Nat → Option Nat
  | 0, _ => none
  | fuel + 1, t =>
    if c.tileCount ≤ t then none
    else if c.tileClass t = cls && !c.inFlatWindow t then some t
    else c.tileFrom cls fuel (t + 1)

/-- The next tile in schedule order from class `cls`, tile `t`: its class and number. -/
def Chip.nextFrom (c : Chip) : Nat → Nat → Nat → Option (Nat × Nat)
  | 0, _, _ => none
  | fuel + 1, cls, t =>
    match c.tileFrom cls c.tileCount t with
    | some t' => some (cls, t')
    | none => c.nextFrom fuel (cls + 1) 0

/-- A tile joins a list in schedule order (R166). -/
def Chip.scheduled (c : Chip) (t : Nat) : List Nat → List Nat
  | [] => [t]
  | u :: l =>
    if c.tileClass t < c.tileClass u || decide (c.tileClass t = c.tileClass u ∧ t ≤ u) then t :: u :: l
    else u :: c.scheduled t l

/-- The next tile to dispatch: one of a lost cluster first, as it comes earlier in the order. -/
def Chip.nextTile (c : Chip) : Option (Nat × Nat) :=
  match c.ray.redo with
  | t :: _ => some (c.tileClass t, t)
  | [] => c.nextFrom (16 - c.ray.nextCls) c.ray.nextCls c.ray.nextTile

/-- Sectors are synthesised in folded pairs: FOLD under an 8-sector mode (R174, R185). -/
def Chip.folded (c : Chip) : Bool := c.on F.RAY_SYN_CTRL_FOLD && decide (c.sectors = 8)

/-- Whether a cluster may take tiles: enabled, not out of service, and with a free slot (R147, R178). -/
def Chip.clusterFree (c : Chip) (k : Nat) : Bool :=
  bit (c.act F.RAY_CLUSTER_EN_EN) k && !bit (c.get F.RAY_CLUSTER_OUT_OUT) k
    && (c.ray.slots.filter (fun s => s.cluster = k)).length < 4

/-- Bounds of a tile for the sector under synthesis. -/
def Chip.tileBoundsNow (m : Memory) (c : Chip) (t : Nat) : TileBounds :=
  c.lensNow.bounds (c.gridUse m) c.flatDir c.folded c.ray.sector (t % c.tileCols) (t / c.tileCols)

/-- TILE_DISPATCH (R148, R170, R177, R196): `ctxParity` says whether the context read met a parity error, `gridRetry`
names the grid nodes whose first read did and whose re-read was clean. A tile that a lost cluster gives back counts once in
ZONE_TILES and LAYERS_SKIPPED. -/
def Chip.tileDispatch (m : Memory) (c : Chip) (ctxParity : Bool) (gridRetry : List Nat) : Chip :=
  match c.nextTile, (List.range 32).find? c.clusterFree with
  | some (cls, t), some k =>
    if !c.ray.running then c
    else
      let tx := t % c.tileCols
      let ty := t / c.tileCols
      let first := c.ray.redo.isEmpty
      let c := c.gridReads k (c.lensNow.tileNodes tx ty) gridRetry
      let c := c.count P.LNS 4
      let b := c.tileBoundsNow m t
      let layers := (c.ring.use.map (·.frame.layers)).getD []
      let bad := ctxParity || c.stuckAt (c.ctxBase + 8 * t) 8
      let all := 2 ^ layers.length - 1
      let mask := if bad then all else c.occMask layers b tx ty
      let c := if bad then (c.sramParity (c.ctxBase + 8 * t) 3 false).event P.RAY .corr .parity 0xFFF 3 t
        else c.when first (fun c => c.count P.RAY 5 (layers.length - popCount mask layers.length))
      let c := c.setCtx t (ctxDispatched (c.tileCtx m t) mask cls bad (c.on F.RAY_SYN_CTRL_HALF_V))
      let zones := (List.range 8).map (fun z => c.lens.zones.getD z 0 + b2n (first && c.meetsZone b z))
      let ray := c.ray
      let ray := if ray.redo.isEmpty then { ray with nextCls := cls, nextTile := t + 1 } else { ray with redo := ray.redo.drop 1 }
      { c with
        lens := { c.lens with zones := zones }
        ray := { ray with slots := ray.slots ++ [⟨k, t, mask, cls, bad, false⟩] } }
  | _, _ => c

/-! ### Texel caches (R149, R150) -/

/-- The set of a block in a cluster's level-1 cache. -/
def l1Set (l : L1Tag) : Nat := Config.cacheSet 1 l.layer l.bx l.bty % 128

/-- Drop the least recently used entry (the first) of the entries that `p` names, where they number more than `ways`. -/
def evict {α : Type} (p : α → Bool) (ways : Nat) (l : List α) : List α :=
  if ways < (l.filter p).length then l.eraseP p else l

/-- A line enters a cluster's level-1 cache. -/
def Chip.l1Fill (c : Chip) (l : L1Line) : Chip :=
  let lines := c.ray.l1.filter (fun x => decide (x.tag ≠ l.tag)) ++ [l]
  { c with ray := { c.ray with l1 := evict (fun x => decide (x.tag.cluster = l.tag.cluster ∧ l1Set x.tag = l1Set l.tag)) 16 lines } }

/-- A cluster reads a block from level 2, where level 2 holds it: the line is the most recently used then. -/
def Chip.l2Read (m : Memory) (c : Chip) (l : L1Tag) : Option Chip :=
  match c.ray.lines.find? (·.holds l.layer l.bx l.bty) with
  | some line =>
    let c := { c with ray := { c.ray with lines := putLast c.ray.lines line } }
    some (c.l1Fill ⟨l, c.loads m (c.l2Addr line) 512⟩)
  | none => none

/-- TEXEL_CACHE_MISS (R150): a cluster reads a block: a level-1 hit makes its line the most recently used; a level-1 miss reads
level 2; a level-2 miss asks CDC for the block. -/
def Chip.texelMiss (m : Memory) (c : Chip) (l : L1Tag) : Chip :=
  if c.ring.use.isNone then c
  else match c.ray.l1.find? (fun x => decide (x.tag = l)) with
    | some line => { c with ray := { c.ray with l1 := putLast c.ray.l1 line } }
    | none =>
      let c := c.count P.RAY 8
      match c.l2Read m l with
      | some c => c
      | none =>
        let c := c.count P.RAY 9
        { c with ray := { c.ray with asked := putLast c.ray.asked l } }

/-- A group that CDC released reaches the clusters that wait for blocks of it. -/
def Chip.serveAsked (m : Memory) (c : Chip) : Chip :=
  foldOver c.ray.asked (fun l c =>
    match c.l2Read m l with
    | some c => { c with ray := { c.ray with asked := c.ray.asked.filter (· ≠ l) } }
    | none => c) c

/-- Both caches are emptied: a new scene frame binds (R150). -/
def Chip.dropCaches (c : Chip) : Chip :=
  { c with ray := { c.ray with lines := [], l1 := [], asked := [], transparent := [], segs := [] } }

/-! ### Finishing a tile (R162, R163, R169) -/

/-- The rays of a tile: for each of the 8 rows and 16 pixels, the direction and the ray of each subpixel. -/
def Chip.tileRay (m : Memory) (c : Chip) (v : SceneView) (s : TileSlot) (x y ch : Nat) : Direction × RayState :=
  let tx := s.tile % c.tileCols
  let ty := s.tile / c.tileCols
  let d := c.lensNow.direction (c.gridUse m) c.folded (3 * (16 * tx + x) + ch) (8 * ty + y) c.ray.sector
  let gx := if c.flatDir then 0 else d.gx
  let gy := if c.flatDir then 0 else d.gy
  (d, traceRay v (c.on F.RAY_SYN_CTRL_NEAREST_EN) (signed 32 (c.act F.RAY_NEAREST_Z_Z)) (c.act F.RAY_SYN_CTRL_ET_THRESH)
    s.mask d.xs d.ys gx gy)

/-- The rows of a tile whose rays are computed (R163). -/
def Chip.rayRows (c : Chip) : List Nat := if c.on F.RAY_SYN_CTRL_HALF_V then [0, 2, 4, 6] else List.range 8

/-- A subpixel's linear light from the computed rows (R163): `f` gives a computed row's. -/
def rowLight (half : Bool) (f : Nat → Rgb) (y : Nat) : Rgb :=
  if !half || y % 2 = 0 then f y
  else if y = 7 then f 6
  else Rgb.of (fun i => ((f (y - 1)).chan i + (f (y + 1)).chan i + 1) / 2)

/-- The subpixel positions of a tile's computed rays. -/
def Chip.rayPoints (c : Chip) : List (Nat × Nat × Nat) :=
  c.rayRows.flatMap (fun y => (List.range 16).flatMap (fun x => (List.range 3).map (fun ch => (x, y, ch))))

/-- The 128 pixel codes of a tile in raster order, red, green and blue (R162). -/
def Chip.tileCodes (m : Memory) (c : Chip) (s : TileSlot) : List (List Nat) :=
  let v := c.sceneView m s.cluster
  let half := c.on F.RAY_SYN_CTRL_HALF_V
  let prim := (c.ring.use.map (·.frame.primaries)).getD 0
  (List.range 8).flatMap (fun y => (List.range 16).map (fun x => (List.range 3).map (fun ch =>
    c.preStore prim (rowLight half (fun y => (c.tileRay m v s x y ch).2.col) y) ch)))

/-- The two 8 × 8 halves of a tile's pixels. -/
def tileHalf (codes : List (List Nat)) (right : Bool) : List (List Nat) :=
  (List.range 64).map (fun t => codes.getD (16 * (t / 8) + t % 8 + (if right then 8 else 0)) [])

/-- The context a finished tile is rewritten with (R168, R169). -/
def finishedCtx (codes : List (List Nat)) (s : TileSlot) (clamped half : Bool) : Nat :=
  let mean := fun ch => ((codes.map (fun p => p.getD ch 0)).sum + 64) / 128 % 1024
  let sig := crc32c (codes.flatMap (texelImage .px30)) % 64
  mean 0 + mean 1 * 2 ^ 10 + mean 2 * 2 ^ 20 + s.mask % 65536 * 2 ^ 30 + 2 ^ 46
    + b2n s.parity * 2 ^ 49 + b2n clamped * 2 ^ 50 + b2n half * 2 ^ 51 + s.cls * 2 ^ 54 + sig * 2 ^ 58

/-- Tiles left in this interval (FIELD_STATUS), and the end of its synthesis (R181). -/
def Chip.tilesDone (c : Chip) : Chip :=
  let left := c.tileCount - c.ray.finished.length
  let c := c.set F.RAY_FIELD_STATUS_TILES_LEFT left
  if left = 0 && c.ray.running && !c.is F.RAY_FIELD_STATUS_SYNTH_DONE then
    (c.set F.RAY_FIELD_STATUS_SYNTH_DONE 1).irq P.RAY 6
  else c

/-! ### Parity (R175 to R178) -/

/-- A cluster goes out of service (R178): its tiles in flight are dispatched again. -/
def Chip.clusterFault (c : Chip) (k : Nat) : Chip :=
  let out := withBit (c.get F.RAY_CLUSTER_OUT_OUT) k true
  let mine := (c.ray.slots.filter (fun s => s.cluster = k)).map (·.tile)
  let c := (c.set F.RAY_CLUSTER_OUT_OUT out).statusBit P.RAY 2 true
  let c := { c with ray := { c.ray with
    slots := c.ray.slots.filter (fun s => s.cluster ≠ k), redo := foldOver mine c.scheduled c.ray.redo } }
  -- An immediate trigger of R456 for the Keeper.
  let c := { c with kpr := { c.kpr with trigger := some 5 } }
  let c := c.irq P.RAY 8
  let left := (List.range 32).any (fun k => bit (c.act F.RAY_CLUSTER_EN_EN) k && !bit out k)
  if left then c.event P.RAY .cont (.own 0x10) (k * 16)
  else c.event P.RAY .fatal .noReplan (k * 16)

/-- TILE_PARITY_RESTART (R175, R176, R213): a texel line read by a tile in flight met a parity error. `level` is the cache that
held it, `line` the block. The first time the tile restarts in its slot; the second time it is filled from PROXY. -/
def Chip.tileParity (m : Memory) (c : Chip) (cluster tile level : Nat) (line : L1Tag) : Chip :=
  match c.ray.slots.find? (fun s => s.cluster = cluster && s.tile = tile) with
  | none => c
  | some s =>
    let held := c.ray.lines.find? (·.holds line.layer line.bx line.bty)
    -- The level-2 line lies in SRAM: the field store counts the error as one of master 3.
    let c := match level, held with
      | 2, some l => c.sramParity (c.l2Addr l) 3 false
      | _, _ => c
    let c := { c with ray := { c.ray with
      l1 := c.ray.l1.filter (fun x => decide (x.tag ≠ line))
      lines := if level = 2 then c.ray.lines.filter (fun x => !x.holds line.layer line.bx line.bty) else c.ray.lines } }
    let c := (c.set F.RAY_PARITY_TILE_TILE tile).setB F.RAY_PARITY_TILE_FILLED s.parity
    let c := c.setCtx tile (withBit (c.tileCtx m tile) 49 true)
    if !s.parity then
      let c := c.count P.RAY 6
      { c with ray := { c.ray with slots := c.ray.slots.map (fun x => if x = s then { x with parity := true } else x) } }
    else
      let c := (c.proxyTile m tile).count P.RAY 7
      let c := c.event P.RAY .cont .retryFail (cluster * 16) 3 tile
      let c := { c with ray := { c.ray with
        slots := c.ray.slots.filter (· ≠ s), finished := c.ray.finished ++ [tile]
        parityFills := c.ray.parityFills ++ [cluster] } }
      let c := c.when (1 < (c.ray.parityFills.filter (· = cluster)).length
        && !bit (c.get F.RAY_CLUSTER_OUT_OUT) cluster) (fun c => c.clusterFault cluster)
      c.tilesDone

/-! ### Finishing a tile: the texels it reads, and its codes (R150, R162, R175) -/

/-- A block that the tile in flight reads: from level 1 or level 2, else CDC decodes its group, here with no passing read error,
on any of the pipes that serve RAY. A level-2 line whose stored parity is bad is the parity hit of R175. -/
def Chip.fetchBlock (m : Memory) (cluster tile : Nat) (b : Nat × Nat × Nat) (c : Chip) : Chip :=
  let tag : L1Tag := ⟨cluster, b.1, b.2.1, b.2.2⟩
  let inL1 := c.ray.l1.any (fun x => decide (x.tag = tag))
  let c := match c.ray.lines.find? (·.holds b.1 b.2.1 b.2.2) with
    | some l => c.when (!inL1 && c.stuckAt (c.l2Addr l) 512) (fun c => c.tileParity m cluster tile 2 tag)
    | none => c
  let c := c.texelMiss m tag
  match c.ray.asked.contains tag, c.ring.use with
  | true, some sf =>
    match groupHolding (groupsOf sf.frame (c.loads m (c.slotAddr sf.slot) sf.frame.frameBytes)) b.1 b.2.1 b.2.2 with
    | some (i, _) => ((c.drew.groupDecode m b.1 i c.freeNat false false)).serveAsked m
    | none => c
  | _, _ => c

/-- The blocks that the rays of a tile in flight read, as the caches stand. -/
def Chip.tileBlocks (m : Memory) (c : Chip) (s : TileSlot) : List (Nat × Nat × Nat) :=
  let v := c.sceneView m s.cluster
  (c.rayPoints.flatMap (fun p => (c.tileRay m v s p.1 p.2.1 p.2.2).2.blocks)).eraseDups

/-- Every block that the tile reads is fetched, `done` those fetched so far. A group that proves transparent can lead rays to
further blocks, so the tile is traced again until nothing is new: at most twice for each layer. -/
def Chip.tileFetch (m : Memory) (cluster tile : Nat) : Nat → List (Nat × Nat × Nat) → Chip → Chip
  | 0, _, c => c
  | n + 1, done, c =>
    match c.ray.slots.find? (fun s => s.cluster = cluster && s.tile = tile) with
    | none => c
    | some s =>
      let new := (c.tileBlocks m s).filter (fun b => !done.contains b)
      if new.isEmpty then c
      else Chip.tileFetch m cluster tile n (done ++ new) (foldOver new (Chip.fetchBlock m cluster tile) c)

/-- The tile in flight on a cluster is finished: its codes are encoded into the WRITE buffer and its context rewritten. -/
def Chip.tileEnd (m : Memory) (c : Chip) (cluster tile : Nat) : Chip :=
  match c.ray.slots.find? (fun s => s.cluster = cluster && s.tile = tile) with
  | none => c
  | some s =>
    let v := c.sceneView m cluster
    let rays := c.rayPoints.map (fun p => c.tileRay m v s p.1 p.2.1 p.2.2)
    let codes := c.tileCodes m s
    let half := c.on F.RAY_SYN_CTRL_HALF_V
    let clamped := rays.any (fun r => r.2.clamped)
    let n := fun (p : Direction × RayState → Bool) => (rays.filter p).length
    let ratio := c.writeRatio
    let tx := tile % c.tileCols
    let ty := tile / c.tileCols
    let c := (c.stores (c.writeBlockAddr (2 * tx) ty) (encodeBlock .px30 ratio (tileHalf codes false))).stores
      (c.writeBlockAddr (2 * tx + 1) ty) (encodeBlock .px30 ratio (tileHalf codes true))
    let c := (c.count P.CDC 1 2).count P.RAY 0
    let c := ((c.count P.RAY 3 (n (fun r => r.2.clamped))).count P.RAY 4 (n (fun r => r.2.early)))
    let c := (c.count P.LNS 0 (n (fun r => r.1.clampX))).count P.LNS 1 (n (fun r => r.1.clampY))
    let c := c.when s.parity (fun c => c.event P.RAY .corr .parity (cluster * 16) 3 tile)
    let c := c.setCtx tile (finishedCtx codes s clamped half)
    -- CLAMP rises once in each interval that clamps (R181, R199).
    let dirClamped := rays.any (fun r => r.1.clampX || r.1.clampY)
    let c := c.when (clamped && !c.ray.clamped) (fun c => c.irq P.RAY 9)
    let c := c.when (dirClamped && !c.lens.clamped) (fun c => c.irq P.LNS 6)
    let c := { c with
      lens := { c.lens with clamped := c.lens.clamped || dirClamped }
      ray := { c.ray with
        slots := c.ray.slots.filter (· ≠ s), finished := c.ray.finished ++ [tile]
        clamped := c.ray.clamped || clamped } }
    c.tilesDone

/-- TILE_FINISH of the tile in flight on a cluster: what it reads has come, then its codes are there. -/
def Chip.tileFinish (m : Memory) (c : Chip) (cluster tile : Nat) : Chip :=
  (Chip.tileFetch m cluster tile 33 [] c).tileEnd m cluster tile

/-- Clusters whose return was asked for are in service from this commit on. -/
def Chip.clusterReturnCommit (c : Chip) : Chip :=
  let out := c.get F.RAY_CLUSTER_OUT_OUT
  let out' := out - (out &&& c.ray.returning)
  let fills := c.ray.parityFills.filter (fun k => !bit c.ray.returning k)
  let c := { c with ray := { c.ray with returning := 0, parityFills := fills } }
  (c.set F.RAY_CLUSTER_OUT_OUT out').statusBit P.RAY 2 (out' ≠ 0)

/-! ### The interval (R27, R28, R172, R173, R174) -/

/-- The unfinished tiles of the field under synthesis. -/
def Chip.lateTiles (c : Chip) : List Nat :=
  (List.range c.tileCount).filter (fun t => !c.ray.finished.contains t)

/-- The synthesis deadline: every unfinished tile is written from its PROXY and counted late (R27, R28, R172); an interval that
synthesised nothing has no late tiles. -/
def Chip.synthesisDeadline (m : Memory) (c : Chip) : Chip :=
  if !c.ray.running then c.when (c.blockOn 5) (fun c => c.set F.RAY_LATE_LAST_TILES 0)
  else
    -- A tile that restarted after a parity hit and has not finished: its cell-level action has failed (R44, R42; the code,
    -- which the rules leave to the block, is that of R176: DEDUCED, log 95).
    let c := foldOver (c.ray.slots.filter (·.parity)) (fun (s : TileSlot) (c : Chip) =>
      c.event P.RAY .cont .retryFail (s.cluster * 16) 3 s.tile) c
    let late := if c.is F.RAY_FIELD_STATUS_SYNTH_DONE then [] else c.lateTiles
    let c := foldOver late (fun t c => c.proxyTile m t) c
    let c := (c.set F.RAY_LATE_LAST_TILES late.length).count P.RAY 1 late.length
    let c := { c with ray := { c.ray with running := false, slots := [], redo := [], asked := [] } }
    if late.isEmpty then c
    else
      let c := c.irq P.RAY 7
      (c.set ⟨P.RAY + 0x30, 31, 1, 4⟩ 1).irq P.RAY 4

/-- The start of an interval's synthesis of sector `s`: windows in force filled (R173), or nothing synthesised under
FOLD (R174) or in Flat outside the interval before the frame (R69), or every field filled with code 0 (R198). -/
def Chip.synthesisStart (m : Memory) (c : Chip) (s : Nat) : Chip :=
  let flat := c.flatTiles
  let idle := c.folded && decide (s % 2 = 1)
  let run := decide (c.modeId ≠ 0x0E) && decide (c.modeId ≠ 0) && !idle && !(c.flatLf && decide (s ≠ 0))
  let c := (c.setB F.RAY_FIELD_STATUS_FOLDED_IDLE idle).set F.RAY_FIELD_STATUS_SECTOR s
  let c := (c.set F.RAY_FIELD_STATUS_SYNTH_DONE 0).set F.RAY_FIELD_STATUS_TILES_LEFT (if run then c.tileCount - flat.length else 0)
  let c := { c with
    lens := { c.lens with zeroed := [], clamped := false, zones := [0, 0, 0, 0, 0, 0, 0, 0] }
    ray := { c.ray with
      running := run && !c.lens.rejectFill, sector := s, slots := [], redo := [], asked := [], clamped := false
      nextCls := 0, nextTile := 0, finished := if run then flat else [] } }
  if !run then c
  else if c.lens.rejectFill then
    (c.fillMem (.zero c.writeBase (c.writeBase + fbufBytes c.timing (c.writeRatio - 1)))).fillMem
      (.carried c.ctxBase c.tileCount)
  else
    let code := c.act F.RAY_FLATWIN_FILL_CODE
    let c := foldOver flat (fun t c => (c.fillTile t code).setCtx t (ctxFlat (c.tileCtx m t))) c
    let c := c.count P.RAY 2 flat.length
    c.when flat.isEmpty.not Chip.tilesDone

/-- ZONE_TILES latched at the commit with the sector of the interval that ended (R196). -/
def Chip.zoneLatch (c : Chip) : Chip :=
  foldOver (List.range 8) (fun z c =>
    (c.set (F.LNS_ZONE_TILES_TILES.ix z) (c.lens.zones.getD z 0)).set (F.LNS_ZONE_TILES_SECTOR.ix z) c.ray.sector) c

/-! ### The checks of R180 -/

/-- RAY's checks at plan lock: the first offending offset. -/
def Chip.rayBad (c : Chip) (id : Nat) : Option Nat :=
  let g := c.lck
  match rayRanges g with
  | [ctx, l2] =>
    if 2 ≤ g F.RAY_SYN_CTRL_ORDER then some 0x100
    else if g F.RAY_SYN_CTRL_ET_THRESH < 2048 then some 0x100
    else if g F.RAY_SYN_CTRL_FOLD = 1 && !(id = 4 || id = 5 || id = 6) then some 0x100
    else if !rangeIn ctx.1 ctx.2 sramBase sramEnd then some 0x10C
    else if !rangeIn l2.1 l2.2 sramBase sramEnd then some 0x114
    else if rangesMeet ctx.1 ctx.2 l2.1 l2.2 then some 0x10C
    else none
  | _ => none

end Sys2Proof.Machine
end

