-- ==== Sys2Proof/Machine/Scanout.lean ====
section
/-!
DEFINITION. Machine/Scanout.lean: scan-out (chapter 10): the checks of R220, the composition of a line from plane 0 and
the overlay planes, the fetch skips, the conditioning of a line after the store, underrun, and the Daymark detector.
-/

namespace Sys2Proof.Machine

/-! ### Planes (R221 to R226) -/

/-- Overlay plane `n` (1 to 4) enabled in the committed plan; under the Safe picture plane 1 alone is composed (R70). -/
def Chip.planeOn (c : Chip) (n : Nat) : Bool :=
  1 ≤ n && n ≤ 4 && c.act (F.SCN_PLANE_CTRL_EN.ix (n - 1)) = 1 && (c.modeId ≠ 0x0E || n = 1)

/-- A raw format of R224 Table 3. -/
def rawFmt (fmt : Nat) : Bool := fmt = 0 || fmt = 3 || fmt = 4

/-- The coded format and ratio of a format value. -/
def codedFmt (fmt : Nat) : Option (Fmt × Nat) :=
  match fmt with
  | 1 => some (.ov32, 0)
  | 2 => some (.ov32, 2)
  | 5 => some (.px30, 1)
  | 6 => some (.px30, 2)
  | _ => none

/-- A field of plane `n` in the tier that `g` reads. -/
def planeFld (g : Fld → Nat) (f : Fld) (n : Nat) : Nat := g (f.ix (n - 1))

/-- The screen rectangle of plane `n`. -/
def planeRect (g : Fld → Nat) (n : Nat) : Rect :=
  let p := fun f => planeFld g f n
  ⟨p F.SCN_PLANE_DST_DX, p F.SCN_PLANE_DST_DY, p F.SCN_PLANE_DST_DX + p F.SCN_PLANE_SIZE_W,
    p F.SCN_PLANE_DST_DY + p F.SCN_PLANE_SIZE_H⟩

/-- The opaque rectangle of plane `n`. -/
def opaqueRect (g : Fld → Nat) (n : Nat) : Rect :=
  let p := fun f => planeFld g f n
  ⟨p F.SCN_OPAQUE_TL_X0, p F.SCN_OPAQUE_TL_Y0, p F.SCN_OPAQUE_BR_X1, p F.SCN_OPAQUE_BR_Y1⟩

/-- The bytes of a plane's surface from its base: whole rows, or whole block rows (R223). -/
def planeBytes (g : Fld → Nat) (n : Nat) : Nat :=
  let p := fun f => planeFld g f n
  let rows := p F.SCN_PLANE_SRC_SY + p F.SCN_PLANE_SIZE_H
  p F.SCN_PLANE_PITCH_BYTES * (if rawFmt (p F.SCN_PLANE_CTRL_FMT) then rows else ceilDiv rows 8)

/-- The offset in its registers, counted from PLANE_CTRL, of the first one with which plane `n` breaks R223. -/
def planeOffends (g : Fld → Nat) (t : Timing) (n : Nat) : Option Nat :=
  let p := fun f => planeFld g f n
  let w := p F.SCN_PLANE_SIZE_W
  let h := p F.SCN_PLANE_SIZE_H
  let sx := p F.SCN_PLANE_SRC_SX
  let pitch := p F.SCN_PLANE_PITCH_BYTES
  let fmt := p F.SCN_PLANE_CTRL_FMT
  let row := match codedFmt fmt with
    | some (f, r) => (sx + w) / 8 * (f.blockBytes r).getD 0
    | none => (sx + w) * 4
  if pitch = 0 || pitch % 64 ≠ 0 || pitch < row then some 0x08
  else if !rawFmt fmt && (sx % 8 ≠ 0 || p F.SCN_PLANE_SRC_SY % 8 ≠ 0) then some 0x0C
  else if t.width < p F.SCN_PLANE_DST_DX + w || t.height < p F.SCN_PLANE_DST_DY + h then some 0x10
  else if w = 0 || h = 0 || (!rawFmt fmt && (w % 8 ≠ 0 || h % 8 ≠ 0)) then some 0x14
  else none

/-- The offset, counted from PLANE_CTRL, of the opaque corner of plane `n` that leaves the plane's rectangle or empties the
opaque one (R226). -/
def opaqueOffends (g : Fld → Nat) (n : Nat) : Option Nat :=
  let o := opaqueRect g n
  let r := planeRect g n
  if o.x0 < r.x0 || o.y0 < r.y0 || r.x1 ≤ o.x0 || r.y1 ≤ o.y0 then some 0x18
  else if o.empty || !o.inside r then some 0x1C
  else none

/-! ### The checks at plan lock (R220) -/

/-- The areas that R214 protects, from a tier: field buffers, the OH4 plane, the RAY ranges and the lens grid. -/
def protectedAreas (g : Fld → Nat) (t : Timing) : List (Nat × Nat) :=
  let a := fun (lo hi : Fld) => g lo * 2 ^ lo.lo + g hi * 2 ^ 32
  let size := fbufBytes t (g F.CDC_FIELD_CTRL_RATIO)
  let b0 := a F.FST_FBUF_BASE0_LO_ADDR_LO F.FST_FBUF_BASE0_HI_ADDR_HI
  let b1 := a F.FST_FBUF_BASE1_LO_ADDR_LO F.FST_FBUF_BASE1_HI_ADDR_HI
  let oh := a F.FST_OH4_BASE_LO_ADDR_LO F.FST_OH4_BASE_HI_ADDR_HI
  let v := lensVals g
  [(b0, b0 + size), (b1, b1 + size), (oh, oh + oh4Bytes t)] ++ rayRanges g
    ++ (if v.gridEn then [(v.base, v.base + v.gridBytes)] else [])

/-- SCN.NATIVE keeps R218. -/
def nativeOk (isC8 : Bool) (w h : Nat) : Bool :=
  w % 16 = 0 && 640 ≤ w && w ≤ (if isC8 then 7680 else 15360) && h % 8 = 0 && 480 ≤ h && h ≤ (if isC8 then 4320 else 8640)

/-- The first failing case of R220 Table 2 and the offset recorded for it; 0 where the set is accepted. -/
def Chip.scnReason (c : Chip) (id : Nat) (t : Timing) : Nat × Nat :=
  let g := c.lck
  let en := (List.range 4).filterMap (fun i => if g (F.SCN_PLANE_CTRL_EN.ix i) = 1 then some (i + 1) else none)
  let off := fun (n o : Nat) => 0x140 + 0x20 * (n - 1) + o
  let lfBase := g F.SCN_BASE_LF_ADDR * 4096
  let lfEnd := lfBase + t.width / 8 * (t.height / 8) * px30Bytes (1 + g F.SCN_BASE_LF_RATIO)
  let lb := g F.SCN_LINEBUF_BASE_ADDR * 4096
  let areas := protectedAreas g t
  let hits := fun (a b : Nat) => areas.any (fun r => rangesMeet a b r.1 r.2)
  let badFmt := en.find? (fun n => planeFld g F.SCN_PLANE_CTRL_FMT n = 7)
  let badGeo := en.findSome? (fun n => (planeOffends g t n).map (off n))
  let badBase := en.find? (fun n =>
    decide (c.dramLimit < planeFld g F.SCN_PLANE_BASE_ADDR n * 4096 + planeBytes g n))
  let badOpq := en.findSome? (fun n =>
    if planeFld g F.SCN_PLANE_CTRL_OPAQUE_EN n = 1 then (opaqueOffends g n).map (off n) else none)
  if 0x0F ≤ id then (1, 0x100)
  else if c.isC8 && is16K id then (2, 0x100)
  else if id = 0x0E && !nativeOk c.isC8 (c.get F.SCN_NATIVE_WIDTH) (c.get F.SCN_NATIVE_HEIGHT) then (3, 0x100)
  else if g F.SCN_BASE_LF_SRC = 1 && ((g F.SCN_BASE_LF_RATIO = 1 && is16K id)
      || !rangeIn lfBase lfEnd sramBase sramEnd || hits lfBase lfEnd) then (4, 0x110)
  else if let some n := badFmt then (5, off n 0)
  else if let some o := badGeo then (6, o)
  else if let some n := badBase then (7, off n 4)
  else if let some o := badOpq then (8, o)
  else if !rangeIn lb (lb + 16777216) sramBase sramEnd || hits lb (lb + 16777216) then (9, 0x114)
  else if g F.SCN_PORT_CTRL_PORT_B = 3 then (10, 0x108)
  else (0, 0)

/-! ### Fetch skips (R227) -/

/-- The opaque rectangles in force for the committed plan (R226). -/
def Chip.opaquesInForce (c : Chip) : List (Nat × Rect) :=
  [1, 2, 3, 4].filterMap (fun n =>
    if c.planeOn n && c.act (F.SCN_PLANE_CTRL_OPAQUE_EN.ix (n - 1)) = 1
      && c.act (F.SCN_PLANE_CTRL_GALPHA.ix (n - 1)) = 255 then some (n, opaqueRect c.act n) else none)

/-- A screen rectangle of plane `n` lies inside one opaque rectangle in force of a higher plane. -/
def Chip.skipped (c : Chip) (n : Nat) (r : Rect) : Bool := c.scan.opaques.any (fun o => n < o.1 && r.inside o.2)

/-- The screen rectangle of the fetch unit of plane `n` that holds surface pixel (sx, sy): the 8 × 8 block of a coded
plane, or the shown pixels of the aligned 64-byte span of a raw one. -/
def Chip.fetchUnit (c : Chip) (n sx sy : Nat) : Rect :=
  let p := fun f => planeFld c.act f n
  let r := planeRect c.act n
  let x := fun (s : Nat) => s + p F.SCN_PLANE_DST_DX - p F.SCN_PLANE_SRC_SX
  let y := fun (s : Nat) => s + p F.SCN_PLANE_DST_DY - p F.SCN_PLANE_SRC_SY
  if rawFmt (p F.SCN_PLANE_CTRL_FMT) then
    ⟨max r.x0 (x (sx / 16 * 16)), y sy, min r.x1 (x (sx / 16 * 16 + 16)), y sy + 1⟩
  else ⟨x (sx / 8 * 8), y (sy / 8 * 8), x (sx / 8 * 8 + 8), y (sy / 8 * 8 + 8)⟩

/-- The 8 × 8 block of plane 0 that holds screen pixel (x, y). -/
def lfUnit (x y : Nat) : Rect := ⟨x / 8 * 8, y / 8 * 8, x / 8 * 8 + 8, y / 8 * 8 + 8⟩

/-- The blocks and spans that the decision of this commit skips. -/
def Chip.fetchSkips (c : Chip) : Nat :=
  let t := c.timing
  let lf := if c.modeId = 0x0E then 0 else
    ((List.range (t.width / 8)).map (fun bx =>
      ((List.range (t.height / 8)).filter (fun bt => c.skipped 0 (lfUnit (8 * bx) (8 * bt)))).length)).sum
  let plane := fun n =>
    let p := fun f => planeFld c.act f n
    let sx := p F.SCN_PLANE_SRC_SX
    let sy := p F.SCN_PLANE_SRC_SY
    let w := p F.SCN_PLANE_SIZE_W
    let h := p F.SCN_PLANE_SIZE_H
    let u := if rawFmt (p F.SCN_PLANE_CTRL_FMT) then (16, 1) else (8, 8)
    ((List.range (ceilDiv (sx + w) u.1 - sx / u.1)).map (fun i =>
      ((List.range (ceilDiv (sy + h) u.2 - sy / u.2)).filter (fun j =>
        c.skipped n (c.fetchUnit n ((sx / u.1 + i) * u.1) ((sy / u.2 + j) * u.2)))).length)).sum
  lf + ((([1, 2, 3, 4].filter c.planeOn).map plane).sum)

/-! ### Composition (R224, R225) -/

/-- The codes o and alpha a10 of a raw or decoded texel word (R224 Table 3). -/
def overlayTexel (fmt : Nat) (v : List Nat) (word : Nat) : Rgb × Nat :=
  let wide := fun (q : Nat) => 4 * q + q / 64
  if fmt = 3 then (⟨word % 1024, word / 2 ^ 10 % 1024, word / 2 ^ 20 % 1024⟩, 341 * (word / 2 ^ 30))
  else if fmt ≤ 2 then (⟨wide (v.getD 0 0), wide (v.getD 1 0), wide (v.getD 2 0)⟩, wide (v.getD 3 0))
  else (⟨v.getD 0 0, v.getD 1 0, v.getD 2 0⟩, 1023)

/-- Plane `n`'s texel at screen pixel (x, y). -/
def Chip.planeTexel (m : Memory) (c : Chip) (n x y : Nat) : Rgb × Nat :=
  let p := fun f => planeFld c.act f n
  let sx := p F.SCN_PLANE_SRC_SX + x - p F.SCN_PLANE_DST_DX
  let sy := p F.SCN_PLANE_SRC_SY + y - p F.SCN_PLANE_DST_DY
  let base := p F.SCN_PLANE_BASE_ADDR * 4096
  let pitch := p F.SCN_PLANE_PITCH_BYTES
  let fmt := p F.SCN_PLANE_CTRL_FMT
  match codedFmt fmt with
  | some (f, r) =>
    let size := (f.blockBytes r).getD 0
    let blk := c.loadLE m (base + sy / 8 * pitch + sx / 8 * size) size
    -- An invalid block shows transparent (R136).
    if !blockValid f r (blk % 256) then (⟨0, 0, 0⟩, 0)
    else overlayTexel fmt (decodeTexel f r blk (8 * (sy % 8) + sx % 8)) 0
  | none =>
    let bytes := c.loads m (base + sy * pitch + 4 * sx) 4
    overlayTexel fmt (imageTexel (if fmt = 0 then .ov32 else .px30) bytes) (leNat bytes)

/-- The base of plane 0 and the ratio it is coded at (R221, R222). -/
def Chip.lfSource (c : Chip) : Nat × Nat :=
  if c.on F.SCN_BASE_LF_SRC then (c.act F.SCN_BASE_LF_ADDR * 4096, 1 + c.act F.SCN_BASE_LF_RATIO)
  else (c.readBase, c.readRatio)

/-- The address of plane 0's block (bx, bty). -/
def Chip.lfBlockAddr (c : Chip) (bx bty : Nat) : Nat :=
  c.lfSource.1 + (bty * (c.timing.width / 8) + bx) * px30Bytes c.lfSource.2

/-- Plane 0 at screen pixel (x, y): the light field, or the uniform code of the Safe picture (R70). -/
def Chip.lfPixel (m : Memory) (c : Chip) (x y : Nat) : Rgb :=
  if c.modeId = 0x0E then ⟨256, 256, 256⟩
  else if c.skipped 0 (lfUnit x y) || c.scan.lfBad.contains (y / 8 * (c.timing.width / 8) + x / 8) then ⟨0, 0, 0⟩
  else
    let blk := c.loadLE m (c.lfBlockAddr (x / 8) (y / 8)) (px30Bytes c.lfSource.2)
    let v := decodeTexel .px30 c.lfSource.2 blk (8 * (y % 8) + x % 8)
    ⟨v.getD 0 0, v.getD 1 0, v.getD 2 0⟩

/-- a″ of R225 from a10 and GALPHA. -/
def planeAlpha (a10 g : Nat) : Nat := ((a10 + a10 / 512) * (g + g / 128) + 128) / 256

/-- One plane composed over a result (R225). -/
def blendOver (o u : Rgb) (a : Nat) : Rgb := Rgb.of (fun i => (o.chan i * a + u.chan i * (1024 - a) + 512) / 1024)

/-- u of R225: the composition at screen pixel (x, y). -/
def Chip.composed (m : Memory) (c : Chip) (x y : Nat) : Rgb :=
  [1, 2, 3, 4].foldl (fun u n =>
    if !c.planeOn n || bit (c.get F.SCN_UNDERRUN_PLANES) (n - 1) || !(planeRect c.act n).has x y then u
    else
      let p := fun f => planeFld c.act f n
      let sx := p F.SCN_PLANE_SRC_SX + x - p F.SCN_PLANE_DST_DX
      let sy := p F.SCN_PLANE_SRC_SY + y - p F.SCN_PLANE_DST_DY
      if c.skipped n (c.fetchUnit n sx sy) then u
      else
        let t := c.planeTexel m n x y
        let forced := c.scan.opaques.any (fun o => o.1 = n && o.2.has x y)
        blendOver t.1 u (if forced then 1024 else planeAlpha t.2 (p F.SCN_PLANE_CTRL_GALPHA)))
    (c.lfPixel m x y)

/-! ### One conditioned pixel -/

/-- What post-store conditioning makes of a subpixel: u, n, the history read and written, d and the output code. -/
structure SubOut where
  u : Nat
  n : Nat
  histIn : Nat
  d : Nat
  code : Nat
  deriving DecidableEq, Repr

/-- Subpixel `ch` of pixel (x, y): demura, overdrive and dither (R265 to R274). The Safe picture bypasses the first two
(R70). -/
def Chip.subOut (m : Memory) (c : Chip) (x y ch : Nat) : SubOut :=
  let u := (c.composed m x y).chan ch
  let n := c.demura m x y ch u
  let h := if c.modeId = 0x0E then n / 256 else c.history m x y / 16 ^ ch % 16
  let d := c.overdrive x y ch h n
  ⟨u, n, h, d, c.dither c.tick.sector x y ch d⟩

/-- The tap of R273 for Daymark and CAPTURE jobs: the drive value rounded to a 10-bit code. -/
def SubOut.tap (s : SubOut) : Nat := (s.d + 2) / 4

/-! ### Faults met while a line is fetched -/

/-- An overlay plane that lacks pixels of the line (R231). -/
def Chip.overlayUnderrun (c : Chip) (n : Nat) : Chip :=
  let mask := c.get F.SCN_UNDERRUN_PLANES
  if !c.planeOn n || bit mask (n - 1) then c
  else
    let cls := c.eventClass P.SCN .cont (.own 0x10) true
    let c := c.when (mask = 0) (fun c => c.count P.SCN 1)
    let c := (c.set F.SCN_UNDERRUN_PLANES (withBit mask (n - 1) true)).irq P.SCN 7
    let c := c.event P.SCN .cont (.own 0x10) n 0 0 true
    c.when (cls ≠ .cont) (fun c =>
      let f := F.SCN_PLANE_CTRL_EN.ix (n - 1)
      c.setAct f.key (fldPut (c.aw f.key) f 0))

/-- The lead to which SCN limits the fetch of plane `n`, in lines: PREFETCH, and what the plane's 3.5 MiB buffer holds (R228). -/
def Chip.leadLimit (c : Chip) (n : Nat) : Nat :=
  let w := planeFld c.act F.SCN_PLANE_SIZE_W n
  let held := match codedFmt (planeFld c.act F.SCN_PLANE_CTRL_FMT n) with
    | some (f, r) => 8 * 3670016 / (w / 8 * (f.blockBytes r).getD 0)
    | none => 3670016 / (4 * w)
  min (c.act F.SCN_FETCH_CTRL_PREFETCH) held

/-- The fog signal of P3: a plane that is fetched has a lead below FOG_MARK lines, a mark below 8 taken as 8 (R228, R229).
`leads` gives the leads of planes 1 to 4 as far as DRAM served them. -/
def Chip.fogP3 (c : Chip) (leads : List Nat) : Bool :=
  [1, 2, 3, 4].any (fun n => c.planeOn n && !bit (c.get F.SCN_UNDERRUN_PLANES) (n - 1)
    && decide (min (leads.getD (n - 1) (c.leadLimit n)) (c.leadLimit n) < max 8 (c.act F.SCN_FETCH_CTRL_FOG_MARK)))

/-- The fog signal of P4: the demura table's lead, of which the buffer holds four block rows, is below FOG_MARK lines, a mark
below 8 taken as 8 (R268). -/
def Chip.fogP4 (c : Chip) (lead : Option Nat) : Bool :=
  let limit := 32 * c.demuraEdge
  c.demuraOn && decide (min (lead.getD limit) limit < max 8 (c.act F.PCN_DEMURA_FETCH_FOG_MARK))

/-- The fog signals of P3 and P4 as they stand now; each assertion counts in FOG_ASSERTS (R228, R268, R373). -/
def Chip.fogNow (c : Chip) (p3 p4 : Bool) : Chip :=
  let rise3 := p3 && !c.is F.MEM0_FOG_STATUS_P3
  let rise4 := p4 && !c.is F.MEM0_FOG_STATUS_P4
  let c := ((c.when rise3 (fun c => c.count P.SCN 2)).when rise4 (fun c => c.count P.PCN 2))
  (c.fogSignal false p3).fogSignal true p4

/-- A block of plane 0 read with a parity error (R213): clean on the re-read, or code 0 for this field. -/
def Chip.lfParity (c : Chip) (bx bty : Nat) (repeated : Bool) : Chip :=
  let a := c.lfBlockAddr bx bty
  let k := bty * (c.timing.width / 8) + bx
  if c.scan.lfBad.contains k then c
  else
    let c := c.sramParity a 4 repeated
    if repeated then
      let c := (c.count P.SCN 5).event P.SCN .cont .parity 0 1 a
      { c with scan := { c.scan with lfBad := c.scan.lfBad ++ [k] } }
    else c.event P.SCN .corr .parity 0 1 a

/-- The history of pixels `xs` of row `y` read with a parity error (R213). -/
def Chip.historyParity (c : Chip) (x y : Nat) (repeated : Bool) : Chip :=
  let a := c.oh4Base + y * (c.timing.width * 3 / 2) + 12 * x / 8
  let c := c.sramParity a 5 repeated
  if repeated then
    let c := c.event P.PCN .cont .parity 2 1 a
    { c with pcn := { c.pcn with histBad := c.pcn.histBad ++ [(x, y)] } }
  else c.event P.PCN .corr .parity 2 1 a

/-- Demura lacks table data for the line (R269). -/
def Chip.demuraUnderrun (c : Chip) : Chip :=
  if !c.demuraOn then c
  else
    let c := ((c.count P.PCN 0).irq P.PCN 6).event P.PCN .cont (.own 0x10) 1
    { c with pcn := { c.pcn with demuraOff := true } }

/-- A demura block read with status PARITY after MEM's re-read (R269, R367). -/
def Chip.demuraParity (c : Chip) (blk : Nat) : Chip :=
  if c.pcn.demuraBad.contains blk then c
  else
    let c := c.dramParity (c.act F.PCN_DEMURA_BASE_ADDR * 4096 + 96 * blk) true
    let c := (c.count P.PCN 1).event P.PCN .cont .parity 1 1 (c.act F.PCN_DEMURA_BASE_ADDR * 4096 + 96 * blk)
    { c with pcn := { c.pcn with demuraBad := c.pcn.demuraBad ++ [blk] } }

/-- An invalid block decoded for scan-out (R136). -/
def Chip.invalidBlock (c : Chip) (pipe addr : Nat) : Chip :=
  ((c.count P.CDC 4).irq P.CDC 8).event P.CDC .cont (.own 0x10) pipe 1 addr

/-- Invalid blocks of the block rows whose first line is line `y`: of plane 0, then of the coded overlay planes. -/
def Chip.invalidBlocks (m : Memory) (c : Chip) (y : Nat) : Chip :=
  let bad := fun (f : Fmt) (r a : Nat) => !blockValid f r (c.load m a).toNat
  let lf := if c.modeId = 0x0E || y % 8 ≠ 0 then [] else
    (List.range (c.timing.width / 8)).filterMap (fun bx =>
      let a := c.lfBlockAddr bx (y / 8)
      if bad .px30 c.lfSource.2 a && !c.skipped 0 (lfUnit (8 * bx) y) then some (6, a) else none)
  let ov := ([1, 2, 3, 4].filter (fun n => c.planeOn n && !bit (c.get F.SCN_UNDERRUN_PLANES) (n - 1))).flatMap (fun n =>
    let p := fun f => planeFld c.act f n
    let r := planeRect c.act n
    match codedFmt (p F.SCN_PLANE_CTRL_FMT) with
    | none => []
    | some (f, ratio) =>
      if y < r.y0 || r.y1 ≤ y || (y - r.y0) % 8 ≠ 0 then []
      else
        let sx := p F.SCN_PLANE_SRC_SX
        let sy := p F.SCN_PLANE_SRC_SY + y - r.y0
        let size := (f.blockBytes ratio).getD 0
        (List.range (p F.SCN_PLANE_SIZE_W / 8)).filterMap (fun i =>
          let a := p F.SCN_PLANE_BASE_ADDR * 4096 + sy / 8 * p F.SCN_PLANE_PITCH_BYTES + (sx / 8 + i) * size
          if bad f ratio a && !c.skipped n (c.fetchUnit n (sx + 8 * i) sy) then some (7, a) else none))
  foldOver (lf ++ ov) (fun e c => c.invalidBlock e.1 e.2) c

/-! ### Daymark (R237 to R240) -/

/-- Region r's rectangle. -/
def regionRect (w h r : Nat) : Rect :=
  ⟨r % 4 * w / 4, r / 4 * h / 4, (r % 4 + 1) * w / 4, (r / 4 + 1) * h / 4⟩

/-- The running CRCs after line `y`, whose taps are `taps` (a triple per pixel). -/
def daymarkLine (w h y : Nat) (taps : List Rgb) (crcs : List Nat) : List Nat :=
  (List.range 16).map (fun r =>
    let q := regionRect w h r
    let s := crcs.getD r 0xFFFFFFFF
    if y < q.y0 || q.y1 ≤ y then s
    else (((taps.drop q.x0).take (q.x1 - q.x0)).flatMap (fun t => texelImage .px30 [t.r, t.g, t.b])).foldl crc32cByte s)

/-- Regions that an opaque rectangle in force or a flat window of the field wholly holds. -/
def Chip.daymarkCovered (c : Chip) : List Bool :=
  let t := c.timing
  (List.range 16).map (fun r =>
    let q := regionRect t.width t.height r
    c.scan.opaques.any (fun o => q.inside o.2) || c.outWindows.any (fun w => q.inside w))

/-- One region's count after the comparison of R239; `was` is the field of the same sector in the frame before. -/
def daymarkCount (k : Nat) (now was : FieldRec) (r c : Nat) : Nat :=
  if k = 0 || now.covered.getD r false || was.covered.getD r false then c
  else if now.sigs.getD r 0 = was.sigs.getD r 0 then
    if now.alive ≠ was.alive && now.alive.isSome && was.alive.isSome && now.digests.getD r 0 ≠ was.digests.getD r 0
    then min (c + 1) 255 else c
  else 0

/-- An alarm for region `r` of sector `s` (R239). -/
def Chip.daymarkAlarm (c : Chip) (s r : Nat) : Chip :=
  let c := if c.is F.SCN_DAYMARK_STATUS_ALARM then c
    else (c.set F.SCN_DAYMARK_STATUS_REGION r).set F.SCN_DAYMARK_STATUS_SECTOR s
  let c := ((c.set F.SCN_DAYMARK_STATUS_ALARM 1).count P.SCN 4).irq P.SCN 8
  c.event P.SCN (if c.on F.SCN_DAYMARK_CTRL_ACTION then .fatal else .cont) (.own 0x11)

/-- DAYMARK_UPDATE and DAYMARK_ALARM at the commit after the field of sector `s`, whose signatures are complete. -/
def Chip.daymarkUpdate (c : Chip) (s : Nat) : Chip :=
  if c.scan.crcs.isEmpty then c
  else
    let k := c.act F.SCN_DAYMARK_CTRL_K
    let sigs := c.scan.crcs.map (fun v => v ^^^ 0xFFFFFFFF)
    let now : FieldRec := ⟨sigs, c.tick.frame, c.daymarkCovered, c.scan.alive, c.scan.digests⟩
    let was := storeGet (fun _ => ({} : FieldRec)) c.scan.prev s
    let old := fun r => storeGet (fun _ => 0) c.scan.counts (16 * s + r)
    let next := !was.sigs.isEmpty && decide ((was.frame + 1) % 2 ^ 32 = now.frame)
    let new := fun r => if !next then old r else daymarkCount k now was r (old r)
    let counts := (List.range 16).foldl (fun l r => storePut (fun _ => 0) l (16 * s + r) (new r)) c.scan.counts
    let up := (List.range 16).filter (fun r => k ≠ 0 && decide (old r < k) && decide (k ≤ new r))
    let c := { c with scan := { c.scan with
      prev := storePut (fun _ => ({} : FieldRec)) c.scan.prev s now, counts := counts } }
    let c := foldOver (List.range 16) (fun r c => c.set (F.SCN_DAYMARK_SIG_SIG.ix r) (sigs.getD r 0)) c
    foldOver up (fun r c => c.daymarkAlarm s r) c

/-- MAX_COUNT: the largest count (R241). -/
def Chip.daymarkMax (c : Chip) : Chip :=
  c.set F.SCN_DAYMARK_STATUS_MAX_COUNT (c.scan.counts.foldl (fun a e => max a e.2) 0)

/-- All counts return to 0 (R240). -/
def Chip.daymarkReset (c : Chip) : Chip :=
  ({ c with scan := { c.scan with counts := [] } } : Chip).daymarkMax

end Sys2Proof.Machine
end

