-- ==== Sys2Proof/Machine/Lanes.lean ====
section
/-!
DEFINITION. Machine/Lanes.lean: the serial lanes and the panel protocol (chapter 13): line packets, commands, status
frames, the judging and masking of lanes, training, and the register-side operations of SER; and SCANOUT_LINE, which
composes, conditions and sends one line.
-/

namespace Sys2Proof.Machine

/-! ### Codes (R286, R290) -/

/-- CRC-16 with polynomial 0x1021, one byte into the running value. -/
def crc16Byte (s : Nat) (b : Byte) : Nat :=
  let f := fun x : Nat => (if 0x8000 ≤ x then (2 * x) ^^^ 0x1021 else 2 * x) % 65536
  f (f (f (f (f (f (f (f (s ^^^ (b.toNat * 256)))))))))

/-- CRC-16 of R290: initial value 0xFFFF, no reflection, no final exclusive-or. -/
def crc16 (l : List Byte) : Nat := l.foldl crc16Byte 0xFFFF

/-- CRC-8 with polynomial 0x07 and initial value 0 (R286). -/
def crc8 (l : List Byte) : Nat :=
  let f := fun x : Nat => (if 0x80 ≤ x then (2 * x) ^^^ 0x07 else 2 * x) % 256
  l.foldl (fun s b => f (f (f (f (f (f (f (f (s ^^^ b.toNat))))))))) 0

/-- Bytes followed by their CRC-16, least-significant byte first. -/
def withCrc16 (l : List Byte) : List Byte := l ++ leBytes 2 (crc16 l)

/-- A line packet (R290 Table 2): header, payload, CRC-32C; `bad` inverts the CRC (SER.INJECT). -/
def linePacket (sector frame field depth reverse line group mode dark : Nat) (payload : List Byte) (bad : Bool) : List Byte :=
  let b1 := sector % 8 + (frame + sector) % 4 * 8 + depth * 32 + reverse * 64
  let head := withCrc16 (leBytes 14 (0x31 + b1 * 2 ^ 8 + field % 256 * 2 ^ 16 + line % 16384 * 2 ^ 24 + group % 256 * 2 ^ 40
    + payload.length % 65536 * 2 ^ 48 + mode * 2 ^ 64 + dark * 2 ^ 72))
  let body := head ++ payload
  body ++ leBytes 4 (if bad then crc32c body ^^^ 0xFFFFFFFF else crc32c body)

/-- An 8-byte command from its TYPE and argument bytes (R294). -/
def command (type args : Nat) : List Byte := withCrc16 (leBytes 6 (type + args * 256))

/-! ### Lanes of the ports (R217, R35) -/

/-- The two control lanes of a port. -/
def Chip.ctrlLanes (c : Chip) : List Nat := if c.isC8 then [24, 25] else [48, 49]

/-- A lane's cell number. -/
def laneCell (port lane : Nat) : Nat := [0, 0, 50, 100].getD port 0 + lane

/-- The port and lane of a forward lane's cell number. -/
def laneOfCell (cell : Nat) : Nat × Nat := if cell < 50 then (1, cell) else if cell < 100 then (2, cell - 50) else (3, cell - 100)

/-- LANE_EN of a lane, active value, and its MASKED bit. -/
def Chip.laneEn (c : Chip) (port lane : Nat) : Bool :=
  bit (c.act (F.SERP_LANE_EN_LO_EN.inst port) + c.act (F.SERP_LANE_EN_HI_EN.inst port) * 2 ^ 32) lane

def Chip.laneMask (c : Chip) (port : Nat) : Nat :=
  c.get (F.SERP_MASKED_LO_MASKED.inst port) + c.get (F.SERP_MASKED_HI_MASKED.inst port) * 2 ^ 32

def Chip.laneMasked (c : Chip) (port lane : Nat) : Bool := bit (c.laneMask port) lane

/-- The lanes of a port that the running mode uses (R217, R236). -/
def Chip.lanesUsed (c : Chip) (port : Nat) : List Nat :=
  if port = 3 then [0, 1, 2, 3]
  else if port = 2 && c.act F.SCN_PORT_CTRL_PORT_B = 0 then []
  else if (c.timingOf c.modeId).isNone then []
  else List.range c.timing.lanes ++ c.ctrlLanes

/-- The mask words of a port set, with the counts that follow from them and DEGRADED of the block's pages (R56). -/
def Chip.setLaneMask (c : Chip) (port mask : Nat) : Chip :=
  let c := (c.set (F.SERP_MASKED_LO_MASKED.inst port) (mask % 2 ^ 32)).set (F.SERP_MASKED_HI_MASKED.inst port) (mask / 2 ^ 32)
  let c := c.set (F.SERP_PORT_STATUS_MASKED.inst port) (popCount mask 64)
  let any := [1, 2, 3].any (fun p => c.laneMask p ≠ 0)
  foldOver [0, 1, 2, 3] (fun p c => c.statusBit (mkPage 11 p) 2 any) c

/-- LOCK of a lane's last frame. -/
def Chip.setLaneLock (c : Chip) (port lane : Nat) (b : Bool) : Chip :=
  let f := fun i => if i < 32 then F.SERP_LOCK_LO_LOCK.inst port else F.SERP_LOCK_HI_LOCK.inst port
  let c := c.set (f lane) (withBit (c.get (f lane)) (lane % 32) b)
  let all := c.get (F.SERP_LOCK_LO_LOCK.inst port) + c.get (F.SERP_LOCK_HI_LOCK.inst port) * 2 ^ 32
  c.set (F.SERP_PORT_STATUS_LOCKED.inst port) (popCount all 64)

/-! ### Commands on the control lanes (R294, R295) -/

/-- The place of a command among those of its line period (R235, R294): FIELD_START, OE_WIN, then the drive events, a row
command before a scan-line change before a region-layer frame start. -/
def commandRank (l : List Byte) : Nat :=
  let t := leNat (l.take 1)
  if t = 0x51 then 0 else if t = 0x53 then 1 else if t = 0x52 then 2 else if t = 0x54 then 3 else 4

/-- A command among those of its line period, after those of its own rank. -/
def commandInto (x : List Byte) : List (List Byte) → List (List Byte)
  | [] => [x]
  | y :: l => if commandRank x < commandRank y then x :: y :: l else y :: commandInto x l

/-- When the commands of a line period start: successive drive events GUARD × 2 ns apart (R235). -/
def commandStarts (guard : Nat) (l : List (List Byte)) : List Nat :=
  let first := (l.filter (fun x => commandRank x < 2)).length
  (List.range l.length).map (fun i => (i - first) * (2 * guard))

/-- Commands sent: `fresh` starts the list of a new line period or tick. -/
def Chip.sendCommands (c : Chip) (fresh : Bool) (l : List (List Byte)) : Chip :=
  let all := foldOver l commandInto (if fresh then [] else c.lanes.commands)
  { c with lanes := { c.lanes with commands := all, starts := commandStarts (c.act F.SCN_DRIVE_ARB_GUARD) all } }

/-- STATUS.DARK of SCN: black lines are sent (R242). -/
def Chip.dark (c : Chip) : Bool := c.is ⟨P.SCN + 0x00C, 4, 1, 4⟩

/-- FIELD_START and OE_WIN at the tick. -/
def Chip.sendFieldStart (c : Chip) : Chip :=
  let s := c.tick.sector
  let b1 := s % 8 + (c.tick.frame + s) % 4 * 8 + c.act F.SER0_SCAN_CTRL_SCAN_DIR * 32
  let fs := command 0x51 (b1 + c.tick.field % 256 * 2 ^ 8 + c.modeId * 2 ^ 16 + (b2n c.dark + 2 * b2n c.scan.skip) * 2 ^ 24)
  let oe := command 0x53 (c.act F.SER0_OE_OE_START + c.act F.SER0_OE_OE_END * 2 ^ 16)
  c.sendCommands true [fs, oe]

/-- ROW_ADV for line `l`. -/
def Chip.rowAdv (c : Chip) (l : Nat) : List Byte :=
  let on := c.act F.SER0_GATE_GATE_ON
  let off := c.act F.SER0_GATE_GATE_OFF
  command 0x52 (l % 16384 + (on % 1024 + off / 256 % 4 * 16384) * 2 ^ 16 + off % 256 * 2 ^ 32)

/-- SCAN_MARK for a scan line that turns on or off (R294), while enabled. -/
def Chip.scanMark (c : Chip) (line : Nat) (on : Bool) : Chip :=
  c.when (c.on F.SER0_SCAN_CTRL_SCAN_MARK_EN) (fun c => c.sendCommands false [command 0x54 (line % 16 + 16 * b2n on)])

/-- APL_SYNC for a region-layer frame, while enabled. -/
def Chip.aplSync (c : Chip) (frame : Nat) : Chip :=
  c.when (c.on F.SER0_SCAN_CTRL_APL_SYNC_EN) (fun c => c.sendCommands false [command 0x55 (frame % 65536)])

/-! ### SCANOUT_LINE -/

/-- The subpixel columns that data lane `i` carries (R217). -/
def Chip.laneCols (c : Chip) (i : Nat) : Nat × Nat := (960 * i, min (960 * i + 960) (3 * c.timing.width))

/-- A lane sends: its port and the running mode use it, it is enabled and not masked. Elsewhere it is in electrical idle. -/
def Chip.laneSends (c : Chip) (port lane : Nat) : Bool :=
  (c.lanesUsed port).contains lane && c.laneEn port lane && !c.laneMasked port lane

/-- What control lane `lane` of a port carries: the commands, or nothing in electrical idle (R288, R300). -/
def Chip.controlLane (c : Chip) (port lane : Nat) : List (List Byte) :=
  if c.laneSends port lane then c.lanes.commands else []

/-- SER.INJECT inverts the CRC of the next packet on a lane. -/
def Chip.injected (c : Chip) (port lane : Nat) : Bool :=
  c.is F.SER0_INJECT_CRC && laneOfCell (c.get F.SER0_INJECT_LANE) = (port, lane)

/-- The packets of a line on a port, from the line's output codes in column order (R236, R290). -/
def Chip.linePackets (c : Chip) (port line : Nat) (codes : List Nat) : List (List Byte) :=
  let d := c.act F.PCN_PACK_CTRL_DEPTH
  (List.range c.timing.lanes).map (fun i =>
    let p := c.laneCols i
    let payload := c.packLane ((codes.drop p.1).take (p.2 - p.1))
    if !c.laneSends port i then []
    else linePacket c.tick.sector c.tick.frame c.tick.field d (c.act F.PCN_PACK_CTRL_REVERSE) line i c.modeId (b2n c.dark)
      payload (c.injected port i))

/-- A line's packets go out on both ports; INJECT.CRC clears once a packet has gone out on its lane. -/
def Chip.sendLine (c : Chip) (line : Nat) (codes : List Nat) : Chip :=
  let p := laneOfCell (c.get F.SER0_INJECT_LANE)
  let c := { c with lanes := { c.lanes with packets := c.linePackets 1 line codes, packetsB := c.linePackets 2 line codes } }
  c.when (p.1 ≤ 2 && decide (p.2 < c.timing.lanes) && c.laneSends p.1 p.2) (fun c => c.set F.SER0_INJECT_CRC 0)

/-- PCN_PROBE_LATCH (R283): the probed subpixel lies on line `y`. -/
def Chip.probeLatch (c : Chip) (y : Nat) (out : Nat → Nat → SubOut) : Chip :=
  let x := c.get F.PCN_PROBE_SEL_X
  let ch := c.get F.PCN_PROBE_SEL_CHANNEL
  if !c.pcn.probeArmed || c.get F.PCN_PROBE_SEL_Y ≠ y || ch = 3 || c.timing.width ≤ x then c
  else
    let s := out x ch
    let c := (c.set F.PCN_PROBE_A_IN s.u).set F.PCN_PROBE_A_DEMURA s.n
    let c := ((c.set F.PCN_PROBE_B_DRIVE s.d).set F.PCN_PROBE_B_HIST_IN s.histIn).set F.PCN_PROBE_B_HIST_OUT (s.n / 256)
    let c := (c.set F.PCN_PROBE_B_CODE s.code).set F.PCN_PROBE_B_VALID 1
    { c with pcn := { c.pcn with probeAsked := false, probeArmed := false } }

/-- A line that a running CAPTURE job taps: one of the field that its plan started (R139). -/
def Chip.captureRow (c : Chip) (y : Nat) (row : List Nat) : Chip :=
  match c.cdc.running with
  | some r =>
    if bitsOf (r.words.headD 0) 3 2 = 2 && c.tick.field = r.plan then { c with cdc := { c.cdc with captured := (y, row) :: c.cdc.captured } } else c
  | none => c

/-- A conditioned line: its packets, the history it leaves, the Daymark CRCs and the probe. -/
def Chip.conditionedLine (m : Memory) (c : Chip) (y : Nat) : Chip :=
  let t := c.timing
  let px := (List.range t.width).map (fun x => (List.range 3).map (fun ch => c.subOut m x y ch))
  let codes := px.flatMap (fun p => p.map (·.code))
  let taps := px.map (fun p => Rgb.of (fun i => (p[i]?.map (·.tap)).getD 0))
  let hist := (px.map (fun p => p.foldr (fun s n => s.n / 256 + 16 * n) 0)).foldr (fun h n => h + 4096 * n) 0
  let c' := { c.sendLine y codes with
    scan := { c.scan with crcs := daymarkLine t.width t.height y taps c.scan.crcs } }
  let c' := c'.when (c.modeId ≠ 0x0E) (fun k => k.storeLE (c.oh4Base + y * (t.width * 3 / 2)) (t.width * 3 / 2) hist)
  let c' := c'.captureRow y (taps.map (fun t => t.r + t.g * 2 ^ 10 + t.b * 2 ^ 20))
  c'.probeLatch y (fun x ch => c.subOut m x y ch)

/-- A black line (R293). -/
def Chip.blackLine (c : Chip) (y : Nat) : Chip :=
  let code := if c.on F.PCN_PACK_CTRL_DEPTH then c.act F.SER0_BLACK_CODE8 else c.act F.SER0_BLACK_CODE10
  let codes := (List.range (3 * c.timing.width)).map (fun _ => code)
  c.sendLine y codes

/-- The faults a line's fetch met. -/
def Chip.lineFaults (m : Memory) (c : Chip) (io : LineIn) (y : Nat) : Chip :=
  let c := foldOver ([1, 2, 3, 4].filter (bit io.underrun)) (fun n c => c.overlayUnderrun n) c
  let c := c.when io.demuraUnderrun Chip.demuraUnderrun
  -- The line's demura blocks whose stored parity is bad, and those whose read met an error that its re-read repeated.
  let first := (c.demuraCell 0 y).1
  let demStuck := if c.badMem.isEmpty then [] else
    ((List.range (c.timing.width / (8 * c.demuraEdge))).map (first + ·)).filter (fun b =>
      c.stuckAt (c.act F.PCN_DEMURA_BASE_ADDR * 4096 + 96 * b) 96)
  let c := c.when c.demuraOn (fun c =>
    foldOver (demStuck ++ io.demuraParity.filter (fun b => !demStuck.contains b)) (fun b c => c.demuraParity b) c)
  if c.modeId = 0x0E then c
  else
    let cols := List.range (c.timing.width / 8)
    let stuck := cols.filter (fun bx => c.stuckAt (c.lfBlockAddr bx (y / 8)) (px30Bytes c.lfSource.2))
    let twice := (stuck ++ io.lfTwice.filter (fun b => !stuck.contains b)).filter (· < c.timing.width / 8)
    let c := foldOver twice (fun bx c => c.lfParity bx (y / 8) true) c
    let c := foldOver (io.lfOnce.filter (fun b => b < c.timing.width / 8 && !twice.contains b))
      (fun bx c => c.lfParity bx (y / 8) false) c
    let row := c.oh4Base + y * (c.timing.width * 3 / 2)
    let hStuck := (List.range c.timing.width).filter (fun x => c.stuckAt (row + 12 * x / 8) 2)
    let hTwice := (hStuck ++ io.histTwice.filter (fun b => !hStuck.contains b)).filter (· < c.timing.width)
    let c := foldOver hTwice (fun x c => c.historyParity x y true) c
    let c := foldOver (io.histOnce.filter (fun x => x < c.timing.width && !hTwice.contains x))
      (fun x c => c.historyParity x y false) c
    c.invalidBlocks m y

/-- The line period in ps of a raster `t` (R11, R12): nominal under REF, else within ±0.1 % of it, `tracked` while the module
holds lock on its source and the last slewed period in holdover. -/
def Chip.lineNow (c : Chip) (t : Timing) (tracked : Nat) : Nat :=
  let slewed := fun (p : Nat) => max (t.linePs - t.linePs / 1000) (min (t.linePs + t.linePs / 1000) p)
  if c.act F.TIM_TICK_CTRL_SRC = 0 then t.linePs
  else if c.is F.TIM_TICK_STATUS_LOCKED then slewed tracked
  else if c.get F.SCN_LINE_PERIOD_PS = 0 then t.linePs
  else slewed (c.get F.SCN_LINE_PERIOD_PS)

/-- SCANOUT_LINE: one line period. ROW_ADV goes out at the start of the active lines' periods, and the packet of the
next line with it (R291, R294); LINE_STATUS and LINE_PERIOD follow (R234). Once a field's lines have run, nothing is left
to do before the tick. -/
def Chip.scanoutLine (m : Memory) (c : Chip) (io : LineIn) : Chip :=
  match c.timingOf c.modeId with
  | none => c
  | some t =>
    let p := c.scan.next
    if !c.is ⟨P.SCN + 0x00C, 3, 1, 4⟩ || t.total ≤ p then c
    else
      let c := c.set F.SCN_LINE_PERIOD_PS (c.lineNow t io.periodPs)
      let c := ((c.set F.SCN_LINE_STATUS_LINE p).setB F.SCN_LINE_STATUS_ACTIVE (decide (t.blank ≤ p)))
      let c := (c.set F.SCN_LINE_STATUS_SECTOR c.tick.sector).set F.SCN_LINE_STATUS_FIELD c.tick.field
      let c := { c with scan := { c.scan with next := p + 1 } }
      let c := c.sendCommands true (if t.blank ≤ p && !c.scan.skip then [c.rowAdv (p - t.blank)] else [])
      if c.scan.skip then c
      else
        let c := if c.dark then c else c.fogNow (c.fogP3 io.leads) (c.fogP4 io.demuraLead)
        if p + 1 < t.blank || t.height ≤ p + 1 - t.blank then c
        else
          let y := p + 1 - t.blank
          if c.dark then c.blackLine y
          else (c.lineFaults m io y).conditionedLine m y

/-! ### Status frames (R299) -/

/-- Whether a row driver's commands come on control lane `i` (0 or 1) of its port (R289). -/
def Chip.rowDriverOn (c : Chip) (drv i : Nat) : Bool :=
  c.on F.SER0_FAIL_CTRL_CTRL_REDUNDANT || (Config.rowDriverLane drv = (i = 1))

/-- The forward lanes that a driver's report concerns. -/
def Chip.reportLanes (c : Chip) (port group : Nat) : List Nat :=
  if port = 3 then (if 0x40 ≤ group && group < 0x44 then [group - 0x40] else [])
  else if group < 0x40 then (if group < c.ctrlLanes.headD 0 then [group] else [])
  else if 0x80 ≤ group then
    ((List.range 2).filter (c.rowDriverOn (group - 0x80))).map (fun i => c.ctrlLanes.getD i 0)
  else []

/-- The return path, 0 or 1, on which a driver's frames come (R288). -/
def reportPath (port group : Nat) : Nat := if port ≠ 3 && 0x80 ≤ group then 1 else 0

/-- The return receiver of a path is in lock. -/
def Chip.retLock (c : Chip) (port path : Nat) : Bool :=
  c.is ((if path = 0 then F.SERP_PORT_STATUS_RET0_LOCK else F.SERP_PORT_STATUS_RET1_LOCK).inst port)

/-- A lane's counts move on by a report (LANE_ERR, LANE_MKR, LAST_BAD). -/
def Chip.laneReport (c : Chip) (port lane : Nat) (dc dh dm margin line field : Nat) (lock : Bool) : Chip :=
  let c := c.incWrap ((F.SERP_LANE_ERR_CRC.inst port).ix lane) dc
  let c := c.incWrap ((F.SERP_LANE_ERR_HDR.inst port).ix lane) dh
  let c := c.incWrap ((F.SERP_LANE_MKR_MKR.inst port).ix lane) dm
  let c := c.set ((F.SERP_LANE_MKR_MARGIN.inst port).ix lane) margin
  let c := c.setLaneLock port lane lock
  c.when (0 < dc) (fun c => ((c.set (F.SERP_LAST_BAD_LANE.inst port) (laneCell port lane)).set
    (F.SERP_LAST_BAD_LINE.inst port) line).set (F.SERP_LAST_BAD_FIELD_LO.inst port) field)

/-- DRIVER_STATUS_FRAME on a port's return path. -/
def Chip.statusFrame (c : Chip) (port : Nat) (l : List Byte) : Chip :=
  if l.length ≠ 16 || port = 0 || 3 < port then c
  else
    let group := leNat ((l.drop 1).take 1)
    if crc16 (l.take 14) ≠ leNat (l.drop 14) then
      { c with lanes := { c.lanes with badFrames := modifyAt c.lanes.badFrames port (· + 1) } }
    else if leNat (l.take 1) ≠ 0x61 || !c.retLock port (reportPath port group) then c
    else
      let w := fun i n => leNat ((l.drop i).take n)
      let key := 256 * port + group
      let was := storeGet (fun _ => ({} : DriverCounts)) c.lanes.drivers key
      let d := fun (a b : Nat) => (a + 65536 - b) % 65536
      let dc := d (w 4 2) was.crc
      let dh := d (w 6 2) was.hdr
      let dm := d (w 8 2) was.mkr
      let lock := bit (w 3 1) 0
      let seen : FrameSeen := ⟨port, group, dc, lock⟩
      let c := { c with lanes := { c.lanes with
        drivers := storePut (fun _ => ({} : DriverCounts)) c.lanes.drivers key ⟨w 4 2, w 6 2, w 8 2⟩
        seen := if port = 3 || w 2 1 = c.tick.field % 256 then c.lanes.seen ++ [seen] else c.lanes.seen
        trainFrames := if c.lanes.training then
            c.lanes.trainFrames.filter (fun (f : FrameSeen) => !(f.port = port && f.group = group)) ++ [seen]
          else [] } }
      let c := foldOver (c.reportLanes port group) (fun i c =>
        c.laneReport port i dc dh dm (w 10 1) (w 12 2) (w 2 1) lock) c
      c.when (port ≠ 3 && 0x80 ≤ group) (fun c =>
        (c.incWrap (F.SERP_CMD_ERRS_CMD_CRC.inst port) dc).incWrap (F.SERP_CMD_ERRS_SEQ.inst port) dh)

/-! ### Judging and masking at the commit (R300) -/

/-- The drivers whose frames judge a lane. -/
def Chip.judgeDrivers (c : Chip) (port lane : Nat) : List Nat :=
  if port = 3 then [0x40 + lane]
  else if c.ctrlLanes.contains lane then
    ((List.range (c.act F.SER0_FAIL_CTRL_ROW_DRIVERS)).filter (fun d =>
      c.rowDriverOn d (lane - c.ctrlLanes.headD 0))).map (· + 0x80)
  else [lane]

/-- Frames of a lane that did not come in the ended field. -/
def Chip.framesMissing (c : Chip) (port lane : Nat) : Nat :=
  ((c.judgeDrivers port lane).filter (fun g => !c.lanes.seen.any (fun f => f.port = port && f.group = g))).length

/-- A lane had a bad field. -/
def Chip.fieldBad (c : Chip) (port lane : Nat) : Bool :=
  let mine := c.lanes.seen.filter (fun f => f.port = port && (c.judgeDrivers port lane).contains f.group)
  decide (0 < c.framesMissing port lane) || mine.any (fun f => !f.lock)
    || (c.judgeDrivers port lane).any (fun g =>
      decide (c.act F.SER0_FAIL_CTRL_BAD_LIMIT ≤ ((mine.filter (fun f => f.group = g)).map (·.adv)).sum))

/-- Frames of a port's judged drivers that did not come in the ended field, each driver once. -/
def Chip.portMissing (c : Chip) (port : Nat) (lanes : List Nat) : Nat :=
  ((lanes.flatMap (c.judgeDrivers port)).eraseDups.filter (fun g =>
    !c.lanes.seen.any (fun f => f.port = port && f.group = g))).length

/-- The port A control lane `lane` leaves the row drivers served: they can run from either lane alone, and the other one is
live. -/
def Chip.ctrlServed (c : Chip) (lane : Nat) : Bool :=
  c.on F.SER0_FAIL_CTRL_CTRL_REDUNDANT && (c.ctrlLanes.filter (· ≠ lane)).all (fun l => c.laneEn 1 l && !c.laneMasked 1 l)

/-- A port B lane's fault (R236, R300 Table 6): CONT, which the counts of ERR_THRESH may take one class up but never to FATAL. -/
def Chip.portBEvent (c : Chip) (cell : Nat) : Chip :=
  let page := mkPage 11 2
  let r := c.climbed page .cont (.own 0x10) true
  if r.1 = .fatal then
    let c := { c with ladder := { c.ladder with counts := storePut (fun _ => {}) c.ladder.counts page r.2.2 } }
    c.record page .isol .threshold cell 0 0
  else c.event page .cont (.own 0x10) cell 0 0 true

/-- LANE_MASK with the consequence of Table 6; APL's freeze for a region-layer lane is its own (R354). -/
def Chip.maskLane (c : Chip) (port lane : Nat) : Chip :=
  let page := mkPage 11 port
  let c := c.setLaneMask port (withBit (c.laneMask port) lane true)
  let c := { c with lanes := { c.lanes with judge := storePut (fun _ => ({} : LaneJudge)) c.lanes.judge (64 * port + lane) {} } }
  let c := (c.count page 3).irq page 6
  let cell := laneCell port lane
  if port = 3 then c.event page .isol (.own 0x10) cell 0 0 true
  else if port = 2 then c.portBEvent cell
  else if port = 1 && c.ctrlLanes.contains lane && !c.ctrlServed lane then
    c.event page .isol (.own 0x10) cell 0 0 false
  else c.event page .cont (.own 0x10) cell

/-- The lanes of a port that are judged: used, enabled, not masked, with the return path in lock and judging. -/
def Chip.lanesJudged (c : Chip) (port : Nat) : List Nat :=
  (c.lanesUsed port).filter (fun l => c.laneEn port l && !c.laneMasked port l
    && (c.judgeDrivers port l).all (fun g => !c.lanes.lost.contains (2 * port + reportPath port g)))

/-- One lane judged. -/
def Chip.judgeLane (c : Chip) (port lane : Nat) : Chip :=
  let key := 64 * port + lane
  let j := storeGet (fun _ => ({} : LaneJudge)) c.lanes.judge key
  let put := fun (c : Chip) (j : LaneJudge) =>
    { c with lanes := { c.lanes with judge := storePut (fun _ => ({} : LaneJudge)) c.lanes.judge key j } }
  if 0 < j.wait then put c { j with wait := j.wait - 1 }
  else
    let page := mkPage 11 port
    if !c.fieldBad port lane then put c { j with bad := 0 }
    else
      let c := put (c.count page 1) { j with bad := j.bad + 1 }
      if c.act F.SER0_FAIL_CTRL_FAIL_FIELDS ≤ j.bad + 1 then c.maskLane port lane else c

/-- Return paths that are in lock again are judged from this commit on (R301). -/
def Chip.lanesBack (c : Chip) : Chip :=
  { c with lanes := { c.lanes with lost := c.lanes.lost.filter (fun k => !c.retLock (k / 2) (k % 2)) } }

/-- LANE_JUDGE and LANE_MASK at the commit after a field; `field` is the ended field's number. -/
def Chip.lanesJudge (c : Chip) (field : Nat) : Chip :=
  let c := c.lanesBack
  let missing := fun p => c.portMissing p (c.lanesJudged p)
  let all := [1, 2, 3].all (fun p => missing p = 0)
  let c := (c.set F.SER0_STATUS_LAST_FIELD_LO (field % 256)).setB F.SER0_STATUS_LAST_ALL_REPORTED all
  foldOver [1, 2, 3] (fun p c =>
    let judged := c.lanesJudged p
    let c := (c.set (F.SERP_RET_STATUS_MISSING.inst p) (min 65535 (missing p))).set (F.SERP_RET_STATUS_BAD_FRAMES.inst p)
      (min 65535 (c.lanes.badFrames.getD p 0))
    let ready := judged.filter (fun l => (storeGet (fun _ => ({} : LaneJudge)) c.lanes.judge (64 * p + l)).wait = 0)
    if judged.isEmpty then c
    else foldOver judged (fun l c => c.judgeLane p l) ((c.count (mkPage 11 p) 0).count (mkPage 11 p) 2 (c.portMissing p ready))) c

/-- The frames of the ended field are done with. -/
def Chip.lanesNextField (c : Chip) : Chip :=
  let c := c.lanesBack
  { c with lanes := { c.lanes with seen := [], badFrames := [0, 0, 0, 0] } }

/-- RETRY bits clear their lanes' masks at the commit (R300). -/
def Chip.retryLanes (c : Chip) : Chip :=
  foldOver [1, 2, 3] (fun p c =>
    let lo := F.SERP_RETRY_LO_RETRY.inst p
    let hi := F.SERP_RETRY_HI_RETRY.inst p
    let r := c.get lo + c.get hi * 2 ^ 32
    let hit := (List.range 64).filter (fun l => bit r l && c.laneMasked p l)
    let c := (c.set lo 0).set hi 0
    if hit.isEmpty then c
    else
      let c := c.setLaneMask p (c.laneMask p - (c.laneMask p &&& r))
      let c := c.count (mkPage 11 p) 4 hit.length
      let fields := c.act F.SER0_FAIL_CTRL_FAIL_FIELDS
      let judge := foldOver hit (fun l j => storePut (fun _ => ({} : LaneJudge)) j (64 * p + l) ⟨0, fields⟩) c.lanes.judge
      { c with lanes := { c.lanes with judge := judge } }) c

/-- RETURN_LOST (R301). -/
def Chip.returnLost (c : Chip) (port path : Nat) : Chip :=
  if !c.retLock port path then c
  else
    let page := mkPage 11 port
    let c := c.set ((if path = 0 then F.SERP_PORT_STATUS_RET0_LOCK else F.SERP_PORT_STATUS_RET1_LOCK).inst port) 0
    let c := { c with lanes := { c.lanes with lost := putLast c.lanes.lost (2 * port + path) } }
    (c.irq page 7).event page .cont (.own 0x11)

/-- RETURN_RELOCK (R301): judging resumes at the next commit. -/
def Chip.returnRelock (c : Chip) (port path : Nat) : Chip :=
  if 3 < port || port = 0 || 1 < path || (port = 3 && path = 1) then c
  else c.set ((if path = 0 then F.SERP_PORT_STATUS_RET0_LOCK else F.SERP_PORT_STATUS_RET1_LOCK).inst port) 1

/-! ### Training (R302, R303) -/

/-- A lane of the panel ports that takes part in training. -/
def Chip.trainLanes (c : Chip) : List (Nat × Nat) :=
  [1, 2].flatMap (fun p => ((c.lanesUsed p).filter (c.laneEn p)).map (fun l => (p, l)))

/-- Training starts: masks fall, since a lane masked in training stays masked until RETRY or the next training. -/
def Chip.trainStart (c : Chip) : Chip :=
  let c := foldOver [1, 2] (fun p c => c.setLaneMask p 0) c
  let c := ((c.set F.SER0_TRAIN_STATUS_PHASE 1).set F.SER0_TRAIN_STATUS_DONE 0).set F.SER0_TRAIN_STATUS_PORT_A_FAIL 0
  let c := (c.statusBit P.SER 3 true).count P.SER 5
  { c with lanes := { c.lanes with training := true, unlocked := [], trainFrames := [], judge := c.lanes.judge.filter (fun e => 192 ≤ e.1) } }

/-- TRAIN_LOCK_CHECK at S + 1.0 ms: a lane fails unless each of its drivers has reported LOCK 1 in its last frame since S;
adaptation starts if asked for. -/
def Chip.trainLockCheck (c : Chip) : Chip :=
  if !c.lanes.training then c
  else
    let locked := fun (e : Nat × Nat) => (c.judgeDrivers e.1 e.2).all (fun g =>
      c.lanes.trainFrames.any (fun f => f.port = e.1 && f.group = g && f.lock))
    let bad := (c.trainLanes.filter (fun e => !locked e)).map (fun e => 64 * e.1 + e.2)
    let c := { c with lanes := { c.lanes with unlocked := bad } }
    c.when (c.on F.SER0_TRAIN_CTRL_ADAPT) (fun c => c.set F.SER0_TRAIN_STATUS_PHASE 2)

/-- The post-cursor settings tried for a profile value (R302). -/
def postTries (p : Nat) : List Nat := (List.range 8).map (fun i => min 15 (p + i - 4))

/-- The winner among results (setting, MARGIN, MKR_ERRS): greatest MARGIN, then fewest errors, then nearest to `p`. -/
def bestPost (p : Nat) (l : List (Nat × Nat × Nat)) : Nat :=
  let dist := fun (s : Nat) => if s ≤ p then p - s else s - p
  let better := fun (a b : Nat × Nat × Nat) =>
    b.2.1 < a.2.1 || (a.2.1 = b.2.1 && (a.2.2 < b.2.2 || (a.2.2 = b.2.2 && dist a.1 < dist b.1)))
  match l with
  | [] => p
  | a :: t => (t.foldl (fun b x => if better x b then x else b) a).1

/-- TRAIN_SETTINGS_APPLY at S + 5.0 ms. `results` gives MARGIN and MKR_ERRS of the eight settings each lane tried, by
port × 64 + lane. -/
def Chip.trainApply (c : Chip) (results : List (Nat × List (Nat × Nat))) : Chip :=
  if !c.lanes.training then c
  else
    let c := foldOver c.trainLanes (fun e c =>
      let f := fun (f : Fld) => (f.inst e.1).ix e.2
      let p := c.act (f F.SERP_TX_SET_POST)
      let got := ((results.find? (fun r => r.1 = 64 * e.1 + e.2)).map (·.2)).getD []
      let win := if c.on F.SER0_TRAIN_CTRL_ADAPT then bestPost p ((postTries p).zip got) else p
      c.set (f F.SERP_TX_SET_POST_USED) win) c
    c.set F.SER0_TRAIN_STATUS_PHASE 3

/-- Port A cannot carry the mode (R303). -/
def Chip.portADead (c : Chip) : Bool :=
  let ctl := c.ctrlLanes
  let deadCtl := ctl.any (fun l => c.laneMasked 1 l && !c.ctrlServed l)
  let data := (c.lanesUsed 1).filter (fun l => !ctl.contains l)
  deadCtl || (!data.isEmpty && data.all (c.laneMasked 1))

/-- TRAIN_JUDGE at S + 7.0 ms: lanes that failed confirmation are masked and port A is checked. `failed` names the lanes
that did not report LOCK 1 or reported new marker errors in their last 3 frames. -/
def Chip.trainJudge (c : Chip) (failed : List Nat) : Chip :=
  if !c.lanes.training then c
  else
    let bad := c.trainLanes.filter (fun e => failed.contains (64 * e.1 + e.2) || c.lanes.unlocked.contains (64 * e.1 + e.2))
    let c := c.set F.SER0_TRAIN_STATUS_PHASE 4
    let c := foldOver bad (fun e c => c.maskLane e.1 e.2) c
    let dead := c.portADead
    let c := c.setB F.SER0_TRAIN_STATUS_PORT_A_FAIL dead
    c.when (dead && c.ladder.fatal.isNone) (fun c => c.event (mkPage 11 1) .fatal (.own 0x10))

/-- Training ends with its slot. -/
def Chip.trainEnd (c : Chip) : Chip :=
  if !c.lanes.training then c
  else
    let c := (c.set F.SER0_TRAIN_STATUS_PHASE 0).set F.SER0_TRAIN_STATUS_DONE 1
    let c := (c.statusBit P.SER 3 false).irq P.SER 8
    { c with lanes := { c.lanes with training := false, unlocked := [] } }

/-! ### Eye scan and checks (R305) -/

/-- EYE_SCAN_DONE: the result of a running scan. -/
def Chip.eyeDone (c : Chip) (width height : Nat) : Chip :=
  if !c.is F.SER0_EYE_CTRL_START then c
  else
    let c := (c.set F.SER0_EYE_RESULT_WIDTH width).set F.SER0_EYE_RESULT_HEIGHT height
    (c.set F.SER0_EYE_RESULT_VALID 1).set F.SER0_EYE_CTRL_START 0

/-- SER[0]'s check at plan lock: the first offending offset. -/
def Chip.serBad (c : Chip) : Option Nat :=
  if c.lck F.SER0_FAIL_CTRL_FAIL_FIELDS = 0 || c.lck F.SER0_FAIL_CTRL_BAD_LIMIT = 0 then some 0x10C
  else if c.lck F.SER0_GATE_GATE_OFF ≤ c.lck F.SER0_GATE_GATE_ON then some 0x124
  else none

/-- The forward rate of a mode as SER.RATE.FWD encodes it (R284 Table 1). -/
def rateCode (gbps : Nat) : Nat := if gbps = 8 then 2 else if gbps = 16 then 3 else if gbps = 32 then 5 else 0

end Sys2Proof.Machine
end

