-- ==== Sys2Proof/Machine/CdcJobs.lean ====
section
/-!
DEFINITION. Machine/CdcJobs.lean: the codec's job ring (R137 to R144): posting, the checks of R138, starting, encoding,
decoding and capturing with trailers, flushes and the chained buffer, abort, and the result words.
-/

namespace Sys2Proof.Machine

/-! ### Descriptors (R138) -/

/-- The format that a FORMAT value names. -/
def fmtOf (n : Nat) : Option Fmt := [Fmt.lt48, .lt40, .px30, .ov32][n]?

/-- A CDC job descriptor's fields. -/
structure JobSpec where
  start : Nat
  op : Nat
  fmt : Fmt
  ratio : Nat
  trailers : Bool
  irq : Bool
  aliveCheck : Bool
  width : Nat
  height : Nat
  raw : Nat
  pitch : Nat
  coded : Nat
  codedSize : Nat
  chain : Nat
  chainSize : Nat
  alive : Nat
  groupLen : Nat
  deriving DecidableEq, Repr

/-- The fields of a descriptor's words 0 to 11. -/
def jobSpec (ws : List Nat) : JobSpec :=
  let w := fun i => ws.getD i 0
  let len := bitsOf (w 11) 22 16
  { start := w 0 % 4, op := bitsOf (w 0) 3 2, fmt := (fmtOf (bitsOf (w 0) 6 4)).getD .px30, ratio := bitsOf (w 0) 8 7
    trailers := bit (w 0) 9, irq := bit (w 0) 10, aliveCheck := bit (w 0) 11, width := w 1 % 65536, height := w 1 / 65536
    raw := w 2 + w 3 % 256 * 2 ^ 32, pitch := w 4 % 2 ^ 24, coded := w 5 + w 6 % 256 * 2 ^ 32, codedSize := w 7
    chain := w 8 + w 9 % 256 * 2 ^ 32, chainSize := w 10, alive := w 11 % 65536, groupLen := if len = 0 then 64 else len }

/-- Block columns, blocks in all, and the coded size of one block. -/
def JobSpec.cols (j : JobSpec) : Nat := j.width / 8
def JobSpec.blocks (j : JobSpec) : Nat := j.width / 8 * (j.height / 8)
def JobSpec.size (j : JobSpec) : Nat := (j.fmt.blockBytes j.ratio).getD 0

/-- The checks of R138 fail. -/
def Chip.jobBad (c : Chip) (ws : List Nat) : Bool :=
  let w := fun i => ws.getD i 0
  let j := jobSpec ws
  let dim := fun n => n % 8 ≠ 0 || n < 8 || 32760 < n
  let cap := decide (j.op = 2)
  j.start = 3 || j.op = 3 || 4 ≤ bitsOf (w 0) 6 4 || (j.fmt.blockBytes j.ratio).isNone || bitsOf (w 0) 15 12 ≠ 0
    || (cap && (j.start ≠ 2 || j.fmt ≠ .px30 || j.width ≠ c.timing.width || j.height ≠ c.timing.height))
    || dim j.width || dim j.height || 64 < j.groupLen || bitsOf (w 11) 31 23 ≠ 0
    || (!cap && (j.pitch < j.width * j.fmt.imageBytes
      || !c.memMapped j.raw ((j.height - 1) * j.pitch + j.width * j.fmt.imageBytes)))
    || j.coded % 8 ≠ 0 || !c.memMapped j.coded j.codedSize
    || (0 < j.chainSize && (j.chain % 8 ≠ 0 || !c.memMapped j.chain j.chainSize))

/-! ### Encoding (R129 to R132, R141, R142) -/

/-- The state of an encode: the buffer in use, bytes used in each, the open group's blocks and its texel images, whole
blocks written, stores to make (newest first), and whether it ran out of space. -/
structure Enc where
  chained : Bool := false
  used0 : Nat := 0
  used1 : Nat := 0
  cnt : Nat := 0
  images : List Byte := []
  padded : Bool := false
  blocks : Nat := 0
  moves : Nat := 0
  full : Bool := false
  out : List (Nat × List Byte) := []
  deriving DecidableEq, Repr

/-- Bytes written at the end of the buffer in use. -/
def Enc.put (e : Enc) (j : JobSpec) (l : List Byte) : Enc :=
  if e.chained then { e with out := (j.chain + e.used1, l) :: e.out, used1 := e.used1 + l.length }
  else { e with out := (j.coded + e.used0, l) :: e.out, used0 := e.used0 + l.length }

/-- The open group closed by its trailer (R100 Table 4). -/
def Enc.close (e : Enc) (j : JobSpec) (rowEnd flushed : Bool) : Enc :=
  if !j.trailers || e.cnt = 0 then { e with cnt := 0, images := [], padded := false }
  else
    let t := leBytes 8 (crc32c e.images + j.alive * 2 ^ 32 + e.cnt * 2 ^ 48 + b2n rowEnd * 2 ^ 56 + b2n flushed * 2 ^ 57
      + b2n e.padded * 2 ^ 58)
    { e.put j t with cnt := 0, images := [], padded := false }

/-- The buffer in use has room for one more block, and for a trailer after it. -/
def Enc.room (e : Enc) (j : JobSpec) : Bool :=
  let need := j.size + (if j.trailers then 8 else 0)
  if e.chained then e.used1 + need ≤ j.chainSize else e.used0 + need ≤ j.codedSize

/-- Room found for the next block: in the buffer in use, or after the move to the chained buffer, or none (R141, R142). -/
def Enc.makeRoom (e : Enc) (j : JobSpec) : Enc :=
  if e.room j then e
  else
    let e := e.close j false true
    if e.chained || j.chainSize = 0 then { e with full := true }
    else
      let e := { e with chained := true, moves := e.moves + 1 }
      if e.room j then e else { e with full := true }

/-- Texels as a flush after `n` of them leaves the block (R132). -/
def padTexels (ts : List (List Nat)) (n : Nat) : List (List Nat) :=
  ts.take n ++ List.replicate (64 - n) ((ts.take n).getLastD [])

/-- Block `i` of the surface, with the flushes that met it: before any of its texels, or after `n` of them. -/
def Enc.block (j : JobSpec) (flushAt : List Nat) (e : Enc) (i : Nat) (ts : List (List Nat)) : Enc :=
  if e.full then e
  else
    let e := if flushAt.contains (64 * i) then e.close j false true else e
    let e := e.makeRoom j
    if e.full then e
    else
      let part := flushAt.find? (fun p => p / 64 = i && p % 64 ≠ 0)
      let ts := match part with
        | some p => padTexels ts (p % 64)
        | none => ts
      let bytes := encodeBlock j.fmt j.ratio ts
      let e := e.put j bytes
      let e := { e with cnt := e.cnt + 1, blocks := e.blocks + 1, padded := e.padded || part.isSome
                        images := e.images ++ blockImages j.fmt (decodeBlock j.fmt j.ratio bytes) }
      let rowEnd := decide ((i + 1) % j.cols = 0)
      if rowEnd then e.close j true false
      else if e.cnt = j.groupLen then e.close j false false
      else if part.isSome then e.close j false true
      else e

/-- The first `n` blocks encoded; an open group left by a stop is closed with FLUSHED set. -/
def encodeRun (j : JobSpec) (flushAt : List Nat) (texels : Nat → List (List Nat)) (n : Nat) : Enc :=
  let e : Enc := (List.range n).foldl (fun e i => Enc.block j flushAt e i (texels i)) {}
  e.close j false true

/-- The 64 texels of block `i` of a raw surface. -/
def Chip.rawTexels (m : Memory) (c : Chip) (j : JobSpec) (i : Nat) : List (List Nat) :=
  let bx := i % j.cols
  let bt := i / j.cols
  (List.range 64).map (fun t =>
    imageTexel j.fmt (c.loads m (j.raw + (8 * bt + t / 8) * j.pitch + (8 * bx + t % 8) * j.fmt.imageBytes) j.fmt.imageBytes))

/-- The 64 texels of block `i` of the captured field; each texel of a row that the field did not carry is a free value of its
own. -/
def Chip.tappedTexels (c : Chip) (j : JobSpec) (i : Nat) : List (List Nat) :=
  let bx := i % j.cols
  let bt := i / j.cols
  (List.range 64).map (fun t =>
    let row := (c.cdc.captured.find? (fun r => r.1 = 8 * bt + t / 8)).map (·.2)
    let v := match row with
      | some l => l.getD (8 * bx + t % 8) 0
      | none => Config.freeNat (c.fresh + 64 * i + t)
    [v % 1024, v / 2 ^ 10 % 1024, v / 2 ^ 20 % 1024])

/-! ### Decoding (R138, R140, R141, R126) -/

/-- The state of a decode. -/
structure Dec where
  chained : Bool := false
  used0 : Nat := 0
  used1 : Nat := 0
  cnt : Nat := 0
  images : List Byte := []
  blocks : Nat := 0
  moves : Nat := 0
  full : Bool := false
  invalid : Nat := 0
  checkFail : Bool := false
  aliveFail : Bool := false
  out : List (Nat × List Byte) := []
  deriving DecidableEq, Repr

/-- The address a decode reads next. -/
def Dec.at_ (d : Dec) (j : JobSpec) : Nat := if d.chained then j.chain + d.used1 else j.coded + d.used0

/-- `n` bytes of the buffer in use consumed. -/
def Dec.eat (d : Dec) (n : Nat) : Dec := if d.chained then { d with used1 := d.used1 + n } else { d with used0 := d.used0 + n }

/-- Room for one more block, and for a trailer after it. -/
def Dec.room (d : Dec) (j : JobSpec) : Bool :=
  let need := j.size + (if j.trailers then 8 else 0)
  if d.chained then d.used1 + need ≤ j.chainSize else d.used0 + need ≤ j.codedSize

/-- The open group's trailer read at the position reached. -/
def Dec.trailerAt (d : Dec) (m : Memory) (c : Chip) (j : JobSpec) : Dec :=
  if !j.trailers || d.cnt = 0 then { d with cnt := 0, images := [] }
  else
    let t := c.loadLE m (d.at_ j) 8
    let d := { d with checkFail := d.checkFail || decide (t % 2 ^ 32 ≠ crc32c d.images)
                      aliveFail := d.aliveFail || (j.aliveCheck && decide (t / 2 ^ 32 % 65536 ≠ j.alive)) }
    { d.eat 8 with cnt := 0, images := [] }

/-- The 8 bytes at the position reached are a flushed trailer of the open group (as in R568). -/
def Dec.flushedHere (d : Dec) (m : Memory) (c : Chip) (j : JobSpec) : Bool :=
  let t := c.loadLE m (d.at_ j) 8
  j.trailers && (!j.aliveCheck || t / 2 ^ 32 % 65536 = j.alive) && t / 2 ^ 48 % 256 = d.cnt
    && (t / 2 ^ 56 = 2 || t / 2 ^ 56 = 6)

/-- Block `i` decoded and written to the raw surface. -/
def Dec.block (m : Memory) (c : Chip) (j : JobSpec) (d : Dec) (i : Nat) : Dec :=
  if d.full then d
  else
    let d := if d.room j then d
      else
        let d := d.trailerAt m c j
        if d.chained || j.chainSize = 0 then { d with full := true }
        else
          let d := { d with chained := true, moves := d.moves + 1 }
          if d.room j then d else { d with full := true }
    if d.full then d
    else
      let bytes := c.loads m (d.at_ j) j.size
      let ts := decodeBlock j.fmt j.ratio bytes
      let bx := i % j.cols
      let bt := i / j.cols
      let put := (List.range 8).map (fun y =>
        (j.raw + (8 * bt + y) * j.pitch + 8 * bx * j.fmt.imageBytes, blockImages j.fmt ((ts.drop (8 * y)).take 8)))
      let ok := blockValid j.fmt j.ratio (leNat (bytes.take 1))
      let d := { d.eat j.size with cnt := d.cnt + 1, blocks := d.blocks + 1, invalid := d.invalid + b2n (!ok)
                                   images := d.images ++ blockImages j.fmt ts, out := put.reverse ++ d.out }
      if (i + 1) % j.cols = 0 || d.cnt = j.groupLen || d.flushedHere m c j then d.trailerAt m c j else d

/-- The first `n` blocks decoded. -/
def decodeRun (m : Memory) (c : Chip) (j : JobSpec) (n : Nat) : Dec :=
  (List.range n).foldl (fun d i => Dec.block m c j d i) {}

/-! ### The ring (R137, R140) -/

/-- Entries of the ring. -/
def Chip.jobEntries (c : Chip) : Nat := min 256 (c.get F.CDC_JOB_SIZE_ENTRIES)

/-- The address of slot `i`'s descriptor. -/
def Chip.jobAddr (c : Chip) (i : Nat) : Nat := c.addrGet F.CDC_JOB_BASE_LO_ADDR_LO F.CDC_JOB_BASE_HI_ADDR_HI + 64 * i

/-- Words 0 to 11 of slot `i`'s descriptor. -/
def Chip.jobWords (m : Memory) (c : Chip) (i : Nat) : List Nat :=
  (List.range 12).map (fun k => c.loadLE m (c.jobAddr i + 4 * k) 4)

/-- The open plan's field number (R22 Table 5): the plan a write or a posted job joins now. -/
def Chip.openPlan (c : Chip) : Nat := c.tick.field + (if c.tick.planLocked then 2 else 1)

/-- A posted job or command may start: ASAP, or its plan has committed (R20). -/
def Chip.due (c : Chip) (p : Posted) : Bool :=
  !(p.start = 1 || p.start = 2) || signedDiff 32 p.plan c.tick.field ≤ 0

/-- JOB_TAIL's flags and RING_FULL follow the ring. -/
def Chip.cdcFlags (c : Chip) : Chip :=
  let waiting := c.cdc.running.isNone && (match c.cdc.posted with
    | p :: _ => !c.due p
    | [] => false)
  let n := c.jobEntries
  let full := 0 < n && (c.get F.CDC_JOB_HEAD_HEAD + 1) % n = c.get F.CDC_JOB_TAIL_TAIL % n
  let cap := match c.cdc.running with
    | some r => decide ((jobSpec r.words).op = 2)
    | none => false
  (((c.setB F.CDC_JOB_TAIL_RUNNING c.cdc.running.isSome).setB F.CDC_JOB_TAIL_WAITING waiting).statusBit P.CDC 4 full).statusBit
    P.CDC 3 cap

/-- A job or the CDC ring is posted or running: JOB_BASE and JOB_SIZE refuse writes (R145). -/
def Chip.cdcBusy (c : Chip) : Bool := c.cdc.running.isSome || !c.cdc.posted.isEmpty

/-- CDC_JOB_POST: a write of JOB_HEAD. -/
def Chip.jobPost (m : Memory) (c : Chip) (v : Nat) : Chip :=
  let n := c.jobEntries
  let head := c.get F.CDC_JOB_HEAD_HEAD
  let used := (head + n - c.get F.CDC_JOB_TAIL_TAIL) % n
  let new := (v + n - head) % n
  if n = 0 || n ≤ v || n ≤ used + new then c
  else
    let slots := (List.range new).map (fun i => (head + i) % n)
    let post := fun (i : Nat) =>
      let ws := c.jobWords m i
      let start := ws.headD 0 % 4
      let bad := start = 3 || (start = 0 && c.jobBad ws)
      ({ index := i, start := start, plan := if start = 1 || start = 2 then c.openPlan else 0
         doom := if bad then some 5 else none, words := if start = 0 then some ws else none } : Posted)
    let c := { c with cdc := { c.cdc with
      posted := c.cdc.posted ++ slots.map post
      done := c.cdc.done.filter (fun i => !slots.contains i) } }
    (c.set F.CDC_JOB_HEAD_HEAD v).cdcFlags

/-- The job at TAIL ends: result words 12 to 15 are written, then TAIL advances (R140, R146). -/
def Chip.jobEnd (c : Chip) (i status blocks used0 used1 : Nat) (inChain irq : Bool) : Chip :=
  let a := c.jobAddr i
  let c := c.when (c.memMapped a 64) (fun c =>
    c.stores (a + 48) (leBytes 4 (status + 512 * b2n inChain) ++ leBytes 4 blocks ++ leBytes 4 used0 ++ leBytes 4 used1))
  let c := c.count P.CDC (if status = 1 then 5 else 6)
  let c := (c.when irq (fun c => c.irq P.CDC 6)).when (status ≠ 1) (fun c => c.irq P.CDC 7)
  let c := { c with cdc := { c.cdc with running := none, captured := [], done := putLast c.cdc.done i } }
  (c.set F.CDC_JOB_TAIL_TAIL ((i + 1) % max 1 c.jobEntries)).cdcFlags

/-- CDC_JOB_START: the job at TAIL is checked as it reaches the head of the ring, and starts once its plan has committed, or
ends at once as it was doomed to (R137, R138). -/
def Chip.jobStart (m : Memory) (c : Chip) : Chip :=
  match c.cdc.running, c.cdc.posted with
  | none, p :: rest =>
    let ws := p.words.getD (c.jobWords m p.index)
    let doom := if p.doom.isNone && p.words.isNone && c.jobBad ws then some 5 else p.doom
    match doom with
    | some st => ({ c with cdc := { c.cdc with posted := rest } }).jobEnd p.index st 0 0 0 false (jobSpec ws).irq
    | none =>
      if !c.due p then { c with cdc := { c.cdc with posted := { p with words := some ws } :: rest } }
      else ({ c with cdc := { c.cdc with
        posted := rest, running := some ⟨p.index, p.start, ws, [], p.plan⟩, captured := [] } }).cdcFlags
  | _, _ => c

/-- The stores of a run, given newest first, made oldest first. -/
def Chip.storeRuns (c : Chip) (l : List (Nat × List Byte)) : Chip := foldOver l.reverse (fun e c => c.stores e.1 e.2) c

/-- The bytes of a raw surface's first `n` blocks, row by row. -/
def JobSpec.rawRanges (j : JobSpec) (n : Nat) : List (Nat × Nat) :=
  (List.range j.height).filterMap (fun y =>
    let k := min j.cols (n - y / 8 * j.cols)
    if k = 0 then none else some (j.raw + y * j.pitch, 8 * k * j.fmt.imageBytes))

/-- The running job stops after `n` of its blocks with `stop` as its status if it is not done (`none`: it completes).
`parity` says what its reads met. A DECODE job that runs out of its buffers ends OUT_OF_SPACE, which
Table 9 gives for ENCODE and CAPTURE (DESIGN CHOICE, log 93). -/
def Chip.jobFinish (m : Memory) (c : Chip) (r : CdcJob) (n : Nat) (stop : Option Nat) (parity : ReadFault) : Chip :=
  let j := jobSpec r.words
  let c := c.when (stop.isNone && decide (r.start = 1)) (fun c =>
    { c with cdc := { c.cdc with tickDone := putLast c.cdc.tickDone r.index } })
  if j.op = 1 then
    let d := decodeRun m c j n
    let rd0 := c.engineReads P.CDC 2 [(j.coded, d.used0), (j.chain, d.used1)] parity
    let c := (rd0.2.storeRuns d.out).count P.CDC 8 d.moves
    let c := c.when (0 < d.invalid) (fun c => (c.count P.CDC 4 d.invalid).irq P.CDC 8)
    let st := stop.getD (if rd0.1 then 8 else if 0 < d.invalid then 9 else if d.checkFail then 6 else if d.aliveFail then 7
      else if d.full then 2 else 1)
    c.jobEnd r.index st d.blocks d.used0 d.used1 d.chained j.irq
  else
    let e := encodeRun j r.flushAt (if j.op = 0 then c.rawTexels m j else c.tappedTexels j) n
    let rd := if j.op = 0 then c.engineReads P.CDC 2 (j.rawRanges e.blocks) parity else (false, c)
    let c := ((rd.2.storeRuns e.out).count P.CDC 8 e.moves).count P.CDC 1 e.blocks
    let c := c.when (j.op = 2 && decide (c.cdc.captured.length < j.height)) (fun c => { c with fresh := c.fresh + 64 * j.blocks })
    let st := stop.getD (if rd.1 then 8 else if e.full then 2 else 1)
    c.jobEnd r.index st e.blocks e.used0 e.used1 e.chained j.irq

/-- CDC_JOB_COMPLETE. A CAPTURE job completes at the end of its field's last active line (R139). -/
def Chip.jobComplete (m : Memory) (c : Chip) (parity : ReadFault) : Chip :=
  match c.cdc.running with
  | none => c
  | some r =>
    let j := jobSpec r.words
    if j.op = 2 && c.tick.field = r.plan && c.scan.next < c.timing.total then c else c.jobFinish m r j.blocks none parity

/-- The texels that the running job can have received, in the order in which it encodes them: those of the rows tapped for a
CAPTURE, whose blocks are taken up row of blocks by row of blocks. -/
def Chip.jobReceived (c : Chip) (j : JobSpec) : Nat :=
  let rows := c.cdc.captured.length
  if j.op = 2 then min (64 * j.blocks) (64 * j.cols * (rows / 8) + 8 * (rows % 8)) else 64 * j.blocks

/-- How many whole blocks the running job had completed when it was stopped: a free value, no fewer than its flushes had
completed and no more than the texels it received. -/
def Chip.jobProgress (c : Chip) (r : CdcJob) : Nat :=
  let j := jobSpec r.words
  let least := min j.blocks (ceilDiv (r.flushAt.foldl max 0) 64)
  least + c.freeNat % (c.jobReceived j / 64 + 1 - least)

/-- The running job stops where it stands with `status` (R143). -/
def Chip.jobStop (m : Memory) (c : Chip) (r : CdcJob) (status : Nat) : Chip :=
  let n := c.jobProgress r
  (c.drew).jobFinish m r n (some status) .clean

/-- ABORT_LATE in the result words of a slot that has completed. -/
def Chip.abortLate (m : Memory) (c : Chip) (i : Nat) : Chip :=
  let a := c.jobAddr i + 49
  c.when (c.memMapped a 1) (fun c => c.store a (c.load m a ||| 1))

/-- CDC_JOB_ABORT. -/
def Chip.jobAbort (m : Memory) (c : Chip) (index : Nat) (all : Bool) : Chip :=
  let hit := fun (i : Nat) => all || i = index
  let late := !all && c.cdc.done.contains index && !(c.cdc.posted.any (fun (p : Posted) => decide (p.index = index)))
    && !(match c.cdc.running with | some r => decide (r.index = index) | none => false)
  let c := { c with cdc := { c.cdc with
    posted := c.cdc.posted.map (fun (p : Posted) => if hit p.index then { p with doom := some 3 } else p) } }
  let c := match c.cdc.running with
    | some r => if hit r.index then c.jobStop m r 3 else c
    | none => c
  if late then c.abortLate m index else c

/-- CDC_FLUSH (R144): the texels the running job had received are a free value, never below its last flush nor above what it
can have received. -/
def Chip.jobFlush (c : Chip) : Chip :=
  match c.cdc.running with
  | none => c
  | some r =>
    let j := jobSpec r.words
    if j.op = 1 then c
    else
      let last := r.flushAt.foldl max 0
      let p := last + c.freeNat % (c.jobReceived j + 1 - last)
      let r := { r with flushAt := r.flushAt ++ [p] }
      ({ c with cdc := { c.cdc with running := some r } }.drew).count P.CDC 7

/-- TICK jobs at the synthesis deadline (R21): one that has completed gets ABORT_LATE; unfinished, the running one stops with
DEADLINE, and one that waits to start in this interval is doomed to it. Also whether there was one (BUDGET.OVERRUN). -/
def Chip.jobDeadline (m : Memory) (c : Chip) : Bool × Chip :=
  let due := fun (p : Posted) => decide (p.start = 1) && c.due p && p.doom.isNone
  let any := c.cdc.posted.any due
  let late := c.cdc.tickDone.filter c.cdc.done.contains
  let c := foldOver late (fun (i : Nat) (c : Chip) => c.abortLate m i) { c with cdc := { c.cdc with tickDone := [] } }
  let c := { c with cdc := { c.cdc with
    posted := c.cdc.posted.map (fun (p : Posted) => if due p then { p with doom := some 4 } else p) } }
  match c.cdc.running with
  | some r => if r.start = 1 then (true, c.jobStop m r 4) else (any, c)
  | none => (any, c)

/-- All posted and running jobs end ABORTED, as a block reset discards them (R57, R140). -/
def Chip.jobsDiscard (m : Memory) (c : Chip) : Chip :=
  let c := match c.cdc.running with
    | some r => c.jobStop m r 3
    | none => c
  let c := foldOver c.cdc.posted (fun (p : Posted) (c : Chip) => c.jobEnd p.index 3 0 0 0 false false) c
  { c with cdc := {} }

end Sys2Proof.Machine
end

