-- ==== Sys2Proof/Machine/Blt.lean ====
section
/-!
DEFINITION. Machine/Blt.lean: the 2D engine (chapter 11): the command ring, the checks of R246, raster operations, the
order of processing, rows held behind the beam, the watermark, abort and the result words.
-/

namespace Sys2Proof.Machine

/-! ### Descriptors (R244) -/

/-- A rectangle with signed corners, exclusive at its end. -/
structure SRect where
  x0 : Int
  y0 : Int
  x1 : Int
  y1 : Int
  deriving DecidableEq, Repr

/-- A pixel lies in a signed rectangle. -/
def SRect.has (r : SRect) (x y : Int) : Bool := r.x0 ≤ x && x < r.x1 && r.y0 ≤ y && y < r.y1

/-- The signed halves of a word. -/
def lowHalf (w : Nat) : Int := signed 16 w
def highHalf (w : Nat) : Int := signed 16 (w / 65536)

/-- The rectangle of a corner pair of words. -/
def sRect (tl br : Nat) : SRect := ⟨lowHalf tl, highHalf tl, lowHalf br, highHalf br⟩

/-- A surface: base, pitch and size. -/
structure Surface where
  addr : Nat
  pitch : Nat
  w : Nat
  h : Nat
  deriving DecidableEq, Repr

/-- A surface from its four words. -/
def surfaceOf (a b size : Nat) : Surface := ⟨a + b % 256 * 2 ^ 32, b / 256, size % 65536, size / 65536⟩

/-- The bytes of a surface from its base. -/
def Surface.bytes (s : Surface) : Nat := (s.h - 1) * s.pitch + 4 * s.w

/-- The fields of a command. -/
structure BltSpec where
  rop : Nat
  pat : Nat
  excl : List SRect
  irq : Bool
  wmRow : Option Int
  beam : Bool
  plane : Nat
  porgX : Nat
  porgY : Nat
  src : Surface
  dst : Surface
  sx : Int
  sy : Int
  dx : Int
  dy : Int
  w : Nat
  h : Nat
  fg : Nat
  bg : Nat
  patData : Nat
  clip : SRect
  tag : Nat
  deriving DecidableEq, Repr

/-- The fields of a descriptor's words. -/
def bltSpec (ws : List Nat) : BltSpec :=
  let w := fun i => ws.getD i 0
  { rop := bitsOf (w 0) 9 2, pat := bitsOf (w 0) 11 10
    excl := (List.range (min 8 (bitsOf (w 0) 15 12))).map (fun e => sRect (w (16 + 2 * e)) (w (17 + 2 * e)))
    irq := bit (w 0) 16, wmRow := if bit (w 0) 17 then some (highHalf (w 32)) else none
    beam := bit (w 0) 18, plane := bitsOf (w 0) 21 19, porgX := bitsOf (w 0) 24 22, porgY := bitsOf (w 0) 27 25
    src := surfaceOf (w 1) (w 2) (w 3), dst := surfaceOf (w 4) (w 5) (w 6)
    sx := lowHalf (w 7), sy := highHalf (w 7), dx := lowHalf (w 8), dy := highHalf (w 8), w := w 9 % 65536, h := w 9 / 65536
    fg := w 10, bg := w 11, patData := w 12 + w 13 * 2 ^ 32, clip := sRect (w 14) (w 15), tag := w 32 % 65536 }

/-- BLT reads S, D or P under a raster operation (R247). -/
def BltSpec.readsS (b : BltSpec) : Bool := (b.rop &&& 0xCC) / 4 ≠ b.rop &&& 0x33
def BltSpec.readsD (b : BltSpec) : Bool := (b.rop &&& 0xAA) / 2 ≠ b.rop &&& 0x55
def BltSpec.readsP (b : BltSpec) : Bool := (b.rop &&& 0xF0) / 16 ≠ b.rop &&& 0x0F

/-- A BEAM command's plane is disabled or coded in the active set, as it is judged at the command's start (R246). -/
def Chip.beamPlaneBad (c : Chip) (b : BltSpec) : Bool :=
  b.beam && (c.act (F.SCN_PLANE_CTRL_EN.ix (b.plane - 1)) ≠ 1 || !rawFmt (c.act (F.SCN_PLANE_CTRL_FMT.ix (b.plane - 1))))

/-- The checks of R138 and R246: the lowest offending word. Source fields are judged where S is read (R247); that a colour
pattern's alignment is judged wherever PAT names one is DEDUCED (log 43). -/
def Chip.bltBad (c : Chip) (ws : List Nat) : Option Nat :=
  let w := fun i => ws.getD i 0
  let b := bltSpec ws
  let size := fun n => n = 0 || 32768 < n
  let noPlane := b.beam && !(1 ≤ b.plane && b.plane ≤ 4)
  let colour := decide (b.pat = 2)
  let bad : List (Bool × Nat) :=
    [(w 0 % 4 = 3 || b.pat = 3 || 8 < bitsOf (w 0) 15 12 || 0 < bitsOf (w 0) 31 28 || noPlane, 0),
    (b.readsS && (b.src.addr % 4 ≠ 0 || !c.memMapped b.src.addr b.src.bytes), 1),
    (b.readsS && (b.src.pitch % 4 ≠ 0 || b.src.pitch < 4 * b.src.w), 2),
    (b.readsS && (size b.src.w || size b.src.h), 3),
    (b.dst.addr % 4 ≠ 0 || !c.memMapped b.dst.addr b.dst.bytes, 4),
    (b.dst.pitch % 4 ≠ 0 || b.dst.pitch < 4 * b.dst.w, 5),
    (size b.dst.w || size b.dst.h, 6),
    (32768 < b.w || 32768 < b.h, 9),
    (colour && (b.patData % 64 ≠ 0 || (b.readsP && !c.memMapped (b.patData % 2 ^ 40) 256)), 12),
    (colour && 0 < b.patData / 2 ^ 40, 13)]
    ++ (List.range 5).map (fun i => (decide (w (35 + i) ≠ 0), 35 + i))
  (bad.find? (·.1)).map (·.2)

/-! ### Pixels (R247 to R249) -/

/-- The result of a raster operation, bit by bit. -/
def ropWord (rop p s d : Nat) : Nat :=
  (List.range 32).foldl (fun n b =>
    n + b2n (bit rop (4 * b2n (bit p b) + 2 * b2n (bit s b) + b2n (bit d b))) * 2 ^ b) 0

/-- Rows in processing order, counted from 0: the destination row. -/
def BltSpec.rowAt (b : BltSpec) (i : Nat) : Int :=
  let same := b.readsS && b.src.addr = b.dst.addr && b.src.pitch = b.dst.pitch
  if same && decide (b.sy < b.dy) then b.dy + b.h - 1 - i else b.dy + i

/-- Pixel columns of a row in processing order. -/
def BltSpec.colsOrder (b : BltSpec) : List Int :=
  let same := b.readsS && b.src.addr = b.dst.addr && b.src.pitch = b.dst.pitch
  let l := (List.range b.w).map (fun (i : Nat) => b.dx + (i : Int))
  if same && decide (b.sx < b.dx) then l.reverse else l

/-- A destination pixel is written (R248). -/
def BltSpec.writes (b : BltSpec) (x y : Int) : Bool :=
  0 ≤ x && x < b.dst.w && 0 ≤ y && y < b.dst.h && b.clip.has x y && !b.excl.any (fun e => e.has x y)

/-- The device address of a pixel of a surface. -/
def Surface.at_ (s : Surface) (x y : Int) : Nat := s.addr + y.toNat * s.pitch + 4 * x.toNat

/-- The result for destination pixel (x, y). -/
def Chip.bltPixel (m : Memory) (c : Chip) (b : BltSpec) (x y : Int) : Nat :=
  let sx := x - b.dx + b.sx
  let sy := y - b.dy + b.sy
  let s := if 0 ≤ sx && sx < b.src.w && 0 ≤ sy && sy < b.src.h && b.readsS then c.loadLE m (b.src.at_ sx sy) 4 else 0
  let d := if b.readsD then c.loadLE m (b.dst.at_ x y) 4 else 0
  let px := ((x - b.porgX) % 8).toNat
  let py := ((y - b.porgY) % 8).toNat
  let p := match b.pat with
    | 0 => b.fg
    | 1 => if bit b.patData (8 * py + px) then b.fg else b.bg
    | _ => if b.readsP then c.loadLE m (b.patData + 4 * (8 * py + px)) 4 else 0
  ropWord b.rop p s d

/-- The 64-byte destination spans of a row, in processing order: the columns written in each. -/
def BltSpec.spans (b : BltSpec) (y : Int) : List (List Int) :=
  let cols := b.colsOrder.filter (fun x => b.writes x y)
  let ids := (cols.map (fun x => b.dst.at_ x y / 64)).eraseDups
  ids.map (fun i => cols.filter (fun x => b.dst.at_ x y / 64 = i))

/-- One span: its operands are read, then its pixels are written (R249). -/
def Chip.bltSpan (m : Memory) (c : Chip) (b : BltSpec) (y : Int) (xs : List Int) : Chip :=
  let vals := xs.map (fun x => (b.dst.at_ x y, c.bltPixel m b x y))
  foldOver vals (fun v c => c.storeLE v.1 4 v.2) c

/-! ### The ring (R243, R244) -/

/-- The address of slot `i`'s descriptor. -/
def Chip.bltAddr (c : Chip) (i : Nat) : Nat := c.addrGet F.BLT_RING_BASE_LO_ADDR_LO F.BLT_RING_BASE_HI_ADDR_HI + 160 * i

/-- Words 0 to 39 of slot `i`'s descriptor. -/
def Chip.bltWords (m : Memory) (c : Chip) (i : Nat) : List Nat :=
  (List.range 40).map (fun k => c.loadLE m (c.bltAddr i + 4 * k) 4)

/-- The row a running BEAM command waits for: its screen row where it is held now (R252). -/
def Chip.beamHeld (c : Chip) (r : BltCmd) : Option Int :=
  let b := bltSpec r.words
  if !b.beam || b.h ≤ r.rows || (c.timingOf c.modeId).isNone || !c.is ⟨P.SCN + 0x00C, 3, 1, 4⟩ then none
  else
    let n := b.plane - 1
    let dy : Int := c.act (F.SCN_PLANE_DST_DY.ix n)
    let row := dy + b.rowAt r.rows - (c.act (F.SCN_PLANE_SRC_SY.ix n) : Int)
    let a : Int := (c.get F.SCN_LINE_STATUS_LINE : Int) - c.timing.blank
    let margin : Int := max 1 (c.act F.BLT_BEAM_CTRL_MARGIN)
    if row < dy || dy + (c.act (F.SCN_PLANE_SIZE_H.ix n) : Int) ≤ row || row < a - margin then none else some row

/-- RING_TAIL's flags, RING_COUNT and BEAM_STATUS follow the ring; a row newly held is counted. -/
def Chip.bltFlags (c : Chip) : Chip :=
  let waiting := c.blt.running.isNone && (match c.blt.posted with
    | p :: _ => !c.due p
    | [] => false)
  let held := c.blt.running.bind c.beamHeld
  let c := (c.setB F.BLT_RING_TAIL_RUNNING c.blt.running.isSome).setB F.BLT_RING_TAIL_WAITING waiting
  let c := (c.setB F.BLT_RING_TAIL_HELD held.isSome).setB F.BLT_BEAM_STATUS_VALID held.isSome
  let c := c.when held.isSome (fun c => c.setZ F.BLT_BEAM_STATUS_ROW (held.getD 0))
  let c := c.set F.BLT_RING_COUNT_POSTED (c.blt.posted.length + b2n c.blt.running.isSome)
  match c.blt.running, held with
  | some r, some _ =>
    if r.counted then c
    else { c with blt := { c.blt with running := some { r with held := true, counted := true } } }.count P.BLT 2
  | _, _ => c

/-- A command is posted or running: RING_BASE refuses writes. -/
def Chip.bltBusy (c : Chip) : Bool := c.blt.running.isSome || !c.blt.posted.isEmpty

/-- BLT_CMD_POST: a write of RING_HEAD. -/
def Chip.bltPost (m : Memory) (c : Chip) (v : Nat) : Chip :=
  let head := c.get F.BLT_RING_HEAD_HEAD
  let used := (head + 256 - c.get F.BLT_RING_TAIL_TAIL) % 256
  let new := (v + 256 - head) % 256
  if 256 ≤ used + new then c
  else
    let slots := (List.range new).map (fun i => (head + i) % 256)
    let post := fun (i : Nat) =>
      let ws := c.bltWords m i
      let start := ws.headD 0 % 4
      let bad := start = 3 || (start = 0 && (c.bltBad ws).isSome)
      ({ index := i, start := start, plan := if start = 1 || start = 2 then c.openPlan else 0
         doom := if bad then some 5 else none, words := if start = 0 then some ws else none } : Posted)
    let c := { c with blt := { c.blt with
      posted := c.blt.posted ++ slots.map post
      done := c.blt.done.filter (fun i => !slots.contains i) } }
    (c.set F.BLT_RING_HEAD_HEAD v).bltFlags

/-- The command at TAIL ends: words 33 and 34 are written, then TAIL advances (R244). -/
def Chip.bltEnd (c : Chip) (i status pixels tag : Nat) (held : Bool) : Chip :=
  let a := c.bltAddr i + 132
  let c := c.when (c.memMapped a 8) (fun c => c.stores a (leBytes 4 (status + 512 * b2n held) ++ leBytes 4 pixels))
  let c := c.count P.BLT (if status = 1 then 0 else 1)
  let c := c.when (status ≠ 1) (fun c => c.irq P.BLT 7)
  let c := ((c.set F.BLT_LAST_DONE_INDEX i).set F.BLT_LAST_DONE_STATUS status).set F.BLT_LAST_DONE_TAG tag
  let c := { c with blt := { c.blt with running := none, done := putLast c.blt.done i } }
  (c.set F.BLT_RING_TAIL_TAIL (i + 1)).bltFlags

/-- An INVALID command is recorded (R246) and ends. -/
def Chip.bltInvalid (c : Chip) (i word tag : Nat) : Chip :=
  ((c.set F.BLT_INVALID_INFO_INDEX i).set F.BLT_INVALID_INFO_WORD word).bltEnd i 5 0 tag false

/-- The command engine and the pixel pipes are unpowered: FLAT_HOLD after its last swap, with RAY (R278). -/
def Chip.bltUnpowered (c : Chip) : Bool := c.mode = .hold && !c.blockOn 5

/-- BLT_CMD_START: the command at RING_TAIL is checked as it reaches the head of the ring, and starts once its plan has
committed, or ends at once (R243, R246). -/
def Chip.bltStart (m : Memory) (c : Chip) : Chip :=
  match c.blt.running, c.blt.posted with
  | none, p :: rest =>
    let ws := p.words.getD (c.bltWords m p.index)
    let tag := (bltSpec ws).tag
    let bad := c.bltBad ws
    let gone := { c with blt := { c.blt with posted := rest } }
    if c.bltUnpowered then c
    else match p.doom with
      | some 5 => gone.bltInvalid p.index (bad.getD 0) tag
      | some st => gone.bltEnd p.index st 0 tag false
      | none =>
        if p.words.isNone && bad.isSome then gone.bltInvalid p.index (bad.getD 0) tag
        else if !c.due p then { c with blt := { c.blt with posted := { p with words := some ws } :: rest } }
        else if c.beamPlaneBad (bltSpec ws) then gone.bltInvalid p.index 0 tag
        else ({ gone with blt := { gone.blt with
          running := some ⟨p.index, p.start, ws, 0, 0, false, false, false⟩ } }).bltFlags
  | _, _ => c

/-- The bytes that the pixels of one destination row are read from: S inside its surface, D, and a colour pattern. -/
def BltSpec.rowReads (b : BltSpec) (y : Int) (xs : List Int) : List (Nat × Nat) :=
  let sy := y - b.dy + b.sy
  xs.flatMap (fun x =>
    let sx := x - b.dx + b.sx
    let px := ((x - b.porgX) % 8).toNat
    let py := ((y - b.porgY) % 8).toNat
    (if b.readsS && 0 ≤ sx && sx < b.src.w && 0 ≤ sy && sy < b.src.h then [(b.src.at_ sx sy, 4)] else [])
      ++ (if b.readsD then [(b.dst.at_ x y, 4)] else [])
      ++ (if b.pat = 2 && b.readsP then [(b.patData + 4 * (8 * py + px), 4)] else []))

/-- The running command completes its next row (R253): its pixels land, PROGRESS moves on and the watermark may fall.
`f` says what its reads met. -/
def Chip.bltRow (m : Memory) (c : Chip) (f : ReadFault) : Chip :=
  match c.blt.running with
  | none => c
  | some r =>
    let b := bltSpec r.words
    if b.h ≤ r.rows || b.w = 0 then c
    else
      let y := b.rowAt r.rows
      let spans := b.spans y
      let faults := c.faultLines (b.rowReads y spans.flatten) f
      let c := (c.readFaults P.BLT 6 faults).count P.BLT 6 faults.length
      let c := foldOver spans (fun xs c => c.bltSpan m b y xs) c
      let n := (spans.map List.length).sum
      let r := { r with rows := r.rows + 1, pixels := r.pixels + n, counted := false, parity := r.parity || faults.any (·.2) }
      let c := { c with blt := { c.blt with running := some r, pixels := c.blt.pixels + n } }
      let c := (c.setZ F.BLT_PROGRESS_LINE y).set F.BLT_PROGRESS_ROWS r.rows
      let inside := match b.wmRow with
        | some wy => decide (b.dy ≤ wy) && decide (wy < b.dy + b.h)
        | none => false
      let at_ := if inside then b.wmRow = some y else r.rows = b.h
      (c.when (b.irq && decide at_) (fun c => c.irq P.BLT 6)).bltFlags

/-- Rows of the running command, as long as none is held. -/
def Chip.bltRows (m : Memory) : Nat → Chip → Chip
  | 0, c => c
  | n + 1, c => match c.blt.running with
    | some r => if (c.beamHeld r).isSome then c.bltFlags else Chip.bltRows m n (c.bltRow m .clean)
    | none => c

/-- BEAM_ROW_RELEASE: the row that was held has been composed by the beam, and is written. -/
def Chip.beamRelease (m : Memory) (c : Chip) : Chip :=
  match c.blt.running with
  | none => c
  | some r => if !(bltSpec r.words).beam || (c.beamHeld r).isSome then c.bltFlags else c.bltRow m .clean

/-- BLT_CMD_COMPLETE: the running command completes its remaining rows, unless one of them is held behind the beam. -/
def Chip.bltComplete (m : Memory) (c : Chip) (f : ReadFault) : Chip :=
  match c.blt.running with
  | none => c
  | some r =>
    let b := bltSpec r.words
    let n := if b.w = 0 then 0 else b.h - r.rows
    let c := if 0 < n && (c.beamHeld r).isNone then (c.bltRow m f).bltRows m (n - 1) else c.bltRows m n
    match c.blt.running with
    | none => c
    | some r =>
      if b.w ≠ 0 && r.rows < b.h then c
      else
        let c := c.when (r.start = 1) (fun c =>
          { c with blt := { c.blt with tickDone := putLast c.blt.tickDone r.index } })
        c.bltEnd r.index (if r.parity then 8 else 1) r.pixels b.tag r.held

/-- The running command stops where it stands (R251): whole rows, then whole spans of the next row, as far as free values
say. -/
def Chip.bltStop (m : Memory) (c : Chip) (r : BltCmd) (status : Nat) : Chip :=
  let b := bltSpec r.words
  let left := if b.w = 0 then 0 else b.h - r.rows
  let n := c.freeNat % (left + 1)
  let c := c.drew.bltRows m n
  match c.blt.running with
  | none => c
  | some r =>
    if b.h ≤ r.rows || b.w = 0 || (c.beamHeld r).isSome then c.bltEnd r.index status r.pixels b.tag r.held
    else
      let y := b.rowAt r.rows
      let spans := (b.spans y).take (c.freeNat % ((b.spans y).length + 1))
      let k := (spans.map List.length).sum
      let c := foldOver spans (fun xs c => c.bltSpan m b y xs) c.drew
      let c := { c with blt := { c.blt with pixels := c.blt.pixels + k } }
      c.bltEnd r.index status (r.pixels + k) b.tag r.held

/-- ABORT_LATE in the result words of a slot that has completed. -/
def Chip.bltLate (m : Memory) (c : Chip) (i : Nat) : Chip :=
  let a := c.bltAddr i + 133
  c.when (c.memMapped a 1) (fun c => c.store a (c.load m a ||| 1))

/-- BLT_ABORT. -/
def Chip.bltAbort (m : Memory) (c : Chip) (index : Nat) (all : Bool) : Chip :=
  let hit := fun (i : Nat) => all || i = index
  let late := !all && c.blt.done.contains index && !(c.blt.posted.any (fun (p : Posted) => decide (p.index = index)))
    && !(match c.blt.running with | some r => decide (r.index = index) | none => false)
  let c := { c with blt := { c.blt with
    posted := c.blt.posted.map (fun (p : Posted) => if hit p.index then { p with doom := some 3 } else p) } }
  let c := match c.blt.running with
    | some r => if hit r.index then c.bltStop m r 3 else c
    | none => c
  if late then c.bltLate m index else c

/-- TICK commands at the synthesis deadline (R21): those completed get ABORT_LATE, those unfinished end with DEADLINE; also
whether there was one of these. While the engine is unpowered, posted commands stay posted (R279). -/
def Chip.bltDeadline (m : Memory) (c : Chip) : Bool × Chip :=
  let due := fun (p : Posted) => decide (p.start = 1) && c.due p && p.doom.isNone && !c.bltUnpowered
  let any := c.blt.posted.any due
  let late := c.blt.tickDone.filter c.blt.done.contains
  let c := foldOver late (fun (i : Nat) (c : Chip) => c.bltLate m i) { c with blt := { c.blt with tickDone := [] } }
  let c := { c with blt := { c.blt with
    posted := c.blt.posted.map (fun (p : Posted) => if due p then { p with doom := some 4 } else p) } }
  match c.blt.running with
  | some r => if r.start = 1 then (true, c.bltStop m r 4) else (any, c)
  | none => (any, c)

/-- All posted and running commands end ABORTED, as a block reset discards them. -/
def Chip.bltDiscard (m : Memory) (c : Chip) : Chip :=
  let c := match c.blt.running with
    | some r => c.bltStop m r 3
    | none => c
  let c := foldOver c.blt.posted (fun (p : Posted) (c : Chip) => c.bltEnd p.index 3 0 0 false) c
  { c with blt := {} }

end Sys2Proof.Machine
end

