-- ==== Sys2Proof/Machine/Sec.lean ====
section
/-!
DEFINITION. Machine/Sec.lean: the sector light (chapter 14): slots and scan lines, what lights and at what level, checks
and verdicts, power and VLED limits, ownership, and the checks at plan lock.
-/

namespace Sys2Proof.Machine

/-! ### The plan of a field (R312, R313) -/

/-- The state of Table 4 for the plan now active. -/
def Chip.lightState (c : Chip) : LightState :=
  let id := c.modeId
  if (c.timingOf id).isNone || c.dark || c.sec.moored then .dark
  else if id = 0x0E then .safe
  else if isLightfieldTiming id then (if c.flatLf then .evenAll else .sectors)
  else .flat

/-- The lighting values of the plan now active. -/
def Chip.lightPlan (c : Chip) : LightPlan :=
  let ch := List.range 96
  { state := c.lightState, sector := c.tick.sector
    chanSector := ch.map (fun i => c.act (F.LNS_CHAN_SECTOR_SECTOR.ix (i / 8)) / 16 ^ (i % 8) % 16)
    bright := c.act F.SEC_BRIGHT_LEVEL
    trim := ch.map (fun i => c.act ((if i % 2 = 0 then F.SEC_TRIM_TRIM_0 else F.SEC_TRIM_TRIM_1).ix (i / 2)))
    evenGain := c.act F.SEC_LIGHT_CTRL_EVEN_GAIN
    chanMode := ch.map (fun i => c.act (F.SEC_CHAN_MODE_MODE.ix (i / 16)) / 4 ^ (i % 16) % 4)
    switchEn := c.on F.SEC_LIGHT_CTRL_SWITCH_EN
    linGlobal := c.act F.SEC_LIN_SET_GLOBAL
    linCh := ch.map (fun i => c.act (F.SEC_LIN_CH_P.ix (i / 4)) / 256 ^ (i % 4) % 256)
    windows := c.outWindows, fwCover := c.act F.SEC_LIGHT_CTRL_FW_COVER
    spans := ch.map (fun i => (c.act (F.SEC_CH_X_X0.ix i), c.act (F.SEC_CH_X_X1.ix i)))
    height := c.timing.height
    peak := c.act F.SEC_PEAK_MA, pcTime := c.act F.SEC_PRECHARGE_PC_TIME, hyst := c.act F.SEC_SENSE_CFG_HYST
    linFallback := c.on F.SEC_LIGHT_CTRL_LIN_FALLBACK
    vOpen := c.act F.SEC_DIAG_V_VOPEN, vShort := c.act F.SEC_DIAG_V_VSHORT }

/-- The plan that governs slot `k`: that of the field whose rows it lights (R310, R312). -/
def Chip.slotPlan (c : Chip) (k : Nat) : LightPlan := if c.sec.lag ≤ k then c.sec.cur else c.sec.prev

/-- The overlap area of two rectangles. -/
def Rect.area (r o : Rect) : Nat := (min r.x1 o.x1 - max r.x0 o.x0) * (min r.y1 o.y1 - max r.y0 o.y0)

/-- A crossing lights evenly (R314). -/
def LightPlan.even (p : LightPlan) (line ch : Nat) : Bool :=
  let s := p.spans.getD ch (0, 0)
  let zone : Rect := ⟨s.1, line * p.height / 16, s.2, (line + 1) * p.height / 16⟩
  let total := (zone.x1 - zone.x0) * (zone.y1 - zone.y0)
  let covered := (p.windows.map (fun w => zone.area w)).sum
  decide (0 < covered) && decide (p.fwCover * total ≤ 256 * covered)

/-- The mode a channel runs in: 0 OFF, 1 SWITCH, 2 LINEAR (R313, R321, R329). -/
def Chip.chanRuns (c : Chip) (p : LightPlan) (ch : Nat) : Nat :=
  let m := p.chanMode.getD ch 0
  let m := match c.sec.lost.find? (fun e => e.1 = ch) with
    | some e => if m = 0 then 0 else if e.2 = 2 && p.linFallback then 2 else 0
    | none => m
  if p.state = .safe then 2 else if m = 1 && !p.switchEn then 2 else m

/-- A crossing carries a fault mark. -/
def Chip.marked (c : Chip) (line ch : Nat) : Bool :=
  c.sec.openMarks.contains (128 * line + ch) || c.sec.shortMarks.contains (128 * line + ch)

/-- The plan and channel let a crossing light (R313 Table 4); the second value says that EVEN_GAIN applies. -/
def Chip.litBy (c : Chip) (p : LightPlan) (line ch : Nat) : Bool × Bool :=
  let ok := !c.marked line ch && (c.chanRuns p ch = 1 || c.chanRuns p ch = 2)
  match p.state with
  | .dark => (false, false)
  | .sectors => if p.even line ch then (ok, true) else (ok && decide (p.chanSector.getD ch 15 = p.sector), false)
  | .evenAll => (ok, true)
  | .flat => (ok, false)
  | .safe => (ok, false)

/-! ### Levels (R315, R316, R321) -/

/-- I_CAP in mA for a plan and the latest VLED measurement; a slot keeps what it had at its start. -/
def Chip.iCap (c : Chip) (p : LightPlan) : Nat := min p.peak (15000000 / max 1 (c.get F.SEC_VLED_MEAS_MV))

/-- LEVEL of a channel. -/
def LightPlan.level (p : LightPlan) (ch : Nat) (even : Bool) : Nat :=
  let l := min 65535 ((p.bright * p.trim.getD ch 4096 + 2048) / 4096)
  if even then (l * p.evenGain + 128) / 256 else l

/-- The target current of a lit channel in µA and its lit time in units of 10 ns, in a lit window `w` (10 ns). -/
def Chip.drive (c : Chip) (p : LightPlan) (ch : Nat) (even : Bool) (w : Nat) : Nat × Nat :=
  if p.state = .safe then (60000 * 64 * 255 / 65025, w)
  else if c.chanRuns p ch = 2 then
    let b := p.linCh.getD ch 0
    let b := if even then (b * p.evenGain + 128) / 256 else b
    (60000 * p.linGlobal * b / 65025, w)
  else
    let l := p.level ch even
    if l = 0 then (0, 0)
    else if 6554 ≤ l then (1000 * (c.sec.iCap * l / 65535), w)
    else (1000 * (c.sec.iCap * 6554 / 65535), max 10 ((2 * w * l + 6554) / 13108))

/-! ### The switching stage (R318) -/

/-- CH_G after one sensed current `ua`, `t` ns into the lit window: off above 1.2 × I_CAP or above the band, on below it.
A turn-on that would bring the switching rate above 2.5 MHz waits: the band is wider then (DEDUCED, log 98). -/
def gateStep (target cap hyst : Nat) (g : Gate) (t ua : Nat) : Gate :=
  if 12 * cap * 1000 < 10 * ua || target * (200 + hyst) < 200 * ua then { g with on := false }
  else if g.on || target * (200 - hyst) ≤ 200 * ua then g
  else match g.last with
    | some s => if t < s + 400 then g else { g with on := true, last := some t }
    | none => { g with on := true, last := some t }

/-- The gates after the currents sensed in a lit window of `w` (10 ns): a channel switches within its centred pulse only
(R317). -/
def Chip.gateRun (c : Chip) (p : LightPlan) (w : Nat) (lits : List Lit) (l : List Sensed) : List Gate :=
  lits.map (fun x =>
    let start := 5 * (w - x.time)
    let mine := l.filter (fun s => s.ch = x.ch && decide (start ≤ s.t) && decide (s.t < start + 10 * x.time))
    mine.foldl (fun g s => gateStep x.target c.sec.iCap p.hyst g s.t s.ua) { ch := x.ch })

/-! ### Slots (R309 to R311) -/

/-- The line at which slot `k` begins. -/
def slotLine (total k : Nat) : Nat := k * total / 16

/-- The line period now, in ps: slewed under R11 as the raster's last line was. -/
def Chip.linePeriod (c : Chip) : Nat :=
  let ps := c.get F.SCN_LINE_PERIOD_PS
  if ps = 0 then c.timing.linePs else ps

/-- The raster has come to the line period in which slot `k` starts: that line is the next one, or has just begun. -/
def Chip.slotDue (c : Chip) (k : Nat) : Bool :=
  let l := slotLine c.timing.total k
  c.scan.next = l || c.scan.next = l + 1

/-- The lit window of slot `k` in units of 10 ns, under the plan that governs it. -/
def Chip.litWindow (c : Chip) (p : LightPlan) (k : Nat) : Nat :=
  let t := c.timing
  let lines := slotLine t.total (k + 1) - slotLine t.total k
  lines * c.linePeriod / 10000 - (80 + 10 * p.pcTime)

/-- The settle margin m of R310 in lines, for a LAG. -/
def settleMargin (t : Timing) (lag : Nat) : Int :=
  let m := fun (j : Nat) => (slotLine t.total (j + lag) : Int) - ((t.blank : Int) + ((j + 1) * t.height / 16 : Nat) - 1)
  (List.range 16).foldl (fun a j => min a (m j)) (m 0)

/-- No line lights in slot `k`, whatever its plan: a black field (R80, R88), ownership, the dark re-plan, a dropped line, VLED, Mooring, or the
first interval under a new LAG. -/
def Chip.slotHeldDark (c : Chip) (k j : Nat) : Bool :=
  c.dark || !c.sec.drive || !c.outputsLive || c.cal.dark || c.sec.moored || c.sec.vledOut || c.is F.SEC_SCAN_FAULT_DARK_REPLAN || bit (c.get F.SEC_SCAN_FAULT_DROPPED) j
    || (c.sec.lagFirst && decide (k < c.sec.lag) && decide (j + c.sec.lagOld ≤ 15))

/-- A count of a key's consecutive hits, moved on by a hit or cleared. -/
def bumpCount (l : List (Nat × Nat)) (k : Nat) (hit : Bool) : List (Nat × Nat) :=
  storePut (fun _ => 0) l k (if hit then storeGet (fun _ => 0) l k + 1 else 0)

/-- DEGRADED follows what is out of service. -/
def Chip.secDegraded (c : Chip) : Chip :=
  c.statusBit P.SEC 2 (!c.sec.lost.isEmpty || !c.sec.openMarks.isEmpty || !c.sec.shortMarks.isEmpty
    || c.get F.SEC_SCAN_FAULT_DROPPED ≠ 0)

/-- An ISOL of the sector light: the whole light is held dark (R329). -/
def Chip.secIsol (c : Chip) (code cell : Nat) (kind addr : Nat) : Chip :=
  ((c.event P.SEC .isol (.own code) cell kind addr true).set F.SEC_SCAN_FAULT_DARK_REPLAN 1).irq P.SEC 8

/-- A CONT of the sector light; where it escalates, the light is held dark (R329). -/
def Chip.secCont (c : Chip) (code cell kind addr : Nat) : Chip :=
  let cls := c.eventClass P.SEC .cont (.own code) true
  (c.event P.SEC .cont (.own code) cell kind addr true).when (cls = .isol)
    (fun c => c.set F.SEC_SCAN_FAULT_DARK_REPLAN 1)

/-- A channel is lost to `mode`. -/
def Chip.loseChannel (c : Chip) (ch mode : Nat) : Chip :=
  let f := F.SEC_CHAN_LOST_MAP.ix (ch / 32)
  let c := (c.set f (withBit (c.get f) (ch % 32) true)).count P.SEC 6
  ({ c with sec := { c.sec with lost := c.sec.lost.filter (fun (e : Nat × Nat) => decide (e.1 ≠ ch)) ++ [(ch, mode)] } }.irq P.SEC 7).secDegraded

/-- The lit time of a pulse or window of `time` in a window `w`, both in 10 ns, when the window is cut at `cut`: pulses are
centred (R317). -/
def litPart (w time : Nat) (cut : Option Nat) : Nat :=
  match cut with
  | some t => min time (t - (w - time) / 2)
  | none => time

/-- Channels that conduct stop: the charge they have passed is counted (R326). -/
def Chip.litStop (c : Chip) (who : Lit → Bool) (cut : Option Nat) : Chip :=
  let w := c.get F.SEC_SLOT_TIME_W
  let gone := c.sec.running.filter who
  { c with sec := { c.sec with
    running := c.sec.running.filter (fun x => !who x)
    gates := c.sec.gates.filter (fun g => !gone.any (fun x => x.ch = g.ch))
    charge := gone.foldl (fun l x =>
      storePut (fun _ => 0) l x.ch (storeGet (fun _ => 0) l x.ch + x.flow * litPart w x.time cut / 100)) c.sec.charge } }

/-- Channels that conduct are cut at a time in the window that no register holds: a free value (log 98). -/
def Chip.litCut (c : Chip) (who : Lit → Bool) : Chip :=
  if c.sec.running.any who then (c.litStop who (some (c.freeNat % (c.get F.SEC_SLOT_TIME_W + 1)))).drew else c

/-- The lit window in progress has ended. -/
def Chip.windowEnd (c : Chip) : Chip :=
  let c := c.litStop (fun _ => true) none
  ({ c with sec := { c.sec with awaiting := false, gates := [] } }).statusBit P.SEC 3 false

/-- The whole light stops within a slot (R323, R329). -/
def Chip.lightOff (c : Chip) : Chip :=
  let c := c.litCut (fun _ => true)
  ({ c with sec := { c.sec with line := none, gates := [] } }).statusBit P.SEC 3 false

/-- A VLED reading judged against VLED_WIN (R329). -/
def Chip.vledReading (c : Chip) (mv : Nat) : Chip :=
  let inside := c.act F.SEC_VLED_WIN_MIN ≤ mv && mv ≤ c.act F.SEC_VLED_WIN_MAX
  let c := (c.set F.SEC_VLED_MEAS_MV (min 65535 mv)).setB F.SEC_VLED_MEAS_IN_WIN inside
  if inside || c.sec.vledOut then { c with sec := { c.sec with vledReady := c.sec.vledReady && inside } }
  else
    let c := c.lightOff
    let c := { c with sec := { c.sec with vledOut := true, vledReady := false } }
    ((c.count P.SEC 8).irq P.SEC 9).secCont 0x17 0xFFF 0 0

/-- Sensing is paused (R507); CAL's STATUS says so. -/
def Chip.sensePaused (c : Chip) : Bool := c.is ⟨P.CAL + 0x00C, 4, 1, 4⟩

/-- The tests of a slot start: the scan-short test of the outgoing line, and currents with every gate off (R329). None runs
while DRIVE is 0, after a Mooring trigger, or while sensing is paused. -/
def Chip.slotTests (c : Chip) (io : SlotIn) : Chip :=
  if !c.sec.drive || c.sec.moored || c.sensePaused then c
  else
    let c := match c.sec.line with
      | none => c
      | some j =>
        let c := { c with sec := { c.sec with scanShort := bumpCount c.sec.scanShort j (48 ≤ io.shortCount) } }
        c.when (storeGet (fun _ => 0) c.sec.scanShort j = 3) (fun c => c.secIsol 0x16 (96 + j) 0 0)
    let chs := (List.range 96).filter (fun ch => !c.cal.unsensed.contains ch)
    let c := { c with sec := { c.sec with stuck := chs.foldl (fun l ch => bumpCount l ch (io.stuck.contains ch)) c.sec.stuck } }
    foldOver (chs.filter (fun ch => storeGet (fun _ => 0) c.sec.stuck ch = 3)) (fun ch c => c.secIsol 0x13 ch 0 0) c

/-- SCAN_SLOT_START: every channel stops, the outgoing line turns off under the scan-short test, VLED is read, and the slot's
line, sector, ceiling and lit window are set. -/
def Chip.slotStart (c : Chip) (io : SlotIn) : Chip :=
  let k := c.sec.next
  if 16 ≤ k || (c.timingOf c.modeId).isNone || !c.is ⟨P.SCN + 0x00C, 3, 1, 4⟩ || !c.slotDue k then c
  else
    let c := ((c.windowEnd).slotTests io).vledReading io.vledMv
    let j := (k + 16 - c.sec.lag) % 16
    let p := c.slotPlan k
    let dark := p.state = .dark || c.slotHeldDark k j
    let c := ((c.set F.SEC_SLOT_STATUS_SLOT k).set F.SEC_SLOT_STATUS_LINE j).set F.SEC_SLOT_STATUS_SECTOR p.sector
    let flat := p.state = .evenAll || p.state = .flat || p.state = .safe
    let c := (c.setB F.SEC_SLOT_STATUS_EVEN (decide flat)).setB F.SEC_SLOT_STATUS_DARK (decide dark)
    let c := c.set F.SEC_SLOT_TIME_W (c.litWindow p k)
    let c := { c with sec := { c.sec with
      next := k + 1, line := if dark then none else some j, awaiting := true, iCap := c.iCap p } }
    c.scanMark j (!decide dark)

/-! ### Checks and verdicts (R327 to R330) -/

/-- A crossing lights for at least 1.6 µs in a slot of the frame that is yet to come, under the plan in force: such a slot
lights the sector of each field left, or of the field before it. -/
def Chip.litInFrame (c : Chip) (p : LightPlan) (line ch : Nat) : Bool :=
  let n := max 1 c.sectors
  let late := decide (c.get F.SEC_SLOT_STATUS_SLOT < c.sec.lag)
  (List.range' c.tick.sector (n - c.tick.sector)).any (fun t =>
    let p := { p with sector := if late then (t + n - 1) % n else t }
    let l := c.litBy p line ch
    l.1 && 160 ≤ (c.drive p ch l.2 (c.get F.SEC_SLOT_TIME_W)).2)

/-- What a check found: passed, failed open, or failed short. -/
inductive CheckResult where
  | passed | opened | shorted
  deriving DecidableEq, Repr

/-- A check judged: direct against `target` in µA, or by probe. -/
def LightPlan.judgeCheck (p : LightPlan) (direct : Bool) (target : Nat) (v : Conversion) : CheckResult :=
  if p.vOpen ≤ v.v || (direct && decide (200 * v.i < target)) then .opened
  else if v.v ≤ p.vShort then .shorted
  else .passed

/-- A verdict on a crossing. -/
def Chip.crossingVerdict (c : Chip) (line ch : Nat) (short : Bool) : Chip :=
  let k := 128 * line + ch
  let c := if short then { c with sec := { c.sec with shortMarks := putLast c.sec.shortMarks k } }
    else { c with sec := { c.sec with openMarks := putLast c.sec.openMarks k } }
  let c := { c with sec := { c.sec with fresh := putLast c.sec.fresh k } }
  (((c.count P.SEC (if short then 5 else 4)).irq P.SEC 6).secCont (if short then 0x11 else 0x10) ch 3 line).secDegraded

/-- One crossing's failed-check counts after a result; a verdict at three. -/
def Chip.countCheck (c : Chip) (line ch : Nat) (r : CheckResult) : Chip :=
  let k := 128 * line + ch
  let was := storeGet (fun _ => (0, 0)) c.sec.fails k
  let now := match r with
    | .passed => (0, 0)
    | .opened => (was.1 + 1, 0)
    | .shorted => (0, was.2 + 1)
  let c := { c with sec := { c.sec with fails := storePut (fun _ => (0, 0)) c.sec.fails k now } }
  if c.marked line ch then c
  else if now.1 = 3 then c.crossingVerdict line ch false
  else if now.2 = 3 then c.crossingVerdict line ch true
  else c

/-- A check of a crossing: its number, whether it is direct, its target and its conversion. -/
structure Check where
  ch : Nat
  direct : Bool
  target : Nat
  conv : Conversion
  deriving DecidableEq, Repr

/-- The checks that the lit window of line `j` makes (R327). -/
def Chip.windowChecks (c : Chip) (p : LightPlan) (j : Nat) (io : WindowIn) : List Check :=
  let w := c.get F.SEC_SLOT_TIME_W
  (List.range 96).filterMap (fun ch =>
    if c.sec.checked.contains (128 * j + ch) || c.chanRuns p ch = 0 then none
    else
      let l := c.litBy p j ch
      let d := if l.1 then c.drive p ch l.2 w else (0, 0)
      let conv := (io.conversions.find? (fun v => v.ch = ch)).getD ⟨ch, d.1 / 100, (p.vShort + p.vOpen) / 2⟩
      if l.1 && 160 ≤ d.2 then some ⟨ch, true, d.1, conv⟩
      else if !c.litInFrame p j ch && 800 + d.2 ≤ w then some ⟨ch, false, 0, conv⟩
      else none)

/-- A scan line's checks failed open in a slot for the third frame in a row (R329). Crossings of the line marked earlier in
the frame lose their marks: the scan fault stands alone (R330; what the error log took stays, log 98). -/
def Chip.scanOpenVerdict (c : Chip) (j : Nat) : Chip :=
  let c := c.set F.SEC_SCAN_FAULT_DROPPED (withBit (c.get F.SEC_SCAN_FAULT_DROPPED) j true)
  let keep := fun (k : Nat) => decide (k / 128 ≠ j) || !c.sec.fresh.contains k
  let c := { c with sec := { c.sec with
    openMarks := c.sec.openMarks.filter keep, shortMarks := c.sec.shortMarks.filter keep
    fails := c.sec.fails.filter (fun e => e.1 / 128 ≠ j), scanOpen := storePut (fun _ => (0, 0)) c.sec.scanOpen j (0, 0) } }
  ((c.event P.SEC .isol (.own 0x15) (96 + j) 0 0 true).irq P.SEC 8).secDegraded

/-- The last conversions of a line's crossings. -/
def Chip.converted (c : Chip) (j : Nat) (l : List Conversion) : Chip :=
  { c with sec := { c.sec with meas := l.foldl (fun (m : List (Nat × (Nat × Nat))) (v : Conversion) =>
      storePut (fun _ => (0, 0)) m (128 * j + v.ch) (v.i, v.v)) c.sec.meas } }

/-- CROSSING_CHECK and SECTOR_FAULT_VERDICT of a lit window. -/
def Chip.windowJudge (c : Chip) (p : LightPlan) (j : Nat) (io : WindowIn) : Chip :=
  let cs : List Check := c.windowChecks p j io
  let c := { c with sec := { c.sec with checked := c.sec.checked ++ cs.map (fun (x : Check) => 128 * j + x.ch) } }
  if c.sensePaused then c.count P.SEC 9 cs.length
  else
    let c := c.count P.SEC 9 (cs.filter (fun (x : Check) => c.cal.unsensed.contains x.ch)).length
    let cs := cs.filter (fun (x : Check) => !c.cal.unsensed.contains x.ch)
    let res : List (Check × CheckResult) := cs.map (fun (x : Check) => (x, p.judgeCheck x.direct x.target x.conv))
    let c := (c.count P.SEC 1 (cs.filter (fun (x : Check) => x.direct)).length).count P.SEC 2 (cs.filter (fun (x : Check) => !x.direct)).length
    let c := c.count P.SEC 3 (res.filter (fun (e : Check × CheckResult) => decide (e.2 ≠ .passed))).length
    let c := c.converted j (cs.map (fun (x : Check) => x.conv))
    let opens := (res.filter (fun (e : Check × CheckResult) => decide (e.2 = .opened))).length
    let was := storeGet (fun _ => (0, 0)) c.sec.scanOpen j
    let row := if opens < 48 then (0, 0) else if was.1 ≠ 0 && was.2 + 1 = c.tick.frame then (was.1 + 1, c.tick.frame)
      else if was.1 ≠ 0 && was.2 = c.tick.frame then was else (1, c.tick.frame)
    let c := if opens < 48 then c
      else { c with sec := { c.sec with scanOpen := storePut (fun _ => (0, 0)) c.sec.scanOpen j row } }
    if row.1 = 3 then c.scanOpenVerdict j
    else foldOver res (fun (e : Check × CheckResult) (c : Chip) => c.countCheck j e.1.ch e.2) c

/-- Channels whose switch did not reach half the target (R329). -/
def Chip.switchFaults (c : Chip) (p : LightPlan) (j : Nat) (io : WindowIn) : Chip :=
  let lit := (c.sec.running.filter (fun x => p.state ≠ .safe && c.chanRuns p x.ch = 1)).map (·.ch)
  let c := { c with sec := { c.sec with
    slow := lit.foldl (fun l ch => bumpCount l ch (io.slow.contains ch)) c.sec.slow } }
  foldOver (lit.filter (fun ch => storeGet (fun _ => 0) c.sec.slow ch = 3)) (fun ch c =>
    let c := { c with sec := { c.sec with slow := storePut (fun _ => 0) c.sec.slow ch 0 } }
    (c.loseChannel ch 2).secCont 0x12 ch 3 j) c

/-- Crossings of the line that were due a check and got none, because DRIVE is 0 or a Mooring trigger has come (R322, R327). -/
def Chip.checksSkipped (c : Chip) (j : Nat) : Chip :=
  let l := (List.range 96).filter (fun ch =>
    !c.sec.checked.contains (128 * j + ch) && (c.sec.cur.chanMode.getD ch 0) ≠ 0)
  { c with sec := { c.sec with checked := c.sec.checked ++ l.map (fun ch => 128 * j + ch) } }.count P.SEC 9 l.length

/-- A lit window that leaves its line dark: column-node voltages are measured all the same (R322), and checks are skipped. -/
def Chip.darkWindow (c : Chip) (io : WindowIn) : Chip :=
  let j := c.get F.SEC_SLOT_STATUS_LINE
  let c := if c.sec.moored || c.sensePaused then c
    else c.converted j (io.conversions.filter (fun v => decide (v.ch < 96) && !c.cal.unsensed.contains v.ch))
  c.when (!c.sec.drive || c.sec.moored) (fun c => c.checksSkipped j)

/-- The channels that conduct in the lit window of line `j`. -/
def Chip.windowLit (c : Chip) (p : LightPlan) (j : Nat) (io : WindowIn) : List Lit :=
  (List.range 96).filterMap (fun ch =>
    let l := c.litBy p j ch
    let d := c.drive p ch l.2 (c.get F.SEC_SLOT_TIME_W)
    if l.1 && decide (0 < d.2) then
      some ⟨ch, ((io.flows.find? (fun e => e.1 = ch)).map Prod.snd).getD d.1, d.1, d.2⟩
    else none)

/-- LIT_WINDOW_START: the channels of the slot in progress light, and the window's checks run. -/
def Chip.windowStart (c : Chip) (io : WindowIn) : Chip :=
  if !c.sec.awaiting then c
  else
    let c := { c with sec := { c.sec with awaiting := false } }
    match c.sec.line with
    | none => c.darkWindow io
    | some j =>
      let p := c.slotPlan (c.get F.SEC_SLOT_STATUS_SLOT)
      let lits := c.windowLit p j io
      let sw := lits.filter (fun x => p.state ≠ .safe && c.chanRuns p x.ch = 1)
      let c := { c with sec := { c.sec with
        running := lits, gates := c.gateRun p (c.get F.SEC_SLOT_TIME_W) sw io.sensed } }
      let c := (c.count P.SEC 0).statusBit P.SEC 3 (!sw.isEmpty)
      (c.windowJudge p j io).switchFaults p j io

/-- CHANNEL_POWER_AVERAGE: the average output power of a channel over 1 ms (R319). -/
def Chip.powerAverage (c : Chip) (ch mw : Nat) : Chip :=
  if mw ≤ 15000 || 96 ≤ ch || c.sensePaused || (c.sec.lost.any (fun e => e.1 = ch && e.2 = 0)) then c
  else
    let c := c.litCut (fun x => x.ch = ch)
    ((c.count P.SEC 7).loseChannel ch 0).secCont 0x14 ch 0 0

/-- VLED_RESUME: VLED has been inside its window for 10 ms; switching resumes at the next commit. -/
def Chip.vledResume (c : Chip) : Chip :=
  if c.sec.vledOut && c.is F.SEC_VLED_MEAS_IN_WIN then { c with sec := { c.sec with vledReady := true } } else c

/-! ### The commit (R310, R312, R322, R331) -/

/-- Marks cleared by RETRY at the commit (R331). -/
def Chip.secRetry (c : Chip) : Chip :=
  let c := c.when (c.is F.SEC_RETRY_CROSSINGS) (fun c =>
    { c with sec := { c.sec with openMarks := [], shortMarks := [], fails := [] } })
  let c := c.when (c.is F.SEC_RETRY_CHANNELS) (fun c =>
    let c := { c with sec := { c.sec with lost := [], slow := [] } }
    foldOver [0, 1, 2] (fun w c => c.set (F.SEC_CHAN_LOST_MAP.ix w) 0) c)
  let c := c.when (c.is F.SEC_RETRY_SCAN) (fun c =>
    let c := { c with sec := { c.sec with scanOpen := [], scanShort := [], stuck := [] } }
    (c.set F.SEC_SCAN_FAULT_DROPPED 0).set F.SEC_SCAN_FAULT_DARK_REPLAN 0)
  (((c.set F.SEC_RETRY_CROSSINGS 0).set F.SEC_RETRY_CHANNELS 0).set F.SEC_RETRY_SCAN 0).secDegraded

/-- The sector light at a commit; `frame` where it starts a frame. -/
def Chip.secCommit (c : Chip) (frame : Bool) : Chip :=
  let c := c.windowEnd.secRetry
  let lag := c.act F.SEC_LIGHT_CTRL_LAG
  let change := frame && decide (lag ≠ c.sec.lag)
  let mv := c.get F.SEC_VLED_MEAS_MV
  let c := c.setB F.SEC_VLED_MEAS_IN_WIN (c.act F.SEC_VLED_WIN_MIN ≤ mv && mv ≤ c.act F.SEC_VLED_WIN_MAX)
  let s := c.sec
  let resume := s.vledOut && s.vledReady && c.is F.SEC_VLED_MEAS_IN_WIN
  let c := { c with sec := { s with
    next := 0, prev := s.cur, cur := c.lightPlan, drive := c.on F.SEC_OWNER_DRIVE
    lagOld := s.lag, lag := if change then lag else s.lag, lagFirst := change
    vledOut := s.vledOut && !resume, vledReady := s.vledReady && !resume
    checked := if frame then [] else s.checked, fresh := if frame then [] else s.fresh } }
  match c.timingOf c.modeId with
  | some t => c.set F.SEC_MARGIN_LINES (settleMargin t c.sec.lag).toNat
  | none => c

/-- A Mooring trigger (R323): every drive off, checks stopped, ageing frozen. -/
def Chip.secMooring (c : Chip) : Chip :=
  let c := c.lightOff
  { c with sec := { c.sec with moored := true } }

/-! ### Register views -/

/-- A bit map of channels 32w to 32w + 31. -/
def channelMap (w : Nat) (p : Nat → Bool) : Nat := (List.range 32).foldl (fun n i => n + b2n (p (32 * w + i)) * 2 ^ i) 0

/-- The registers that read through FAULT_SEL, MEAS_SEL and AGE_SEL, by offset; none for any other. -/
def Chip.secView (c : Chip) (off : Nat) : Option Nat :=
  let j := c.get F.SEC_FAULT_SEL_LINE
  if 0x2C4 ≤ off && off < 0x2D0 then some (channelMap ((off - 0x2C4) / 4) (fun ch => c.sec.openMarks.contains (128 * j + ch)))
  else if 0x2D0 ≤ off && off < 0x2DC then
    some (channelMap ((off - 0x2D0) / 4) (fun ch => c.sec.shortMarks.contains (128 * j + ch)))
  else if 0x2DC ≤ off && off < 0x2E8 then some (channelMap ((off - 0x2DC) / 4) (fun ch => c.sec.cur.even j ch))
  else if off = 0x284 then
    let v := storeGet (fun _ => (0, 0)) c.sec.meas (128 * c.get F.SEC_MEAS_SEL_LINE + c.get F.SEC_MEAS_SEL_CHANNEL)
    some (v.1 % 65536 + v.2 % 65536 * 65536)
  else
    let mc := storeGet (fun _ => 0) c.sec.charge (c.get F.SEC_AGE_SEL_CHANNEL) / 1000000000
    if off = 0x2B4 then some (mc % 2 ^ 32) else if off = 0x2B8 then some (mc / 2 ^ 32 % 65536) else none

/-- A Keeper write of AGE_LO or AGE_HI: the accumulator takes the new half, its fraction 0. -/
def Chip.ageWrite (c : Chip) (hi : Bool) (v : Nat) : Chip :=
  let ch := c.get F.SEC_AGE_SEL_CHANNEL
  let mc := storeGet (fun _ => 0) c.sec.charge ch / 1000000000
  let mc := if hi then mc % 2 ^ 32 + v % 65536 * 2 ^ 32 else mc / 2 ^ 32 * 2 ^ 32 + v
  { c with sec := { c.sec with charge := storePut (fun _ => 0) c.sec.charge ch (mc * 1000000000) } }

/-! ### Checks at plan lock (R332) -/

/-- The first failing case of R332 Table 8 and its offset. -/
def Chip.secReason (c : Chip) (t : Timing) : Nat × Nat :=
  let g := c.lck
  let lag := g F.SEC_LIGHT_CTRL_LAG
  let rs := g F.SEC_SENSE_CFG_RSENSE
  let hy := g F.SEC_SENSE_CFG_HYST
  let pc := g F.SEC_PRECHARGE_PC_TIME
  let bad3 := (List.range 6).find? (fun w => (List.range 16).any (fun i => g (F.SEC_CHAN_MODE_MODE.ix w) / 4 ^ i % 4 = 3))
  if lag = 0 || settleMargin t lag * (t.linePs : Int) < (g F.SEC_SETTLE_US : Int) * 1000000 then (1, 0x100)
  else if 1500 < g F.SEC_PEAK_MA || 180000 < g F.SEC_PEAK_MA * rs then (2, 0x10C)
  else if rs < 50 || 500 < rs || hy < 5 || 40 < hy then (3, 0x110)
  else if pc < 2 || 50 < pc then (4, 0x114)
  else if let some w := bad3 then (5, 0x120 + 4 * w)
  else if g F.SEC_VLED_WIN_MIN < 6000 || 40000 < g F.SEC_VLED_WIN_MAX || g F.SEC_VLED_WIN_MAX ≤ g F.SEC_VLED_WIN_MIN then (6, 0x264)
  else (0, 0)

end Sys2Proof.Machine
end

