-- ==== Sys2Proof/Machine/Apl.lean ====
section
/-!
DEFINITION. Machine/Apl.lean: the region layer (chapter 15): the cell map, rails, waveforms and bands, frames and their
reports, updates and their queue, stopping, freezing and restarting, the record and the boot repair.
-/

namespace Sys2Proof.Machine

/-! ### Cells (R335, R336) -/

/-- A change of APL's own state. -/
def Chip.aplUp (c : Chip) (f : Apl → Apl) : Chip := { c with apl := f c.apl }

/-- The whole layer. -/
def Chip.layerRect (c : Chip) : Rect := ⟨0, 0, c.act F.APL_GEOM_NCX, c.act F.APL_GEOM_NCY⟩

/-- A layer is declared (R337). -/
def Chip.layerPresent (c : Chip) : Bool := c.on F.APL_GEOM_PRESENT

/-- The level and UNKNOWN of a cell, by the rectangles painted over it. -/
def cellState (paints : List Paint) (x y : Nat) : Nat × Bool :=
  paints.foldl (fun s p => if p.rect.has x y then (match p.level with
    | some l => (l, false)
    | none => (s.1, true)) else s) (0, false)

/-- The map bits of a cell (R336). -/
def Chip.cellBits (c : Chip) (x y : Nat) : Nat :=
  let s := cellState c.apl.paints x y
  s.1 + 4 * b2n s.2 + 8 * b2n (c.apl.runs.any (fun r => r.u.rect.has x y))

/-- A rectangle painted; rectangles that a level hides are dropped. -/
def Chip.paint (c : Chip) (r : Rect) (level : Option Nat) : Chip :=
  c.aplUp (fun a => { a with
    paints := (if level.isSome then a.paints.filter (fun p => !p.rect.inside r) else a.paints) ++ [⟨r, level⟩] })

/-- The states of the cells of a rectangle: 0 to 3, or 4 for UNKNOWN. -/
def Chip.fromStates (c : Chip) (r : Rect) : List Nat :=
  let has := fun (v : Nat) => (List.range (r.y1 - r.y0)).any (fun dy => (List.range (r.x1 - r.x0)).any (fun dx =>
    let s := cellState c.apl.paints (r.x0 + dx) (r.y0 + dy)
    if s.2 then decide (v = 4) else decide (v = s.1)))
  (List.range 5).filter has

/-! ### Waveforms (R340, R341, R362) -/

/-- A word of a waveform table. -/
def Chip.wfWord (c : Chip) (bank idx : Nat) : Nat := storeGet (fun _ => 0) c.apl.table (512 * bank + idx)

/-- The index of a waveform's word 0. -/
def wfIndex (band src dst : Nat) : Nat := ((band * 5 + src) * 4 + dst) * 4

/-- The drives of a waveform: 0 ZERO, 1 POS, 2 NEG; none where LENGTH is not 1 to 32, or where a frame holds the reserved
code: such a waveform counts as absent and is never driven (R341). -/
def Chip.waveform (c : Chip) (bank band src dst : Nat) : List Nat :=
  let i := wfIndex band src dst
  let n := c.wfWord bank i % 64
  let bits := c.wfWord bank (i + 1) + c.wfWord bank (i + 2) * 2 ^ 32
  let l := (List.range n).map (fun f => bits / 4 ^ f % 4)
  if n = 0 || 32 < n || l.contains 3 then [] else l

/-- A waveform that is present and DC-balanced. -/
def goodWave (l : List Nat) : Bool := !l.isEmpty && l.count 1 = l.count 2

/-- A bank is complete for a band. -/
def Chip.bankComplete (c : Chip) (bank band : Nat) (four : Bool) : Bool :=
  let pairs := if four then (List.range 4).flatMap (fun a => ((List.range 4).filter (· ≠ a)).map (fun b => (a, b)))
    else [(0, 3), (3, 0)]
  (pairs ++ [(4, 0)]).all (fun p => goodWave (c.waveform bank band p.1 p.2))

/-- A waveform bank refuses writes: it is active or an update in flight uses it (R343). -/
def Chip.wfBusy (c : Chip) (bank : Nat) : Bool :=
  decide (c.act F.APL_WF_BANK_BANK = bank) || c.apl.runs.any (fun r => r.bank = bank)

/-- INDEX moves on after an access of TBL_DATA. -/
def Chip.aplIndexStep (c : Chip) : Chip :=
  c.when (c.is F.APL_TBL_ADDR_AUTO_INC) (fun c => c.incWrap F.APL_TBL_ADDR_INDEX)

/-- APL_TBL_DATA_WRITE: a waveform word is stored, or the write is refused BUSY and the tables stay (R343). INDEX steps all
the same, as R276 has it. -/
def Chip.aplTableWrite (c : Chip) (v : Nat) : Status × Chip :=
  let bank := c.get F.APL_TBL_ADDR_TABLE
  let i := c.get F.APL_TBL_ADDR_INDEX
  if c.wfBusy bank then (.busy, c.aplIndexStep)
  else
    let keep := if i % 4 = 0 then v % 64 else if i % 4 = 3 then 0 else v
    let c := c.when (decide (i < 480)) (fun c => c.aplUp (fun a => { a with table := storePut (fun _ => 0) a.table (512 * bank + i) keep }))
    (.ok, c.aplIndexStep)

/-- A read of TBL_DATA. -/
def Chip.aplTableRead (c : Chip) : Nat × Chip :=
  (c.wfWord (c.get F.APL_TBL_ADDR_TABLE) (c.get F.APL_TBL_ADDR_INDEX), c.aplIndexStep)

/-- The drive of a cell in frame `f` of a run's phase, where `src` is the cell's state. -/
def Chip.cellDrive (c : Chip) (r : AplRun) (src f : Nat) : Nat :=
  let dst := if r.phase = 1 then 0 else r.u.target
  let src := if r.phase = 1 then 4 else if r.phase = 2 then 0 else src
  if src = dst then 0 else (c.waveform r.bank c.apl.band src dst).getD f 0

/-- POS and NEG exchanged. -/
def invertDrive (d : Nat) : Nat := if d = 1 then 2 else if d = 2 then 1 else d

/-! ### Gates (R348, R349) -/

/-- The panel temperature is valid and inside 0 to 50 °C. -/
def Chip.aplTempOk (c : Chip) : Bool := c.panelTemp.2 && decide (0 ≤ c.panelTemp.1) && decide (c.panelTemp.1 ≤ 400)

/-- The Mooring energy reserve is assured. -/
def Chip.reserveOk (c : Chip) : Bool := c.is F.PWR_CAP_STATUS_RESERVE_OK

/-- The boot repair runs (R360). -/
def Chip.repairing (c : Chip) : Bool := c.apl.queue.any (·.boot) || c.apl.runs.any (·.u.boot)

/-- STATUS.REPAIRING and FROZEN follow. -/
def Chip.aplStatus (c : Chip) : Chip := (c.statusBit P.APL 3 c.apl.frozen).statusBit P.APL 4 c.repairing

/-- The reason of Table 3 that refuses an update, 0 where none applies. `start` is its START, `host` says that host
software posted it. -/
def Chip.aplReason (c : Chip) (r : Rect) (target start id : Nat) (host : Bool) : Nat :=
  if c.apl.resetting then 3
  else if !c.aplTempOk then 1
  else if !c.reserveOk then 2
  else if 32 ≤ c.apl.queue.length then 3
  else if 0 < target && c.repairing then 4
  else if !c.layerPresent then 5
  else if r.empty || !r.inside c.layerRect || (!c.on F.APL_GEOM_LEVELS && (target = 1 || target = 2)) || start = 1 || start = 3
      || (host && 0xE0 ≤ id) then 6
  else 0

/-- A refusal counted. -/
def Chip.aplRefused (c : Chip) : Chip := (c.count P.APL 3).irq P.APL 7

/-- An update joins the queue. -/
def Chip.aplEnqueue (c : Chip) (r : Rect) (target id : Nat) (two boot : Bool) : Chip :=
  (c.aplUp (fun a => { a with queue := a.queue ++ [⟨a.nextNum, id, r, target, two, boot⟩], nextNum := a.nextNum + 1 })).aplStatus

/-- A posting that takes effect now: the result, and the update's number where it joined. -/
def Chip.aplJoin (c : Chip) (r : Rect) (target start id : Nat) (host : Bool) : Nat × Chip :=
  let why := c.aplReason r target start id host
  if why = 0 then (0, c.aplEnqueue r target id false false) else (why, c.aplRefused)

/-- APL_REQ_POST: the request in REQ_TL, REQ_BR and REQ_CTRL is posted (R347, R348). -/
def Chip.aplPost (c : Chip) : Chip :=
  let r : Rect := ⟨c.get F.APL_REQ_TL_X0, c.get F.APL_REQ_TL_Y0, c.get F.APL_REQ_BR_X1, c.get F.APL_REQ_BR_Y1⟩
  let id := c.get F.APL_REQ_CTRL_ID
  let target := c.get F.APL_REQ_CTRL_TARGET
  let start := c.get F.APL_REQ_CTRL_START
  let res : Nat × Chip :=
    if start = 2 then
      if c.apl.resetting || 32 ≤ c.apl.plans.length then (3, c.aplRefused)
      else (7, c.aplUp (fun a => { a with
        plans := a.plans ++ [(⟨a.nextNum, id, r, target, false, false⟩, c.openPlan)], nextNum := a.nextNum + 1 }))
    else c.aplJoin r target start id true
  (res.2.set F.APL_REQ_RESULT_ID id).set F.APL_REQ_RESULT_RESULT res.1

/-- A PLAN update is judged at its commit. -/
def Chip.aplPlanJoin (c : Chip) (u : AplUpdate) : Chip :=
  let why := c.aplReason u.rect u.target 2 u.id true
  if why = 0 then (c.aplUp (fun a => { a with queue := a.queue ++ [u] })).aplStatus
  else
    let c := c.aplRefused
    ((c.set F.APL_LAST_REFUSED_ID u.id).set F.APL_LAST_REFUSED_REASON why).set F.APL_LAST_REFUSED_VALID 1

/-! ### The end of an update (R350, R351, R358) -/

/-- The held list after cells of a rectangle reached a level (R358). -/
def heldAfter (held : List (Rect × Nat)) (r : Rect) (level : Nat) : List (Rect × Nat) :=
  held.filter (fun h => !h.1.inside r) ++ (if 0 < level then [(r, level)] else [])

/-- LAST_DONE latched: DONE is 1, ABORTED 3. -/
def Chip.aplLast (c : Chip) (id status outcome : Nat) (late : Bool) : Chip :=
  (((c.set F.APL_LAST_DONE_ID id).set F.APL_LAST_DONE_STATUS status).set F.APL_LAST_DONE_OUTCOME outcome).setB
    F.APL_LAST_DONE_ABORT_LATE late

/-- How an update in flight ends. -/
inductive AplEnd where
  /-- Its cells reached a level. -/
  | reached (level : Nat)
  /-- Its cells are back at the level they held when the phase began. -/
  | reversed
  /-- Its cells cannot be vouched for. -/
  | unknown
  deriving DecidableEq, Repr

/-- A record entry for an update that a stop ends, while a record is being prepared (R359). -/
def Chip.aplEntry (c : Chip) (r : AplRun) (e : AplEnd) (reversed : Bool) : Chip :=
  let level := match e with
    | .reached l => l
    | .reversed => (cellState c.apl.paints r.u.rect.x0 r.u.rect.y0).1
    | .unknown => 0
  let outcome := if e = .unknown then 3 else if reversed then 2 else 1
  if c.apl.snap.isNone then c else c.aplUp (fun a => { a with ends := a.ends ++ [⟨r.u.rect, level, outcome, r.u.id⟩] })

/-- An update in flight leaves its slot. -/
def Chip.aplEnd (c : Chip) (r : AplRun) (e : AplEnd) (aborted : Bool) (outcome : Nat) : Chip :=
  let was := c.repairing
  let c := match e with
    | .reached l =>
      let c := c.paint r.u.rect (some l)
      c.aplUp (fun a => if a.overflow then a else
        let h := heldAfter a.held r.u.rect l
        { a with held := h, overflow := decide (48 < h.length) })
    | .reversed => c
    | .unknown => c.paint r.u.rect none
  let c := (c.aplEntry r e (outcome = 2)).aplUp (fun a => { a with
    runs := a.runs.filter (fun x => x.slot ≠ r.slot)
    done := if aborted then a.done
      else a.done.filter (fun u => u.id ≠ r.u.id || a.frames.any (fun f => f.updates.any (fun v => v.num = u.num))) ++ [r.u] })
  let c := c.aplLast r.u.id (if aborted then 3 else 1) outcome false
  let c := if aborted then c.count P.APL 6 else (c.count P.APL 0).irq P.APL 6
  (c.when (was && !c.repairing) (fun c => c.irq P.APL 9)).aplStatus

/-- The level that cells hold when the second phase began, or the phase's own start where it is the only one: how a
reversed phase ends (R351). -/
def reversedEnd (r : AplRun) : AplEnd :=
  if r.phase = 1 then .unknown else if r.phase = 2 then .reached 0 else .reversed

/-- The run's frames that have started make up what it needs: it ends, or its phase does, with the frame in progress. -/
def AplRun.due (r : AplRun) : Bool :=
  !r.suspended && (match r.rev with
    | some k => k = 0
    | none => r.len ≤ r.done)

/-- The end of a run's phase at the end of its last frame. -/
def Chip.aplPhaseEnd (c : Chip) (r : AplRun) : Chip :=
  let set := fun (c : Chip) (q : AplRun) => c.aplUp (fun a => { a with
    runs := a.runs.map (fun x => if x.slot = r.slot then q else x) })
  if !r.due then c
  else if r.rev.isSome then c.aplEnd r (reversedEnd r) true 2
  else if r.phase = 1 then
    if r.stop then c.aplEnd r (.reached 0) true 1
    else if r.phaseOnly && 0 < r.u.target then c.aplEnd r (.reached 0) true 0
    else if r.u.target = 0 then c.aplEnd r (.reached 0) false 0
    else
      let c := c.paint r.u.rect (some 0)
      set c { r with phase := 2, done := 0, before := r.before + r.len
                     len := (c.waveform r.bank c.apl.band 0 r.u.target).length }
  else if r.stop then c.aplEnd r (.reached r.u.target) true 1
  else c.aplEnd r (.reached r.u.target) false 0

/-- The runs whose frame in progress was their last end, in slot order; `only` restricts it to the ends that no further
frame follows, of one slot. -/
def Chip.aplFrameEnd (c : Chip) : Chip :=
  foldOver (List.range 16) (fun (s : Nat) (c : Chip) => match c.apl.runs.find? (fun r => r.slot = s) with
    | some r => c.aplPhaseEnd r
    | none => c) c

/-- An update ends with the frame in progress and starts no other phase. -/
def AplRun.lastFrame (r : AplRun) : Bool := r.due && !(r.rev.isNone && r.phase = 1 && !r.stop && !r.phaseOnly && 0 < r.u.target)

/-- APL_UPDATE_COMPLETE of the update in a slot: at the end of its last frame. -/
def Chip.aplComplete (c : Chip) (slot : Nat) : Chip :=
  match c.apl.runs.find? (fun r => r.slot = slot) with
  | some r => if r.lastFrame then c.aplPhaseEnd r else c
  | none => c

/-! ### Stopping, freezing, restarting (R351 to R356) -/

/-- Finish-or-reverse: the frame in progress counts as applied. -/
def stopRun (r : AplRun) : AplRun :=
  if r.stop then r
  else if r.len - r.done ≤ r.done then { r with stop := true }
  else { r with stop := true, rev := some r.done }

/-- One update in flight is stopped under R351; a suspended one ends ABORTED at once, its cells UNKNOWN. -/
def Chip.aplStop (c : Chip) (slot : Nat) : Chip :=
  match c.apl.runs.find? (fun r => r.slot = slot) with
  | some r =>
    if r.suspended then c.aplEnd r .unknown true 0
    else c.aplUp (fun a => { a with runs := a.runs.map (fun x => if x.slot = slot then stopRun x else x) })
  | none => c

/-- Every queued update, and every one that waits for its commit, ends ABORTED. -/
def Chip.aplDropQueue (c : Chip) : Chip :=
  let c := foldOver (c.apl.queue ++ c.apl.plans.map (·.1)) (fun (u : AplUpdate) (c : Chip) => c.aplLast u.id 3 0 false) c
  let was := c.repairing
  let c := c.aplUp (fun a => { a with queue := [], plans := [] })
  (c.when (was && !c.repairing) (fun c => c.irq P.APL 9)).aplStatus

/-- Every update in flight is stopped under R351. -/
def Chip.aplStopRuns (c : Chip) : Chip :=
  foldOver (c.apl.runs.map (·.slot)) (fun (s : Nat) (c : Chip) => c.aplStop s) c

/-- The layer stops for a Mooring record (R357) or a FATAL event (R353): what the record will need is kept. -/
def Chip.aplHalt (c : Chip) : Chip :=
  let c := c.aplUp (fun a => { a with halted := true, snap := some (a.held, a.overflow), ends := [] })
  c.aplDropQueue.aplStopRuns

/-- The layer stops for the shutdown order: each running update runs to the end of its phase (R353). -/
def Chip.aplShutdown (c : Chip) : Chip :=
  let c := c.aplUp (fun a => { a with halted := true, snap := some (a.held, a.overflow), ends := [] })
  let c := c.aplDropQueue
  let c := c.aplUp (fun a => { a with runs := a.runs.map (fun r => { r with phaseOnly := true }) })
  foldOver ((c.apl.runs.filter (·.suspended)).map (·.slot)) (fun (s : Nat) (c : Chip) => c.aplStop s) c

/-- The layer step ends: updates that have not ended are UNKNOWN (R357). -/
def Chip.aplCut (c : Chip) : Chip :=
  foldOver c.apl.runs (fun (r : AplRun) (c : Chip) => c.aplEnd r .unknown true 0) c

/-- RAIL_STATUS with the rails down. -/
def Chip.railsDown (c : Chip) : Chip :=
  ((c.aplUp (fun a => { a with rails := 0, railBad := [] })).set F.APL_RAIL_STATUS_OK 0).set F.APL_RAIL_STATUS_READY 0

/-- The layer freezes (R354): no frames follow, updates in flight are suspended and their cells UNKNOWN. -/
def Chip.aplFreeze (c : Chip) : Chip :=
  if c.apl.frozen then c
  else
    let c := (c.event P.APL .isol (.own 0x13) 0xFFF 0 0 true).irq P.APL 8
    let c := foldOver c.apl.runs (fun (r : AplRun) (c : Chip) => c.paint r.u.rect none) c
    (c.aplUp (fun a => { a with frozen := true, runs := a.runs.map (fun r => { r with suspended := true }) })).aplStatus

/-- A run as it restarts: two phases, UNKNOWN → 0 first. -/
def Chip.restarted (c : Chip) (r : AplRun) : AplRun :=
  { r with phase := 1, done := 0, before := 0, len := (c.waveform r.bank c.apl.band 4 0).length, rev := none
           suspended := false, restarts := r.restarts + 1 }

/-- An update in flight restarts (R355); at the third time the layer freezes. One that was being stopped ends. -/
def Chip.aplRestart (c : Chip) (slot : Nat) : Chip :=
  match c.apl.runs.find? (fun r => r.slot = slot) with
  | none => c
  | some r =>
    let c := c.paint r.u.rect none
    if r.stop then c.aplEnd r .unknown true 2
    else
      let q := c.restarted r
      let c := (c.aplUp (fun a => { a with runs := a.runs.map (fun x => if x.slot = slot then q else x) })).count P.APL 5
      c.when (decide (q.restarts = 3)) (fun c => (c.event P.APL .isol (.own 0x12) slot 0 0 true).aplFreeze)

/-- APL_ABORT of one ID (R352); `one` says that the ID was named alone. -/
def Chip.aplAbortId (c : Chip) (id : Nat) (one : Bool) : Chip :=
  if 0xE0 ≤ id then c
  else
    let waits := c.apl.queue.any (fun u => u.id = id) || c.apl.plans.any (fun e => e.1.id = id)
    let runs := (c.apl.runs.filter (fun r => r.u.id = id)).map (·.slot)
    let c := c.when waits (fun c =>
      (c.aplUp (fun a => { a with
        queue := a.queue.filter (fun u => u.id ≠ id), plans := a.plans.filter (fun e => e.1.id ≠ id) })).aplLast id 3 0 false)
    let c := foldOver runs (fun (s : Nat) (c : Chip) => c.aplStop s) c
    if one && !waits && runs.isEmpty && c.apl.done.any (fun u => u.id = id) then c.aplLast id 1 0 true else c

/-- APL_ABORT: a write of APL.ABORT. -/
def Chip.aplAbort (c : Chip) (v : Nat) : Chip :=
  if bit v 31 then
    let ids := (c.apl.queue.map (·.id) ++ c.apl.plans.map (fun e => e.1.id) ++ c.apl.runs.map (fun r => r.u.id)).eraseDups
    foldOver ids (fun (id : Nat) (c : Chip) => c.aplAbortId id false) c
  else c.aplAbortId (v % 256) true

/-- APL_UNFREEZE: a write of RECOVER.UNFREEZE, ignored unless every rail is inside its window and no region-layer lane
is masked. -/
def Chip.aplUnfreeze (c : Chip) : Chip :=
  if c.get F.APL_RAIL_STATUS_OK = 0x1F && c.laneMask 3 = 0 then c.set F.APL_RECOVER_UNFREEZE 1 else c

/-- APL_RAIL_READY: the rising rails are in their windows, or 10 ms have passed without (R338). -/
def Chip.aplRailReady (c : Chip) (reached : Bool) : Chip :=
  if c.apl.rails ≠ 1 then c
  else if reached then
    let c := ((c.set F.APL_RAIL_STATUS_OK 0x1F).set F.APL_RAIL_STATUS_READY 1).set F.APL_RAIL_STATUS_FAULT 0
    let up := c.apl.restartUp
    let c := c.aplUp (fun a => { a with rails := 2, railBad := [], restartUp := false })
    if up && !c.apl.frozen then foldOver (c.apl.runs.map (·.slot)) (fun (s : Nat) (c : Chip) => c.aplRestart s) c else c
  else ((c.railsDown.set F.APL_RAIL_STATUS_FAULT 1).event P.APL .isol (.own 0x10) 0xFFF 0 0 true).aplFreeze

/-- The checks in a row that have found each rail outside its window, after one more. -/
def railCounts (bad : List Nat) (ok : Nat) : List Nat :=
  (List.range 5).map (fun i => if bit ok i then 0 else bad.getD i 0 + 1)

/-- APL_RAIL_CHECK: the 10 µs check; `ok` has a bit for each rail inside its window. Ten checks in a row that find the same
rail outside are 100 µs. While DRIVE is 0 the rails are measured all the same (R356). -/
def Chip.aplRailCheck (c : Chip) (ok : Nat) : Chip :=
  if c.apl.rails ≠ 2 then c.when (c.blockOn 13 && c.layerPresent && !c.apl.drive) (fun c => c.set F.APL_RAIL_STATUS_OK ok)
  else
    let bad := railCounts c.apl.railBad ok
    let c := (c.set F.APL_RAIL_STATUS_OK ok).aplUp (fun a => { a with railBad := bad })
    if bad.all (· < 10) then c
    else ((c.railsDown.set F.APL_RAIL_STATUS_FAULT 1).event P.APL .isol (.own 0x10) 0xFFF 0 0 true).aplFreeze

/-! ### Reports (R346) -/

/-- A row of a frame has failed. -/
def Chip.aplRowFailed (c : Chip) (row : Nat) : Chip :=
  let slot := (c.apl.runs.find? (fun r => r.u.rect.y0 ≤ row && row < r.u.rect.y1)).map (·.slot)
  (c.count P.APL 4).event P.APL .corr (.own 0x11) (slot.getD 0xFFF) 3 row

/-- Rows of a frame have failed: updates that drove them restart, or a repair of those that have completed joins the
queue (R355). -/
def Chip.aplRowsFailed (c : Chip) (f : AplFrame) (rows : List Nat) : Chip :=
  let c := foldOver rows (fun (row : Nat) (c : Chip) => c.aplRowFailed row) c
  let hit := f.updates.filter (fun u => rows.any (fun row => decide (u.rect.y0 ≤ row) && decide (row < u.rect.y1)))
  foldOver hit (fun (u : AplUpdate) (c : Chip) =>
    match c.apl.runs.find? (fun r => r.u.num = u.num) with
    | some r => if r.suspended then c else c.aplRestart r.slot
    | none => if c.apl.done.any (fun d => d.num = u.num) then c.aplEnqueue u.rect u.target 0xE0 true false else c) c

/-- A status frame of region-layer driver `group` as a report: `adv` is how far its error counts advanced, `last` its
LAST_BAD, `settled` that it came at least 100 µs after the newest frame's last row packet. -/
def Chip.aplReport (c : Chip) (group adv last : Nat) (settled : Bool) : Chip :=
  let total := storeGet (fun _ => 0) c.apl.adv group + adv
  let newest := (c.apl.frames.map (·.num)).getLast?
  let takes := fun (f : AplFrame) => !f.reported.contains group && (settled || newest ≠ some f.num)
  let fs := c.apl.frames.filter takes
  if fs.isEmpty then c.aplUp (fun a => { a with adv := storePut (fun _ => 0) a.adv group total })
  else
    let c := c.aplUp (fun a => { a with
      adv := storePut (fun _ => 0) a.adv group 0
      frames := a.frames.map (fun f => if takes f then { f with reported := f.reported ++ [group] } else f) })
    match fs.head? with
    | none => c
    | some f =>
      if total = 0 then c
      else if total = 1 then c.aplRowsFailed f (f.rows.filter (· = last))
      else c.aplRowsFailed f f.rows

/-- The frame two before the one that starts: without any report, all its rows have failed, unless its report could not
come because the return receiver is out of lock. -/
def Chip.aplUnreported (c : Chip) : Chip :=
  match c.apl.frames with
  | f :: g :: rest =>
    let c := c.aplUp (fun a => { a with frames := g :: rest })
    if !f.reported.isEmpty || f.unverified || !c.retLock 3 0 then c else c.aplRowsFailed f f.rows
  | _ => c

/-! ### Frames (R342, R344, R345, R349) -/

/-- The boundaries T1 to T5 that `g` reads. -/
def aplTemps (g : Fld → Nat) : List Int :=
  [F.APL_BAND_T0_T1, F.APL_BAND_T0_T2, F.APL_BAND_T0_T3, F.APL_BAND_T0_T4, F.APL_BAND_T1_T5].map (fun f => signed 8 (g f))

/-- The rate of a band that `g` reads, in Hz. -/
def aplRate (g : Fld → Nat) (b : Nat) : Nat :=
  g ([F.APL_BAND_RATE_RATE0, F.APL_BAND_RATE_RATE1, F.APL_BAND_RATE_RATE2, F.APL_BAND_RATE_RATE3, F.APL_BAND_RATE1_RATE4,
    F.APL_BAND_RATE1_RATE5].getD b F.APL_BAND_RATE1_RATE5)

/-- The band that the panel temperature asks for; a temperature that is not valid asks for no change. -/
def Chip.aplBandWant (c : Chip) : Nat :=
  let n := c.act F.APL_BAND_T1_BANDS_M1 + 1
  let t := c.panelTemp
  if t.2 then bandStep (aplTemps c.act) n c.apl.firstBand t.1 (min c.apl.band (n - 1)) else min c.apl.band (n - 1)

/-- The band that the panel temperature asks for waits, where it is another. -/
def Chip.aplBandJudge (c : Chip) : Chip :=
  let b := c.aplBandWant
  c.aplUp (fun a => { a with bandNext := if b = a.band && !a.firstBand then none else some b })

/-- A band change takes effect at the first frame start with no update in flight (R342). -/
def Chip.aplBand (c : Chip) : Chip :=
  match c.apl.bandNext with
  | some b => if c.apl.runs.isEmpty then c.aplUp (fun a => { a with band := b, bandNext := none, firstBand := false }) else c
  | none => c

/-- The gates that keep every update from starting. -/
def Chip.aplStartsHeld (c : Chip) : Bool :=
  c.apl.frozen || c.apl.halted || c.apl.hold || c.apl.resetting || !c.layerPresent || c.apl.bandNext.isSome
    || !c.aplTempOk || !c.reserveOk || c.modes.dark.isSome || !c.retLock 3 0
    || (c.apl.drive && c.apl.rails ≠ 2)

/-- The lowest free slot. -/
def Chip.aplFreeSlot (c : Chip) : Option Nat := (List.range 16).find? (fun s => !c.apl.runs.any (fun r => r.slot = s))

/-- An update starts in a slot. -/
def Chip.aplStart (c : Chip) (u : AplUpdate) (slot : Nat) : Chip :=
  let bank := c.act F.APL_WF_BANK_BANK
  let froms := c.fromStates u.rect
  let two := u.two || (froms.contains 4 && 0 < u.target)
  let length := fun (s d : Nat) => (c.waveform bank c.apl.band s d).length
  let len := if two then length 4 0
    else ((froms.filter (· ≠ u.target)).map (fun s => length s u.target)).foldl max 0
  let r : AplRun := { u := u, slot := slot, bank := bank, phase := if two then 1 else 0, len := len }
  let c := c.aplUp (fun a => { a with runs := a.runs ++ [r], queue := a.queue.filter (fun x => x.num ≠ u.num) })
  let c := c.when u.two (fun c => c.paint u.rect none)
  if len = 0 && !two then c.aplEnd r (.reached u.target) false 0 else c

/-- The queue taken in order: `ahead` are the rectangles of updates that run or stand ahead. -/
def Chip.aplStartAll (c : Chip) (ahead : List Rect) : List AplUpdate → Chip
  | [] => c
  | u :: rest =>
    let c' := if ahead.any (fun r => r.meets u.rect) then c
      else match c.aplFreeSlot with
        | some s => c.aplStart u s
        | none => c
    c'.aplStartAll (ahead ++ [u.rect]) rest

/-- The drive of a cell in the frame now starting: that of the run that covers it, ZERO outside every running rectangle. -/
def Chip.aplDriveAt (c : Chip) (x y : Nat) : Nat :=
  match c.apl.runs.find? (fun r => !r.suspended && r.u.rect.has x y) with
  | none => 0
  | some r =>
    let s := cellState c.apl.paints x y
    let src := if s.2 then 4 else s.1
    match r.rev with
    | some k => invertDrive (c.cellDrive r src k)
    | none => c.cellDrive r src (r.done - 1)

/-- The cells of lane `k` in a row, packed 2 bits each (R297). -/
def Chip.aplLaneRow (c : Chip) (k row : Nat) : List Byte :=
  let ncx := c.act F.APL_GEOM_NCX
  let cw := ceilDiv (ceilDiv ncx 4) 4 * 4
  leBytes (cw / 4) ((List.range cw).foldl (fun n i =>
    let x := k * cw + i
    n + (if x < ncx then c.aplDriveAt x row else 0) * 4 ^ i) 0)

/-- A row packet of lane `k` (R296), its CRC inverted where `bad`. -/
def Chip.aplRowPacket (c : Chip) (frame row k : Nat) (bad : Bool) : List Byte :=
  let payload := c.aplLaneRow k row
  let head := withCrc16 (leBytes 14 (0x71 + frame % 256 * 2 ^ 16 + row % 16384 * 2 ^ 24 + k * 2 ^ 40 + payload.length * 2 ^ 48))
  let body := head ++ payload
  body ++ leBytes 4 (if bad then crc32c body ^^^ 0xFFFFFFFF else crc32c body)

/-- The lanes that carry frames: present, enabled and not masked. -/
def Chip.aplLanes (c : Chip) : List Nat := (List.range 4).filter (fun k => c.laneEn 3 k && !c.laneMasked 3 k)

/-- The packets of a frame on its lanes; SER.INJECT meets the first row packet of its lane (R305). -/
def Chip.aplPackets (c : Chip) (frame : Nat) (rows : List Nat) (null : Bool) : List (List Byte) :=
  let head := command 0x72 (frame % 65536 + b2n null * 2 ^ 16 + c.apl.band * 2 ^ 24)
  c.aplLanes.flatMap (fun k =>
    head :: rows.map (fun row => c.aplRowPacket frame row k (c.injected 3 k && rows.head? == some row)))

/-- The rows that meet a running update, ascending. -/
def Chip.aplRows (c : Chip) : List Nat :=
  (List.range (c.act F.APL_GEOM_NCY)).filter (fun y => c.apl.runs.any (fun r => !r.suspended && r.u.rect.y0 ≤ y && y < r.u.rect.y1))

/-- One more frame of every running update. -/
def AplRun.advance (r : AplRun) : AplRun :=
  if r.suspended then r else match r.rev with
    | some k => { r with rev := some (k - 1) }
    | none => { r with done := r.done + 1 }

/-- A frame goes out: `null` is a keep-alive frame. -/
def Chip.aplSend (c : Chip) (null : Bool) : Chip :=
  let n := (c.get F.APL_FRAME_COUNT_FRAME + 1) % 65536
  let c := (c.set F.APL_FRAME_COUNT_FRAME n).count P.APL (if null then 2 else 1)
  let c := c.when (!null) (fun c => c.aplUp (fun a => { a with runs := a.runs.map AplRun.advance }))
  let rows := if null then [] else c.aplRows
  let sends := c.apl.drive && c.apl.rails = 2 && c.outputsLive
  let c := c.aplUp (fun a => { a with sent := if sends then c.aplPackets n rows null else [] })
  let c := c.when (sends && !rows.isEmpty && c.aplLanes.any (c.injected 3)) (fun c => c.set F.SER0_INJECT_CRC 0)
  let c := c.when (!null && sends) (fun c =>
    let blind := !c.retLock 3 0
    let f : AplFrame := { num := n, rows := rows, updates := (c.apl.runs.filter (fun r => !r.suspended)).map (·.u), unverified := blind }
    (c.aplUp (fun a => { a with frames := a.frames ++ [f] })).when blind (fun c => c.count P.APL 7))
  c.when (c.is ⟨P.SCN + 0x00C, 3, 1, 4⟩ && !(match c.modes.dark with
    | some d => d.stage = 1
    | none => false)) (fun c => c.aplSync n)

/-- A fall of OWNER.DRIVE takes effect at a frame start (R356). -/
def Chip.aplDriveFall (c : Chip) : Chip :=
  if c.apl.drive && !c.on F.APL_OWNER_DRIVE then
    let c := foldOver c.apl.runs (fun (r : AplRun) (c : Chip) => c.paint r.u.rect none) c
    (c.aplUp (fun a => { a with drive := false })).railsDown
  else c

/-- APL_FRAME_START. -/
def Chip.aplFrameStart (c : Chip) : Chip :=
  if !c.blockOn 13 then c
  else
    let c := c.aplFrameEnd.aplUnreported.aplDriveFall.aplBandJudge.aplBand
    let t := c.panelTemp
    let c := (c.setZ F.APL_TEMP_PANEL_TEMP (roundDegrees t.1)).setB F.APL_TEMP_VALID t.2
    let c := if c.aplStartsHeld then c else c.aplStartAll (c.apl.runs.map (fun r => r.u.rect)) c.apl.queue
    if c.apl.frozen || !c.layerPresent then c.aplUp (fun a => { a with sent := [] })
    else if c.apl.runs.any (fun r => !r.suspended) then c.aplSend false
    else if 0 < c.act F.APL_IDLE_KA_RATE && (!c.apl.drive || c.apl.rails = 2) then c.aplSend true
    else c.aplUp (fun a => { a with sent := [] })

/-! ### The commit and power (R338, R352 to R356) -/

/-- The registers and the state that a block reset of APL clears, once the last stop has ended. -/
def Chip.aplClear (c : Chip) : Chip :=
  let a := c.apl
  { c with apl := { paints := a.paints, held := a.held, overflow := a.overflow, nextNum := a.nextNum, drive := a.drive, table := a.table
                    snap := a.snap, ends := a.ends, halted := a.halted } }

/-- APL at a commit. -/
def Chip.aplCommit (c : Chip) : Chip :=
  if !c.blockOn 13 then c
  else
    -- geometry
    let t := c.timing
    let c := (c.set F.APL_CELL_CELL_W (t.width / max 1 (c.act F.APL_GEOM_NCX))).set F.APL_CELL_CELL_H
      (t.height / max 1 (c.act F.APL_GEOM_NCY))
    -- a freeze ends
    let c := if c.is F.APL_RECOVER_UNFREEZE && c.apl.frozen then
        let c := (c.aplUp (fun a => { a with frozen := false })).aplStatus
        foldOver (c.apl.runs.map (·.slot)) (fun (s : Nat) (c : Chip) => if c.apl.frozen then c else c.aplRestart s) c
      else c
    let c := c.set F.APL_RECOVER_UNFREEZE 0
    -- ownership: with nothing in flight a fall needs no frame start
    let c := if c.apl.runs.isEmpty then c.aplDriveFall else c
    let c := if !c.apl.drive && c.on F.APL_OWNER_DRIVE then
        c.aplUp (fun a => { a with drive := true, restartUp := !a.runs.isEmpty })
      else c
    -- rails
    let en := c.on F.APL_RAIL_CTRL_EN && c.layerPresent
    let c := if !en && !c.apl.hold then (c.aplUp (fun a => { a with hold := true })).aplStopRuns else c
    let c := c.aplUp (fun a => { a with hold := !en })
    let c := if !en && c.apl.runs.isEmpty && c.apl.rails ≠ 0 then c.railsDown else c
    let c := if en && c.apl.drive && c.apl.rails = 0 && !c.apl.halted then c.aplUp (fun a => { a with rails := 1 }) else c
    let c := c.aplBandJudge
    -- PLAN updates
    let ready := c.apl.plans.filter (fun e => decide (signedDiff 32 e.2 c.tick.field ≤ 0))
    let c := c.aplUp (fun a => { a with plans := a.plans.filter (fun e => !ready.contains e) })
    (foldOver ready (fun (e : AplUpdate × Nat) (c : Chip) => c.aplPlanJoin e.1) c).aplStatus

/-- The Panel region is powered: the map and all else that APL held is gone (R336). -/
def Chip.aplPowerUp (c : Chip) : Chip := { c with apl := { nextNum := c.apl.nextNum } }

/-! ### The record (R359, R360) -/

/-- The entries of a record's region-layer part: at most 64. -/
def Chip.aplRecord (c : Chip) : List AplEntry × Bool :=
  let (held, full) := c.apl.snap.getD (c.apl.held, c.apl.overflow)
  ((held.map (fun h => (⟨h.1, h.2, 0, 0⟩ : AplEntry)) ++ c.apl.ends).take 64, full)

/-- An entry's 8 bytes. -/
def AplEntry.bytes (e : AplEntry) : List Byte :=
  leBytes 8 (e.rect.x0 % 1024 + e.rect.y0 % 1024 * 2 ^ 10 + e.rect.x1 % 1024 * 2 ^ 20 + e.rect.y1 % 1024 * 2 ^ 30
    + e.level % 4 * 2 ^ 40 + e.outcome % 4 * 2 ^ 42 + e.id % 256 * 2 ^ 44)

/-- The map is rebuilt from the last record and repaired (R360); none where no valid record exists. -/
def Chip.aplRestore (c : Chip) (record : Option (List AplEntry × Bool)) : Chip :=
  let repair := fun (c : Chip) (r : Rect) =>
    if c.layerPresent && (c.fromStates r).any (· ≠ 0) then c.aplEnqueue r 0 0xE0 false true else c
  match record with
  | some (es, false) =>
    let es := es.filter (fun e => !e.rect.empty && e.rect.inside c.layerRect)
    let c := foldOver es (fun (e : AplEntry) (c : Chip) => c.paint e.rect (if e.outcome = 3 then none else some e.level)) c
    let c := c.aplUp (fun a => { a with held := es.foldl (fun h e => if e.outcome = 3 then h else heldAfter h e.rect e.level) [] })
    foldOver ((es.filter (fun e => e.outcome = 3 || 0 < e.level)).map (·.rect)).eraseDups
      (fun (r : Rect) (c : Chip) => repair c r) c
  | _ => if c.layerRect.empty then c else repair (c.paint c.layerRect none) c.layerRect

/-! ### Register views and the checks at plan lock (R361, R362) -/

/-- SLOT_STATE of a run: the frames that have ended, and those of all its phases. -/
def Chip.slotWord (c : Chip) (r : AplRun) : Nat :=
  let ph := if r.suspended then 3 else if 0 < r.restarts then 2 else 1
  let ended := r.before + (if r.suspended then r.done else r.done - 1)
  let next := if r.phase = 1 && !r.stop && !r.phaseOnly && decide (0 < r.u.target) then
      (c.waveform r.bank c.apl.band 0 r.u.target).length else 0
  r.u.id + min 63 ended * 2 ^ 8 + min 63 (r.before + r.len + next) * 2 ^ 14 + r.u.target * 2 ^ 20 + ph * 2 ^ 22
    + min 3 r.restarts * 2 ^ 24

/-- The registers that read APL's own state, by offset. -/
def Chip.aplView (c : Chip) (off : Nat) : Option Nat :=
  if off = 0x158 then
    some (c.apl.runs.length + c.apl.queue.length * 2 ^ 5 + c.apl.plans.length * 2 ^ 11 + c.apl.band * 2 ^ 17
      + b2n c.aplTempOk * 2 ^ 20 + b2n c.reserveOk * 2 ^ 21 + b2n c.apl.bandNext.isSome * 2 ^ 22)
  else if off = 0x174 then some (c.cellBits (c.get F.APL_CELL_PROBE_X) (c.get F.APL_CELL_PROBE_Y))
  else if 0x180 ≤ off && off < 0x1C0 then
    some (((c.apl.runs.find? (fun r => r.slot = (off - 0x180) / 4)).map c.slotWord).getD 0)
  else none

/-- The first register of the bands that offends: boundaries T1 to T4, T5 and the count, then the rates (R17). -/
def bandsOffset (temps : List Int) (n : Nat) (bad : Nat → Bool) : Nat :=
  if !((temps.take 4).zip (temps.take 4).tail).all (fun p => p.1 < p.2) then 0x10C
  else if 6 < n || !(temps.zip temps.tail).all (fun p => p.1 < p.2) then 0x110
  else if (List.range (min n 4)).any bad then 0x114
  else 0x118

/-- The first failing case of R361 Table 6 and its offset. -/
def Chip.aplReasonAtLock (c : Chip) (t : Timing) : Nat × Nat :=
  let g := c.lck
  let ncx := g F.APL_GEOM_NCX
  let ncy := g F.APL_GEOM_NCY
  let present := g F.APL_GEOM_PRESENT = 1
  let n := g F.APL_BAND_T1_BANDS_M1 + 1
  let temps := (aplTemps g).take (n - 1)
  let used := List.range (min n 6)
  let time := g F.APL_ROW_TIME_TIME
  let live := !c.apl.runs.isEmpty || (c.fromStates c.layerRect).any (· ≠ 0)
  let vcom := signed 12 (g F.APL_RAIL_CTRL_VCOM)
  if present && (ncx = 0 || 960 < ncx || ncy = 0 || 540 < ncy || t.width % ncx ≠ 0 || t.height % ncy ≠ 0) then (1, 0x100)
  else if (c.lw K.APL_GEOM).toNat ≠ (c.aw K.APL_GEOM).toNat && live then (2, 0x100)
  else if 6 < n || !(temps.zip temps.tail).all (fun p => p.1 < p.2)
      || used.any (fun b => aplRate g b < 50 || 85 < aplRate g b) then
    (3, bandsOffset temps n (fun b => aplRate g b < 50 || 85 < aplRate g b))
  else if time < 10 || used.any (fun b => 10000000 < (ncy * time + 5000) * aplRate g b) then (4, 0x11C)
  else if present && !used.all (fun b => c.bankComplete (g F.APL_WF_BANK_BANK) b (g F.APL_GEOM_LEVELS = 1)) then (5, 0x108)
  else if vcom < -200 || 200 < vcom then (6, 0x124)
  else (0, 0)

end Sys2Proof.Machine
end

