-- ==== Sys2Proof/Machine/Windows.lean ====
section
/-!
DEFINITION. Machine/Windows.lean: the flat-window slots of BLT (R254 to R258): their checks, their states, the region-layer
updates they post, and which windows are in force on each side.
-/

namespace Sys2Proof.Machine

/-- The grid AX × AY for a geometry and a layer of `ncx` × `ncy` cells (R254). -/
def fwGrid (t : Timing) (ncx ncy : Nat) : Nat × Nat :=
  (Nat.lcm 16 (max 1 (t.width / max 1 ncx)), Nat.lcm 8 (max 1 (t.height / max 1 ncy)))

/-- The state of slot `w`: 0 CLOSED, 1 OPENING, 2 OPEN, 3 CLOSING. -/
def Chip.fwState (c : Chip) (w : Nat) : Nat := c.get F.BLT_FW_STATE_STATE / 4 ^ w % 4

/-- The first failing case of Table 3 and its offset. -/
def Chip.bltReason (c : Chip) (t : Timing) : Nat × Nat :=
  let g := c.lck
  let rect := fun (w : Nat) => (⟨g (F.BLT_FW_TL_X0.ix w), g (F.BLT_FW_TL_Y0.ix w), g (F.BLT_FW_BR_X1.ix w), g (F.BLT_FW_BR_Y1.ix w)⟩ : Rect)
  let on := (List.range 16).filter (fun w => bit (g F.BLT_FW_CTRL_EN) w)
  let grid := fwGrid t (g F.APL_GEOM_NCX) (g F.APL_GEOM_NCY)
  -- The first of a case's offending corners: FW_TL of a window, else FW_BR.
  let first := fun (l : List Nat) (tl br : Nat → Bool) => match l.find? tl with
    | some w => some (0x240 + 4 * w)
    | none => (l.find? br).map (fun w => 0x280 + 4 * w)
  let offTl := fun (w : Nat) => decide ((rect w).x0 % grid.1 ≠ 0) || decide ((rect w).y0 % grid.2 ≠ 0)
  let offBr := fun (w : Nat) => decide ((rect w).x1 % grid.1 ≠ 0) || decide ((rect w).y1 % grid.2 ≠ 0)
  let outTl := fun (w : Nat) => decide (t.width ≤ (rect w).x0) || decide (t.height ≤ (rect w).y0)
  let outBr := fun (w : Nat) => (rect w).empty || !(rect w).inside ⟨0, 0, t.width, t.height⟩
  let clash := fun (w : Nat) => on.any (fun v => v ≠ w && (rect v).meets (rect w))
  let live := (List.range 16).filter (fun w => c.fwState w ≠ 0)
  let movedTl := fun (w : Nat) => decide ((rect w).x0 ≠ (c.fwRect w).x0) || decide ((rect w).y0 ≠ (c.fwRect w).y0)
  let movedBr := fun (w : Nat) => decide ((rect w).x1 ≠ (c.fwRect w).x1) || decide ((rect w).y1 ≠ (c.fwRect w).y1)
  if let some o := first on offTl offBr then (1, o)
  else if let some o := first on outTl outBr then (2, o)
  else if let some o := first on clash (fun _ => false) then (3, o)
  else if let some o := first live movedTl movedBr then (4, o)
  else if g F.BLT_PIPE_EN_EN = 0 then (5, 0x124)
  else (0, 0)

/-- A slot takes a state: FW_STATE, FW_EVENT and the interrupt follow. -/
def Chip.fwMove (c : Chip) (w state : Nat) : Chip :=
  let old := c.get F.BLT_FW_STATE_STATE
  let c := c.set F.BLT_FW_STATE_STATE (old - old / 4 ^ w % 4 * 4 ^ w + state * 4 ^ w)
  let c := ((c.set F.BLT_FW_EVENT_SLOT w).set F.BLT_FW_EVENT_STATE state).set F.BLT_FW_EVENT_FIELD (c.tick.field % 65536)
  (c.when (state = 2) (fun c => c.count P.BLT 3)).when (state = 0) (fun c => c.count P.BLT 4) |>.irq P.BLT 8

/-- The cells of slot `w`'s window. -/
def Chip.fwCells (c : Chip) (w : Nat) : Rect :=
  let r := c.fwRect w
  let cw := max 1 (c.get F.APL_CELL_CELL_W)
  let ch := max 1 (c.get F.APL_CELL_CELL_H)
  ⟨r.x0 / cw, r.y0 / ch, r.x1 / cw, r.y1 / ch⟩

/-- A window's update joins at this commit, or is refused (R255, R348). -/
def Chip.fwPost (c : Chip) (w target : Nat) : Nat × Chip :=
  let num := c.apl.nextNum
  let id := 0xF0 + w
  let r := c.aplJoin (c.fwCells w) target 2 id false
  if r.1 = 0 then (0, { r.2 with blt := { r.2.blt with updates := r.2.blt.updates ++ [(w, num)] } })
  else (r.1, ((r.2.set F.APL_LAST_REFUSED_ID id).set F.APL_LAST_REFUSED_REASON r.1).set F.APL_LAST_REFUSED_VALID 1)

/-- A slot that stays or becomes CLOSED because its diffusing update was refused (R257). -/
def Chip.fwRefuse (c : Chip) (w why : Nat) : Chip :=
  let en := F.BLT_FW_CTRL_EN
  let c := c.set en (withBit (c.get en) w false)
  let c := c.setAct en.key (fldPut (c.aw en.key) en (withBit (c.act en) w false))
  let c := c.setLocked en.key (fldPut (c.lw en.key) en (withBit (c.lck en) w false))
  let c := ((c.set F.BLT_FW_REFUSED_SLOT w).set F.BLT_FW_REFUSED_REASON why).set F.BLT_FW_REFUSED_VALID 1
  (c.count P.BLT 5).irq P.BLT 9

/-- A diffusing update for a slot: OPENING, or CLOSED where it is refused. -/
def Chip.fwOpen (c : Chip) (w : Nat) : Chip :=
  let r := c.fwPost w 3
  if r.1 = 0 then r.2.fwMove w 1
  else (r.2.when (c.fwState w ≠ 0) (fun c => c.fwMove w 0)).fwRefuse w r.1

/-- A clearing update for a slot in CLOSING; refused, it is posted again at the next commit. -/
def Chip.fwClear (c : Chip) (w : Nat) : Chip :=
  let r := c.fwPost w 0
  if r.1 = 0 then r.2
  else { r.2 with blt := { r.2.blt with clearNext := r.2.blt.clearNext ++ [w] } }

/-- The update that slot `w` waits for has completed. -/
def Chip.fwCompleted (c : Chip) (w : Nat) : Bool :=
  c.blt.updates.any (fun e => e.1 = w && c.apl.done.any (fun u => u.num = e.2))

/-- Slot `w` waits for no update any more. -/
def Chip.fwForget (c : Chip) (w : Nat) : Chip :=
  { c with blt := { c.blt with updates := c.blt.updates.filter (fun (e : Nat × Nat) => decide (e.1 ≠ w)) } }

/-- SYN bit of a slot. -/
def Chip.fwSyn (c : Chip) (w : Nat) (b : Bool) : Chip :=
  c.set F.BLT_FW_INFORCE_SYN (withBit (c.get F.BLT_FW_INFORCE_SYN) w b)

/-- One slot at a commit (Table 4). -/
def Chip.fwSlot (c : Chip) (w : Nat) : Chip :=
  let en := bit (c.act F.BLT_FW_CTRL_EN) w
  match c.fwState w with
  | 0 => if en then c.fwOpen w else c
  | 1 =>
    if !c.fwCompleted w then c
    else if en then ((c.fwForget w).fwMove w 2).fwSyn w true
    else ((c.fwForget w).fwMove w 3).fwClear w
  | 2 =>
    if en then c
    else
      let c := (c.fwMove w 3).fwSyn w false
      { c with blt := { c.blt with clearNext := c.blt.clearNext ++ [w] } }
  | _ =>
    if !c.fwCompleted w then c
    else if en then (c.fwForget w).fwOpen w else (c.fwForget w).fwMove w 0

/-- The window slots at a commit: scan-out takes what synthesis took one commit ago, clearing updates that wait are
posted, and each slot moves. -/
def Chip.windowsCommit (c : Chip) : Chip :=
  if !c.blockOn 8 then c
  else
    let grid := fwGrid c.timing (c.act F.APL_GEOM_NCX) (c.act F.APL_GEOM_NCY)
    let c := (c.set F.BLT_FW_ALIGN_AX grid.1).set F.BLT_FW_ALIGN_AY grid.2
    let c := c.set F.BLT_FW_INFORCE_OUT (c.get F.BLT_FW_INFORCE_SYN)
    let again := c.blt.clearNext
    let c := { c with blt := { c.blt with clearNext := [] } }
    let c := foldOver again (fun (w : Nat) (c : Chip) => c.fwClear w) c
    foldOver (List.range 16) (fun (w : Nat) (c : Chip) => c.fwSlot w) c

end Sys2Proof.Machine
end

