-- ==== Sys2Proof/Machine/Link.lean ====
section
/-!
DEFINITION. Machine/Link.lean: the Adeak link below its packets (chapter 17): link states and training, flits, sequence and
retry, credits, responses, event packets, low power and link down; and the KPR roll-up registers (R63).
-/

namespace Sys2Proof.Machine

/-! ### Roll-up registers (R63) -/

/-- REGION_SUM[r]: the block bits of the region's blocks, and REGION_EVT. -/
def Chip.regionSum (c : Chip) (r : Nat) : Nat :=
  ((List.range 20).foldl (fun n i => if regionOf (i + 1) = r && c.blockPend (i + 1) then n + 2 ^ (i + 1) else n) 0)
    + (if c.is (F.KPR_REGION_SUM_REGION_EVT.ix r) then 2 ^ 31 else 0)

/-- CHIP_INT: the regions whose REGION_SUM is not 0, and CHIP_EVT. -/
def Chip.chipInt (c : Chip) : Nat :=
  ((List.range 4).foldl (fun n r => if c.regionSum r ≠ 0 then n + 2 ^ r else n) 0)
    + (if c.is F.KPR_CHIP_INT_CHIP_EVT then 256 else 0)

/-! ### Local time -/

/-- The local time moved by `d` ns: seconds and nanoseconds. -/
def Chip.timePlus (c : Chip) (d : Int) : Nat × Nat :=
  let t := ((c.clock.sec * 1000000000 + c.clock.ns : Nat) + d : Int).toNat
  (t / 1000000000, t % 1000000000)

/-- The arrival time of a packet that arrives now (R403). -/
def Chip.arrival (c : Chip) : Nat × Nat := c.timePlus (-(signed 16 (c.get F.HLK_TS_OFFSET_NS)))

/-! ### Flits (R391, R392) -/

/-- A change of the link's own state. -/
def Chip.hlkUp (c : Chip) (f : Hlk → Hlk) : Chip := { c with hlk := f c.hlk }

/-- The link state of Table 1. -/
def Chip.linkState (c : Chip) : Nat := c.get F.HLK_LINK_STATUS_STATE

/-- `n` bytes, zeros after the last. -/
def padBytes (n : Nat) (l : List Byte) : List Byte := (l ++ List.replicate (n - l.length) 0).take n

/-- A flit from its header fields and payload; `bad` corrupts its CRC. -/
def flit (seq ack vc kind cvc cn : Nat) (payload : List Byte) (bad : Bool) : List Byte :=
  let body := leBytes 4 (seq % 4096 + ack % 4096 * 2 ^ 12 + vc * 2 ^ 24 + kind * 2 ^ 26 + cvc * 2 ^ 28 + cn * 2 ^ 30)
    ++ padBytes 64 payload
  body ++ leBytes 4 (if bad then crc32c body ^^^ 1 else crc32c body)

/-- A received flit whose CRC holds. -/
def flitSound (l : List Byte) : Bool := l.length = 72 && leNat (l.drop 68) = crc32c (l.take 68)

/-- A received flit that is not discarded as a whole: its header word and payload. -/
def readFlit (l : List Byte) : Option (Nat × List Byte) :=
  let w := leNat (l.take 4)
  if !flitSound l || w / 2 ^ 26 % 4 = 3 then none
  else some (w, (l.drop 4).take 64)

/-- A LINK flit of a type that Table 3 reserves. -/
def linkReserved (w : Nat) (p : List Byte) : Bool :=
  w / 2 ^ 26 % 4 = 2 && (leNat (p.take 1) = 0 || decide (5 < leNat (p.take 1)))

/-- ACK of the flits the module sends: the last number accepted in order. -/
def Chip.ackNow (c : Chip) : Nat := (c.get F.HLK_SEQ_STATUS_RX_EXPECT + 4095) % 4096

/-- Flits put on the lanes by this command. -/
def Chip.wireFlits (c : Chip) (l : List (List Byte)) : Chip := c.hlkUp (fun h => { h with wire := h.wire ++ l })

/-- A LINK flit with type `t` and its further bytes. -/
def Chip.sendLink (c : Chip) (t : Nat) (more : List Byte) : Chip :=
  c.wireFlits [flit (c.get F.HLK_SEQ_STATUS_TX_NEXT) c.ackNow 3 2 3 0 (leBytes 1 t ++ more) false]

/-- A DATA flit, corrupted where INJECT.CRC asks for it. -/
def Chip.sendData (c : Chip) (f : TxFlit) : Chip :=
  let bad := c.is F.HLK_INJECT_CRC
  let c := c.wireFlits [flit f.seq c.ackNow f.vc 0 3 0 f.data bad]
  (c.set F.HLK_INJECT_CRC 0).hlkUp (fun h => { h with txCount := h.txCount + 1 })

/-! ### Credits (R395) -/

/-- TX_CREDIT follows the credits held. -/
def Chip.creditRegs (c : Chip) : Chip :=
  let v := fun i => c.hlk.credits.getD i 0
  ((c.set F.HLK_TX_CREDIT_VC0 (min 255 (v 0))).set F.HLK_TX_CREDIT_VC1 (min 4095 (v 1))).set F.HLK_TX_CREDIT_VC2 (min 255 (v 2))

/-- Buffers the module advertises. -/
def myBuffers : List Nat := [64, 1024, 32]

/-- Freed buffers go back in units of 4, in NULL flits; those of VC1 wait while the scene ring withholds them (R105). -/
def Chip.returnCredits (c : Chip) : Chip :=
  let one := fun (v : Nat) (c : Chip) =>
    let n := c.hlk.owed.getD v 0 / 4
    if n = 0 || (v = 1 && c.ring.creditHeld) || c.linkState ≠ 4 then c
    else
      let flits := (List.range (ceilDiv n 3)).map (fun i =>
        flit (c.get F.HLK_SEQ_STATUS_TX_NEXT) c.ackNow 3 1 v (min 3 (n - 3 * i)) [] false)
      (c.wireFlits flits).hlkUp (fun h => { h with owed := modifyAt h.owed v (· - 4 * n) })
  foldOver [0, 1, 2] one c

/-- `n` buffers of virtual channel `v` freed. -/
def Chip.freeBuffers (c : Chip) (v n : Nat) : Chip :=
  (c.hlkUp (fun h => { h with held := modifyAt h.held v (· - n), owed := modifyAt h.owed v (· + n) })).returnCredits

/-! ### Sending (R394 to R396) -/

/-- UNACKED follows the replay buffer. -/
def Chip.unacked (c : Chip) : Chip := c.set F.HLK_REPLAY_STATUS_UNACKED c.hlk.replay.length

/-- The virtual channel whose flit goes next: VC1 at most 15 times in a row while VC0 or VC2 has one ready, and VC2 before
VC0. -/
def Chip.nextVc (c : Chip) : Option Nat :=
  let ready := fun v => c.hlk.waiting.any (fun e => e.1 = v) && 0 < c.hlk.credits.getD v 0
  if ready 1 && (c.hlk.vc1Run < 15 || !(ready 0 || ready 2)) then some 1
  else if ready 2 then some 2
  else if ready 0 then some 0
  else none

/-- The first waiting flit of a virtual channel goes out for the first time. -/
def Chip.sendFirst (c : Chip) (v : Nat) : Chip :=
  match c.hlk.waiting.find? (fun e => e.1 = v) with
  | none => c
  | some e =>
    let seq := c.get F.HLK_SEQ_STATUS_TX_NEXT
    let f : TxFlit := ⟨seq, v, e.2, 0⟩
    let others := c.hlk.waiting.any (fun e => e.1 ≠ 1)
    let c := (c.hlkUp (fun h => { h with
      waiting := h.waiting.erase e
      replay := h.replay ++ [f]
      credits := modifyAt h.credits v (· - 1)
      vc1Run := if v = 1 && others then h.vc1Run + 1 else 0 })).sendData f
    ((c.set F.HLK_SEQ_STATUS_TX_NEXT (seq + 1)).unacked).creditRegs

/-- Waiting flits go out as far as credits and the replay buffer allow. -/
def Chip.pumpN : Nat → Chip → Chip
  | 0, c => c
  | n + 1, c =>
    if c.linkState ≠ 4 || 1536 ≤ c.hlk.replay.length then c
    else match c.nextVc with
      | some v => Chip.pumpN n (c.sendFirst v)
      | none => c

/-- At Hold: once every accepted request has been answered, LP_REQ goes out (R405). -/
def Chip.lpTry (c : Chip) : Chip :=
  let h := c.hlk
  if !h.stopped || h.lpReq || c.linkState ≠ 4 || !h.dma.isEmpty || !h.readQueue.isEmpty || !h.waiting.isEmpty then c
  else (c.sendLink 4 []).hlkUp (fun h => { h with lpReq := true })

/-- All that can go out. -/
def Chip.pump (c : Chip) : Chip := (Chip.pumpN c.hlk.waiting.length c).lpTry

/-- A packet's bytes: the 16-byte header and the data. -/
def packetBytes (p : Packet) : List Byte :=
  leBytes 8 (p.op + p.ctx * 2 ^ 8 + b2n p.start * 2 ^ 9 + b2n p.ackreq * 2 ^ 10 + p.tag % 65536 * 2 ^ 16
    + p.data.length % 65536 * 2 ^ 32 + p.status * 2 ^ 48 + p.aux % 256 * 2 ^ 56)
    ++ leBytes 8 (p.addr % 2 ^ 40 + p.rdlen % 65536 * 2 ^ 40 + p.far % 256 * 2 ^ 56) ++ p.data

/-- Bytes cut into payloads of 64. -/
def payloads : Nat → List Byte → List (List Byte)
  | 0, _ => []
  | n + 1, l => if l.isEmpty then [] else padBytes 64 (l.take 64) :: payloads n (l.drop 64)

/-- The virtual channel of a packet the module sends (Table 5). -/
def responseVc (op : Nat) : Nat := if op = 0x84 then 1 else if op = 0x88 || op = 0x90 then 2 else 0

/-- A packet the module sends: it waits for its credits. -/
def Chip.sendPacket (c : Chip) (p : Packet) : Chip :=
  let b := packetBytes p
  (c.hlkUp (fun h => { h with
    waiting := h.waiting ++ (payloads (b.length / 64 + 1) b).map (fun l => (responseVc p.op, l)) })).pump

/-! ### Down, recover and up (R389, R407) -/

/-- LINK_STATUS.STATE set. -/
def Chip.setLink (c : Chip) (s : Nat) : Chip := c.set F.HLK_LINK_STATUS_STATE s

/-- The link goes DOWN (R407): causes as DOWN_INFO.CAUSE names them. -/
def Chip.linkDown (c : Chip) (cause : Nat) : Chip :=
  let c := ((c.setLink 0).set F.HLK_LINK_STATUS_WIDTH 3).set F.HLK_LINK_STATUS_RATE 0
  let c := (c.set F.HLK_LANE_STATUS_RX_LOCK 0).set F.HLK_LANE_STATUS_USED 0
  let isol := cause ≠ 1 && decide (c.eventClass P.HLK .cont (.own 0x18) true = .isol)
  let c := (c.set F.HLK_DOWN_INFO_CAUSE (if isol then 4 else cause)).set F.HLK_DOWN_INFO_FIELD (c.tick.field % 65536)
  let c := (c.irq P.HLK 11).count P.HLK 15
  let c := c.when (cause ≠ 1) (fun c =>
    let c := c.event P.HLK .cont (.own 0x18) 0xFFF 0 0 true
    match c.ring.fill with
    | some fl => c.sceneRefuse fl .short 0
    | none => c)
  let c := (c.set F.HLK_OUTSTANDING_CTX0 0).set F.HLK_OUTSTANDING_CTX1 0
  let c := { c with dram := { c.dram with reqs := c.dram.reqs.filter (fun r => r.port ≠ 0 || r.write.isSome), done := [] } }
  let c := (c.hlkUp (fun h => { nextJob := h.nextJob, wire := h.wire, txCount := h.txCount, rxCount := h.rxCount
                                replays := h.replays, stopped := h.stopped, wasUp := h.wasUp })).unacked
  ((c.creditRegs.set F.HLK_LP_STATUS_IN_LP 0).set F.HLK_SEQ_STATUS_TX_NEXT 0).set F.HLK_SEQ_STATUS_RX_EXPECT 0

/-- The link enters RECOVER: TRAIN and INIT run again with the buffers kept. -/
def Chip.linkRecover (c : Chip) : Chip :=
  let w := c.get F.HLK_LINK_STATUS_WIDTH
  let r := c.get F.HLK_LINK_STATUS_RATE
  let fromUp := c.linkState = 4 || c.linkState = 6
  let c := (c.setLink 5).count P.HLK 16
  let c := (c.set F.HLK_LINK_CTRL_RETRAIN 0).set F.HLK_LINK_STATUS_RATE 0
  -- The count towards REPLAY_LIMIT starts anew.
  c.hlkUp (fun h => { h with trainRate := 0, agreed := false, peerLanes := 0, ownLanes := 0
                             replay := h.replay.map (fun f => { f with resent := 0 })
                             oldWidth := if fromUp then w else h.oldWidth, oldRate := if fromUp then r else h.oldRate })

/-- A PROTOCOL error (R395). -/
def Chip.linkProtocol (c : Chip) : Chip := (c.event P.HLK .cont (.own 0x1A) 0xFFF 0 0 true).linkDown 3

/-! ### Training (R389, R390) -/

/-- LINK_DETECT. -/
def Chip.linkDetect (c : Chip) : Chip :=
  if c.linkState = 0 && c.is F.HLK_LINK_CTRL_ENABLE && c.blockOn 1 then c.setLink 1 else c

/-- LINK_DETECT_TIMEOUT. -/
def Chip.linkDetectTimeout (c : Chip) : Chip := if c.linkState = 1 then c.linkDown 5 else c

/-- The module's TS flit: lanes in lock, greatest width and rate, and the marker COUNT of the switch, which is a free
value. -/
def Chip.sendTs (c : Chip) (lanes : Nat) : Chip :=
  let width := if c.modes.bootRom then 0 else min 2 (c.get F.HLK_LINK_CTRL_MAX_WIDTH)
  let rate := if c.is F.HLK_LINK_CTRL_RATE16 then 1 else 2
  (c.sendLink 1 (leBytes 2 lanes ++ leBytes 1 width ++ leBytes 1 rate ++ leBytes 2 (c.freeNat % 65536))).drew

/-- LINK_TRAIN_ENTRY: lanes 0 to 3 have been locked for 100 µs. -/
def Chip.linkTrainEntry (c : Chip) (lanes : Nat) : Chip :=
  if c.linkState = 1 && lanes % 16 = 15 then
    let c := (c.setLink 2).set F.HLK_LANE_STATUS_RX_LOCK lanes
    (c.hlkUp (fun h => { h with trainRate := 0, agreed := false, ownLanes := lanes % 65536 })).sendTs lanes
  else c

/-- The width on which both directions agree: 16, 8 or 4 lanes as code 2, 1 or 0; none where fewer than 4 pass. -/
def Chip.agreedWidth (c : Chip) (lanes : Nat) : Option Nat :=
  let limit := if c.modes.bootRom then 0
    else min (min 2 (c.get F.HLK_LINK_CTRL_MAX_WIDTH)) (min 2 (c.get F.HLK_PEER_INFO_MAX_WIDTH))
  [2, 1, 0].find? (fun w => decide (w ≤ limit) && decide (lanes % 2 ^ (4 * 2 ^ w) = 2 ^ (4 * 2 ^ w) - 1))

/-- The link's width and rate are chosen: INIT flits cross (R390, R392). -/
def Chip.linkAgree (c : Chip) (width rate : Nat) : Chip :=
  let c := ((c.set F.HLK_LINK_STATUS_WIDTH width).set F.HLK_LINK_STATUS_RATE rate).set F.HLK_LANE_STATUS_USED
    (2 ^ (4 * 2 ^ width) - 1)
  let c := if c.linkState = 2 then c.setLink 3 else c
  let c := c.hlkUp (fun h => { h with agreed := true })
  (c.sendLink 2 (leBytes 2 64 ++ leBytes 2 1024 ++ leBytes 2 32 ++ leBytes 2 (c.freeNat % 65536) ++ leBytes 2 0xB1)).drew

/-- TS: the peer's training flit. Before the switch it gives the peer's limits; after it, the lanes that pass there. -/
def Chip.linkTs (c : Chip) (l : List Byte) : Chip :=
  match readFlit l with
  | some (w, p) =>
    if c.linkState ≠ 0 && c.linkState ≠ 6 && linkReserved w p then c.linkProtocol
    else if !(c.linkState = 2 || c.linkState = 5) || w / 2 ^ 26 % 4 ≠ 2 || leNat (p.take 1) ≠ 1 then c
    else
      let lanes := leNat ((p.drop 1).take 2)
      let c := (c.set F.HLK_PEER_INFO_MAX_WIDTH (leNat ((p.drop 3).take 1))).set F.HLK_PEER_INFO_MAX_RATE (leNat ((p.drop 4).take 1))
      let c := c.hlkUp (fun h => { h with peerLanes := lanes })
      let both := c.hlk.ownLanes &&& lanes
      if c.modes.bootRom then (match c.agreedWidth both with
        | some w => c.linkAgree w 0
        | none => c)
      else if c.hlk.trainRate = 0 then c
      else match c.agreedWidth both with
        | some w => c.linkAgree w c.hlk.trainRate
        | none =>
          if c.hlk.trainRate = 2 then c
          else if c.linkState = 2 then c.linkRecover else c.hlkUp (fun h => { h with trainRate := 0 })
  | none => c

/-- LINK_RATE_SWITCH at the marker COUNT that the TS flits name: 32 Gb/s first, unless RATE16 or the peer limits the rate,
then 16. `pass` are the lanes that pass 2 ms later and `peaks` the peaking each receiver chose. -/
def Chip.linkRateSwitch (c : Chip) (pass : Nat) (peaks : List Nat) : Chip :=
  if !(c.linkState = 2 || c.linkState = 5) || c.hlk.agreed || c.modes.bootRom then c
  else
    let slow := c.is F.HLK_LINK_CTRL_RATE16 || c.get F.HLK_PEER_INFO_MAX_RATE = 1 || c.hlk.trainRate = 2
    let rate := if slow then 1 else 2
    let c := (c.set F.HLK_LINK_STATUS_RATE rate).set F.HLK_LANE_STATUS_RX_LOCK pass
    let c := foldOver (List.range 16) (fun (i : Nat) (c : Chip) => c.set (F.HLK_RX_EQ_PEAK.ix i) (min 18 (peaks.getD i 0))) c
    (c.hlkUp (fun h => { h with trainRate := rate, ownLanes := pass % 65536 })).sendTs pass

/-- LINK_TRAIN_TIMEOUT: TRAIN has not ended within 6 ms. -/
def Chip.linkTrainTimeout (c : Chip) : Chip := if c.linkState = 2 then c.linkRecover else c

/-- LINK_RECOVER_TIMEOUT: RECOVER has not returned to UP within 20 ms. -/
def Chip.linkRecoverTimeout (c : Chip) : Chip := if c.linkState = 5 then c.linkDown 2 else c

/-- Flits that an ACK covers leave the replay buffer. -/
def Chip.ackFlits (c : Chip) (ack : Nat) : Chip :=
  let keep := c.hlk.replay.filter (fun f => decide (0 < signedDiff 12 f.seq ack))
  (c.hlkUp (fun h => { h with replay := keep })).unacked.pump

/-- Flits are resent; one resent REPLAY_LIMIT times without ACK passing it takes the link into RECOVER (R394). -/
def Chip.resendFrom (c : Chip) (seq : Nat) : Chip :=
  let hit := fun (f : TxFlit) => decide (0 ≤ signedDiff 12 f.seq seq)
  if !c.hlk.replay.any hit then c
  else
    let c := c.hlkUp (fun h => { h with
      replay := h.replay.map (fun f => if hit f then { f with resent := f.resent + 1 } else f), replays := h.replays + 1 })
    let c := c.count P.HLK 12
    let c := foldOver (c.hlk.replay.filter hit) (fun (f : TxFlit) (c : Chip) => c.sendData f) c
    let limit := max 1 (c.get F.HLK_RETRY_CFG_REPLAY_LIMIT)
    if c.hlk.replay.any (fun f => limit ≤ f.resent) then c.linkRecover else c

/-- Host software is told of events again after the link was away (R402). -/
def Chip.eventsResume (c : Chip) : Chip :=
  { c with host0 := { c.host0 with resume := true }, host1 := { c.host1 with resume := true } }

/-- INIT: the peer's INIT flit brings the link UP. -/
def Chip.linkInit (c : Chip) (l : List Byte) : Chip :=
  match readFlit l with
  | some (w, p) =>
    if c.linkState ≠ 0 && c.linkState ≠ 6 && linkReserved w p then c.linkProtocol
    else if !c.hlk.agreed || !(c.linkState = 3 || c.linkState = 5) || w / 2 ^ 26 % 4 ≠ 2 || leNat (p.take 1) ≠ 2 then c
    else
      let buf := fun i => leNat ((p.drop (1 + 2 * i)).take 2)
      let bufs := [buf 0, buf 1, buf 2]
      let recovered := c.linkState = 5
      let c := ((c.set F.HLK_PEER_ADV_VC0 (min 255 (buf 0))).set F.HLK_PEER_ADV_VC1 (min 4095 (buf 1))).set
        F.HLK_PEER_ADV_VC2 (min 255 (buf 2))
      let c := c.set F.HLK_PEER_INFO_VERSION (leNat ((p.drop 9).take 2))
      let width := c.get F.HLK_LINK_STATUS_WIDTH
      let old := c.hlk.oldWidth
      let less := recovered && (width < old || c.get F.HLK_LINK_STATUS_RATE < c.hlk.oldRate)
      let c := c.when less (fun c => c.event P.HLK .cont (.own 0x19) (if width < old then 4 * 2 ^ width else 0xFFF))
      let c := c.when (width ≠ old && old ≠ 3) (fun c => c.irq P.HLK 12)
      let c := c.hlkUp (fun h => { h with
        peerBuf := bufs, credits := if recovered then h.credits else bufs, oldWidth := width, agreed := false })
      let c := ((c.setLink 4).irq P.HLK 10).creditRegs
      let c := (c.when c.hlk.wasUp Chip.eventsResume).hlkUp (fun h => { h with wasUp := true })
      if recovered then
        let c := c.ackFlits (w / 2 ^ 12 % 4096)
        match c.hlk.replay.head? with
        | some f => c.resendFrom f.seq
        | none => c
      else
        (c.set F.HLK_SEQ_STATUS_TX_NEXT 0).set F.HLK_SEQ_STATUS_RX_EXPECT 0 |>.pump
  | none => c

/-- LANE_LOCK_LOSS of an Adeak lane: an UP link enters RECOVER. -/
def Chip.linkLaneLost (c : Chip) (lane : Nat) : Chip :=
  let c := c.set F.HLK_LANE_STATUS_RX_LOCK (withBit (c.get F.HLK_LANE_STATUS_RX_LOCK) lane false)
  if c.linkState = 4 && bit (c.get F.HLK_LANE_STATUS_USED) lane then c.linkRecover else c

/-- A write of LINK_CTRL.RETRAIN. -/
def Chip.linkRetrain (c : Chip) : Chip := if c.linkState = 4 then c.linkRecover else c.set F.HLK_LINK_CTRL_RETRAIN 0

/-! ### Headers of received flits (R393 to R395) -/

/-- What an accepted header carries besides its own flit: ACK, and credits; false where the credits break R395. -/
def Chip.flitHeader (c : Chip) (w : Nat) : Bool × Chip :=
  let cvc := w / 2 ^ 28 % 4
  let cn := w / 2 ^ 30 % 4
  let now := c.hlk.credits.getD cvc 0 + 4 * cn
  if cvc ≠ 3 && c.hlk.peerBuf.getD cvc 0 < now then (false, c.linkProtocol)
  else
    let c := if cvc = 3 then c else (c.hlkUp (fun h => { h with credits := modifyAt h.credits cvc (fun _ => now) })).creditRegs
    (true, c.ackFlits (w / 2 ^ 12 % 4096))

/-- A NAK goes out at the first bad flit after an accepted one. -/
def Chip.sendNak (c : Chip) : Chip :=
  if c.hlk.nak then c
  else
    let c := c.sendLink 3 (leBytes 2 (c.get F.HLK_SEQ_STATUS_RX_EXPECT))
    (c.hlkUp (fun h => { h with nak := true })).count P.HLK 13

/-- A flit that failed its CRC: CORR CHECK with the expected number; a count that escalates takes the link into RECOVER. -/
def Chip.flitCrcError (c : Chip) : Chip :=
  let expect := c.get F.HLK_SEQ_STATUS_RX_EXPECT
  let cls := c.eventClass P.HLK .corr .check
  let c := ((c.count P.HLK 11).event P.HLK .corr .check 0xFFF 3 expect).sendNak
  if cls ≠ .corr then c.linkRecover else c

/-- A flit that is discarded as a whole: one of KIND 0b11 without more. -/
def Chip.flitLost (c : Chip) (l : List Byte) : Chip := if flitSound l then c else c.flitCrcError

/-- NULL_FLIT. -/
def Chip.linkNull (c : Chip) (l : List Byte) : Chip :=
  if c.linkState ≠ 4 then c
  else match readFlit l with
    | some (w, _) => (c.flitHeader w).2
    | none => c.flitLost l

/-- NAK received. -/
def Chip.linkNakRx (c : Chip) (l : List Byte) : Chip :=
  if c.linkState ≠ 4 then c
  else match readFlit l with
    | some (w, p) =>
      if linkReserved w p then c.linkProtocol
      else if w / 2 ^ 26 % 4 ≠ 2 || leNat (p.take 1) ≠ 3 then c
      else
        let r := c.flitHeader w
        if r.1 then r.2.resendFrom (leNat ((p.drop 1).take 2) % 4096) else r.2
    | none => c.flitLost l

/-- ACK_TIMEOUT: ACK has not advanced while flits are unacknowledged. -/
def Chip.linkAckTimeout (c : Chip) : Chip :=
  match c.hlk.replay.head? with
  | some f => if c.linkState ≠ 4 then c else (c.count P.HLK 14).resendFrom f.seq
  | none => c

/-! ### Low power (R405, R406) -/

/-- At the frame boundary at which Hold begins: no new request is executed, and LP_REQ follows the responses. -/
def Chip.linkHold (c : Chip) : Chip :=
  (c.hlkUp (fun h => { h with stopped := true })).pump

/-- The link enters LP. -/
def Chip.linkLp (c : Chip) (unilateral : Bool) : Chip :=
  if c.linkState ≠ 4 || !c.hlk.lpReq then c
  else
    let c := ((c.setLink 6).set F.HLK_LP_STATUS_IN_LP 1).setB F.HLK_LP_STATUS_UNILATERAL unilateral
    (c.set F.HLK_LP_STATUS_EXIT_CAUSE 0).count P.HLK 20

/-- LP_ACK received. -/
def Chip.linkLpAck (c : Chip) (l : List Byte) : Chip :=
  match readFlit l with
  | some (w, p) =>
    if c.linkState = 4 && linkReserved w p then c.linkProtocol
    else if w / 2 ^ 26 % 4 = 2 && leNat (p.take 1) = 5 then c.linkLp false
    else c
  | none => if c.linkState = 4 then c.flitLost l else c

/-- The link leaves LP: `cause` 1 the host, 2 the module. -/
def Chip.linkLpLeave (c : Chip) (cause : Nat) : Chip :=
  if c.linkState ≠ 6 then c
  else
    let c := ((c.set F.HLK_LP_STATUS_IN_LP 0).set F.HLK_LP_STATUS_EXIT_CAUSE cause).irq P.HLK 14
    (c.linkRecover).hlkUp (fun h => { h with lpReq := false })

/-! ### Event packets (R64, R402) -/

/-- The event state of a host context. -/
def Chip.hostEvents (c : Chip) (h : Nat) : HostEvents := if h = 0 then c.host0 else c.host1

/-- The event state of a host context set; EVENT_PEND follows. -/
def Chip.setHostEvents (c : Chip) (h : Nat) (e : HostEvents) : Chip :=
  let c := if h = 0 then { c with host0 := e } else { c with host1 := e }
  (c.setB (F.HLK_EVENT_PEND_PENDING.ix h) e.rise).setB (F.HLK_EVENT_PEND_MERGED.ix h) e.merged

/-- The data of an EVENT packet to context `h`, masked by its HOST_ROUTE. -/
def Chip.eventData (c : Chip) (h : Nat) : List Byte :=
  let route := (c.w (K.KPR_HOST_ROUTE + 4 * h)).toNat
  let sum := fun r =>
    let s := c.regionSum r
    (s &&& (route &&& 0x1FFFFE)) + (if bit route 30 && bit s 31 then 2 ^ 31 else 0)
  let chip := ((List.range 4).foldl (fun n r => if sum r ≠ 0 then n + 2 ^ r else n) 0)
    + (if bit route 31 && c.is F.KPR_CHIP_INT_CHIP_EVT then 256 else 0)
  leBytes 4 c.tick.field ++ leBytes 4 c.clock.ns ++ leBytes 4 c.clock.sec ++ leBytes 4 chip
    ++ (List.range 4).flatMap (fun r => leBytes 4 (sum r))

/-- An EVENT packet to context `h` goes out, or merges into the next where VC2 has no credit. -/
def Chip.sendEvent (c : Chip) (h : Nat) : Chip :=
  let e := c.hostEvents h
  if !e.rise || c.linkState ≠ 4 then c
  else if c.hlk.credits.getD 2 0 = 0 then c.setHostEvents h { e with merged := true }
  else
    let p : Packet := { op := 0x90, ctx := h, aux := b2n e.merged + 2 * b2n e.resume, data := c.eventData h }
    let c := (c.setHostEvents h { rise := false, window := true, merged := false, resume := false }).count P.HLK 18
    c.sendPacket p

/-- EVENT_PACKET: a delivered bit rose while no packet's 10 µs run. -/
def Chip.eventPacket (c : Chip) (h : Nat) : Chip := if (c.hostEvents h).window then c else c.sendEvent h

/-- EVENT_PACKET_MERGE: the 10 µs after a packet end; the rises meanwhile go out as one further packet. -/
def Chip.eventMerge (c : Chip) (h : Nat) : Chip :=
  if (c.hostEvents h).window then (c.setHostEvents h { c.hostEvents h with window := false }).sendEvent h else c

/-! ### The commit and power -/

/-- The link's figures of the ended interval. -/
def Chip.linkLatch (c : Chip) : Chip :=
  let c := (c.set F.HLK_TX_LAST_FLITS c.hlk.txCount).set F.HLK_RX_LAST_FLITS c.hlk.rxCount
  let c := c.set F.HLK_REPLAY_STATUS_REPLAYS_LAST (min 65535 c.hlk.replays)
  c.hlkUp (fun h => { h with txCount := 0, rxCount := 0, replays := 0 })

/-- An eye scan of lane EYE_CTRL.LANE ends (as R304 for SER). -/
def Chip.linkEyeDone (c : Chip) (w h : Nat) : Chip :=
  if !c.is F.HLK_EYE_CTRL_START then c
  else (((c.set F.HLK_EYE_CTRL_START 0).set F.HLK_EYE_RESULT_WIDTH w).set F.HLK_EYE_RESULT_HEIGHT h).set F.HLK_EYE_RESULT_VALID 1

end Sys2Proof.Machine
end

