-- ==== Sys2Proof/Machine/TileLink.lean ====
section
/-!
DEFINITION. Machine/TileLink.lean: the Basenaord tile link below its messages (chapter 18): ports and links, frames, sequence
and retry, the lane a SPLIT port acts on, and forwarding.
-/

namespace Sys2Proof.Machine

/-! ### Ports and links (R410) -/

/-- A change of the tile link's own state. -/
def Chip.tlkUp (c : Chip) (f : Tlk → Tlk) : Chip := { c with tlk := f c.tlk }

/-- Port numbers. -/
def portU : Nat := 0
def portD0 : Nat := 1
def portD1 : Nat := 2
def portP : Nat := 3

/-- A port marked SPLIT. -/
def Chip.portSplit (c : Chip) (p : Nat) : Bool := p < 3 && bit (c.get F.TLK_PORT_CTRL_SPLIT) p

/-- The links of a port. -/
def Chip.linksOf (c : Chip) (p : Nat) : List Nat := if c.portSplit p then [2 * p, 2 * p + 1] else [2 * p]

/-- A link's state. -/
def Chip.link (c : Chip) (l : Nat) : TileLink := c.tlk.links.getD l {}

/-- A link's state changed. -/
def Chip.linkSet (c : Chip) (l : Nat) (f : TileLink → TileLink) : Chip :=
  c.tlkUp (fun t => { t with links := modifyAt t.links l f })

/-- Some link of a port is UP. -/
def Chip.portUp (c : Chip) (p : Nat) : Bool := (c.linksOf p).any (fun l => (c.link l).up)

/-- PORT_STATUS.STATE and LOCK of a port. -/
def portState (p : Nat) : Fld := ⟨K.TLK_PORT_STATUS, 4 * p, 2, 4⟩
def portLock (p : Nat) : Fld := ⟨K.TLK_PORT_STATUS, 4 * p + 2, 2, 4⟩

/-- PORT_STATUS.STATE follows the links: 2 with one UP, 1 while one trains, else 0. -/
def Chip.portStatus (c : Chip) (p : Nat) : Chip :=
  let ls := c.linksOf p
  c.set (portState p) (if ls.any (fun l => (c.link l).up) then 2
    else if ls.any (fun l => (c.link l).kept) || (c.get (portState p) = 1) then 1 else 0)

/-! ### Frames (R411) -/

/-- The ID the module carries, and whether its frames carry ACTIVE 1 (Table 1). -/
def Chip.ownId (c : Chip) : Nat := c.get F.TLK_NODE_CFG_ID
def Chip.frameActive (c : Chip) : Bool := !c.paired || c.is F.TLK_PAIR_STATUS_OWN

/-- A frame's 40 bytes. -/
def tileFrame (kind seq ack id : Nat) (active : Bool) (data : List Byte) : List Byte :=
  let body := leBytes 4 (kind + seq % 256 * 2 ^ 8 + ack % 256 * 2 ^ 16 + id % 64 * 2 ^ 24 + b2n active * 2 ^ 30)
    ++ padBytes 32 data
  body ++ leBytes 4 (crc32c body)

/-- The TYPE values that are not reserved (Table 2). -/
def tileTypes : List Nat :=
  [0x00, 0x01, 0x02, 0x03, 0x04, 0x05, 0x10, 0x11, 0x12, 0x13, 0x20, 0x21, 0x22, 0x23, 0x24, 0x25, 0x26, 0x30, 0x31,
   0x32, 0x40]

/-- Sequenced types. -/
def sequenced (kind : Nat) : Bool := 0x10 ≤ kind

/-- A received frame's header word and payload; none for a bad CRC. -/
def readTile (l : List Byte) : Option (Nat × List Byte) :=
  if l.length ≠ 40 || leNat (l.drop 36) ≠ crc32c (l.take 36) then none
  else some (leNat (l.take 4), (l.drop 4).take 32)

/-- A frame put on a link. -/
def Chip.wireTile (c : Chip) (l : Nat) (f : List Byte) : Chip := c.tlkUp (fun t => { t with wire := t.wire ++ [(l, f)] })

/-- ACK of the frames sent on a link. -/
def TileLink.ack (k : TileLink) : Nat := (k.expect + 255) % 256

/-- An unsequenced frame sent on a link. -/
def Chip.sendPlain (c : Chip) (l kind id : Nat) (data : List Byte) : Chip :=
  let k := c.link l
  if k.up then c.wireTile l (tileFrame kind k.next k.ack id c.frameActive data) else c

/-- A sequenced frame sent, or sent again. -/
def Chip.sendTileTx (c : Chip) (l : Nat) (f : TileTx) : Chip :=
  c.wireTile l (tileFrame f.kind f.seq (c.link l).ack f.id c.frameActive f.data)

/-- Waiting frames go out while the replay buffer of 96 frames has room (R412). -/
def Chip.tilePumpN : Nat → Chip → Nat → Chip
  | 0, c, _ => c
  | n + 1, c, l =>
    let k := c.link l
    match k.waiting with
    | w :: rest =>
      if !k.up || 96 ≤ k.replay.length then c
      else
        let f : TileTx := ⟨k.next, w.kind, w.id, w.data, 0⟩
        Chip.tilePumpN n ((c.linkSet l (fun k => { k with
          waiting := rest, replay := k.replay ++ [f], next := (k.next + 1) % 256 })).sendTileTx l f) l
    | [] => c

/-- All that can go out on a link. -/
def Chip.tilePump (c : Chip) (l : Nat) : Chip := c.tilePumpN (c.link l).waiting.length l

/-- A sequenced frame sent on a link: it waits while the link retrains, and is lost where the link is DOWN. -/
def Chip.sendOn (c : Chip) (l kind id : Nat) (data : List Byte) : Chip :=
  let k := c.link l
  if k.up || k.kept then
    (c.linkSet l (fun k => { k with waiting := k.waiting ++ [⟨kind, id, padBytes 32 data⟩] })).tilePump l
  else c

/-- A frame sent on a port: a SPLIT port sends it on both lanes (R426). -/
def Chip.sendPort (c : Chip) (p kind id : Nat) (data : List Byte) : Chip :=
  foldOver (c.linksOf p) (fun (l : Nat) (c : Chip) =>
    if sequenced kind then c.sendOn l kind id data else c.sendPlain l kind id data) c

/-- A frame sent upward. -/
def Chip.sendUp (c : Chip) (kind id : Nat) (data : List Byte) : Chip :=
  if c.isTender then c else c.sendPort portU kind id data

/-- The D port whose subtree holds an ID. -/
def Chip.route (c : Chip) (id : Nat) : Option Nat := (c.tlk.routes.find? (fun e => e.1 = id)).map (·.2)

/-- A frame sent downward to an ID (R413); it goes nowhere where no port leads to it. -/
def Chip.sendDown (c : Chip) (kind id : Nat) (data : List Byte) : Chip :=
  match c.route id with
  | some p => c.sendPort p kind id data
  | none => c

/-! ### Retry (R412) -/

/-- Frames that an ACK covers leave the replay buffer. -/
def Chip.ackTiles (c : Chip) (l ack : Nat) : Chip :=
  (c.linkSet l (fun k => { k with replay := k.replay.filter (fun f => decide (0 < signedDiff 8 f.seq ack)) })).tilePump l

/-- A link retrains with its buffers and numbers kept; the count of resends without progress starts anew. -/
def Chip.tileRetrain (c : Chip) (l : Nat) : Chip :=
  ((c.linkSet l (fun k => { k with
    up := false, kept := true, nak := false, replay := k.replay.map (fun f => { f with resent := 0 }) })).set (portState (l / 2)) 1).portStatus (l / 2)

/-- Frames are resent from a number on; a frame resent 8 times without progress takes the link into training. -/
def Chip.tileResend (c : Chip) (l seq : Nat) : Chip :=
  let hit := fun (f : TileTx) => decide (0 ≤ signedDiff 8 f.seq seq)
  if !(c.link l).up || !(c.link l).replay.any hit then c
  else
    let c := c.linkSet l (fun k => { k with
      replay := k.replay.map (fun f => if hit f then { f with resent := f.resent + 1 } else f) })
    let c := c.count P.TLK 4
    let c := foldOver ((c.link l).replay.filter hit) (fun (f : TileTx) (c : Chip) => c.sendTileTx l f) c
    if (c.link l).replay.any (fun f => 8 ≤ f.resent) then c.tileRetrain l else c

/-- A NAK goes out at the first bad frame after an accepted one. -/
def Chip.tileNak (c : Chip) (l : Nat) : Chip :=
  if (c.link l).nak then c
  else (c.sendPlain l 0x01 c.ownId (leBytes 1 (c.link l).expect)).linkSet l (fun k => { k with nak := true })

/-- A frame that failed its CRC. -/
def Chip.tileCrcError (c : Chip) (l : Nat) : Chip :=
  ((c.count P.TLK 3).event P.TLK .corr .check 0xFFF 3 (c.link l).expect).tileNak l

/-! ### The lane acted on (R426) -/

/-- The lane of a SPLIT port whose frames act: an UP lane with ACTIVE 1 in its last frame, the one acted on last where both
have it; else the UP lane acted on last; else that of side A, then of side B. -/
def Chip.actLane (c : Chip) (p : Nat) : Nat :=
  if !c.portSplit p then 0
  else
    let up := [0, 1].filter (fun i => (c.link (2 * p + i)).up)
    let act := up.filter (fun i => (c.link (2 * p + i)).active)
    let last := c.tlk.acted.getD p 0
    if act.contains last then last
    else match act with
      | i :: _ => i
      | [] => if up.contains last then last else up.headD 0

/-- A frame received on a link: retry and ACK have been dealt with; where it is accepted and its lane acts, its type, ID and
payload. -/
def Chip.tileRx (c : Chip) (l : Nat) (frame : List Byte) : Chip × Option (Nat × Nat × List Byte) :=
  if !c.blockOn 4 || !(c.link l).up then (c, none)
  else match readTile frame with
    | none => (c.tileCrcError l, none)
    | some (w, data) =>
      let kind := w % 256
      let seq := w / 256 % 256
      if !tileTypes.contains kind then (c, none)
      else
        let c := (c.linkSet l (fun k => { k with active := bit w 30 })).ackTiles l (w / 65536 % 256)
        let lane := c.actLane (l / 2)
        let c := c.tlkUp (fun t => { t with acted := modifyAt t.acted (l / 2) (fun _ => lane) })
        let acts := lane = l % 2
        let msg := if acts then some (kind, w / 2 ^ 24 % 64, data) else none
        if !sequenced kind then (c, msg)
        else if seq = (c.link l).expect then
          (c.linkSet l (fun k => { k with expect := (k.expect + 1) % 256, nak := false }), msg)
        else (c.tileNak l, none)

/-- A frame of the type a command names, received and acted on by `f`, which gets the port, the ID and the payload. -/
def Chip.tileMsg (c : Chip) (l : Nat) (frame : List Byte) (kinds : List Nat)
    (f : Nat → Nat → Nat → List Byte → Chip → Chip) : Chip :=
  match readTile frame with
  | some (w, _) =>
    if !kinds.contains (w % 256) then c
    else match c.tileRx l frame with
      | (c, some (kind, id, data)) => f kind (l / 2) id data c
      | (c, none) => c
  | none => (c.tileRx l frame).1

/-- An upward frame shows the D port behind which an ID lies. -/
def Chip.learnRoute (c : Chip) (p id : Nat) : Chip :=
  if p = portD0 || p = portD1 then
    c.tlkUp (fun t => { t with routes := (t.routes.filter (fun e => e.1 ≠ id)) ++ [(id, p)] })
  else c

/-- IDLE. -/
def Chip.tileIdle (c : Chip) (l : Nat) (frame : List Byte) : Chip := c.tileMsg l frame [0x00] (fun _ _ _ _ c => c)

/-- NAK. It acts on its own link, whichever lane the port acts on. -/
def Chip.tileNakRx (c : Chip) (l : Nat) (frame : List Byte) : Chip :=
  match readTile frame with
  | some (w, data) =>
    if w % 256 ≠ 0x01 || !(c.link l).up || !c.blockOn 4 then c
    else ((c.tileRx l frame).1).tileResend l (leNat (data.take 1))
  | none => (c.tileRx l frame).1

/-- TL_REPLAY_TIMEOUT. -/
def Chip.tileReplayTimeout (c : Chip) (l : Nat) : Chip :=
  match (c.link l).replay.head? with
  | some f => c.tileResend l f.seq
  | none => c

/-- TILE_PORT_UP below the messages: the link comes UP; numbers start at 0 unless it retrained. -/
def Chip.tileLinkUp (c : Chip) (l : Nat) : Chip :=
  let p := l / 2
  if !c.blockOn 4 || !bit (c.get F.TLK_PORT_CTRL_EN) p || !(c.linksOf p).contains l || (c.link l).up then c
  else
    let kept := (c.link l).kept
    let c := c.linkSet l (fun k => if k.kept then { k with up := true, kept := false } else { up := true })
    let c := c.set (portLock p) (if c.portSplit p then withBit (c.get (portLock p)) (l % 2) true else 3)
    let c := c.portStatus p
    if kept then match (c.link l).replay.head? with
      | some f => (c.tileResend l f.seq).tilePump l
      | none => c.tilePump l
    else c

/-- PORT_DOWN below the messages: a link that has not returned within 20 ms. -/
def Chip.tileLinkDown (c : Chip) (l : Nat) : Chip :=
  let p := l / 2
  let c := c.linkSet l (fun _ => {})
  let c := c.set (portLock p) (if c.portSplit p then withBit (c.get (portLock p)) (l % 2) false else 0)
  let c := if (c.linksOf p).all (fun i => !(c.link i).up && !(c.link i).kept) then c.set (portState p) 0 else c.portStatus p
  c.event P.TLK .cont (.own 0x15) l

/-- LANE_LOCK_LOSS of a tile lane: its link retrains. -/
def Chip.tileLaneLost (c : Chip) (cell : Nat) : Chip :=
  let p := cell / 2
  let l := if c.portSplit p then cell else 2 * p
  let c := c.set (portLock p) (withBit (c.get (portLock p)) (cell % 2) false)
  if (c.link l).up then c.tileRetrain l else c

end Sys2Proof.Machine
end

