-- ==== Sys2Proof/Machine/Mailbox.lean ====
section
/-!
DEFINITION. Machine/Mailbox.lean: mailbox channels, doorbells and notices, endpoint resets, the outboxes over the tile link,
and hardware locks (chapter 21).
-/

namespace Sys2Proof.Machine

/-! ### Endpoints and channels (R479, R480) -/

/-- A change of the mailboxes' own state. -/
def Chip.mbxUp (c : Chip) (f : Mbx → Mbx) : Chip := { c with mbx := f c.mbx }

/-- The page of an endpoint. -/
def epPage (e : Nat) : Nat := mkPage 15 (e + 1)

/-- The page of an endpoint is mapped in this role (R67). -/
def Chip.epMapped (c : Chip) (e : Nat) : Bool :=
  e ≤ 2 || (e = 3 && !c.isTender) || (e = 4 && c.paired) || (5 ≤ e && e ≤ 67 && c.isTender)

/-- A worker ID is a member of the wall. -/
def Chip.isMember (c : Chip) (id : Nat) : Bool :=
  if id < 32 then bit (c.w K.TLK_MEMBERS_LO).toNat id else bit (c.w K.TLK_MEMBERS_HI).toNat (id - 32)

/-- An endpoint exists (Table 1). -/
def Chip.epExists (c : Chip) (e : Nat) : Bool := c.epMapped e && (e < 5 || c.isMember (e - 4))

/-- The messages of a channel, oldest first. -/
def Chip.chan (c : Chip) (r s : Nat) : List MbxMsg := storeGet (fun _ => []) c.mbx.chans (r * 128 + s)

/-- A channel's messages set. -/
def Chip.setChan (c : Chip) (r s : Nat) (l : List MbxMsg) : Chip :=
  c.mbxUp (fun b => { b with chans := storePut (fun _ => []) b.chans (r * 128 + s) l })

/-- `MBX.EPOCH` of an endpoint. -/
def epochFld (s : Nat) : Fld := ⟨K.MBX0_EPOCH + 4 * (s / 8), 4 * (s % 8), 4, 4⟩

/-- CH_STATUS[c], DB[c] and DB_MASK[c] of a page. -/
def chStatus (r s : Nat) : Nat := epPage r + 0x430 + 4 * s
def dbKey (r s : Nat) : Nat := epPage r + 0x100 + 4 * s
def dbMaskKey (r s : Nat) : Nat := epPage r + 0x320 + 4 * s

/-! ### Doorbells and notices (R484, R485) -/

/-- Bits of DB[s] in the page of endpoint `r` set; unmasked bits 0 to 30 raise DOORBELL, bit 31 NOTICE. -/
def Chip.ring_ (c : Chip) (r s : Nat) (bits : Nat) : Chip :=
  let k := dbKey r s
  let c := c.setw k (c.w k ||| BitVec.ofNat 32 bits)
  let live := (BitVec.ofNat 32 bits &&& ~~~(c.w (dbMaskKey r s))).toNat
  let c := if live % 2 ^ 31 ≠ 0 then c.irq (epPage r) 6 else c
  if 2 ^ 31 ≤ live then c.irq (epPage r) 8 else c

/-- DB_SET[s] of endpoint `r` written by a master. -/
def Chip.dbSet (c : Chip) (m : Master) (r s : Nat) (data : Nat) : Status × Chip :=
  if masterBit m ≠ s then (.locked, c)
  else
    let bits := data % 2 ^ 31
    if bits = 0 then (.ok, c) else (.ok, (c.ring_ r s bits).count (epPage r) 4)

/-- A notice about party `p` in the page of local endpoint `e`. -/
def Chip.notice (c : Chip) (e p : Nat) : Chip := if e ≤ 2 then c.ring_ e p (2 ^ 31) else c

/-- CH_STATUS[s] of endpoint `r` written: bit 31 clears ABORTED and PEER_RESET. -/
def Chip.noticeClr (c : Chip) (r s : Nat) (data : Nat) : Chip :=
  if bit data 31 then (c.set ⟨chStatus r s, 8, 4, 4⟩ 0).set ⟨chStatus r s, 12, 1, 4⟩ 0 else c

/-! ### Outboxes (R482) -/

/-- Messages that a remote endpoint's outbox sends as a pair of frames. -/
def Chip.sendHalves (c : Chip) (e : Nat) (m : MbxMsg) : Chip :=
  let k := if m.far = 0 then 0x20 else if m.far = 1 then 0x23 else 0x25
  let go := fun (kind : Nat) (d : List Byte) (c : Chip) =>
    if e = 3 then c.sendPort portU kind c.ownId d
    else if e = 4 then c.sendPort portP kind c.ownId d
    else c.sendDown kind (e - 4) d
  go (k + 1) (m.data.drop 32) (go k (m.data.take 32) c)

/-- The next waiting message of an outbox goes out, where none is in flight. -/
def Chip.outboxSend (c : Chip) (e : Nat) : Chip :=
  if c.mbx.flight.any (fun f => f.1 = e) then c
  else match c.mbx.order.find? (fun o => o.1 = e && !c.mbx.hold.contains o) with
    | none => c
    | some o => match c.chan e o.2 with
      | m :: _ => (c.mbxUp (fun b => { b with flight := b.flight ++ [o] })).sendHalves e m
      | [] => c

/-- A port came UP afresh: what was in flight over it is sent again. -/
def Chip.outboxAgain (c : Chip) (e : Nat) : Chip :=
  (c.mbxUp (fun b => { b with flight := b.flight.filter (fun f => f.1 ≠ e) })).outboxSend e

/-! ### Posting and popping (R481, R483) -/

/-- A message placed in a channel: it keeps the sender's epoch and the field; an inbox raises MESSAGE, an outbox sends. -/
def Chip.place (c : Chip) (r s far : Nat) (data : List Byte) : Chip :=
  let m : MbxMsg := ⟨padBytes 64 data, c.get (epochFld s), false, c.tick.field % 65536, far⟩
  let c := (c.setChan r s (c.chan r s ++ [m])).count (epPage r) 0
  if r ≤ 2 then c.irq (epPage r) 7
  else (c.mbxUp (fun b => { b with order := b.order ++ [(r, s)] })).outboxSend r

/-- A post: its status, the slots then free, and the module after it. -/
def Chip.post (c : Chip) (s r far : Nat) (data : List Byte) : Status × Nat × Chip :=
  let free := 8 - (c.chan r s).length
  if !c.epExists r then (.unmapped, 0, c)
  else if s = r || ((s = 3 || s = 4) && 3 ≤ r) || 2 < far || (r ≤ 2 && far ≠ 0) then (.invalid, free, c)
  else if free = 0 then (.full, 0, c.count (epPage r) 2)
  else (.ok, free - 1, c.place r s far data)

/-- The value of a status (spec/17_adeak_link.md Table 6). -/
def Status.value : Status → Nat
  | .ok => 0
  | .unmapped => 1
  | .unaligned => 2
  | .locked => 3
  | .parity => 4
  | .busy => 5
  | .invalid => 6
  | .full => 7

/-- The 64 bytes of a master's TX_DATA. -/
def Chip.txData (c : Chip) (m : Nat) : List Byte :=
  (List.range 16).flatMap (fun w => leBytes 4 (storeGet (fun _ => (0 : Word)) c.mbx.tx (m * 16 + w)).toNat)

/-- TX_POST written by a master: its TX_DATA is posted, and its TX_RESULT shows how. -/
def Chip.txPost (c : Chip) (m : Master) (data : Nat) : Chip :=
  let s := masterBit m
  let dest := data % 128
  let r := c.post s dest (data / 256 % 4) (c.txData s)
  let res := BitVec.ofNat 32 (r.1.value + dest * 256 + min 7 r.2.1 * 65536)
  r.2.2.mbxUp (fun b => { b with results := storePut (fun _ => 0) b.results s res })

/-- RX_POP of endpoint `r` written by a master. -/
def Chip.rxPop (c : Chip) (m : Master) (r : Nat) (data : Nat) : Status × Chip :=
  if 3 ≤ r || masterBit m ≠ r then (.locked, c)
  else if !bit data 0 then (.ok, c)
  else
    let s := c.get ⟨epPage r + 0x560, 0, 7, 4⟩
    match c.chan r s with
    | [] => (.ok, c)
    | _ :: rest => (.ok, (c.setChan r s rest).count (epPage r) 1)

/-- The Keeper takes a message it acts on out of its inbox, where it is the head of its channel. -/
def Chip.keeperTake (c : Chip) (s : Nat) (data : List Byte) : Chip :=
  match c.chan 0 s with
  | m :: rest => if m.data = padBytes 64 data then (c.setChan 0 s rest).count (epPage 0) 1 else c
  | [] => c

/-- A reply of the Keeper to an endpoint; one that finds no free slot is lost. -/
def Chip.keeperReply (c : Chip) (ep : Nat) (data : List Byte) : Chip :=
  if ep = 0 then c else (c.post 0 ep 0 data).2.2

/-! ### Resets (R486 to R489) -/

/-- Every lock that a master holds is released. -/
def Chip.releaseLocks (c : Chip) (m : Nat) : Chip :=
  c.mbxUp (fun b => { b with locks := b.locks.filter (fun e => match e.2 with
    | some h => h.holder ≠ m
    | none => true) })

/-- Every channel into `r` is cleared, and each sender that lost messages is told (R487). -/
def Chip.resetReceiver (c : Chip) (r : Nat) : Chip :=
  let one := fun (s : Nat) (c : Chip) =>
    let n := (c.chan r s).length
    if n = 0 then c
    else
      let c := (c.setChan r s []).count (epPage r) 3 n
      if s ≤ 2 then (c.incSat ⟨chStatus s r, 8, 4, 4⟩ n).notice s r else c
  let c := foldOver (List.range 68) one c
  c.mbxUp (fun b => { b with
    order := b.order.filter (fun o => o.1 ≠ r), flight := b.flight.filter (fun o => o.1 ≠ r)
    hold := b.hold.filter (fun o => o.1 ≠ r) })

/-- Unread messages of `s` are flagged SENDER_RESET and its epoch advances (R488). -/
def Chip.resetSender (c : Chip) (s : Nat) : Chip :=
  let one := fun (r : Nat) (c : Chip) =>
    match c.chan r s with
    | [] => c
    | l =>
      let c := c.setChan r s (l.map (fun m => { m with reset := true }))
      if r ≤ 2 then (c.set ⟨chStatus r s, 12, 1, 4⟩ 1).notice r s else c
  let c := foldOver (List.range 68) one c
  c.set (epochFld s) (c.get (epochFld s) + 1)

/-- An endpoint resets. -/
def Chip.epReset (c : Chip) (e : Nat) : Chip :=
  let c := (c.resetReceiver e).resetSender e
  if e ≤ 4 then c.releaseLocks e else c

/-- A write of EP_RESET, by a host context, or of CTRL.RESET to page MBX[e + 1], by its master or the Keeper (Table 2). -/
def Chip.epResetWrite (c : Chip) (m : Master) (page : Option Nat) (data : Nat) : Status × Chip :=
  match page with
  | none => if bit data 0 && (m = .host0 || m = .host1) then (.ok, c.epReset (masterBit m)) else (.ok, c)
  | some e =>
    if !bit data 31 then (.ok, c)
    else if m = .keeper || masterBit m = e then (.ok, c.epReset e) else (.locked, c)

/-- A block reset of MBX: every endpoint at once, without notices; every lock free; the epochs stay (R489). -/
def Chip.mbxReset (c : Chip) : Chip :=
  let c := c.mbxUp (fun _ => {})
  let epochs := (List.range 9).map (fun i => c.w (K.MBX0_EPOCH + 4 * i))
  let c := c.resetPages (fun p => blockOf p = 15) (fun o => (0x020 ≤ o && o < 0x030) || o = 0x038)
  foldOver (List.range 9) (fun (i : Nat) (c : Chip) => c.setw (K.MBX0_EPOCH + 4 * i) (epochs.getD i 0)) c

/-! ### Locks (R490 to R492) -/

/-- Who holds a lock. -/
def Chip.lockHold (c : Chip) (k : Nat) : Option LockHold := storeGet (fun _ => none) c.mbx.locks k

/-- A lock set. -/
def Chip.setLock (c : Chip) (k : Nat) (h : Option LockHold) : Chip :=
  c.mbxUp (fun b => { b with locks := storePut (fun _ => none) b.locks k h })

/-- The word of a lock in a state. -/
def lockWord (state : Nat) (h : LockHold) : Nat := state + h.holder * 16 + h.field * 65536

/-- LOCK_VIEW[k] as a master reads it. -/
def Chip.lockView (c : Chip) (m k : Nat) : Nat :=
  match c.lockHold k with
  | none => 0
  | some h => lockWord (if h.holder = m then 3 else 2) h

/-- A read of LOCK[k] by a master. -/
def Chip.lockRead (c : Chip) (m : Master) (k : Nat) : Nat × Chip :=
  let me := masterBit m
  match c.lockHold k with
  | none =>
    let h : LockHold := ⟨me, c.tick.field % 65536⟩
    (lockWord 1 h, (c.setLock k (some h)).count P.MBX 0)
  | some h => if h.holder = me then (lockWord 3 h, c) else (lockWord 2 h, c.count P.MBX 1)

/-- A write to LOCK[k] by a master. -/
def Chip.lockWrite (c : Chip) (m : Master) (k data : Nat) : Chip :=
  match c.lockHold k with
  | some h =>
    if data = 0 && h.holder = masterBit m then c.setLock k none
    else if data = 0x80000000 && m = .keeper then (c.setLock k none).count P.MBX 3
    else c.count P.MBX 2
  | none => if data = 0x80000000 && m = .keeper then c else c.count P.MBX 2

/-! ### Views (R498) -/

/-- A 32-bit map of what `p` says of numbers 32 w to 32 w + 31 below 68. -/
def map32 (w : Nat) (p : Nat → Bool) : Nat :=
  (List.range 32).foldl (fun n i => if 32 * w + i < 68 && p (32 * w + i) then n + 2 ^ i else n) 0

/-- A register of an MBX page that is computed; none for a stored one. -/
def Chip.mbxView (c : Chip) (m : Master) (inst off : Nat) : Option Nat :=
  if inst = 0 then
    if 0x100 ≤ off && off < 0x140 then
      some (storeGet (fun _ => (0 : Word)) c.mbx.tx (masterBit m * 16 + (off - 0x100) / 4)).toNat
    else if off = 0x144 then some (storeGet (fun _ => (0 : Word)) c.mbx.results (masterBit m)).toNat
    else if off = 0x14C then
      some ((List.range 5).foldl (fun n e => if c.epExists e then n + 2 ^ e else n) 0 + (if c.isTender then 32 else 0))
    else if 0x180 ≤ off && off < 0x18C then
      some (map32 ((off - 0x180) / 4) (fun e => c.epMapped e && c.intPend (epPage e) ≠ 0))
    else if 0x300 ≤ off && off < 0x400 then some (c.lockView (masterBit m) ((off - 0x300) / 4))
    else if off = 0x400 || off = 0x404 then
      some ((List.range 32).foldl (fun n i => if (c.lockHold (8 * (off - 0x400) + i)).isSome then n + 2 ^ i else n) 0)
    else none
  else
    let r := inst - 1
    let sel := c.get ⟨epPage r + 0x560, 0, 7, 4⟩
    let head := (c.chan r sel).head?
    if 0x430 ≤ off && off < 0x540 then
      let s := (off - 0x430) / 4
      if !c.epExists s then some 0
      else some ((c.chan r s).length + c.get (epochFld s) * 16 + (c.w (chStatus r s)).toNat / 256 % 32 * 256)
    else if 0x540 ≤ off && off < 0x54C then some (map32 ((off - 0x540) / 4) (fun s => !(c.chan r s).isEmpty))
    else if 0x550 ≤ off && off < 0x55C then
      some (map32 ((off - 0x550) / 4) (fun s => (c.w (dbKey r s) &&& ~~~(c.w (dbMaskKey r s))) ≠ 0))
    else if off = 0x564 then some (match head with
      | some h => 128 + h.epoch * 256 + b2n h.reset * 4096 + h.field * 65536
      | none => 0)
    else if 0x580 ≤ off && off < 0x5C0 then some (match head with
      | some h => leNat ((h.data.drop (off - 0x580)).take 4)
      | none => 0)
    else none

/-! ### Frames of mailbox messages (R482) -/

/-- FAR of a frame type. -/
def farOf (kind : Nat) : Nat := if kind < 0x22 then 0 else if kind < 0x25 then 1 else 2

/-- The endpoint of the party a frame on a port came from: the Tender, the partner, or worker `id`. -/
def partyOf (p id : Nat) : Nat := if p = portU then 3 else if p = portP then 4 else 4 + id

/-- A frame that is not for this module goes on its way: true where the module itself is the one. -/
def Chip.tileForward (c : Chip) (kind p id : Nat) (data : List Byte) : Bool × Chip :=
  if p = portP then (true, c)
  else if p = portU then if id = c.ownId then (true, c) else (false, c.sendDown kind id data)
  else
    let c := c.learnRoute p id
    if c.isTender then (true, c) else (false, c.sendUp kind id data)

/-- A frame that answers the party at a port. -/
def Chip.tileAnswer (c : Chip) (kind p id : Nat) (data : List Byte) : Chip :=
  if p = portU || p = portP then c.sendPort p kind c.ownId data else c.sendPort p kind id data

/-- MBX_A: the first half of a message. -/
def Chip.tileMbxA (c : Chip) (l : Nat) (frame : List Byte) : Chip :=
  c.tileMsg l frame [0x20, 0x23, 0x25] (fun kind p id data c =>
    match c.tileForward kind p id data with
    | (true, c) => c.tlkUp (fun t => { t with
        halves := t.halves.filter (fun h => !(h.port = p && h.id = id && h.kind = kind)) ++ [⟨p, id, kind, data⟩] })
    | (false, c) => c)

/-- MBX_B: the second half; the message lands in the inbox of FAR or is answered FULL. -/
def Chip.tileMbxB (c : Chip) (l : Nat) (frame : List Byte) : Chip :=
  c.tileMsg l frame [0x21, 0x24, 0x26] (fun kind p id data c =>
    match c.tileForward kind p id data with
    | (false, c) => c
    | (true, c) =>
      let mine := fun (h : MbxHalf) => h.port = p && h.id = id && h.kind + 1 = kind
      match c.tlk.halves.find? mine with
      | none => c
      | some h =>
        let c := c.tlkUp (fun t => { t with halves := t.halves.filter (fun h => !mine h) })
        let s := partyOf p id
        if !c.epExists s then c
        else
          let r := farOf kind
          if 8 ≤ (c.chan r s).length then (c.count (epPage r) 2).tileAnswer 0x22 p id (leBytes 1 7)
          else (c.place r s 0 (h.data ++ data)).tileAnswer 0x22 p id (leBytes 1 0))

/-- MBX_CPL: OK frees the slot; FULL has the message wait 100 µs. -/
def Chip.tileMbxCpl (c : Chip) (l : Nat) (frame : List Byte) : Chip :=
  c.tileMsg l frame [0x22] (fun kind p id data c =>
    match c.tileForward kind p id data with
    | (false, c) => c
    | (true, c) =>
      let e := partyOf p id
      match c.mbx.flight.find? (fun f => f.1 = e) with
      | none => c
      | some f =>
        let c := c.mbxUp (fun b => { b with flight := b.flight.erase f })
        if leNat (data.take 1) = 0 then
          ((c.setChan e f.2 ((c.chan e f.2).drop 1)).mbxUp (fun b => { b with order := b.order.erase f })).outboxSend e
        else if leNat (data.take 1) = 7 then (c.mbxUp (fun b => { b with hold := b.hold ++ [f] })).outboxSend e
        else c)

/-- MBX_REMOTE_RESEND: the 100 µs after FULL have passed for a channel. -/
def Chip.mbxResend (c : Chip) (e s : Nat) : Chip :=
  if c.mbx.hold.contains (e, s) then (c.mbxUp (fun b => { b with hold := b.hold.filter (· ≠ (e, s)) })).outboxSend e else c

end Sys2Proof.Machine
end

