-- ==== Sys2Proof/Machine/Check.lean ====
section
/-!
DEFINITION. Machine/Check.lean: the check-value units of CHK (chapter 21).
-/

namespace Sys2Proof.Machine

/-! ### The algorithms (R494 Table 3) -/

/-- Width, polynomial (bit-reversed where the algorithm is reflected), whether it is reflected, initial value, final XOR. -/
def chkAlgo : Nat → Nat × Nat × Bool × Nat × Nat
  | 0 => (32, 0x82F63B78, true, 0xFFFFFFFF, 0xFFFFFFFF)
  | 1 => (32, 0xEDB88320, true, 0xFFFFFFFF, 0xFFFFFFFF)
  | 2 => (16, 0x1021, false, 0xFFFF, 0)
  | _ => (64, 0x42F0E1EBA9EA3693, false, 0, 0)

/-- One bit of a check value: reflected, then not reflected. -/
def crcBitR (poly s : Nat) : Nat := if s % 2 = 1 then (s / 2) ^^^ poly else s / 2
def crcBitL (w poly s : Nat) : Nat := if 2 ^ (w - 1) ≤ s then (s * 2 % 2 ^ w) ^^^ poly else s * 2

/-- A function eight times. -/
def eight (f : Nat → Nat) (s : Nat) : Nat := f (f (f (f (f (f (f (f s)))))))

/-- A running check value after one byte. -/
def chkByte (algo s b : Nat) : Nat :=
  let (w, poly, refl, _, _) := chkAlgo algo
  if refl then eight (crcBitR poly) ((s % 2 ^ w) ^^^ b)
  else eight (crcBitL w poly) ((s % 2 ^ w) ^^^ (b * 2 ^ (w - 8)))

/-- The check value of bytes under an algorithm. -/
def chkOf (algo : Nat) (l : List Byte) : Nat :=
  let (_, _, _, init, fin) := chkAlgo algo
  (l.foldl (fun s b => chkByte algo s b.toNat) init) ^^^ fin

/-- CRC-64 of bytes, as records and calibration sets use it (R512, R535). -/
def crc64 (l : List Byte) : Nat := chkOf 3 l

/-! ### Units (R493 to R497) -/

/-- A unit's record in progress. -/
def Chip.chkUnit (c : Chip) (u : Nat) : ChkUnit := storeGet (fun _ => {}) c.chk u

/-- It set. -/
def Chip.setUnit (c : Chip) (u : Nat) (x : ChkUnit) : Chip := { c with chk := storePut (fun _ => {}) c.chk u x }

/-- VALUE, and COUNT. -/
def Chip.chkValue (c : Chip) (u : Nat) : Nat :=
  c.get (F.CHKU_VALUE_LO_VALUE.inst u) + c.get (F.CHKU_VALUE_HI_VALUE.inst u) * 2 ^ 32
def Chip.setValue (c : Chip) (u v : Nat) : Chip :=
  (c.set (F.CHKU_VALUE_LO_VALUE.inst u) (v % 2 ^ 32)).set (F.CHKU_VALUE_HI_VALUE.inst u) (v / 2 ^ 32)
def Chip.chkCount (c : Chip) (u : Nat) : Nat := c.get (F.CHKU_COUNT_BYTES.inst u)

/-- The record in progress is left: its bytes at ALIVE_OFF are kept by its VALUE and COUNT (R497). -/
def Chip.chkPark (c : Chip) (u : Nat) : Chip :=
  let x := c.chkUnit u
  if c.chkCount u = 0 then c.setUnit u { x with lo := none, hi := none }
  else
    let key := (c.chkValue u, c.chkCount u)
    c.setUnit u { lo := none, hi := none, parked := x.parked.filter (fun e => e.1 ≠ key) ++ [(key, (x.lo, x.hi))] }

/-- A record that software switches back to: the bytes kept for its VALUE and COUNT. -/
def Chip.chkResume (c : Chip) (u : Nat) : Chip :=
  let x := c.chkUnit u
  let key := (c.chkValue u, c.chkCount u)
  match x.parked.find? (fun e => e.1 = key) with
  | some e => c.setUnit u { lo := e.2.1, hi := e.2.2, parked := x.parked.filter (fun e => e.1 ≠ key) }
  | none => c

/-- One byte fed. -/
def Chip.chkFeed (c : Chip) (u b : Nat) : Chip :=
  let n := c.chkCount u
  let off := c.get (F.CHKU_CFG_ALIVE_OFF.inst u)
  let x := c.chkUnit u
  let x := if n = off then { x with lo := some b } else if n = off + 1 then { x with hi := some b } else x
  let c := c.setValue u (chkByte (c.get (F.CHKU_CFG_ALGO.inst u)) (c.chkValue u) b)
  (c.set (F.CHKU_COUNT_BYTES.inst u) (n + 1)).setUnit u x

/-- A write to DATA32. -/
def Chip.chkData32 (c : Chip) (u data : Nat) : Chip :=
  foldOver [0, 1, 2, 3] (fun (i : Nat) (c : Chip) => c.chkFeed u (data / 256 ^ i % 256)) c

/-- A STATUS bit of a unit. -/
def Chip.chkStatus (c : Chip) (u i : Nat) (b : Bool) : Chip := c.statusBit (mkPage 16 u) i b

/-- The alive check at a FINISH whose record matched (R496). A record too short to hold the counter leaves a free value. -/
def Chip.chkAlive (c : Chip) (u : Nat) : Chip :=
  let page := mkPage 16 u
  let x := c.chkUnit u
  let step := c.get (F.CHKU_CFG_ALIVE_STEP.inst u)
  let short : Bool := c.chkCount u < c.get (F.CHKU_CFG_ALIVE_OFF.inst u) + 2
  let (a, c) := match short, x.lo, x.hi with
    | false, some lo, some hi => (lo + 256 * hi, c)
    | _, _, _ => (c.freeNat % 65536, c.drew)
  let last := c.get (F.CHKU_ALIVE_LAST.inst u)
  let jump := fun (c : Chip) =>
    ((((c.set (F.CHKU_ALIVE_LAST.inst u) a).chkStatus u 6 true).irq page 8).count page 3)
  if short then jump c
  else if !c.is (F.CHKU_ALIVE_VALID.inst u) then
    (c.set (F.CHKU_ALIVE_LAST.inst u) a).set (F.CHKU_ALIVE_VALID.inst u) 1
  else if a = last then ((c.chkStatus u 5 true).irq page 7).count page 2
  else if (a + 65536 - last) % 65536 = step then c.set (F.CHKU_ALIVE_LAST.inst u) a
  else jump c

/-- CMD.FINISH (R495). -/
def Chip.chkFinish (c : Chip) (u : Nat) : Chip :=
  let page := mkPage 16 u
  let (w, _, _, _, fin) := chkAlgo (c.get (F.CHKU_CFG_ALGO.inst u))
  let res := (c.chkValue u % 2 ^ w) ^^^ fin
  let expect := (c.get (F.CHKU_EXPECT_LO_EXPECT.inst u) + c.get (F.CHKU_EXPECT_HI_EXPECT.inst u) * 2 ^ 32) % 2 ^ w
  let cmp := c.is (F.CHKU_CFG_CMP_EN.inst u)
  let same := res = expect
  let c := (c.set (F.CHKU_RESULT_LO_RESULT.inst u) (res % 2 ^ 32)).set (F.CHKU_RESULT_HI_RESULT.inst u) (res / 2 ^ 32)
  let c := (((c.chkStatus u 3 true).chkStatus u 4 (cmp && same)).chkStatus u 5 false).chkStatus u 6 false
  let c := (c.count page 0).irq page 9
  let c := if cmp && !same then (c.irq page 6).count page 1 else c
  if c.is (F.CHKU_CFG_ALIVE_EN.inst u) && c.get (F.CHKU_CFG_ALIVE_STEP.inst u) ≠ 0 && (same || !cmp) then c.chkAlive u else c

/-- CMD.START. -/
def Chip.chkStart (c : Chip) (u : Nat) : Chip :=
  let (_, _, _, init, _) := chkAlgo (c.get (F.CHKU_CFG_ALGO.inst u))
  ((c.chkPark u).setValue u init).set (F.CHKU_COUNT_BYTES.inst u) 0

/-- A write to CMD: FINISH acts first, then START, then RESYNC. -/
def Chip.chkCmd (c : Chip) (u data : Nat) : Chip :=
  let c := if bit data 1 then c.chkFinish u else c
  let c := if bit data 0 then c.chkStart u else c
  if bit data 2 then c.set (F.CHKU_ALIVE_VALID.inst u) 0 else c

/-- A write to a unit's register with behaviour of its own; none for the others, and for CHK[0], which holds the header
alone (R500). -/
def Chip.chkWrite (c : Chip) (u off data : Nat) : Option Chip :=
  if u = 0 then none
  else if off = 0x104 then some (c.chkCmd u data)
  else if off = 0x108 then some (c.chkData32 u data)
  else if off = 0x10C then some (c.chkFeed u (data % 256))
  else if off = 0x110 then some ((c.chkPark u).setw (mkPage 16 u + off) (BitVec.ofNat 32 data))
  else if off = 0x118 then some ((c.setw (mkPage 16 u + off) (BitVec.ofNat 32 data)).chkResume u)
  else none

end Sys2Proof.Machine
end

