-- ==== Sys2Proof/Machine/Time.lean ====
section
/-!
DEFINITION. Machine/Time.lean: the time base, its single step, triggers, the time ports and time on the tile link (chapter
19), and the tick sources (R11 to R14).
-/

namespace Sys2Proof.Machine

/-! ### The clock (R435 to R437) -/

/-- A change of the time base's own state. -/
def Chip.timUp (c : Chip) (f : Tim → Tim) : Chip := { c with tim := f c.tim }

/-- A clock reading from a count of 2⁻³² ns since the second `s`. -/
def clockOf (s : Int) (q : Int) : Clock :=
  let sec := s + q / (1000000000 * 2 ^ 32)
  let r := (q % (1000000000 * 2 ^ 32)).toNat
  ⟨unsigned 48 sec, r / 2 ^ 32, r % 2 ^ 32⟩

/-- Nanoseconds and fraction of a clock in 2⁻³² ns. -/
def Clock.sub (k : Clock) : Nat := k.ns * 2 ^ 32 + k.frac

/-- The signed distance a − b in 2⁻³² ns (R449). -/
def clockDiff (a b : Clock) : Int := signedDiff 48 a.sec b.sec * 1000000000 * 2 ^ 32 + (a.sub : Int) - (b.sub : Int)

/-- RATE. -/
def Chip.rate (c : Chip) : Int := signed 32 (c.get F.TIM_RATE_RATE)

/-- The local time in 2⁻¹⁶ ns. -/
def Chip.nowQ (c : Chip) : Int := ((c.clock.sec * 1000000000 + c.clock.ns : Nat) : Int) * 65536 + c.clock.frac / 65536

/-- `TIM.CTRL.STEP_ARM`. -/
def stepArm : Fld := ⟨P.TIM + 0x008, 0, 1, 4⟩

/-- Trigger units that are enabled. -/
def Chip.trigOn (c : Chip) : List Nat := (List.range 16).filter (fun u => c.is ⟨K.TIM_TRIG_CTRL + 0x20 * u, 0, 1, 4⟩)

/-- A discontinuity (R440). -/
def Chip.disc (c : Chip) : Chip :=
  ((c.incWrap F.TIM_TIME_STATUS_DISC_COUNT).irq P.TIM 6).timUp (fun t => { t with disc := c.trigOn })

/-- The pending step applied (R438). -/
def Chip.applyStep (c : Chip) (s ns : Int) : Chip :=
  let k := clockOf (c.clock.sec + s) ((c.clock.sub : Int) + ns * 2 ^ 32)
  (((({ c with clock := k } : Chip).timUp (fun t => { t with step := none })).set stepArm 0).count P.TIM 0).disc

/-- One reference cycle: the clock advances, and a pending step is applied. -/
def Chip.refCycle (c : Chip) : Chip :=
  if c.tim.lost || !c.blockOn 17 then c
  else
    let c := { c with clock := clockOf c.clock.sec ((c.clock.sub : Int) + 10 * 2 ^ 32 + 10 * c.rate) }
    match c.tim.step with
    | some (s, ns) => c.applyStep s ns
    | none => c

/-- TIME_SNAPSHOT: a master's read of NOW_FRAC. -/
def Chip.timeSnapshot (c : Chip) (m : Master) : Nat × Chip :=
  (c.clock.frac, c.timUp (fun t => { t with snaps := storePut (fun _ => {}) t.snaps (masterBit m) c.clock }))

/-- NOW_NS, NOW_S_LO and NOW_S_HI as a master reads them. -/
def Chip.timView (c : Chip) (m : Master) (off : Nat) : Option Nat :=
  let k := storeGet (fun _ => ({} : Clock)) c.tim.snaps (masterBit m)
  if off = 0x104 then some k.ns
  else if off = 0x108 then some (k.sec % 2 ^ 32)
  else if off = 0x10C then some (k.sec / 2 ^ 32 % 65536)
  else none

/-- The RATE limit: ±1 000 ppm (R436). -/
def rateLimit : Int := 4294967

/-- RATE set as a write sets it. -/
def Chip.setRate (c : Chip) (r : Int) : Chip :=
  let lim := clampInt (-rateLimit) rateLimit r
  (c.setZ F.TIM_RATE_RATE lim).setB F.TIM_TIME_STATUS_RATE_CLAMPED (lim ≠ r)

/-- RATE_WRITE. -/
def Chip.rateWrite (c : Chip) (m : Master) (data : Nat) : Status × Chip :=
  if m ≠ .keeper then (.locked, c) else (.ok, c.setRate (signed 32 data))

/-- STEP_GO (R438). -/
def Chip.stepGo (c : Chip) (m : Master) (data : Nat) : Status × Chip :=
  if m ≠ .keeper then (.locked, c)
  else if !bit data 0 then (.ok, c)
  else if !c.is stepArm || c.tim.step.isSome then (.locked, c.count P.TIM 1)
  else
    let s := signed 48 (c.get F.TIM_STEP_S_LO_S + c.get F.TIM_STEP_S_HI_S * 2 ^ 32)
    let ns := signed 31 (c.get F.TIM_STEP_NS_NS)
    (.ok, c.timUp (fun t => { t with step := some (s, ns) }))

/-- A TIM block reset, performed by a commit (R439). -/
def Chip.timReset (c : Chip) : Chip :=
  let keep := fun o => (0x020 ≤ o && o < 0x030) || o = 0x038 || o = 0x110 || (0x124 ≤ o && o < 0x134)
    || (0x140 ≤ o && o < 0x178) || o = 0x180 || (0x200 ≤ o && o < 0x220)
  let c := c.resetPages (fun p => p = P.TIM) keep
  (c.timUp (fun t => { t with targets := t.targets.filter (fun e => e.1 = 0), step := none, snaps := [], disc := [] })).disc

/-! ### Triggers (R449 to R451) -/

/-- Field `off` of trigger unit `u`. -/
def trigFld (u off lo wd : Nat) : Fld := ⟨K.TIM_TRIG_CTRL + 0x20 * u + off, lo, wd, 4⟩

/-- START of a unit. -/
def Chip.trigStart (c : Chip) (u : Nat) : Clock :=
  ⟨c.get (trigFld u 0x08 0 32) + c.get (trigFld u 0x0C 0 16) * 2 ^ 32, c.get (trigFld u 0x04 0 30), c.get (trigFld u 0x10 0 32)⟩

/-- PERIOD of a unit in 2⁻³² ns. -/
def Chip.trigPeriod (c : Chip) (u : Nat) : Nat := c.get (trigFld u 0x14 0 32) * 2 ^ 32 + c.get (trigFld u 0x18 0 32)

/-- The target of a unit, where it is enabled. -/
def Chip.trigTarget (c : Chip) (u : Nat) : Option Clock := (c.tim.targets.find? (fun e => e.1 = u)).map (·.2)

/-- The target of a unit set or dropped. -/
def Chip.setTarget (c : Chip) (u : Nat) (k : Option Clock) : Chip :=
  c.timUp (fun t => { t with targets := t.targets.filter (fun e => e.1 ≠ u) ++ (match k with
    | some k => [(u, k)]
    | none => []) })

/-- TRIGGER_ENABLE: TRIG_CTRL of a unit written. -/
def Chip.trigWrite (c : Chip) (m : Master) (u data : Nat) : Status × Chip :=
  if u ≤ 1 && m ≠ .keeper then (.locked, c)
  else
    let was := c.is (trigFld u 0 0 1)
    let c := c.set (trigFld u 0 0 3) (data % 8)
    if bit data 0 then (.ok, if was then c else c.setTarget u (some (c.trigStart u)))
    else (.ok, c.setTarget u none)

/-- TRIGGER_FIRE below its consumers: the unit fires where the clock has reached its target; the target it fired for. -/
def Chip.trigFire (c : Chip) (u : Nat) : Option (Clock × Chip) :=
  match c.trigTarget u with
  | none => none
  | some t =>
    let d := clockDiff c.clock t
    if d < 0 then none
    else
      let c := (c.incWrap (trigFld u 0x1C 16 16)).set (trigFld u 0x1C 0 1) 1
      let c := if c.tim.disc.contains u then
          (c.set (trigFld u 0x1C 1 1) 1).timUp (fun t => { t with disc := t.disc.filter (· ≠ u) }) else c
      let c := if c.is (trigFld u 0 2 1) then c.irq P.TIM 7 else c
      let p := c.trigPeriod u
      if !c.is (trigFld u 0 1 1) || p = 0 then
        some (t, ((c.set (trigFld u 0x1C 8 8) 0).set (trigFld u 0 0 1) 0).setTarget u none)
      else
        let k := d.toNat / p + 1
        let next := clockOf t.sec ((t.sub + k * p : Nat) : Int)
        some (t, (c.set (trigFld u 0x1C 8 8) (min 255 (k - 1))).setTarget u (some next))

/-- Photo-sense: the conversions that a trigger starts (R325). -/
def Chip.photoSense (c : Chip) (u : Nat) (readings : List Nat) : Chip :=
  if u ≠ c.act F.SEC_PHOTO_CTRL_TRIG || !c.blockOn 12 then c
  else
    foldOver (List.range 4) (fun (k : Nat) (c : Chip) =>
      if bit (c.act F.SEC_PHOTO_CTRL_EN) k then
        (c.set (F.SEC_PHOTO_VALUE.ix k) (min 65535 (readings.getD k 0))).set (F.SEC_PHOTO_FIELD.ix k) (c.tick.field % 65536)
      else c) c

/-! ### Tick sources (R11 to R14) -/

/-- Nothing is tracked: SRC is REF. -/
def Chip.tickUntracked (c : Chip) : Chip :=
  (((c.set F.TIM_TICK_STATUS_LOCKED 0).set F.TIM_TICK_STATUS_HOLDOVER 0).set F.TIM_TICK_STATUS_REPHASE_PENDING 0).set
    F.TIM_TICK_STATUS_PHASE_ERR 0

/-- TICK_HOLDOVER. -/
def Chip.tickHoldover (c : Chip) : Chip :=
  if c.act F.TIM_TICK_CTRL_SRC = 0 then c
  else (c.set F.TIM_TICK_STATUS_LOCKED 0).set F.TIM_TICK_STATUS_HOLDOVER 1

/-- PHASE_ERR in units of 10 ns, saturating. -/
def Chip.phaseErr (c : Chip) (e : Int) : Chip := c.setZ F.TIM_TICK_STATUS_PHASE_ERR (clampInt (-32767) 32767 e)

/-- A re-phase in the dark at the next frame boundary, the mode unchanged (R13). -/
def Chip.rephaseWanted (c : Chip) : Chip := { c with modes := { c.modes with rephase := true } }

/-- No re-phase is wanted or pending any more. -/
def Chip.rephaseNot (c : Chip) : Chip :=
  { c.set F.TIM_TICK_STATUS_REPHASE_PENDING 0 with modes := { c.modes with rephase := false } }

/-- TICK_SOURCE_RELOCK: a source returned or was newly selected, and the phase error in units of 10 ns was measured. -/
def Chip.tickRelock (c : Chip) (e : Int) : Chip :=
  let src := c.act F.TIM_TICK_CTRL_SRC
  if src = 0 || (src = 2 && c.mode = .hold) then c
  else
    let c := c.phaseErr e
    if -20000 ≤ e ∧ e ≤ 20000 then
      ((c.set F.TIM_TICK_STATUS_LOCKED 1).set F.TIM_TICK_STATUS_HOLDOVER 0).rephaseNot
    else
      let c := (c.set F.TIM_TICK_STATUS_LOCKED 0).set F.TIM_TICK_STATUS_HOLDOVER 1
      if c.on F.TIM_TICK_CTRL_REPHASE_AUTO then (c.set F.TIM_TICK_STATUS_REPHASE_PENDING 0).rephaseWanted
      else c.set F.TIM_TICK_STATUS_REPHASE_PENDING 1

/-- A time in ns of seconds and nanoseconds. -/
def nsOf (t : Nat × Nat) : Int := ((t.1 * 1000000000 + t.2 : Nat) : Int)

/-- The target of the tick that has just started its sector, in ns of local time: under TIME the tick that trigger unit 0
delivered last or will deliver next, whichever is nearer; under HOST the target of the frame's sector 0 and, from it, ticks
spaced evenly at the nominal interval (R11). -/
def Chip.tickTarget (c : Chip) : Option Int :=
  match c.act F.TIM_TICK_CTRL_SRC with
  | 1 =>
    let now := nsOf (c.clock.sec, c.clock.ns)
    let near := fun (a b : Int) => if (now - b).natAbs < (now - a).natAbs then b else a
    match c.tick.timeTarget, c.trigTarget 0 with
    | some a, some b => some (near (nsOf a) (nsOf (b.sec, b.ns)))
    | some a, none => some (nsOf a)
    | none, some b => some (nsOf (b.sec, b.ns))
    | none, none => none
  | 2 => c.tick.hostBase.map (fun t => nsOf t + ((c.tick.sector * 1000000000 / c.timing.fieldHz : Nat) : Int))
  | _ => none

/-- The tick source at a commit, `was` being the source before it: another source ends what waited under R13, and nothing is
tracked until its phase error has been measured; REF tracks nothing; a pending re-phase starts once REPHASE_AUTO is 1;
entering Hold under HOST ticks in holdover; PHASE_ERR is this tick less its target. -/
def Chip.tickCommit (c : Chip) (was : Nat) : Chip :=
  let src := c.act F.TIM_TICK_CTRL_SRC
  let c := if src = was then c else (c.set F.TIM_TICK_STATUS_LOCKED 0).rephaseNot
  if src = 0 then c.tickUntracked
  else if src = 2 && c.mode = .hold then c.tickHoldover
  else
    let c := match c.tickTarget with
      | some t => c.phaseErr ((nsOf (c.clock.sec, c.clock.ns) - t).tdiv 10)
      | none => c
    if c.is F.TIM_TICK_STATUS_REPHASE_PENDING && c.on F.TIM_TICK_CTRL_REPHASE_AUTO then
      (c.set F.TIM_TICK_STATUS_REPHASE_PENDING 0).rephaseWanted
    else c

/-! ### Following a source (R440, R441) -/

/-- SYNC_STATE set; a change raises its interrupt. -/
def Chip.syncState (c : Chip) (s : Nat) : Chip :=
  if c.get F.TIM_TIME_STATUS_SYNC_STATE = s then c else (c.set F.TIM_TIME_STATUS_SYNC_STATE s).irq P.TIM 8

/-- Keeper firmware answers a measured offset in 2⁻¹⁶ ns: it steps once; beyond 1 ms it steers at the RATE limit; else it
steers by a RATE that is a free value. -/
def Chip.servo (c : Chip) (source : Nat) (off : Int) : Chip :=
  let ns := off / 65536
  let c := c.setZ F.TIM_OFFSET_NS (clampInt (-(2 ^ 31)) (2 ^ 31 - 1) ns)
  let c := c.set F.TIM_TIME_STATUS_SOURCE source
  if c.is stepArm then
    let c := (c.syncState 1).timUp (fun t => { t with good := 0 })
    if c.tim.step.isSome then c
    else
      let s := (-ns).tdiv 1000000000
      let r := (-ns).tmod 1000000000
      let c := (c.set F.TIM_STEP_S_LO_S (unsigned 32 s)).set F.TIM_STEP_S_HI_S (unsigned 16 (s / 2 ^ 32))
      let c := c.set F.TIM_STEP_NS_NS (unsigned 31 r)
      c.timUp (fun t => { t with step := some (s, r) })
  else if 1000000 < ns || ns < -1000000 then
    ((c.setRate (if 0 < ns then -rateLimit else rateLimit)).syncState 4).timUp (fun t => { t with good := 0 })
  else
    let c := (c.setRate (((c.freeNat % 8589935 : Nat) : Int) - rateLimit)).drew
    let good := if -100 ≤ ns ∧ ns ≤ 100 then c.tim.good + 1 else 0
    let c := c.timUp (fun t => { t with good := good })
    let st := c.get F.TIM_TIME_STATUS_SYNC_STATE
    if 16 ≤ good then c.syncState 2 else if st = 2 then c else c.syncState 1

/-- The source is lost. -/
def Chip.sourceLost (c : Chip) : Chip :=
  let c := c.timUp (fun t => { t with good := 0, slaveOf := none, own := none, reqs := [], ms := none })
  let c := c.set F.TIM_TIME_STATUS_SOURCE 0
  if c.get F.TIM_TIME_STATUS_SYNC_STATE = 0 then c else c.syncState 3

/-- A Sync's times: t1, t2 and the sum of its corrections. -/
def Chip.measured (c : Chip) (source : Nat) (t1 t2 corr : Int) : Chip :=
  let ms := t2 - t1 - corr
  let c := c.timUp (fun t => { t with ms := some ms })
  c.servo source (ms - signed 32 (c.get F.TIM_PATH_DELAY_NS) * 65536)

/-- A Delay_Resp: the mean path delay. -/
def Chip.delayResp (c : Chip) (port seq : Nat) (t4 corr : Int) : Chip :=
  match c.tim.reqs.find? (fun r => r.port = port && r.seq = seq) with
  | none => c
  | some r =>
    let c := c.timUp (fun t => { t with reqs := t.reqs.filter (fun q => !(q.port = port && q.seq = seq)) })
    match c.tim.ms with
    | some ms => c.setZ F.TIM_PATH_DELAY_NS (clampInt (-(2 ^ 31)) (2 ^ 31 - 1) ((ms + (t4 - r.t3 - corr)) / 2 / 65536))
    | none => c

/-- `TIM.PORT_ASYM[p]` in 2⁻¹⁶ ns. -/
def Chip.portAsym (c : Chip) (p : Nat) : Int := signed 32 (c.get (F.TIM_PORT_ASYM_ASYM.ix p))

/-! ### The time ports (R444 to R446) -/

/-- The ports that ROLE keeps up. -/
def Chip.portsOn (c : Chip) : List Nat :=
  match c.get F.TIM_PTP_CTRL_ROLE with
  | 0 => []
  | 1 => [0]
  | 2 => [1]
  | _ => [0, 1]

/-- TPn_UP. -/
def tpUp (p : Nat) : Fld := ⟨K.TIM_PORT_STATE, p, 1, 4⟩

/-- The port on which the module is an ordinary clock. -/
def Chip.ocPort (c : Chip) : Nat :=
  match c.get F.TIM_PTP_CTRL_ROLE with
  | 1 => 0
  | 2 => 1
  | _ => c.get F.TIM_PTP_CTRL_UPSTREAM

/-- A message sent on a time port. -/
def Chip.ptpSend (c : Chip) (p : Nat) (m : PtpMsg) : Chip := c.timUp (fun t => { t with wire := t.wire ++ [(p, m)] })

/-- A message of the module's own: its sourcePortIdentity and UDP checksum are values the spec does not give (log 108); it
goes over UDP/IPv4 under the SMPTE profile and where TRANSPORT says so (R445). -/
def Chip.ptpOwn (c : Chip) (p : Nat) (m : PtpMsg) : Chip :=
  let udp := c.is F.TIM_PTP_CTRL_PROFILE || !c.is F.TIM_PTP_CTRL_TRANSPORT
  c.ptpSend p { m with
    source := Config.portIdentity p, udp := udp
    checksum := if udp then Config.udpChecksum m.kind m.seq % 65536 else 0 }

/-- A message with `add` added to its correctionField; the UDP checksum of a message that changes is 0 (R446). -/
def ptpCorrected (m : PtpMsg) (add : Int) : PtpMsg :=
  { m with corr := m.corr + add, checksum := if m.udp then 0 else m.checksum }
/-- The transparent clock forwards a message (R446). -/
def Chip.tcForward (c : Chip) (p : Nat) (m : PtpMsg) (residence : Nat) : Chip :=
  let q := 1 - p
  if !c.is (tpUp q) then c
  else
   let c := c.count P.TIM 4
   match m.kind with
    | 0 =>
      let add := (residence : Int) + c.portAsym p
      if !m.twoStep then c.ptpSend q (ptpCorrected m add)
      else
        let c := if c.tim.held.length < 16 then
            c.timUp (fun t => { t with held := t.held ++ [⟨p, m.seq, m.source, add⟩] }) else c
        c.ptpSend q m
    | 1 => c.ptpSend q (ptpCorrected m (residence - c.portAsym q))
    | 8 =>
      let mine := fun (h : HeldSync) => h.port = p && h.seq = m.seq && h.source = m.source
      match c.tim.held.find? mine with
      | some h => (c.timUp (fun t => { t with held := t.held.filter (fun h => !mine h) })).ptpSend q (ptpCorrected m h.corr)
      | none => (c.count P.TIM 7).ptpSend q m
    | _ => c.ptpSend q m

/-- The ordinary clock takes a message. -/
def Chip.ocTake (c : Chip) (p : Nat) (m : PtpMsg) : Chip :=
  let me := 1 + p
  match m.kind with
  | 0 =>
    let c := c.count P.TIM 2
    if c.tim.slaveOf ≠ some p then c
    else
      let corr := m.corr + c.portAsym p
      if m.twoStep then c.timUp (fun t => { t with own := some ⟨m.seq, m.source, c.nowQ, corr⟩ })
      else c.measured me m.ts c.nowQ corr
  | 8 => match c.tim.own with
    | some o =>
      if c.tim.slaveOf = some p && o.seq = m.seq && o.source = m.source then
        (c.timUp (fun t => { t with own := none })).measured me m.ts o.t2 (o.corr + m.corr)
      else c
    | none => c
  | 9 => if c.tim.slaveOf = some p && m.requester = Config.portIdentity p then c.delayResp p m.seq m.ts m.corr else c
  | 1 =>
    if c.is F.TIM_PTP_CTRL_SLAVE_ONLY || c.tim.slaveOf.isSome then c
    else c.ptpOwn p { kind := 9, seq := m.seq, requester := m.source, ts := c.nowQ, corr := m.corr, domain := m.domain }
  | 0xB =>
    if !m.better && !c.is F.TIM_PTP_CTRL_SLAVE_ONLY then c
    else
      let c := (c.set F.TIM_UTC_OFFSET_SECONDS (m.utc % 65536)).set F.TIM_UTC_OFFSET_VALID 1
      let c := c.timUp (fun t => { t with slaveOf := some p })
      let c := c.set F.TIM_TIME_STATUS_SOURCE me
      let st := c.get F.TIM_TIME_STATUS_SYNC_STATE
      if st = 0 || st = 3 then c.syncState 1 else c
  | _ => c

/-- PTP_MESSAGE: a message on a time port; `residence` is its time in the module where it is forwarded, and `full` says that
the unit's 64 stamps have not been collected. -/
def Chip.ptpMessage (c : Chip) (p : Nat) (m : PtpMsg) (residence : Nat) (full : Bool) : Chip :=
  if !c.portsOn.contains p || !c.is (tpUp p) then c
  else
    let event := m.kind = 0 || m.kind = 1
    let lost := event && full
    let c := if lost then c.count P.TIM 6 else c
    let c := if c.get F.TIM_PTP_CTRL_ROLE = 3 then c.tcForward p m residence else c
    if p = c.ocPort && m.domain = c.get F.TIM_PTP_CTRL_DOMAIN && !lost then c.ocTake p m else c

/-- FOLLOW_UP_TIMEOUT: a held residence is dropped. -/
def Chip.followUpTimeout (c : Chip) (p seq source : Nat) : Chip :=
  c.timUp (fun t => { t with held := t.held.filter (fun h => !(h.port = p && h.seq = seq && h.source = source)) })

/-- TIME_PORT_UP. -/
def Chip.timePortUp (c : Chip) (p : Nat) : Chip :=
  if c.portsOn.contains p && !c.is (tpUp p) then (c.set (tpUp p) 1).irq P.TIM 9 else c

/-- TIME_PORT_DOWN. -/
def Chip.timePortDown (c : Chip) (p : Nat) : Chip :=
  if !c.is (tpUp p) then c
  else
    let c := ((c.set (tpUp p) 0).irq P.TIM 9).event P.TIM .cont (.own 0x10) p
    let c := c.timUp (fun t => { t with held := t.held.filter (fun h => h.port ≠ p) })
    if c.tim.slaveOf = some p then c.sourceLost else c

/-- ANNOUNCE_RECEIPT_TIMEOUT. -/
def Chip.announceTimeout (c : Chip) (p : Nat) : Chip := if c.tim.slaveOf = some p then c.sourceLost else c

/-- A sequenceId used. -/
def Chip.nextSeq (c : Chip) : Nat × Chip :=
  (c.tim.nextSeq, c.timUp (fun t => { t with nextSeq := (t.nextSeq + 1) % 65536 }))

/-- A Delay_Req goes out of port 0, 1 or 2 (the tile link) and waits for its answer. -/
def Chip.addReq (c : Chip) (port seq : Nat) : Chip :=
  (c.timUp (fun t => { t with reqs := t.reqs.filter (fun r => r.port ≠ port) ++ [⟨port, seq, c.nowQ⟩] })).count P.TIM 3

/-! ### Time on the tile link (R447, R448) -/

/-- A TIME frame's payload. -/
def timePayload (kind seq : Nat) (ts : Int) (corr : Int) (req side : Nat) : List Byte :=
  let ns := (ts / 65536).toNat
  leBytes 1 kind ++ leBytes 1 0 ++ leBytes 2 seq ++ leBytes 6 (ns / 1000000000) ++ leBytes 4 (ns % 1000000000)
    ++ leBytes 8 (unsigned 64 corr) ++ leBytes 1 req ++ leBytes 1 side

/-- Fields of a TIME payload. -/
def timeTs (l : List Byte) : Int := ((leNat ((l.drop 4).take 6) * 1000000000 + leNat ((l.drop 10).take 4) : Nat) : Int) * 65536
def timeCorr (l : List Byte) : Int := signed 64 (leNat ((l.drop 14).take 8))

/-- The payload with another correction. -/
def withCorr (l : List Byte) (corr : Int) : List Byte := l.take 14 ++ leBytes 8 (unsigned 64 corr) ++ l.drop 22

/-- The module owns its panel's light and region layer, or is no pair member. -/
def Chip.owns (c : Chip) : Bool := !c.paired || c.is F.TLK_PAIR_STATUS_OWN

/-- TIME: a TIME frame with the residence, in 2⁻¹⁶ ns, of a copy that is forwarded. -/
def Chip.tileTime (c : Chip) (l : Nat) (frame : List Byte) (residence : Nat) (full : Bool) : Chip :=
  c.tileMsg l frame [0x02] (fun _ p id data c =>
    let c := c.count P.TIM 5
    let kind := leNat (data.take 1) % 16
    let seq := leNat ((data.drop 2).take 2)
    let corr := timeCorr data
    let req := leNat ((data.drop 22).take 1)
    let side := leNat ((data.drop 23).take 1) % 2
    let lost := full && (kind = 0 || kind = 1)
    let c := if lost then c.count P.TIM 6 else c
    if p = portU && !c.isTender then
      if kind = 0 then
        let corr := corr + c.portAsym 2
        let fwd := withCorr data (corr + residence)
        let c := (c.sendPort portD0 0x02 id fwd).sendPort portD1 0x02 id fwd
        if lost then c else c.measured 3 (timeTs data) c.nowQ corr
      else if kind = 9 then
        if req = c.ownId then
          if side = c.get F.TLK_NODE_CFG_SIDE then c.delayResp 2 seq (timeTs data) corr else c
        else c.sendDown 0x02 req data
      else c
    else if (p = portD0 || p = portD1) && kind = 1 then
      let c := c.learnRoute p id
      if !c.owns then c
      else if c.isTender then
        if lost then c else c.sendPort p 0x02 req (timePayload 9 seq c.nowQ corr req side)
      else c.sendUp 0x02 id (withCorr data (corr + residence - c.portAsym 2))
    else c)

/-- PTP_SYNC_INTERVAL: on the tile link (`p` 2) the Tender's Sync or a worker's Delay_Req; on a time port the master's Sync
with its Follow_Up, or the slave's Delay_Req. -/
def Chip.ptpInterval (c : Chip) (p : Nat) : Chip :=
  let (seq, c) := c.nextSeq
  if p = 2 then
    if !c.blockOn 4 then c
    else if c.isTender then
      let d := timePayload 0 seq c.nowQ 0 0 0
      (c.sendPort portD0 0x02 0 d).sendPort portD1 0x02 0 d
    else (c.addReq 2 seq).sendPort portU 0x02 c.ownId
      (timePayload 1 seq 0 (-(c.portAsym 2)) c.ownId (c.get F.TLK_NODE_CFG_SIDE))
  else if !c.portsOn.contains p || !c.is (tpUp p) || p ≠ c.ocPort then c
  else
    let dom := c.get F.TIM_PTP_CTRL_DOMAIN
    if c.tim.slaveOf = some p then
      (c.addReq p seq).ptpOwn p { kind := 1, seq := seq, corr := -(c.portAsym p), domain := dom }
    else if c.is F.TIM_PTP_CTRL_SLAVE_ONLY then c
    else (c.ptpOwn p { kind := 0, seq := seq, twoStep := true, domain := dom }).ptpOwn p
      { kind := 8, seq := seq, ts := c.nowQ, domain := dom }

end Sys2Proof.Machine
end

