-- ==== Sys2Proof/Machine/Cal.lean ====
section
/-!
DEFINITION. Machine/Cal.lean: calibration (chapter 22): results and their limits, background and FULL runs, the boundaries at
which results take effect, and the calibration set's bytes.
-/

namespace Sys2Proof.Machine

/-- A change of calibration's own state. -/
def Chip.calUp (c : Chip) (f : Cal → Cal) : Chip := { c with cal := f c.cal }

/-- Values of an element. -/
def CalValues.convOf (v : CalValues) (i : Nat) : Conv := storeGet (fun _ => {}) v.conv i
def CalValues.sinkOf (v : CalValues) (ch : Nat) : Nat := storeGet (fun _ => 2 ^ 255 - 1) v.sinks ch
def CalValues.memOf (v : CalValues) (ch : Nat) : List Byte := storeGet (fun _ => List.replicate 64 0) v.mem ch

/-- A converter's value set. -/
def CalValues.setConv (v : CalValues) (i : Nat) (x : Conv) : CalValues := { v with conv := storePut (fun _ => {}) v.conv i x }

/-- The converter of a channel: an entry of CONV_MAP. -/
def convFld (ch : Nat) : Fld := ⟨K.CAL_CONV_MAP + 4 * (ch / 4), 8 * (ch % 4), 7, 4⟩

/-- A converter is retired. -/
def retiredFld (i : Nat) : Fld := ⟨K.CAL_RETIRED + 4 * (i / 32), i % 32, 1, 4⟩

/-- BG_EN and PAUSE_MODE (R516). -/
def bgEn : Fld := ⟨P.CAL + 0x008, 1, 1, 4⟩
def pauseMode : Fld := ⟨P.CAL + 0x008, 0, 1, 4⟩

/-- CALIBRATING, while a step, a pause or a FULL run is under way, and PAUSED. -/
def Chip.calStatus (c : Chip) (paused : Bool) : Chip :=
  (c.statusBit P.CAL 3 (paused || c.get F.CAL_BG_STATUS_PHASE = 1 || c.is F.CAL_FULL_STATUS_RUNNING)).statusBit P.CAL 4 paused

/-! ### Plausibility and retirement (R508, R509) -/

/-- The first limit a converter result breaks: item, limit (0 minimum, 1 maximum, 2 step). `old` for background results. -/
def convLimit (old : Option Conv) (r : Conv) : Option (Nat × Nat) :=
  let gain := fun (g : Nat) (o : Option Nat) =>
    if g * 10 < 9 * 16384 then some (1, 0) else if 11 * 16384 < g * 10 then some (1, 1)
    else match o with
      | some a => if a < (if g < a then a - g else g - a) * 200 then some (1, 2) else none
      | none => none
  let off := fun (g : Int) (o : Option Int) =>
    if g < -64 then some (2, 0) else if 64 < g then some (2, 1)
    else match o with
      | some a => if 8 < (g - a).natAbs then some (2, 2) else none
      | none => none
  match gain r.igain (old.map (·.igain)) with
  | some e => some e
  | none => match gain r.vgain (old.map (·.vgain)) with
    | some e => some e
    | none => match off r.ioff (old.map (·.ioff)) with
      | some e => some e
      | none => off r.voff (old.map (·.voff))

/-- A result within ±`lim` (of items 3 to 5), or the limit it breaks. -/
def errLimit (item : Nat) (lim err : Int) : Option (Nat × Nat) :=
  if err < -lim then some (item, 0) else if lim < err then some (item, 1) else none

/-- An implausible result: latched and recorded. -/
def Chip.implausible (c : Chip) (e : Nat × Nat) (element cell : Nat) : Chip :=
  let c := ((c.set F.CAL_PLAUS_INFO_ITEM e.1).set F.CAL_PLAUS_INFO_ELEMENT element).set F.CAL_PLAUS_INFO_LIMIT e.2
  let c := ((c.set F.CAL_PLAUS_INFO_VALID 1).count P.CAL 2).irq P.CAL 7
  c.event P.CAL .corr (.own 0x10) cell

/-- Three failed results in a row retire a converter. -/
def Chip.convFailed (c : Chip) (i : Nat) : Chip :=
  let n := storeGet (fun _ => 0) c.cal.fails i + 1
  let c := c.calUp (fun k => { k with fails := storePut (fun _ => 0) k.fails i n })
  if n < 3 || c.is (retiredFld i) then c
  else
    let spare := c.get F.CAL_BG_STATUS_SPARE
    let stopped := c.get F.CAL_BG_STATUS_PHASE = 3
    let c := ((c.set (retiredFld i) 1).irq P.CAL 8).event P.CAL .cont (.own 0x11) i
    let chans := (List.range 96).filter (fun ch => c.get (convFld ch) = i)
    let c := if i = spare && !stopped then c
      else if stopped then c.calUp (fun k => { k with unsensed := k.unsensed ++ chans })
      else c.calUp (fun k => { k with relief := k.relief ++ chans })
    -- Rotation stops; a pass that rotates ends with it.
    (c.set F.CAL_BG_STATUS_PHASE 3).calUp (fun k => { k with handover := none, pass := if k.pausing then k.pass else none })

/-- A converter result is taken to wait for its boundary, or fails. -/
def Chip.convResult (c : Chip) (background : Bool) (x : ConvIn) : Bool × Chip :=
  let r : Conv := ⟨x.comp % 256, x.igain % 65536, x.ioff, x.vgain % 65536, x.voff⟩
  match convLimit (if background then some (c.cal.active.convOf x.conv) else none) r with
  | some e => (false, (c.implausible e x.conv x.conv).convFailed x.conv)
  | none =>
    let c := c.calUp (fun k => { k with
      fails := storePut (fun _ => 0) k.fails x.conv 0, conv := k.conv.filter (fun e => e.1 ≠ x.conv) ++ [(x.conv, r)] })
    (true, c.set F.CAL_PENDING_LED 1)

/-! ### Background calibration (R505 to R507) -/

/-- CALV and CALI are measured before a step (R501): true where both lie within 1 % of nominal. -/
def Chip.calReference (c : Chip) (calv cali : Nat) : Bool × Chip :=
  let near := fun (v : Nat) => decide (24750 ≤ v) && decide (v ≤ 25250)
  let ok := near calv && near cali
  let c := (c.set F.CAL_REF_STATUS_CALV (min 65535 calv)).set F.CAL_REF_STATUS_CALI (min 32767 cali)
  let c := c.setB F.CAL_REF_STATUS_REF_OK ok
  (ok, if ok then c else (c.irq P.CAL 9).event P.CAL .cont (.own 0x12))

/-- CAL_PAUSE begins: sensing stops for 12 ms (R507). -/
def Chip.pauseStart (c : Chip) : Chip := (c.count P.CAL 3).calStatus true

/-- CAL_PASS_START. -/
def Chip.passStart (c : Chip) : Chip :=
  if c.cal.pass.isSome || c.cal.full.isSome || (c.get F.CAL_BG_STATUS_PHASE = 3 && !c.is pauseMode)
    || (!c.is bgEn && c.cal.asked.isNone) then c
  else
    let pause := c.is pauseMode
    let c := c.calUp (fun k => { k with pass := some 0, pausing := pause })
    if pause then c.pauseStart else c

/-- CAL_STEP_START with the readings of CALV (100 µV) and CALI (10 nA). -/
def Chip.stepStart (c : Chip) (calv cali : Nat) : Chip :=
  if c.cal.pass.isNone || c.cal.pausing || c.get F.CAL_BG_STATUS_PHASE ≠ 0 || c.is F.CAL_FULL_STATUS_RUNNING
    || (!c.is bgEn && c.cal.asked.isNone) then c
  else match c.calReference calv cali with
    | (false, c) => c
    | (true, c) => ((c.count P.CAL 0).set F.CAL_BG_STATUS_PHASE 1).calStatus false

/-- A request's failure count. -/
def Chip.askedFail (c : Chip) (ok : Bool) : Chip :=
  if ok then c else c.calUp (fun k => { k with asked := k.asked.map (fun a => { a with fails := a.fails + 1 }) })

/-- CAL_STEP_DONE with the spare converter's result. -/
def Chip.stepDone (c : Chip) (x : ConvIn) : Chip :=
  if c.get F.CAL_BG_STATUS_PHASE ≠ 1 then c
  else
    let spare := c.get F.CAL_BG_STATUS_SPARE
    let c := c.set F.CAL_BG_STATUS_PHASE 0
    match c.convResult true { x with conv := spare } with
    | (false, c) => (c.askedFail false).calStatus false
    | (true, c) =>
      let c := c.calUp (fun k => { k with handover := some (c.get F.CAL_BG_STATUS_NEXT_CH), pass := k.pass.map (· + 1) })
      (c.set F.CAL_BG_STATUS_PHASE 2).calStatus false

/-- A pass ends. -/
def Chip.passEnd (c : Chip) : Chip :=
  ((c.incWrap F.CAL_BG_STATUS_PASSES).irq P.CAL 6).calUp (fun k => { k with pass := none, pausing := false })

/-- CAL_PAUSE: under the pause mode with nothing paused, sensing stops; else the 12 ms end with the results of the 97
converters. -/
def Chip.calPause (c : Chip) (xs : List ConvIn) : Chip :=
  if c.is ⟨P.CAL + 0x00C, 4, 1, 4⟩ then
    let c := foldOver (xs.filter (fun x => !c.is (retiredFld x.conv))) (fun (x : ConvIn) (c : Chip) =>
      let r := c.convResult true x
      r.2.askedFail r.1) c
    (c.calStatus false).passEnd
  else c.passStart

/-! ### Full calibration (R503, R511) -/

/-- The cell mask of a sink DAC: the 16 cells farthest from the median are dropped, the lower-numbered first among equals. -/
def sinkMask (cells : List Nat) : Nat :=
  let sorted := cells.mergeSort (· ≤ ·)
  let med := sorted.getD (cells.length / 2) 0
  let dist := fun (v : Nat) => if v < med then med - v else v - med
  let idx := (List.range 271).map (fun i => (dist (cells.getD i 0), i))
  let far := (idx.mergeSort (fun a b => decide (b.1 < a.1) || (a.1 = b.1 && decide (a.2 ≤ b.2)))).take 16
  let drop := far.map (·.2)
  (List.range 271).foldl (fun n i => if drop.contains i then n else n + 2 ^ i) 0

/-- A FULL run starts at a frame boundary, where no step runs. -/
def Chip.fullStart (c : Chip) : Chip :=
  if c.cal.full.isNone || c.cal.dark || c.get F.CAL_BG_STATUS_PHASE = 1 || c.is ⟨P.CAL + 0x00C, 4, 1, 4⟩ then c
  else
    let c := (c.calUp (fun k => { k with dark := true, ended := false })).count P.CAL 4
    ((c.set F.CAL_FULL_STATUS_RUNNING 1).set F.CAL_FULL_STATUS_FAILURES 0).calStatus false

/-- CAL_FULL_RUN_END: the run's results are judged; the reply's endpoint, TAG and failures. -/
def Chip.fullEnd (c : Chip) (x : FullIn) : Option CalAsked × Chip :=
  if !c.is F.CAL_FULL_STATUS_RUNNING then (none, c)
  else
    let step := fun (r : Bool × Chip) (n : Nat) => (r.2, if r.1 then n else n + 1)
    let (c, n) := x.convs.foldl (fun (a : Chip × Nat) v => step (a.1.convResult false v) a.2) (c, 0)
    let sink := fun (a : Chip × Nat) (s : SinkIn) =>
      match errLimit 3 10000 s.errPpm with
      | some e => (a.1.implausible e s.ch 0xFFF, a.2 + 1)
      | none => ((a.1.calUp (fun k => { k with sinks := k.sinks.filter (fun e => e.1 ≠ s.ch) ++ [(s.ch, sinkMask s.cells)] })).set
          F.CAL_PENDING_LED 1, a.2)
    let (c, n) := x.sinks.foldl sink (c, n)
    let (c, n) := match errLimit 4 100 x.vcomErr with
      | some e => (c.implausible e 0 0xFFF, n + 1)
      | none => ((c.calUp (fun k => { k with ladder := some x.tap })).set F.CAL_PENDING_LADDER 1, n)
    let mem := fun (a : Chip × Nat) (m : MemRefIn) =>
      if !a.1.dram.live.contains m.ch then a
      else match errLimit 5 50000 m.errPpm with
        | some e => (a.1.implausible e m.ch 0xFFF, a.2 + 1)
        | none => ((a.1.calUp (fun k => { k with mem := k.mem.filter (fun e => e.1 ≠ m.ch) ++ [(m.ch, padBytes 64 m.entry)] })).set
            ⟨K.CAL_PENDING, 8 + m.ch, 1, 4⟩ 1, a.2)
    let (c, n) := x.mem.foldl mem (c, n)
    let c := (c.set F.CAL_FULL_STATUS_FAILURES (min 255 n)).set F.CAL_FULL_STATUS_RUNNING 0
    let asked := c.cal.full.map (fun a => { a with fails := n })
    (asked, (c.calUp (fun k => { k with full := none, ended := true })).calStatus false)

/-! ### Boundaries (R502, R510) -/

/-- Waiting MEM reference results of channels that are retired or absent are discarded (R510). -/
def Chip.calDiscard (c : Chip) : Chip :=
  let gone := (c.cal.mem.map (·.1)).filter (fun ch => !c.dram.live.contains ch)
  let c := foldOver gone (fun (ch : Nat) (c : Chip) => c.set ⟨K.CAL_PENDING, 8 + ch, 1, 4⟩ 0) c
  c.calUp (fun k => { k with mem := k.mem.filter (fun e => !gone.contains e.1) })

/-- CAL at a commit; `boundary` at one that starts a frame. A background pass that ends answers its request. -/
def Chip.calCommit (c : Chip) (boundary : Bool) : Option CalAsked × Chip :=
  let c := c.calDiscard
  let led := !c.cal.dark || (boundary && c.cal.ended)
  let c := if led && (!c.cal.conv.isEmpty || !c.cal.sinks.isEmpty) then
      let v := c.cal.conv.foldl (fun (v : CalValues) e => v.setConv e.1 e.2) c.cal.active
      let v := { v with sinks := c.cal.sinks.foldl (fun l e => storePut (fun _ => 2 ^ 255 - 1) l e.1 e.2) v.sinks }
      let n := c.cal.conv.length + c.cal.sinks.length
      ((c.calUp (fun k => { k with active := v, conv := [], sinks := [] })).count P.CAL 5 n).set F.CAL_PENDING_LED 0
    else c
  let spare := c.get F.CAL_BG_STATUS_SPARE
  let c := match c.cal.relief with
    | ch :: rest =>
      let c := c.set (convFld ch) spare
      c.calUp (fun k => { k with relief := [], unsensed := k.unsensed ++ rest })
    | [] => c
  let c := match c.cal.handover with
    | some ch =>
      let old := c.get (convFld ch)
      let c := ((c.set (convFld ch) spare).set F.CAL_BG_STATUS_SPARE old).count P.CAL 1
      ((c.set F.CAL_BG_STATUS_NEXT_CH ((ch + 1) % 96)).set F.CAL_BG_STATUS_PHASE 0).calUp (fun k => { k with handover := none })
    | none => c
  let c := if boundary && c.cal.dark && c.cal.ended then c.calUp (fun k => { k with dark := false, ended := false }) else c
  let c := if boundary then c.fullStart else c
  let c := if !c.cal.pausing && c.cal.pass = some 97 then c.passEnd else c
  if c.cal.pass.isNone then (c.cal.asked, c.calUp (fun k => { k with asked := none })) else (none, c)

/-- A ladder result takes effect at an idle frame start of the region layer. -/
def Chip.calLadder (c : Chip) : Chip :=
  match c.cal.ladder with
  | some t =>
    let c := c.calUp (fun k => { k with active := { k.active with ladder := t }, ladder := none })
    ((c.setZ F.CAL_LADDER_INFO_TAP_OFFSET t).set F.CAL_PENDING_LADDER 0).count P.CAL 5
  | none => c

/-- A MEM reference result takes effect at the start of its channel's next quiet window. -/
def Chip.calMem (c : Chip) (ch : Nat) : Chip :=
  match c.cal.mem.find? (fun e => e.1 = ch) with
  | some e =>
    let c := c.calUp (fun k => { k with
      active := { k.active with mem := storePut (fun _ => List.replicate 64 0) k.active.mem ch e.2 }, mem := k.mem.filter (fun e => e.1 ≠ ch) })
    (c.set ⟨K.CAL_PENDING, 8 + ch, 1, 4⟩ 0).count P.CAL 5
  | none => c

/-- A Mooring trigger abandons what calibration was doing. -/
def Chip.calAbandon (c : Chip) : Chip :=
  let ph := c.get F.CAL_BG_STATUS_PHASE
  let c := if ph = 3 then c else c.set F.CAL_BG_STATUS_PHASE 0
  ((c.set F.CAL_FULL_STATUS_RUNNING 0).calUp (fun k => { k with
    pass := none, pausing := false, full := none, dark := false, ended := false, asked := none, handover := none, conv := [], sinks := [] })).calStatus false

/-- Content of a CAL block reset beyond the registers: retired converters return to service (R509); requests in progress stay
the Keeper's, and a FULL run starts again. -/
def Chip.calReset (c : Chip) : Chip := c.calUp (fun k => { stored := k.stored, asked := k.asked, full := k.full })

/-! ### The calibration set (R512, R513) -/

/-- A signed number of 16 bits. -/
def le16 (z : Int) : List Byte := leBytes 2 (unsigned 16 z)

/-- An entry of a converter. -/
def Conv.bytes (x : Conv) : List Byte :=
  leBytes 1 x.comp ++ leBytes 2 x.igain ++ le16 x.ioff ++ leBytes 2 x.vgain ++ le16 x.voff ++ [0, 0, 0]

/-- The set's first 5 932 bytes. -/
def CalSet.head (s : CalSet) : List Byte :=
  leBytes 4 0x4C414348 ++ leBytes 2 1 ++ leBytes 1 s.origin ++ leBytes 1 s.writes ++ leBytes 8 s.uid ++ List.replicate 48 0
    ++ (List.range 97).flatMap (fun i => (s.vals.convOf i).bytes)
    ++ (List.range 96).flatMap (fun ch => leBytes 36 (s.vals.sinkOf ch))
    ++ padBytes 64 (le16 s.vals.ladder)
    ++ (List.range 8).flatMap (fun ch => padBytes 64 (s.vals.memOf ch))
    ++ padBytes 672 s.vals.carried

/-- The set's bytes up to CHECK. -/
def CalSet.body (s : CalSet) : List Byte := padBytes 65528 s.head

/-- All 65 536 bytes. -/
def CalSet.bytes (s : CalSet) : List Byte := s.body ++ leBytes 8 (crc64 s.body)

/-- A byte range of a list. -/
def slice (l : List Byte) (a n : Nat) : List Byte := (l.drop a).take n

/-- The values that bytes of a set spell. -/
def calValues (l : List Byte) : CalValues :=
  let conv := fun (i : Nat) =>
    let e := slice l (64 + 12 * i) 12
    ({ comp := leNat (slice e 0 1), igain := leNat (slice e 1 2), ioff := signed 16 (leNat (slice e 3 2))
       vgain := leNat (slice e 5 2), voff := signed 16 (leNat (slice e 7 2)) } : Conv)
  { conv := (List.range 97).foldl (fun a i => storePut (fun _ => {}) a i (conv i)) []
    sinks := (List.range 96).foldl (fun a i => storePut (fun _ => 2 ^ 255 - 1) a i (leNat (slice l (1228 + 36 * i) 36) % 2 ^ 271)) []
    ladder := signed 16 (leNat (slice l 4684 2))
    mem := (List.range 8).foldl (fun a i => storePut (fun _ => List.replicate 64 0) a i (slice l (4748 + 64 * i) 64)) []
    carried := slice l 5260 672 }

/-- Values within the minimum and maximum of Table 2 (R513). -/
def CalValues.plausible (v : CalValues) : Bool := (List.range 97).all (fun i => (convLimit none (v.convOf i)).isNone)

/-- The set that bytes spell where they pass the checks of R513 but for ORIGIN and WRITES, and bytes outside its fields are
0. -/
def readCalSet (uid : Nat) (l : List Byte) : Option CalSet :=
  let s : CalSet := { origin := leNat (slice l 6 1), writes := leNat (slice l 7 1), uid := leNat (slice l 8 8), vals := calValues l }
  if l.length = 65536 && leNat (slice l 0 4) = 0x4C414348 && leNat (slice l 4 2) = 1 && s.uid = uid
    && leNat (slice l 65528 8) = crc64 (slice l 0 65528) && s.vals.plausible && s.body = slice l 0 65528 then some s
  else none

/-- CONV_I, CONV_V and SPARES_USED as they are read. -/
def Chip.calView (c : Chip) (off : Nat) : Option Nat :=
  let x := c.cal.active.convOf (c.get F.CAL_CONV_SEL_CONV)
  if off = 0x1A4 then some (x.igain + unsigned 16 x.ioff * 65536)
  else if off = 0x1A8 then some (x.vgain + unsigned 16 x.voff * 65536)
  else if off = 0x1B0 then
    let ch := c.get F.CAL_SINK_INFO_CHANNEL
    some (ch + popCount (c.cal.active.sinkOf ch / 2 ^ 255) 16 * 256)
  else none

end Sys2Proof.Machine
end

