-- ==== Sys2Proof/Machine/Supply.lean ====
section
/-!
DEFINITION. Machine/Supply.lean: power of blocks and regions, rails, the hold-up capacitor, heat, Mooring and its records
(chapter 23), and the mode report (R71).
-/

namespace Sys2Proof.Machine

/-! ### The mode and its report (R68, R71) -/

/-- The code of a mode (R68 Table 1). -/
def modeCode : Mode → Nat
  | .off => 0
  | .standby => 1
  | .boot => 2
  | .safe => 3
  | .flat => 4
  | .lightfield => 5
  | .hold => 6
  | .mooring => 7

/-- The mode set, with its cause (Table 3): PREV keeps the mode before it. -/
def Chip.setMode (c : Chip) (m : Mode) (cause : Nat) : Chip :=
  let c := (c.set F.KPR_MODE_STATUS_PREV (modeCode c.mode)).set F.KPR_MODE_STATUS_MODE (modeCode m)
  { (c.set F.KPR_MODE_STATUS_CAUSE cause) with mode := m }

/-- A change of the mode changes' own state, the supply's, the thermal block's and the Keeper's. -/
def Chip.modesUp (c : Chip) (f : Modes → Modes) : Chip := { c with modes := f c.modes }
/-- A transition is wanted at the next frame boundary; it does not take the place of a wanted Off (R72, R90). -/
def Chip.want (c : Chip) (t : Transition) : Chip :=
  if (c.modes.wanted.map (·.target)) = some .off then c else c.modesUp (fun m => { m with wanted := some t })
def Chip.pwrUp (c : Chip) (f : Pwr → Pwr) : Chip := { c with pwr := f c.pwr }
def Chip.thmUp (c : Chip) (f : Thm → Thm) : Chip := { c with thm := f c.thm }
def Chip.kprUp (c : Chip) (f : Kpr → Kpr) : Chip := { c with kpr := f c.kpr }

/-- A MODE_RESULT (R76 Table 4b). -/
def Chip.modeResult (c : Chip) (r : ModeRequest) (result : Nat) : Chip :=
  c.keeperReply r.ep (leBytes 1 0xA1 ++ leBytes 1 result ++ leBytes 1 (c.get F.KPR_MODE_STATUS_TIMING)
    ++ leBytes 1 (modeCode c.mode) ++ leBytes 4 r.tag)

/-- Every MODE_SET that waits or acts is answered PREEMPTED. -/
def Chip.preemptModes (c : Chip) : Chip :=
  let answer := fun (c : Chip) (r : Option ModeRequest) => match r with
    | some r => c.modeResult r 5
    | none => c
  let move := c.tlk.move.map (fun w => (⟨w.ep, w.target, w.timing, w.holdVar, w.tag⟩ : ModeRequest))
  let c := answer (answer (answer c c.modes.acting) c.modes.pending) move
  (c.modesUp (fun m => { m with acting := none, pending := none })).tlkUp (fun t => { t with move := none })

/-! ### Power of blocks and regions (R68, R520) -/

/-- Blocks of a region. -/
def blocksOfRegion : Nat → List Nat
  | 0 => [1, 2, 3, 4]
  | 1 => [5, 6, 7, 8]
  | 2 => [9, 10, 11, 12, 13]
  | _ => [14, 15, 16, 17, 18, 19, 20]

/-- Rails of a region (R520 Table 1). -/
def railsOfRegion : Nat → List Nat
  | 0 => [2, 3, 4, 5]
  | 1 => [6, 7]
  | 2 => [8, 9, 10, 11]
  | _ => [0, 1]

/-- REGION_STATE follows the blocks. -/
def Chip.regionState (c : Chip) : Chip :=
  foldOver (List.range 4) (fun (r : Nat) (c : Chip) =>
    let on := (blocksOfRegion r).any c.blockOn
    let c := c.set ⟨K.PWR_REGION_STATE, r, 1, 4⟩ (b2n on)
    if on then c
    else foldOver (railsOfRegion r) (fun (i : Nat) (c : Chip) => c.set ⟨K.PWR_REGION_STATE, 16 + i, 1, 4⟩ 0) c) c

/-- Ageing accumulators in mC (R326). -/
def Chip.ageing (c : Chip) : List Nat :=
  (List.range 96).map (fun ch => storeGet (fun _ => 0) c.sec.charge ch / 1000000000)

/-- The Panel region keeps what a record will need (R535). -/
def Chip.savePanel (c : Chip) : Chip :=
  if c.blockOn 12 || c.blockOn 13 then
    let c := c.litCut (fun _ => true)
    let old := c.pwr.saved.getD ([], ([], false))
    let ages := if c.blockOn 12 then c.ageing else old.1
    let part := if c.blockOn 13 then c.aplRecord else old.2
    c.pwrUp (fun p => { p with saved := some (ages, part) })
  else c

/-- A non-owner or an owner whose light and rails are off lowers PAIR_OWN_O (R430). -/
def Chip.ownLower (c : Chip) : Chip :=
  if c.paired && c.tlk.lowering && c.apl.rails = 0 && (c.apl.runs.isEmpty || !c.apl.drive) then
    (c.set F.TLK_PAIR_STATUS_OWN 0).tlkUp (fun t => { t with lowering := false, outputs := false })
  else c

/-- Ownership ends as soon as the outputs are off. -/
def Chip.ownEnd (c : Chip) : Chip :=
  if c.paired && c.is F.TLK_PAIR_STATUS_OWN then (c.tlkUp (fun t => { t with lowering := true })).ownLower else c

/-- What a block holds beyond its registers is gone. -/
def Chip.blockClear (c : Chip) (b : Nat) : Chip :=
  match b with
  | 1 => { c with hlk := { wire := c.hlk.wire, nextJob := c.hlk.nextJob }, ring := {} }
  | 2 => { c with cdc := {} }
  | 3 => c.dramPowerDown
  | 4 =>
    let c := if c.isTender then foldOver (c.tlk.members.map (·.id)) (fun (i : Nat) (c : Chip) => c.epReset (4 + i)) c
      else if c.get F.TLK_JOIN_STATUS_STATE = 2 then c.epReset 3 else c
    let c := if c.portUp portP then c.epReset 4 else c
    c.tlkUp (fun t => { wire := t.wire, outputs := t.outputs, lowering := t.lowering })
  | 5 => { c with ray := {}, kpr := { c.kpr with rayLevel := 0 } }
  | 6 => { c with lens := {} }
  | 7 => { c with fst := {} }
  | 8 => { c with blt := {} }
  | 9 => { c with scan := {} }
  | 10 => { c with pcn := {} }
  | 11 => { c with lanes := {} }
  | 12 => { c with sec := {} }
  | 13 => c.aplPowerUp
  | 15 => { c with mbx := {} }
  | 16 => { c with chk := [] }
  | 17 => { c with tim := {}, clock := {} }
  | 18 => { c with cal := { stored := c.cal.stored } }
  | 19 => { c with thm := {} }
  | _ => c

/-- Blocks lose power: their pages are unmapped and what they hold is gone. NODE_CFG keeps the straps, and PAIR_STATUS the
state of the pair's two nets, which the interlock holds. -/
def Chip.blocksDown (c : Chip) (l : List Nat) : Chip :=
  let gone := l.filter c.blockOn
  let c := if gone.contains 12 || gone.contains 13 then c.savePanel else c
  let c := foldOver gone (fun (b : Nat) (c : Chip) => c.blockClear b) c
  let node := c.w K.TLK_NODE_CFG
  let pair := c.w K.TLK_PAIR_STATUS &&& 3
  let c := c.resetPages (fun p => gone.contains (blockOf p))
  let c := (c.setw K.TLK_NODE_CFG node).setw K.TLK_PAIR_STATUS pair
  let c := { c with blocksOn := c.blocksOn.filter (fun b => !gone.contains b) }
  c.regionState.ownLower

/-- A region is unpowered. -/
def Chip.regionDown (c : Chip) (r : Nat) : Chip := c.blocksDown (blocksOfRegion r)

/-- Ageing restored to the accumulators (R537). -/
def Chip.restoreAgeing (c : Chip) : Chip :=
  let ages := match c.pwr.saved, c.pwr.last with
    | some s, _ => s.1
    | none, some r => r.ageing
    | none, none => []
  { c with sec := { c.sec with charge := (List.range 96).foldl (fun l ch =>
      storePut (fun _ => 0) l ch (ages.getD ch 0 * 1000000000)) [] } }

/-- A block leaves reset; `mask` are the DRAM channels that train. -/
def Chip.blockUp (c : Chip) (b mask : Nat) : Chip :=
  if c.blockOn b then c
  else
    let c := { c with blocksOn := c.blocksOn ++ [b] }
    match b with
    | 3 => c.dramPowerUp mask
    | 7 =>
      let c := { c with pcn := { c.pcn with bypassNext := true } }
      ((c.fillMem (.zero sramBase sramEnd)).set F.FST_FBUF_STATUS_CLEARED 1).statusBit P.FST 3 true
    | 12 => c.restoreAgeing
    | 13 => c.aplPowerUp
    | _ => c

/-- REGION_POWER_UP: a region's rails rise and its blocks leave reset; after the clear of the field store the tile contexts
are initialised (R202). -/
def Chip.regionUp (c : Chip) (r mask : Nat) : Chip :=
  if !c.blockOn 14 then c
  else
    let fresh := !c.blockOn 7 && r = 1
    let c := foldOver (blocksOfRegion r) (fun (b : Nat) (c : Chip) => c.blockUp b mask) c
    let c := foldOver (railsOfRegion r) (fun (i : Nat) (c : Chip) => c.set ⟨K.PWR_REGION_STATE, 16 + i, 1, 4⟩ 1) c
    (c.when fresh Chip.contextInit).regionState

/-! ### The hold-up capacitor (R524 to R528) -/

/-- CAP_STATUS.STATE set; a change raises CAP_STATE. -/
def Chip.capState (c : Chip) (s : Nat) : Chip :=
  if c.get F.PWR_CAP_STATUS_STATE = s then c else (c.set F.PWR_CAP_STATUS_STATE s).irq P.PWR 7

/-- The charger may run. -/
def Chip.mayCharge (c : Chip) : Bool :=
  c.get F.PWR_CAP_STATUS_STATE = 2 && c.is F.PWR_CAP_CTRL_CHARGE_EN && c.is F.THM_GATES_CHARGE_OK && c.mode ≠ .mooring

/-- CHARGING follows: it charges towards 36.0 V where it may. -/
def Chip.charging (c : Chip) : Chip :=
  c.setB F.PWR_CAP_STATUS_CHARGING (c.mayCharge && (c.get F.PWR_CAP_V_MV < 35500
    || (c.is F.PWR_CAP_STATUS_CHARGING && c.get F.PWR_CAP_V_MV < 36000)))

/-- The reserve in 10⁻⁹ mJ, from µF and mV (R527). -/
def reserveOf (uf mv : Nat) : Nat := 425 * uf * (mv * mv - 144000000) / 1000

/-- RESERVE and RESERVE_OK computed. -/
def Chip.reserveCompute (c : Chip) : Chip :=
  let e := reserveOf (c.get F.PWR_CAP_C_UF) (c.get F.PWR_CAP_V_MV)
  let st := c.get F.PWR_CAP_STATUS_STATE
  let ok := st = 2 && 900 * 1000000000 ≤ e
  let c := c.set F.PWR_RESERVE_MJ (min 65535 ((e + 500000000) / 1000000000))
  if c.is F.PWR_CAP_STATUS_RESERVE_OK = ok then c else (c.setB F.PWR_CAP_STATUS_RESERVE_OK ok).irq P.PWR 8

/-- In Off the capacitor is bled to `mv`, never upwards; the bleed ends below 5 V (R528; DESIGN CHOICE, log 96). -/
def Chip.bledTo (c : Chip) (mv : Nat) : Chip :=
  if c.mode ≠ .off || !c.pwr.bleed then c
  else
    let v := min mv (c.get F.PWR_CAP_V_MV)
    (c.set F.PWR_CAP_V_MV v).pwrUp (fun p => { p with bleed := decide (5000 ≤ v) })
/-- `ms` of bleeding at 50 mA, from the capacitance last measured. -/
def Chip.bleedFor (c : Chip) (ms : Nat) : Chip :=
  if c.pwr.uf = 0 then c else c.bledTo (max 4999 (c.get F.PWR_CAP_V_MV - 50000 * ms / c.pwr.uf))
/-- RESERVE_COMPUTE with the capacitor's voltage; in Off it is what the bleed has left. -/
def Chip.reserveSample (c : Chip) (mv : Nat) : Chip :=
  if c.mode = .off then c.bledTo mv
  else if !c.blockOn 20 then c else ((c.set F.PWR_CAP_V_MV (min 65535 mv)).charging).reserveCompute

/-- A measurement begins, at step 3 or by MEASURE, while the charging gate is open. -/
def Chip.measureStart (c : Chip) : Chip :=
  if c.is F.THM_GATES_CHARGE_OK then (c.capState 1).set F.PWR_CAP_STATUS_CHARGING 0 |>.reserveCompute
  else (c.set F.PWR_CAP_CTRL_MEASURE 0).count P.PWR 3

/-- A capacitance classified (R525). -/
def Chip.capClassify (c : Chip) (uf : Nat) : Chip :=
  let c := c.set F.PWR_CAP_C_UF (min 65535 uf)
  let c := if uf < 500 then c.capState 3
    else if 4030 < uf then (c.capState 4).event P.PWR .cont (.own 0x12) 12
    else c.capState 2
  c.charging.reserveCompute

/-- CAP_MEASURE ends: 2.000 mC moved the voltage by `dmv` to `mv`. -/
def Chip.capMeasure (c : Chip) (dmv mv : Nat) : Chip :=
  if c.get F.PWR_CAP_STATUS_STATE ≠ 1 then c
  else
    let c := (c.set F.PWR_CAP_CTRL_MEASURE 0).set F.PWR_CAP_V_MV (min 65535 mv)
    c.capClassify (if dmv = 0 then 65535 else 2000000 / dmv)

/-- CAP_TOPUP: below 35.5 V the capacitor is charged to 36.0 V; the charge delivered, in µC, and the rise measure it again. -/
def Chip.capTopup (c : Chip) (mv uc : Nat) : Chip :=
  if !c.mayCharge || 35500 ≤ mv then c
  else
    let c := (c.count P.PWR 2).set F.PWR_CAP_V_MV 36000
    c.capClassify (uc * 1000 / (36000 - mv))

/-- CAP_OVERVOLT: the capacitor reached 38.0 V. -/
def Chip.capOvervolt (c : Chip) (mv : Nat) : Chip :=
  if mv < 38000 || !c.blockOn 20 then c
  else
    let c := ((c.set F.PWR_CAP_V_MV (min 65535 mv)).capState 5).event P.PWR .cont (.own 0x11) 12
    c.charging.reserveCompute

/-- CAP_CTRL written: CHARGE_EN, and MEASURE. -/
def Chip.capCtrl (c : Chip) (data : Nat) : Chip :=
  let c := c.setB F.PWR_CAP_CTRL_CHARGE_EN (bit data 0)
  let c := if bit data 1 then (c.set F.PWR_CAP_CTRL_MEASURE 1).measureStart else c
  c.charging

/-- A VIN reading in mV. -/
def Chip.vinReading (c : Chip) (mv : Nat) : Chip :=
  let c := if mv < 6000 then c.modesUp (fun m => { m with vinValid := false }) else c
  let c := c.set F.PWR_VIN_MV (min 65535 mv)
  if mv < c.get F.PWR_VIN_MIN_MV then c.set F.PWR_VIN_MIN_MV mv else c

/-! ### Records (R534 to R537) -/

/-- Every page the role maps, in the order of R67 Table 8. -/
def Chip.pages (c : Chip) : List Nat :=
  (List.range 20).flatMap (fun i =>
    let b := i + 1
    ((instancesOf b).filter (fun n => b ≠ 15 || n = 0 || c.epMapped (n - 1))).map (mkPage b))

/-- What a record says of the trigger, or of an orderly stop. -/
def Chip.recordStart (c : Chip) (kind : Nat) : Record :=
  { kind := kind, reserveOk := c.is F.PWR_CAP_STATUS_RESERVE_OK, seq := (c.get F.PWR_RECORD_SEQ_SEQ + 1) % 2 ^ 32
    uid := c.kpr.otp.uid, sec := c.clock.sec, ns := c.clock.ns, field := c.tick.field, frame := c.tick.frame
    mode := modeCode c.mode, timing := c.get F.KPR_MODE_STATUS_TIMING, level := c.get F.KPR_ADAPT_STATUS_LEVEL
    want := c.get F.KPR_ADAPT_STATUS_WANT, rails := c.get F.PWR_RAIL_FAULT_MAP, vin := c.get F.PWR_VIN_MV
    capV := c.get F.PWR_CAP_V_MV / 10, reserve := c.get F.PWR_RESERVE_MJ
    keeper := [(c.w K.KPR_ADAPT_STATUS).toNat, (c.w K.KPR_THROTTLE).toNat, (c.w K.KPR_BRIGHT_STATUS).toNat] }

/-- The record's other parts, as they are when it is written. -/
def Chip.recordFill (c : Chip) (r : Record) (energy : Nat) : Record :=
  let saved := c.pwr.saved.getD ([], ([], false))
  let ages := if c.blockOn 12 then c.ageing else saved.1
  let part := if c.blockOn 13 then c.aplRecord else saved.2
  let log := c.log.entries ++ c.log.waiting
  { r with
    energy := energy, ageing := ages, entries := part.1, overflow := part.2
    counters := (List.range 20).flatMap (fun b => (List.range 47).map (fun i => (c.w (mkPage (b + 1) 0 + 0x44 + 4 * i)).toNat))
    errCounts := c.pages.map (fun p => (c.w (p + 0x2C)).toNat)
    tail := log.drop (log.length - 32) }

/-- A record written to the ready slot, or not, under the save gate: THM's, or as THM last gave it. -/
def Chip.writeRecord (c : Chip) (r : Record) (energy : Nat) : Chip :=
  let save := ((c.pwr.mooring.bind (·.save)).getD (c.is F.THM_GATES_SAVE_OK))
  if !c.is F.PWR_RECORD_STATUS_READY || !save then c.count P.PWR 5
  else
    let slot := c.get F.PWR_RECORD_STATUS_NEXT
    let r := c.recordFill r energy
    let c := c.pwrUp (fun p => { p with slots := p.slots.filter (fun e => e.1 ≠ slot) ++ [(slot, r)] })
    let c := (c.set F.PWR_RECORD_SEQ_SEQ r.seq).count P.PWR 4
    (c.set F.PWR_RECORD_STATUS_READY 0).set F.PWR_RECORD_STATUS_NEXT ((slot + 1) % 8)

/-- An error-log entry's 32 bytes (R536). -/
def LogEntry.bytes (e : LogEntry) : List Byte :=
  leBytes 4 e.field ++ leBytes 4 e.sec ++ leBytes 4 e.ns ++ leBytes 1 e.block ++ leBytes 1 e.inst ++ leBytes 1 e.entry
    ++ leBytes 1 e.code ++ leBytes 4 e.info.toNat ++ leBytes 4 e.addrLo.toNat ++ leBytes 4 e.addrHi.toNat ++ [0, 0, 0, 0]

/-- A record's bytes up to CHECK (R535 Table 8). -/
def Record.body (r : Record) : List Byte :=
  let a := leBytes 4 0x524F4D48 ++ leBytes 2 1 ++ leBytes 1 r.kind ++ leBytes 1 (b2n r.layerCut + 2 * b2n r.reserveOk)
    ++ leBytes 4 r.seq ++ leBytes 8 r.uid ++ leBytes 6 r.sec ++ leBytes 4 r.ns ++ leBytes 4 r.field ++ leBytes 4 r.frame
    ++ leBytes 1 r.mode ++ leBytes 1 r.timing ++ leBytes 1 r.level ++ leBytes 1 r.want ++ leBytes 2 r.rails ++ leBytes 2 r.vin
    ++ leBytes 2 r.capV ++ leBytes 2 r.reserve ++ leBytes 2 r.energy ++ r.keeper.flatMap (leBytes 4)
  let b := padBytes 128 a ++ padBytes 768 (r.ageing.flatMap (leBytes 8))
  let d := b ++ padBytes 512 (r.entries.flatMap AplEntry.bytes) ++ leBytes 1 (b2n r.overflow) ++ leBytes 1 r.entries.length
  let f := padBytes 1536 d ++ padBytes 3760 (r.counters.flatMap (leBytes 4)) ++ padBytes 476 (r.errCounts.flatMap (leBytes 4))
  padBytes 16376 (padBytes 6144 f ++ r.tail.flatMap LogEntry.bytes)

/-- A record's 16 384 bytes. -/
def Record.bytes (r : Record) : List Byte := r.body ++ leBytes 8 (crc64 r.body)

/-- The record with the highest SEQ (R537). -/
def Chip.newestRecord (c : Chip) : Option (Nat × Record) :=
  c.pwr.slots.foldl (fun a e => match a with
    | some b => if 0 < signedDiff 32 e.2.seq b.2.seq then some e else a
    | none => some e) none

/-- Start-up step 3 takes the newest record (R537). -/
def Chip.takeRecord (c : Chip) : Chip :=
  match c.newestRecord with
  | some (slot, r) =>
    let c := c.pwrUp (fun p => { p with last := some r })
    let c := (c.set F.PWR_LAST_RECORD_KIND r.kind).set F.PWR_LAST_RECORD_VALID 1
    let c := (c.setB F.PWR_LAST_RECORD_LAYER_CUT r.layerCut).set F.PWR_LAST_RECORD_ENERGY r.energy
    (c.set F.PWR_RECORD_SEQ_SEQ r.seq).set F.PWR_RECORD_STATUS_NEXT ((slot + 1) % 8)
  | none => c.pwrUp (fun p => { p with last := none })

/-- RECORD_SLOT_ERASE. -/
def Chip.slotErase (c : Chip) : Chip :=
  if !c.blockOn 20 || c.get F.KPR_BOOT_STATUS_STEP < 3 || c.is F.PWR_RECORD_STATUS_READY || !c.is F.THM_GATES_FLASH_OK
    || c.mode = .mooring then c
  else
    let slot := c.get F.PWR_RECORD_STATUS_NEXT
    let c := c.pwrUp (fun p => { p with slots := p.slots.filter (fun e => e.1 ≠ slot) })
    (c.set F.PWR_RECORD_STATUS_READY 1).irq P.PWR 9

/-! ### Mooring (R529 to R533) -/

/-- KIND of a trigger. -/
def MooringKind.code : MooringKind → Nat
  | .supply => 2
  | .rail => 3
  | .thermal => 4
  | .test => 5

/-- A reply of the Keeper to a request (R465): op, result, detail, tag and further bytes. -/
def Chip.opReply (c : Chip) (q : KeeperReq) (result detail : Nat) (more : List Byte) : Chip :=
  let c := (c.set F.KPR_OBJ_STATUS_LAST_RESULT result).set F.KPR_OBJ_STATUS_LAST_OP q.op
  c.keeperReply q.ep (leBytes 1 (q.op ||| 0x80) ++ leBytes 1 result ++ leBytes 2 detail ++ leBytes 4 q.tag ++ more)

/-- A request answered PREEMPTED enters the error log (R567). -/
def Chip.preemptLog (c : Chip) (q : KeeperReq) : Chip :=
  c.logAppend { field := c.tick.field, sec := c.clock.sec % 2 ^ 32, ns := c.clock.ns, block := 14, inst := 0,
                entry := 1, code := q.op, info := 0, addrLo := BitVec.ofNat 32 q.tag, addrHi := 0 }
/-- Requests at a Mooring trigger (R466): the one in progress is answered by the record's error-log tail, waiting ones
PREEMPTED at once. -/
def Chip.preemptRequests (c : Chip) : Chip :=
  let c := match c.kpr.busy with
    | some (q, _) => c.preemptLog q
    | none => c
  let c := foldOver c.kpr.waiting (fun (q : KeeperReq) (c : Chip) => (c.preemptLog q).opReply q 5 0 []) c
  -- A user write of the calibration set cut short leaves no valid set (R515).
  let c := match c.kpr.busy with
    | some (_, .cal _) => c.calUp (fun k => { k with stored := none })
    | _ => c
  c.kprUp (fun k => { k with busy := none, waiting := [], challenge := none })

/-- Debug locks again (R475; which resets do so: DEDUCED, log 102). -/
def Chip.debugLock (c : Chip) : Chip := (c.set F.KPR_SEC_STATUS_SCOPES 0).kprUp (fun k => { k with debugEnd := 0 })

/-- A Mooring trigger. In Off and during Mooring it is ignored; in Boot before step 2 has ended no record will follow. -/
def Chip.mooringTrigger (c : Chip) (kind : MooringKind) : Chip :=
  if c.mode = .off || c.mode = .mooring then c
  else
    let early := c.mode = .boot && c.get F.KPR_BOOT_STATUS_STEP < 2
    let c := c.when (c.blockOn 12) Chip.secMooring
    let run : MooringRun := ⟨c.recordStart kind.code, !early, none⟩
    let c := c.count P.PWR 0
    let c := ((c.preemptModes).preemptRequests).debugLock
    let c := c.calAbandon.when (c.blockOn 13) Chip.aplHalt
    let c := c.setMode .mooring 0xA
    let c := (c.set F.KPR_MODE_STATUS_CHANGING 0).set F.PWR_CAP_STATUS_CHARGING 0
    let c := c.set F.KPR_MODE_STATUS_HOLD_VAR 0
    let c := c.modesUp (fun m => { m with
      dark := none, shutdown := none, next := none, due := false, wanted := none, rephase := false, stopBoot := false })
    (c.pwrUp (fun p => { p with mooring := some run })).ownEnd

/-- VIN calls for Mooring: below 5.6 V ±2 %, or below 9.0 V and fallen by 0.5 V or more in 250 µs (R529; the upper end
of the tolerance: DEDUCED, log 106). -/
def supplyFails (mv : Nat) (slope : Int) : Bool := decide (mv < 5712) || (decide (mv < 9000) && decide (slope ≤ -2000))
/-- MOORING_TRIGGER of the supply kind, with VIN and its slope in mV/ms; another VIN is only read. -/
def Chip.supplyTrigger (c : Chip) (mv : Nat) (slope : Int) : Chip :=
  if !c.blockOn 20 then c
  else
    let c := (c.vinReading mv).setZ F.PWR_VIN_SLOPE slope
    if supplyFails mv slope then c.mooringTrigger .supply else c

/-- MOORING_TEST written. -/
def Chip.mooringTest (c : Chip) (data : Nat) : Chip := if bit data 0 then c.mooringTrigger .test else c

/-- MOORING_BLANK at t + 200 µs: the modulator is blanked, and the Ray and Scene regions power down; of the Keeper region, PWR
and KPR stay (R68 Table 1; that the others go with Ray and Scene, and that the save gate stands as THM last gave it, is a
DESIGN CHOICE, log 92). -/
def Chip.mooringBlank (c : Chip) : Chip :=
  if c.mode ≠ .mooring then c
  else
    let c := if c.blockOn 11 && c.blockOn 9 then
        let c := c.statusBit P.SCN 4 true
        let fs := command 0x51 (c.tick.sector % 8 + c.tick.field % 256 * 2 ^ 8 + c.modeId * 2 ^ 16 + 2 ^ 24)
        let end_ := c.act F.SER0_OE_OE_END
        c.sendCommands true [fs, command 0x53 (end_ + end_ * 2 ^ 16)]
      else c
    let gate := c.is F.THM_GATES_SAVE_OK
    let c := c.pwrUp (fun p => { p with mooring := p.mooring.map (fun r => { r with save := some (r.save.getD gate) }) })
    ((c.regionDown 1).regionDown 0).blocksDown [15, 16, 17, 18, 19]

/-- MOORING_LANES_IDLE at t + 300 µs: the Panel region powers down but for APL and its lanes, and no raster runs. -/
def Chip.mooringLanesIdle (c : Chip) : Chip :=
  if c.mode ≠ .mooring then c
  else
    let c := c.set F.KPR_MODE_STATUS_TIMING 0
    let lanes := c.lanes
    let port := (List.range 4096).filterMap (fun o => if o % 4 = 0 then some (mkPage 11 3 + o, c.w (mkPage 11 3 + o)) else none)
    if c.blockOn 13 && c.blockOn 11 then
      -- SER[3] stays with APL.
      let c := c.blocksDown [9, 10, 11, 12]
      let c := { c with blocksOn := c.blocksOn ++ [11], lanes := { drivers := lanes.drivers } }
      foldOver port (fun (e : Nat × Word) (c : Chip) => c.setw e.1 e.2) c
    else c.blocksDown [9, 10, 11, 12]

/-- The layer step is over: its rails discharge and its power goes. -/
def Chip.layerOff (c : Chip) : Chip := ((c.when (c.blockOn 13) Chip.railsDown).blocksDown [11, 13]).ownLower

/-- MOORING_LAYER_STEP_END. -/
def Chip.layerStepEnd (c : Chip) : Chip :=
  if c.mode ≠ .mooring then c else (c.when (c.blockOn 13) Chip.aplCut).layerOff

/-- LAYER_CUT: the capacitor at 16 V ends the step. -/
def Chip.layerCut (c : Chip) (mv : Nat) : Chip :=
  if c.mode ≠ .mooring || !c.blockOn 13 || 16000 < mv then c
  else
    let c := (c.set F.PWR_CAP_V_MV mv).count P.PWR 6
    let c := c.pwrUp (fun p => { p with mooring := p.mooring.map (fun r => { r with record := { r.record with layerCut := true } }) })
    c.layerStepEnd

/-- MOORING_RECORD, with the energy used in mJ. -/
def Chip.mooringRecord (c : Chip) (energy : Nat) : Chip :=
  match c.mode, c.pwr.mooring with
  | .mooring, some r =>
    let c := if r.write then c.writeRecord r.record energy else c
    c.pwrUp (fun p => { p with mooring := some { r with write := false } })
  | _, _ => c

/-- The Keeper region loses power: the module is Off, and what is not in flash, OTP or the capacitor is gone. -/
def Chip.powerOff (c : Chip) (holdoff : Bool) : Chip :=
  let node := c.w K.TLK_NODE_CFG
  let cap := c.get F.PWR_CAP_V_MV
  let fresh := c.fresh
  let out := c.out
  let n : Chip := {}
  { n with
    variant := c.variant, mode := .off, blocksOn := [], log := { c.log with waiting := [] }, fresh := fresh, out := .fill (.zero 0 sramEnd) :: out
    apl := { nextNum := c.apl.nextNum }
    modes := { n.modes with vinValid := c.modes.vinValid, pwrEn := c.modes.pwrEn }
    cal := { stored := c.cal.stored }
    pwr := { slots := c.pwr.slots, bleed := decide (5000 ≤ cap), uf := c.get F.PWR_CAP_C_UF, holdoff := holdoff }
    kpr := { otp := c.kpr.otp, images := c.kpr.images, profile := c.kpr.profile, override := c.kpr.override }
    regs := ((n.setw K.TLK_NODE_CFG node).set F.PWR_CAP_V_MV cap).regs }

/-- MOORING_END. -/
def Chip.mooringEnd (c : Chip) : Chip := if c.mode ≠ .mooring then c else c.powerOff true

/-- RAIL_FAULT (R521). -/
def Chip.railFault (c : Chip) (cell mv : Nat) : Chip :=
  let r := (List.range 4).find? (fun r => (railsOfRegion r).contains cell)
  match r with
  | none => c
  | some r =>
    -- A rail of a region that is being powered faults as well: it fails to reach its window.
    if !c.blockOn 20 || c.mode = .mooring && !(blocksOfRegion r).any c.blockOn then c
    else
      let c := (c.set ⟨K.PWR_RAIL + 4 * cell, 0, 16, 4⟩ (min 65535 mv)).set ⟨K.PWR_REGION_STATE, 16 + cell, 1, 4⟩ 0
      let c := ((c.set F.PWR_RAIL_FAULT_MAP (withBit (c.get F.PWR_RAIL_FAULT_MAP) cell true)).irq P.PWR 6).count P.PWR 1
      if cell = 6 || cell = 7 then c.event P.PWR .fatal (.own 0x10) cell else c.mooringTrigger .rail

/-! ### Heat (R538 to R544) -/

/-- A sensor marked broken, and its state. -/
def Chip.sensorBroken (c : Chip) (k : Nat) : Bool := c.get (F.THM_SENSOR_STATE.ix k) ≠ 0

/-- Sensors of a zone. -/
def zoneSensors (z : Nat) : List Nat := (List.range 40).filter (fun k => zoneOfSensor k = z)

/-- The region a zone throttles (Table 9a). -/
def zoneRegion (z : Nat) : Option Nat :=
  if z = 0 || z = 4 || z = 5 then some 1 else if z = 1 then some 0 else if z = 2 then some 2 else none

/-- HW_STEP of a region, and the Keeper's THROTTLE. -/
def hwStep (r : Nat) : Fld := ⟨K.THM_HW_STEP, 3 * r, 3, 4⟩
def throttle (r : Nat) : Fld := ⟨K.KPR_THROTTLE, 3 * r, 3, 4⟩

/-- An immediate trigger of R456; the last of several in one interval stands. -/
def Chip.adaptTrigger (c : Chip) (cause : Nat) : Chip := c.kprUp (fun k => { k with trigger := some cause })

/-- THM takes a region to a step of throttling: a trigger for the Keeper (R542). -/
def Chip.thmStep (c : Chip) (r step : Nat) : Chip :=
  let now := max (c.get (hwStep r)) (c.get (throttle r))
  if step ≤ now then c
  else (((c.set (hwStep r) step).count P.THM 4 (step - now)).adaptTrigger 6).kprUp (fun k => { k with taken := k.taken ++ List.replicate (step - now) r })

/-- Throttle step in force in a region. -/
def Chip.throttleNow (c : Chip) (r : Nat) : Nat := max (c.get (hwStep r)) (c.get (throttle r))

/-- A sensor judged at a sample: its temperature in 1/8 °C, its count, and the mean of its zone's other valid sensors. -/
def Chip.judgeSensor (c : Chip) (temps : List Int) (counts : List Nat) (k : Nat) : Chip :=
  let t := temps.getD k 0
  let n := counts.getD k 0
  let was := storeGet (fun _ => ({} : SensorJudge)) c.thm.judge k
  let others := (zoneSensors (zoneOfSensor k)).filter (fun i => i ≠ k && !c.sensorBroken i)
  let sum := others.foldl (fun (a : Int) i => a + temps.getD i 0) 0
  let far := !others.isEmpty && decide (200 * others.length < (t * others.length - sum).natAbs)
  let now : SensorJudge := ⟨n, if was.same ≠ 0 && was.count = n then was.same + 1 else 1, if far then was.far + 1 else 0⟩
  let c := c.thmUp (fun x => { x with judge := storePut (fun _ => {}) x.judge k now })
  if c.sensorBroken k then c.set (F.THM_SENSOR_TEMP.ix k) 1200
  else
    let st := if t < -440 || 1400 < t then 1 else if 64 ≤ now.same then 2 else if 8 ≤ now.far then 3 else 0
    if st = 0 then c.setZ (F.THM_SENSOR_TEMP.ix k) t
    else
      let c := (c.set (F.THM_SENSOR_TEMP.ix k) 1200).set (F.THM_SENSOR_STATE.ix k) st
      let c := if k < 32 then c.set F.THM_BROKEN_LO_MAP (withBit (c.get F.THM_BROKEN_LO_MAP) k true)
        else c.set F.THM_BROKEN_HI_MAP (withBit (c.get F.THM_BROKEN_HI_MAP) (k - 32) true)
      ((c.count P.THM 5).irq P.THM 6).event P.THM .cont (.own 0x10) k

/-- A sensor's reading in 1/8 °C. -/
def Chip.sensorTemp (c : Chip) (k : Nat) : Int := signed 16 (c.get (F.THM_SENSOR_TEMP.ix k))

/-- The highest of some readings. -/
def maxTemp (l : List Int) : Int := match l with
  | [] => 1200
  | a :: t => t.foldl max a
def minTemp (l : List Int) : Int := match l with
  | [] => 1200
  | a :: t => t.foldl min a

/-- Readings of the valid sensors of a list. -/
def Chip.validTemps (c : Chip) (l : List Nat) : List Int := (l.filter (fun k => !c.sensorBroken k)).map c.sensorTemp

/-- The temperature of a zone over its valid sensors; 150 °C where it has none. -/
def Chip.zoneValid (c : Chip) (z : Nat) : Int := maxTemp (c.validTemps (zoneSensors z))

/-- Entries that waited for the flash-write gate are written. -/
def Chip.flushLog (c : Chip) : Chip :=
  let w := c.log.waiting
  foldOver w (fun (e : LogEntry) (c : Chip) => c.logAppend e) { c with log := { c.log with waiting := [] } }

/-- The gates of R544 opened and closed by the readings as they stand. -/
def Chip.gates (c : Chip) : Chip :=
  let edge := max (c.sensorTemp 38) (c.sensorTemp 39)
  let was := c.is F.THM_GATES_CHARGE_OK
  let charge := if was then decide (-80 ≤ edge) && decide (edge ≤ 560) else decide (-56 ≤ edge) && decide (edge ≤ 536)
  let all := (List.range 40).map c.sensorTemp
  let valid := c.validTemps (List.range 40)
  let flash := decide (maxTemp all ≤ 840) && decide (-320 ≤ minTemp all)
  let save := decide (maxTemp valid ≤ 920) && decide (-320 ≤ minTemp valid)
  let old := c.w K.THM_GATES
  let c := (c.setB F.THM_GATES_CHARGE_OK charge).setB F.THM_GATES_LAYER_OK c.aplTempOk
  let c := (c.setB F.THM_GATES_FLASH_OK flash).setB F.THM_GATES_SAVE_OK save
  let c := if c.w K.THM_GATES = old then c else c.irq P.THM 9
  let c := (c.setZ F.PWR_EDGE_TEMP_TEMP edge).setB F.PWR_EDGE_TEMP_BROKEN (c.sensorBroken 38 || c.sensorBroken 39)
  let c := (c.setB F.PWR_CAP_STATUS_TEMP_HOLD !charge).charging
  if flash && !c.log.waiting.isEmpty then c.flushLog else c

/-- Fast sampling is asked for by the readings (R539). -/
def Chip.wantsFast (c : Chip) : Bool :=
  let near := fun (t b : Int) => decide ((t - b).natAbs ≤ 80)
  let all := (List.range 40).map c.sensorTemp
  let edge := max (c.sensorTemp 38) (c.sensorTemp 39)
  let valid := c.validTemps (List.range 40)
  let p := c.panelTemp
  decide (720 ≤ maxTemp all) || near edge (-80) || near edge 560 || (p.2 && (near p.1 0 || near p.1 400))
    || [maxTemp all, minTemp all].any (fun t => near t 840 || near t (-320))
    || [maxTemp valid, minTemp valid].any (fun t => near t 920 || near t (-320))

/-- The zones at a sample: temperature, rise, warnings, actions and the 100 °C limit. -/
def Chip.zoneSample (c : Chip) (prev : Option (List Int)) (z : Nat) : Chip :=
  let temp := maxTemp ((zoneSensors z).map c.sensorTemp)
  let valid := c.zoneValid z
  let rise : Int := match prev with
    | some l => if (c.validTemps (zoneSensors z)).isEmpty then 0 else valid - l.getD z valid
    | none => 0
  let c := (c.setZ (F.THM_ZONE_TEMP.ix z) temp).setZ (F.THM_ZONE_RISE.ix z) rise
  let c := if (c.get (F.THM_RISE_LIMIT_WARN.ix z) : Int) ≤ rise then (c.irq P.THM 7).count P.THM 2 else c
  let c := if (c.get (F.THM_RISE_LIMIT_ACTION.ix z) : Int) ≤ rise then
      match zoneRegion z with
      | some r => (c.thmStep r 4).count P.THM 3
      | none => c.count P.THM 3
    else c
  let hot := decide (800 ≤ temp)
  let was := bit (c.get F.THM_LIMITS_AT_100) z
  let c := c.set F.THM_LIMITS_AT_100 (withBit (c.get F.THM_LIMITS_AT_100) z hot)
  if hot && !was then
    let c := c.irq P.THM 8
    match zoneRegion z with
    | some r => c.thmStep r (min 4 (c.throttleNow r + 1))
    | none => c
  else c

/-- THERMAL_SAMPLE with the temperatures, in 1/8 °C, and counts of the 40 sensors. -/
def Chip.thermalSample (c : Chip) (temps : List Int) (counts : List Nat) : Chip :=
  if !c.blockOn 19 then c
  else
    let fast := c.is F.THM_SAMPLE_FAST
    let c := (c.count P.THM 0).when fast (fun c => c.count P.THM 1)
    -- BROKEN_RETRY has every sensor judged afresh.
    let c := if c.is F.THM_BROKEN_RETRY_RETRY then
        let c := foldOver (List.range 40) (fun (k : Nat) (c : Chip) => c.set (F.THM_SENSOR_STATE.ix k) 0) c
        let c := (c.set F.THM_BROKEN_LO_MAP 0).set F.THM_BROKEN_HI_MAP 0
        (c.set F.THM_BROKEN_RETRY_RETRY 0).thmUp (fun x => { x with judge := [] })
      else c
    let c := foldOver (List.range 40) (fun (k : Nat) (c : Chip) => c.judgeSensor temps counts k) c
    let hist := c.thm.hist
    let prev := if fast then (match hist[9]? with
      | some l => some l
      | none => hist.getLast?) else hist.head?
    -- The trip comes first, then the 105 °C limit, then the zones.
    let zones := (List.range 6).map c.zoneValid
    let c := if zones.any (fun t => decide (920 ≤ t)) then c.mooringTrigger .thermal else c
    let now := (List.range 6).foldl (fun n z => if (840 : Int) ≤ zones.getD z 0 then n + 2 ^ z else n) 0
    let was := c.get F.THM_LIMITS_AT_105
    let c := c.set F.THM_LIMITS_AT_105 now
    let hottest := (List.range 40).foldl (fun h k => if c.sensorTemp h < c.sensorTemp k then k else h) 0
    let validHot := ((List.range 40).filter (fun k => !c.sensorBroken k)).foldl (fun (h : Option Nat) k => match h with
      | some i => if c.sensorTemp i < c.sensorTemp k then some k else h
      | none => some k) none
    let c := if (List.range 6).any (fun z => bit now z && !bit was z) then
        c.event P.THM .fatal (.own 0x11) (validHot.getD hottest) else c
    let c := foldOver (List.range 6) (fun (z : Nat) (c : Chip) => c.zoneSample prev z) c
    let c := (c.set F.THM_HOTTEST_SENSOR hottest).setZ F.THM_HOTTEST_TEMP (c.sensorTemp hottest)
    let want := c.wantsFast
    let calm := if want then 0 else c.thm.calm + 1
    let next := if fast then calm < 100 else want
    let c := c.thmUp (fun x => { x with calm := if next && fast then calm else 0, hist := zones :: (if fast then hist.take 9 else List.replicate 9 (hist.headD zones)) })
    (c.setB F.THM_SAMPLE_FAST next).gates

/-- THERMAL_STEP_REPEAT: 10 ms on, a zone is still at or above 100 °C. -/
def Chip.thermalRepeat (c : Chip) (z : Nat) : Chip :=
  if !bit (c.get F.THM_LIMITS_AT_100) z || 6 ≤ z then c
  else match zoneRegion z with
    | some r => c.thmStep r (min 4 (c.throttleNow r + 1))
    | none => c

/-- PANEL_TEMP_SAMPLE: one conversion in 1/8 °C. -/
def Chip.panelSample (c : Chip) (t : Int) : Chip :=
  if !c.blockOn 20 then c
  else
    let l := (t :: c.pwr.panel).take 8
    let c := c.pwrUp (fun p => { p with panel := l })
    let ok := l.length = 8 && l.all (fun x => decide (-320 ≤ x) && decide (x ≤ 1000))
    let mean := (l.foldl (· + ·) 0 + 4) / 8
    let c := (if ok then c.setZ F.PWR_PANEL_TEMP_TEMP mean else c).setB F.PWR_PANEL_TEMP_VALID ok
    c.gates

/-! ### The reference clock (R563) -/

/-- REFCLK_LOST: every lane loses lock, the time base holds, and the event is FATAL. -/
def Chip.refclkLost (c : Chip) : Chip :=
  if c.tim.lost || c.mode = .off then c
  else
    let c := c.timUp (fun t => { t with lost := true })
    let c := if c.blockOn 1 then (c.set F.HLK_LANE_STATUS_RX_LOCK 0).when (c.linkState = 4) Chip.linkRecover else c
    let c := foldOver (List.range 8) (fun (l : Nat) (c : Chip) => if (c.link l).up then c.tileRetrain l else c) c
    let c := if c.blockOn 11 then
        foldOver [(1, 0), (1, 1), (2, 0), (2, 1), (3, 0)] (fun (e : Nat × Nat) (c : Chip) => c.returnLost e.1 e.2) c
      else c
    c.event P.TIM .fatal (.own 0x11)

/-- REFCLK_RETURN: the clock has been stable for 10 ms. -/
def Chip.refclkReturn (c : Chip) : Chip :=
  if !c.tim.lost then c else (c.timUp (fun t => { t with lost := false })).syncState 1

end Sys2Proof.Machine
end

