-- ==== Sys2Proof/Machine/Policy.lean ====
section
/-!
DEFINITION. Machine/Policy.lean: the policy table (R464) and what the Keeper does by it at every commit: the adaptation
ladder, power shares and throttling, brightness and luminance (chapter 20).
-/

namespace Sys2Proof.Machine

/-! ### The policy table (R464) -/

/-- The number in `n` bytes of the policy table in force. -/
def Chip.pol (c : Chip) (at_ n : Nat) : Nat := leNat (slice c.kpr.policy at_ n)

def Chip.polMin (c : Chip) : Nat := c.pol 0 1 % 8
def Chip.polMax (c : Chip) : Nat := c.pol 1 1 % 8
def Chip.polLate (c : Chip) : Nat := c.pol 3 1
def Chip.polCap (c : Chip) : Nat := c.pol 8 2
def Chip.polPre (c : Chip) : Nat := c.pol 10 1
def Chip.polTarget (c : Chip) : Nat := c.pol 11 1
def Chip.polTiming (c : Chip) : Nat := c.pol 12 1
def Chip.polFlat (c : Chip) : Nat := c.pol 13 1
def Chip.polBright (c : Chip) : Nat := c.pol 14 2
def Chip.polLed (c : Chip) : Nat := c.pol 16 4
def Chip.polTrim (c : Chip) : Nat := c.pol 20 2
def Chip.polLumRate (c : Chip) : Nat := c.pol 22 2
def Chip.polLum (c : Chip) : Bool := c.pol 24 1 % 2 = 1
def Chip.polZone (c : Chip) : Bool := c.pol 24 1 / 2 % 2 = 1
def Chip.polGain (c : Chip) : Nat := c.pol 25 1

/-- A timing mode that the variant accepts in a request (R2). -/
def acceptsTiming (c8 : Bool) (t : Nat) : Bool := (isLightfieldTiming t || isFlatTiming t) && !(c8 && is16K t)

/-- The first byte of a policy table that breaks Table 3. -/
def policyFault (c8 : Bool) (t : List Byte) : Option Nat :=
  let n := fun (a k : Nat) => leNat (slice t a k)
  let heads : List (Bool × Nat) :=
    [ (t.length = 64, 0), (n 0 1 ≤ n 1 1, 0), (n 1 1 ≤ 7, 1), (n 3 1 ≠ 0, 3)
    , (2000 ≤ n 8 2 && n 8 2 ≤ 8500, 8), (80 ≤ n 10 1 && n 10 1 ≤ 99, 10), (n 11 1 = 4 || n 11 1 = 5, 11)
    , (acceptsTiming c8 (n 12 1) && (n 11 1 ≠ 5 || isLightfieldTiming (n 12 1)), 12)
    , (isFlatTiming (n 13 1) && decide (is16K (n 13 1) = is16K (n 12 1)), 13)
    , (n 14 2 ≠ 0, 14), (n 16 4 ≠ 0 && n 16 4 ≤ 4000000, 16), (4096 ≤ n 20 2, 20), (n 22 2 ≠ 0, 22), (n 24 1 < 4, 24)
    , (64 ≤ n 25 1, 25), (n 29 1 = 0, 29), (n 30 1 = 0 || 6 ≤ n 30 1, 30) ]
  let checks := heads ++ (List.range 33).map (fun i => (decide (n (31 + i) 1 = 0), 31 + i))
  (checks.find? (fun e => !e.1)).map (·.2)

/-! ### Who runs, and the wall's values -/

/-- Keeper firmware runs. -/
def Chip.firmware (c : Chip) : Bool :=
  c.blockOn 14 && 2 ≤ c.get F.KPR_BOOT_STATUS_STEP && !c.modes.bootRom && !c.kpr.restarting && c.mode ≠ .mooring

/-- A wall worker: not the Tender, and not one that was refused and stands alone (R415). -/
def Chip.wallWorker (c : Chip) : Bool := !c.isTender && c.get F.TLK_JOIN_STATUS_STATE ≠ 3

/-- The barrier whose values are in force, on a wall member. -/
def Chip.wallForce (c : Chip) : Option Barrier :=
  if c.isTender then if c.tlk.members.isEmpty then none else c.tlk.force
  else if c.get F.TLK_JOIN_STATUS_STATE = 2 then c.tlk.force else none

/-! ### The adaptation ladder (R454 to R458) -/

/-- A level is applicable under the policy and the timing mode (R457). -/
def Chip.levelFits (c : Chip) (l : Nat) : Bool :=
  l = 0 || (bit (c.pol 2 1) l && (l ≠ 5 || (4 ≤ c.modeId && c.modeId ≤ 6)))

/-- WANT set: the counts restart. -/
def Chip.wantSet (c : Chip) (l cause : Nat) : Chip :=
  let c := ((c.set F.KPR_ADAPT_STATUS_WANT l).set F.KPR_ADAPT_STATUS_CAUSE cause).set F.KPR_ADAPT_STATUS_LOW 0
  (c.set F.KPR_ADAPT_STATUS_HIGH 0).setB F.KPR_ADAPT_STATUS_AT_MAX (l = c.polMax)

/-- A level clamped to the policy's bounds. -/
def Chip.levelClamp (c : Chip) (l : Nat) : Nat := max c.polMin (min c.polMax l)

/-- A move of WANT up: to the next applicable level, clamped; at LEVEL_MAX it is counted. -/
def Chip.wantUp (c : Chip) (cause : Nat) : Chip :=
  let now := c.get F.KPR_ADAPT_STATUS_WANT
  if c.polMax ≤ now then c.count P.KPR 2
  else
    let to_ := c.levelClamp (((List.range 8).find? (fun l => now < l && c.levelFits l)).getD now)
    if to_ = now then c else (c.wantSet to_ cause).count P.KPR 0

/-- A move of WANT down. -/
def Chip.wantDown (c : Chip) : Chip :=
  let now := c.get F.KPR_ADAPT_STATUS_WANT
  let to_ := c.levelClamp ((((List.range 8).filter (fun l => l < now && c.levelFits l)).getLast?).getD now)
  if to_ = now then c else (c.wantSet to_ 7).count P.KPR 1

/-- WANT is brought within LEVEL_MIN to LEVEL_MAX, the lowest and the highest applied level of the policy in force (R464). -/
def Chip.wantHeld (c : Chip) : Chip :=
  let now := c.get F.KPR_ADAPT_STATUS_WANT
  let to_ := c.levelClamp now
  if to_ = now then c
  else (c.wantSet to_ (if now < to_ then c.get F.KPR_ADAPT_STATUS_CAUSE else 7)).count P.KPR (if now < to_ then 0 else 1)
/-- A level that a commit makes inapplicable is left: to the next above within LEVEL_MAX, else to the next below (R457). -/
def Chip.wantFit (c : Chip) : Chip :=
  let now := c.get F.KPR_ADAPT_STATUS_WANT
  if !c.kpr.fit || c.levelFits now then c
  else match (List.range 8).find? (fun l => now < l && l ≤ c.polMax && c.levelFits l) with
    | some l => (c.wantSet l (c.get F.KPR_ADAPT_STATUS_CAUSE)).count P.KPR 0
    | none => match ((List.range 8).filter (fun l => l < now && c.levelFits l)).getLast? with
      | some l => (c.wantSet l 7).count P.KPR 1
      | none => c

/-- The RAY settings of a level staged (R179 Table 4); each level keeps those of the levels below it. -/
def Chip.stageLevel (c : Chip) (l : Nat) : Chip :=
  if !c.blockOn 5 then c
  else
    let c := (c.stage F.RAY_SYN_CTRL_ET_THRESH (if 1 ≤ l then 4014 else 4080)).stage F.RAY_SYN_CTRL_SPARSE_SKIP (b2n (2 ≤ l))
    let c := c.stage F.RAY_SYN_CTRL_NEAREST_EN (b2n (3 ≤ l))
    let c := c.stage F.RAY_NEAREST_Z_Z (if 3 ≤ l then c.pol 4 4 else 0x7FFFFFFF)
    let c := c.stage F.RAY_SYN_CTRL_HALF_V (b2n (4 ≤ l))
    let c := c.stage F.RAY_SYN_CTRL_FOLD (b2n (5 ≤ l && 4 ≤ c.modeId && c.modeId ≤ 6))
    (c.stage F.RAY_SYN_CTRL_ZERO_DIR (b2n (l = 7))).kprUp (fun k => { k with rayLevel := l })

/-- The applied level: reaching L7 takes Lightfield to Flat, and leaving it takes Flat back (R74). -/
def Chip.levelNow (c : Chip) (l : Nat) (wall : Bool) : Chip :=
  let c := c.setB F.KPR_ADAPT_STATUS_WALL wall
  if c.get F.KPR_ADAPT_STATUS_LEVEL = l then c
  else
    let c := (c.set F.KPR_ADAPT_STATUS_LEVEL l).irq P.KPR 6
    if l = 7 && c.mode = .lightfield then
      c.want { target := .flat, timing := c.modeId, cause := 3 }
    else if l ≠ 7 && c.mode = .flat && c.get F.KPR_MODE_STATUS_CAUSE = 3 then
      c.want { target := .lightfield, timing := c.modeId, cause := 3 }
    else c

/-- One evaluation of Table 2: at most one rule applies. `frame` at the commit where F of the frame is final. -/
def Chip.ladderMove (c : Chip) (frame : Bool) : Chip :=
  let want := c.get F.KPR_ADAPT_STATUS_WANT
  let fr := fun (c : Chip) =>
    if !frame then c
    else if 6 ≤ want && c.kpr.late && c.kpr.lateBefore then c.wantUp 2
    else if want < 6 && 2 ≤ c.get F.KPR_ADAPT_STATUS_HIGH then c.wantUp 1
    else if 60 ≤ c.get F.KPR_ADAPT_STATUS_LOW then c.wantDown
    else c
  match c.kpr.trigger with
  | some cause => (c.kprUp (fun k => { k with trigger := none })).wantUp cause
  | none => fr c

/-- Use and lateness of the ended interval enter the frame; at its last sector F is final (R454, R455). -/
def Chip.frameUse (c : Chip) (frame : Bool) : Chip :=
  let last := fun (b : Nat) => c.get ⟨mkPage b 0 + 0x30, 0, 11, 4⟩
  let use := max c.kpr.use (max (max (last 5) (last 6)) (max (last 2) (last 14)))
  let late := c.kpr.late || decide (c.polLate * c.tileCount < 1000 * c.get F.RAY_LATE_LAST_TILES)
  let c := c.kprUp (fun k => { k with use := use, late := late })
  if !frame then c
  else
    let c := (c.set F.KPR_ADAPT_USE_LAST use).set F.KPR_ADAPT_USE_MAX (max use (c.get F.KPR_ADAPT_USE_MAX))
    let c := c.set F.KPR_ADAPT_STATUS_HIGH (if 943 ≤ use then min 3 (c.get F.KPR_ADAPT_STATUS_HIGH + 1) else 0)
    c.set F.KPR_ADAPT_STATUS_LOW (if use < 768 then min 255 (c.get F.KPR_ADAPT_STATUS_LOW + 1) else 0)

/-- The ladder evaluated at a commit, and the frame's figures put away; with the Ray region off no frame is synthesised, and
only the immediate triggers move WANT. A level's settings are staged when they are not the ones staged last. -/
def Chip.ladder_ (c : Chip) (frame : Bool) : Chip :=
  let on := c.blockOn 5
  let frame := frame && on
  let c := c.wantHeld.wantFit
  let c := ((if on then c.frameUse frame else c).ladderMove frame)
  let c := c.kprUp (fun k => { k with fit := c.levelFits (c.get F.KPR_ADAPT_STATUS_WANT) })
  let c := c.setB F.KPR_ADAPT_STATUS_AT_MAX (c.get F.KPR_ADAPT_STATUS_WANT = c.polMax)
  let c := if frame then c.kprUp (fun k => { k with use := 0, lateBefore := k.late, late := false }) else c
  let want := c.get F.KPR_ADAPT_STATUS_WANT
  match c.wallForce with
  | some b => c.levelNow b.level true
  | none =>
    let c := if want ≠ c.kpr.rayLevel then c.stageLevel want else c
    c.levelNow want false

/-! ### Power and throttling (R459, R460) -/

/-- The Keeper takes a region one throttle step down: a trigger for the ladder. -/
def Chip.stepDown (c : Chip) (r : Nat) : Chip :=
  let c := ((c.set (throttle r) (c.throttleNow r + 1)).count P.KPR 3).irq P.KPR 7
  (c.adaptTrigger 6).kprUp (fun k => { k with taken := k.taken ++ [r] })

/-- One step released, last taken first. -/
def Chip.stepUp (c : Chip) : Chip :=
  match c.kpr.taken.getLast? with
  | some r =>
    let to_ := c.throttleNow r - 1
    let c := ((c.set (throttle r) (min to_ (c.get (throttle r)))).set (hwStep r) (min to_ (c.get (hwStep r)))).irq P.KPR 7
    c.kprUp (fun k => { k with taken := k.taken.dropLast })
  | none => c

/-- Some sensor at or above a temperature in °C. -/
def Chip.sensorAt (c : Chip) (deg : Int) : Bool := (List.range 40).any (fun k => decide (8 * deg ≤ c.sensorTemp k))

/-- The power of the four regions in 10 mW: P, triggers for shares exceeded, and the next shares. -/
def Chip.powerShares (c : Chip) (mw : List Nat) : Chip :=
  let meas := fun (r : Nat) => min 65535 (mw.getD r 0)
  let p := meas 0 + meas 1 + meas 2 + meas 3
  let share := fun (r : Nat) => c.get (F.KPR_REGION_POWER_SHARE.ix r)
  let granted := share 3 ≠ 0
  let above := granted && (List.range 4).any (fun r => decide (share r < meas r))
  let c := (c.set F.KPR_POWER_STATUS_MODULE (min 65535 p)).set F.KPR_POWER_STATUS_CAP c.polCap
  let c := foldOver (List.range 4) (fun (r : Nat) (c : Chip) =>
    let s := if r = 1 then c.polCap - (meas 0 + meas 2 + meas 3) - 200 else meas r + 100
    (c.set (F.KPR_REGION_POWER_MEAS.ix r) (meas r)).set (F.KPR_REGION_POWER_SHARE.ix r) (min 65535 s)) c
  if above then c.adaptTrigger 3 else c

/-- Throttling at a frame evaluation. -/
def Chip.throttling (c : Chip) : Chip :=
  let p := c.get F.KPR_POWER_STATUS_MODULE
  let hot := c.sensorAt c.polPre
  let c := if (c.get F.KPR_ADAPT_STATUS_WANT = c.polMax && c.polCap < p) || hot then
      if c.throttleNow 1 < 4 then c.stepDown 1
      else if c.throttleNow 0 < 4 then c.stepDown 0
      else if c.throttleNow 2 < 4 then c.stepDown 2
      else c
    else c
  let cool := 10 * p < 9 * c.polCap && !c.sensorAt ((c.polPre : Int) - 3)
  let n := if cool then c.kpr.calm + 1 else 0
  let c := c.kprUp (fun k => { k with calm := n })
  if 60 ≤ n then c.stepUp else c

/-! ### Brightness and luminance (R461 to R463) -/

/-- The level asked for, along its ramp. -/
def Chip.rampLevel (c : Chip) : Nat :=
  let k := c.kpr
  if k.rampLen ≤ k.rampDone then k.bright
  else ((k.rampFrom : Int) + ((k.bright : Int) - k.rampFrom) * k.rampDone / k.rampLen).toNat

/-- The module's own BRIGHT_MAX: the level at which the LED power, `ledMw` at the level in force, would equal
LED_POWER_MAX, within the policy's. -/
def Chip.ownBright (c : Chip) (ledMw : Nat) : Nat :=
  let now := c.act F.SEC_BRIGHT_LEVEL
  if ledMw = 0 then c.polBright else min c.polBright (now * c.polLed / ledMw)

/-- BRIGHT staged while the switching stages run. -/
def Chip.stageBright (c : Chip) : Chip :=
  if !c.blockOn 12 || !c.on F.SEC_LIGHT_CTRL_SWITCH_EN then c
  else
    let own := min c.rampLevel (min c.polBright c.kpr.brightMax)
    let l := match c.wallForce with
      | some b => min own b.cap
      | none => own
    (c.stage F.SEC_BRIGHT_LEVEL l).set F.KPR_BRIGHT_STATUS_APPLIED l

/-- TRIM of a channel. -/
def trimFld (ch : Nat) : Fld := ⟨K.SEC_TRIM + 4 * (ch / 2), 16 * (ch % 2), 16, 4⟩

/-- The sector of a channel, 0 where it has none. -/
def Chip.sectorOf (c : Chip) (ch : Nat) : Nat := c.act (F.LNS_CHAN_SECTOR_SECTOR.ix (ch / 8)) / 16 ^ (ch % 8) % 16

/-- A sector's watched bit follows the zones that its last synthesis met. -/
def Chip.watch (c : Chip) : Chip :=
  if !c.blockOn 6 then c
  else
    let en := c.act F.LNS_ZONE_CTRL_EN
    let s := c.get F.LNS_ZONE_TILES_SECTOR
    let met := (List.range 8).any (fun z => bit en z && c.get (F.LNS_ZONE_TILES_TILES.ix z) ≠ 0)
    let c := c.set F.KPR_LUM_STATUS_WATCHED (withBit (c.get F.KPR_LUM_STATUS_WATCHED) s met)
    (c.setB F.KPR_LUM_STATUS_LUM_ACTIVE c.polLum).setB F.KPR_LUM_STATUS_ZONE_ACTIVE c.polZone

/-- The emphasis factor E (R463). -/
def Chip.emphasis (c : Chip) (ch : Nat) : Nat :=
  let w := c.get F.KPR_LUM_STATUS_WATCHED
  if !c.polZone || w = 0 || bit w (c.sectorOf ch) then 4096 else 16 * c.polGain

/-- The ageing curve at an age in mC, unsigned 0.12. -/
def ageEff (d age : Nat) : Nat :=
  let st := max 1 (Config.profileAgeStep d)
  let i := age / st
  if 16 ≤ i then Config.profileAge d 16
  else
    let a := (Config.profileAge d i : Int)
    let b := (Config.profileAge d (i + 1) : Int)
    (a + (b - a) * (age % st) / st).toNat

/-- The TRIM that R462 gives a channel. -/
def Chip.trimWant (c : Chip) (d ch : Nat) : Nat :=
  let raw := (Config.profileTrim d ch * c.get F.KPR_LUM_STATUS_G * c.emphasis ch + 2048) / 4096 * 4096
  min c.polTrim (raw / max 1 (ageEff d (c.ageing.getD ch 0)))

/-- LUMINANCE_UPDATE with the photo readings and each channel's current in mA: G moves toward the mean ratio, by a step the
spec does not size, and the trims are computed. -/
def Chip.luminance (c : Chip) (readings currents : List Nat) : Chip :=
  match c.kpr.active with
  | some o =>
    if !c.firmware || !c.polLum || !c.blockOn 12 then c
    else
      let d := o.digest
      let en := c.act F.SEC_PHOTO_CTRL_EN
      let ratios := ((List.range 4).filter (bit en)).filterMap (fun k =>
        let sum := (Config.profilePhotoChannels d k).foldl (fun a ch => a + currents.getD ch 0) 0
        let ref := Config.profilePhoto d k * sum
        if ref = 0 then none else some (readings.getD k 0 * 4096 * 4096 / ref))
      let g := c.get F.KPR_LUM_STATUS_G
      let c := if ratios.isEmpty then c
        else
          let mean := ratios.foldl (· + ·) 0 / ratios.length
          let gap := if mean < g then g - mean else mean - g
          let move := c.freeNat % (gap + 1)
          let to_ := if mean < g then g - move else g + move
          c.drew.set F.KPR_LUM_STATUS_G (max 2048 (min 8192 to_))
      c.kprUp (fun k => { k with trims := (List.range 96).map (fun ch => (ch, c.trimWant d ch)) })
  | none => c

/-- TRIM staged for a plan that starts sector 0: towards what was computed, by at most LUM_RATE / 65 536 of the last. -/
def Chip.stageTrims (c : Chip) : Chip :=
  if !c.polLum || !c.blockOn 12 || !c.on F.SEC_LIGHT_CTRL_SWITCH_EN then c
  else foldOver c.kpr.trims (fun (e : Nat × Nat) (c : Chip) =>
    let now := c.act (trimFld e.1)
    let most := now * c.polLumRate / 65536
    let to_ := if now + most < e.2 then now + most else if e.2 + most < now then now - most else e.2
    if to_ = now then c else c.stage (trimFld e.1) to_) c

/-! ### The commit (R453) -/

/-- What Keeper firmware does after a commit, with the power of the regions in 10 mW and the LED power in mW. `next0`: the
open plan commits at a tick that starts sector 0. `frame`: F of a frame is final. -/
def Chip.keeperCommit (c : Chip) (mw : List Nat) (ledMw : Nat) (frame next0 : Bool) : Chip :=
  if !c.firmware || c.kpr.policy.isEmpty then c
  else
    let hot := c.sensorAt c.polPre
    let c := if hot && !c.kpr.hot then c.adaptTrigger 4 else c
    let c := (c.kprUp (fun k => { k with hot := hot, brightMax := c.ownBright ledMw })).powerShares mw
    let c := c.watch.ladder_ frame
    let c := if frame then c.throttling else c
    let c := (c.kprUp (fun k => { k with rampDone := min k.rampLen (k.rampDone + 1) })).stageBright
    if next0 then c.stageTrims else c

/-- A barrier taken at plan lock: its level and cap join the plan as if staged before it (R418, R420, R421). -/
def Chip.wallStage (c : Chip) (b : Barrier) : Chip :=
  if !c.firmware || c.kpr.policy.isEmpty then c
  else
    let c := if b.level ≠ c.kpr.rayLevel then c.stageLevel b.level else c
    if !c.blockOn 12 || !c.on F.SEC_LIGHT_CTRL_SWITCH_EN || c.get F.SEC_BRIGHT_LEVEL ≤ b.cap then c
    else (c.stage F.SEC_BRIGHT_LEVEL b.cap).set F.KPR_BRIGHT_STATUS_APPLIED b.cap

end Sys2Proof.Machine
end

