-- ==== Sys2Proof/Machine/Keeper.lean ====
section
/-!
DEFINITION. Machine/Keeper.lean: requests to the Keeper (R465 to R476, R514): signed objects, keys, attestation, the debug
lock, firmware images, calibration ops, and the Keeper's restart.
-/

namespace Sys2Proof.Machine

/-- The bytes of a request (Table 4). -/
def requestBytes (q : KeeperReq) : List Byte :=
  leBytes 1 q.op ++ leBytes 1 q.flags ++ leBytes 2 q.bytes2 ++ leBytes 4 q.tag ++ leBytes 5 q.addr ++ leBytes 3 q.bytes13
    ++ leBytes 4 q.len ++ padBytes 44 q.data

/-! ### Replies -/

/-- STORE, KEY and ROLLBACK ops, CAL_COMMIT and CAL_STORE among them. -/
def storeOp (op : Nat) : Bool := [0x30, 0x31, 0x34, 0x35, 0x36, 0x37, 0x3D, 0x3E].contains op

/-- A request answered: refusals count, and a reply to a STORE, KEY or ROLLBACK op raises OBJECT (R478). -/
def Chip.answer (c : Chip) (q : KeeperReq) (result : Nat) (detail : Nat := 0) (more : List Byte := []) : Chip :=
  let c := if result = 0 || result = 5 then c else c.count P.KPR 5
  let c := if storeOp q.op && q.op < 0x38 then c.irq P.KPR 8 else c
  c.opReply q result detail more

/-! ### Digests -/

/-- The running image. -/
def Chip.runningImage (c : Chip) : FwImage := c.kpr.images.getD (c.get F.KPR_BOOT_STATUS_IMAGE) {}

/-- The digests that attestation and DIGEST_SEL report: firmware, calibration, stored profile, policy override in force. -/
def Chip.digestOf (c : Chip) (which : Nat) : Nat :=
  match which with
  | 0 => c.runningImage.digest
  | 1 => match c.cal.stored with
    | some s => Config.sha384 s.bytes
    | none => 0
  | 2 => match c.kpr.profile with
    | some o => o.digest
    | none => 0
  | _ => match c.kpr.override with
    | some o => o.digest
    | none => 0

/-- DIGEST_DATA as read: word 12 and above read 0. -/
def Chip.digestWord (c : Chip) : Nat :=
  let w := c.get F.KPR_DIGEST_SEL_WORD
  if 12 ≤ w then 0 else c.digestOf (c.get F.KPR_DIGEST_SEL_WHICH) / 2 ^ (32 * w) % 2 ^ 32

/-- DEBUG_LEFT as read. -/
def Chip.debugLeft (c : Chip) : Nat := min 65535 (c.kpr.debugEnd - c.clock.sec)

/-! ### Signed objects (R468, R469) -/

/-- The number in `n` bytes of an object. -/
def ob (b : List Byte) (at_ n : Nat) : Nat := leNat (slice b at_ n)

/-- The first byte at which an object of a kind breaks Table 8. -/
def objectFault (b : List Byte) (kind : Nat) : Option Nat :=
  let size := b.length
  let n := ob b 168 4
  let heads : List (Bool × Nat) :=
    [ (268 ≤ size, 12), (ob b 0 1 = 0x48, 0), (ob b 1 1 = 0x4C, 1), (ob b 2 1 = 0x50, 2), (ob b 3 1 = 0x4F, 3)
    , (ob b 4 1 = kind, 4), (ob b 5 1 ≤ 1 || (ob b 5 1 = 0xFF && kind = 5), 5), (ob b 6 2 = 1, 6), (ob b 12 4 = size, 12)
    , (kind ≤ 2 || ob b 16 48 = 0, 16), (ob b 161 7 = 0, 161), (172 + 12 * n + 96 ≤ size, 168) ]
  let entry := fun (i : Nat) =>
    let off := ob b (176 + 12 * i) 4
    let len := ob b (180 + 12 * i) 4
    ((172 + 12 * n ≤ off && off + len + 96 ≤ size : Bool), 172 + 12 * i)
  match heads.find? (fun e => !e.1) with
  | some e => some e.2
  | none => (((List.range n).map entry).find? (fun e => !e.1)).map (·.2)

/-- The body of an object's first section. -/
def objectBody (b : List Byte) : List Byte := if ob b 168 4 = 0 then [] else slice b (ob b 176 4) (ob b 180 4)

/-- The digest, the signing key and the signature of an object. -/
def objectDigest (b : List Byte) : Nat := Config.sha384 (b.take (b.length - 96))
def objectKey (b : List Byte) : List Byte := slice b 64 97
def objectSigned (b : List Byte) : Bool := Config.signatureOk (objectKey b) (objectDigest b) (b.drop (b.length - 96))

/-- The digest that a key slot holds. -/
def Chip.slotKey (c : Chip) (slot : Nat) : Option Nat :=
  if slot = 0 then c.kpr.otp.slot0 else if slot = 1 then c.kpr.otp.slot1 else some Config.rootDigest

/-- A slot's revoke bit. -/
def Chip.slotRevoked (c : Chip) (slot : Nat) : Bool := slot ≤ 1 && bit c.kpr.otp.revoked slot

/-- Checks 2 to 4 of R469: the result of the first that fails. -/
def Chip.objectAuth (c : Chip) (b : List Byte) : Option Nat :=
  let slot := ob b 5 1
  if c.slotKey slot ≠ some (Config.sha384 (objectKey b)) then some 0x11
  else if c.slotRevoked slot then some 0x13
  else if !objectSigned b then some 0x12
  else none

/-- Check 6: VERSION below that of the stored object. -/
def staleVersion (old : Option StoredObj) (b : List Byte) : Bool :=
  match old with
  | some o => ob b 8 4 < o.version
  | none => false

/-- The object as it will be stored, in the slot that does not hold the stored one. -/
def storedOf (old : Option StoredObj) (b table : List Byte) : StoredObj :=
  { version := ob b 8 4, digest := objectDigest b, slot := ob b 5 1, bind := ob b 16 48, table := table
    place := match old with
      | some o => 1 - o.place
      | none => 0 }

/-! ### The profile and its policy -/

/-- The digest of the panel EEPROM's identity block. -/
def Chip.panelDigest (c : Chip) : Nat := Config.sha384 c.kpr.identity

/-- A stored object is good when it is verified again at start-up: its slot's key is not revoked (R473). -/
def Chip.stillGood (c : Chip) (o : StoredObj) : Bool := (c.slotKey o.slot).isSome && !c.slotRevoked o.slot

/-- The override in force beside a profile. -/
def Chip.overrideFor (c : Chip) (p : StoredObj) : Option StoredObj :=
  match c.kpr.override with
  | some o => if c.stillGood o && (o.bind = 0 || o.bind = p.digest) then some o else none
  | none => none

/-- A register written by Keeper firmware: staged bits join the open plan. -/
def Chip.keeperWrite (c : Chip) (e : Nat × Nat) : Chip :=
  let c' := c.setw e.1 (BitVec.ofNat 32 e.2)
  match findReg e.1 with
  | some d => if d.stg ≠ 0 then { c' with regs := { c'.regs with dirty := putLast c'.regs.dirty e.1 } } else c'
  | none => c

/-- The policy in force: an override's table, or the profile's own (R464). -/
def Chip.policyLoad (c : Chip) (p : StoredObj) (ovr : Option StoredObj) : Chip :=
  let table := match ovr with
    | some o => o.table
    | none => padBytes 64 (Config.profilePolicy p.digest)
  let c := c.kprUp (fun k => { k with active := some p, policy := padBytes 64 table })
  let c := (c.keeperWrite (P.SEC + 0x40, c.pol 26 4)).set F.KPR_POWER_STATUS_CAP c.polCap
  let c := c.setB F.KPR_OBJ_STATUS_OVERRIDE ovr.isSome
  c.set F.KPR_POLICY_INFO_VERSION (match ovr with
    | some o => o.version
    | none => p.version)

/-- A profile's tables loaded into LNS, PCN, SEC, APL and DRAM, and its policy (start-up step 7). -/
def Chip.loadProfile (c : Chip) (p : StoredObj) : Chip :=
  let d := p.digest
  let c := foldOver ((Config.profileWrites d).filter (fun e => c.blockOn (blockOf e.1))) (fun (e : Nat × Nat) (c : Chip) => c.keeperWrite e) c
  let c := foldOver ((Config.profileMemory d).filter (fun e => c.memMapped e.1 e.2.length)) (fun (e : Nat × List Byte) (c : Chip) => c.stores e.1 e.2) c
  let c := { c with pcn := { c.pcn with
    table := (Config.profileTone d).foldl (fun t (e : Nat × Nat) => storePut pcnTableReset t e.1 (e.2 % pcnTableMask (e.1 / 8192))) c.pcn.table } }
  let c := c.aplUp (fun a => { a with table := (Config.profileWaves d).foldl (fun t (e : Nat × Nat) => storePut (fun _ => 0) t e.1 e.2) a.table })
  ((c.policyLoad p (c.overrideFor p)).set F.KPR_BOOT_STATUS_PROFILE_OK 1).set F.KPR_OBJ_STATUS_ACTIVE 1

/-- The active profile's lens values for the sector count of timing mode `id`, written by Keeper firmware into the open plan
(R186). -/
def Chip.lensStage (c : Chip) (id : Nat) : Chip :=
  match c.kpr.active, c.timingOf id with
  | some p, some t =>
    foldOver ((Config.profileLens p.digest t.sectors).filter (fun e => decide (blockOf e.1 = 6) && c.blockOn 6))
      (fun (e : Nat × Nat) (c : Chip) => c.keeperWrite e) c
  | _, _ => c

/-- STORED, KEY_SLOT and VERSION of the stored profile. -/
def Chip.profileStatus (c : Chip) : Chip :=
  match c.kpr.profile with
  | some o => ((c.set F.KPR_OBJ_STATUS_STORED 1).set F.KPR_OBJ_STATUS_KEY_SLOT (o.slot % 2)).set F.KPR_PROFILE_INFO_VERSION o.version
  | none => ((c.set F.KPR_OBJ_STATUS_STORED 0).set F.KPR_OBJ_STATUS_KEY_SLOT 0).set F.KPR_PROFILE_INFO_VERSION 0

/-- SET, REVOKED and ROLLBACK follow OTP. -/
def Chip.otpStatus (c : Chip) : Chip :=
  let o := c.kpr.otp
  let c := c.set F.KPR_SEC_STATUS_SET (b2n o.slot0.isSome + 2 * b2n o.slot1.isSome)
  (c.set F.KPR_SEC_STATUS_REVOKED o.revoked).set F.KPR_SEC_STATUS_ROLLBACK o.rollback

/-! ### The ops -/

/-- A request becomes the one in progress. -/
def Chip.hold_ (c : Chip) (q : KeeperReq) (w : FlashWrite) : Chip := c.kprUp (fun k => { k with busy := some (q, w) })

/-- The bytes of a request's buffer, which the Keeper reads as field-store master 0; where the read comes with PARITY it goes on
with them as read (R206, R213: the requester decides; DESIGN CHOICE, log 94). -/
def Chip.keeperLoads (m : Memory) (c : Chip) (q : KeeperReq) : List Byte × Chip :=
  (c.loads m q.addr q.len, (c.engineReads P.KPR 0 [(q.addr, q.len)] q.fault).2)

/-- An object read from its buffer and checked for layout; the op goes on with its bytes. -/
def Chip.withObject (m : Memory) (c : Chip) (q : KeeperReq) (kind most : Nat) (f : List Byte → Chip → Chip) : Chip :=
  if !c.memMapped q.addr q.len then c.answer q 0x17
  else if most < q.len then c.answer q 0x16
  else
    let r := c.keeperLoads m q
    match objectFault r.1 kind with
    | some off => r.2.answer q 0x10 (off % 65536)
    | none => f r.1 r.2

/-- PROFILE_STORE. -/
def Chip.opProfile (m : Memory) (c : Chip) (q : KeeperReq) : Chip :=
  c.withObject m q 1 54525952 (fun b c =>
    match Config.profileFault b with
    | some off => c.answer q 0x10 (off % 65536)
    | none => match c.objectAuth b with
      | some r => c.answer q r
      | none =>
        if ob b 16 48 ≠ c.panelDigest then c.answer q 0x15
        else if staleVersion c.kpr.profile b then c.answer q 0x14
        else c.hold_ q (.profile (storedOf c.kpr.profile b []) (bit q.flags 0)))

/-- POLICY_STORE. -/
def Chip.opPolicy (m : Memory) (c : Chip) (q : KeeperReq) : Chip :=
  if bit q.flags 1 then
    if q.len = 0 then c.hold_ q (.policy none (bit q.flags 0)) else c.answer q 6
  else c.withObject m q 2 262144 (fun b c =>
    let table := objectBody b
    match policyFault c.isC8 table with
    | some off => c.answer q 0x10 ((ob b 176 4 + off) % 65536)
    | none => match c.objectAuth b with
      | some r => c.answer q r
      | none =>
        let bind := ob b 16 48
        let fits := bind = 0 || (match c.kpr.profile with
          | some p => decide (p.digest = bind)
          | none => false)
        if !fits then c.answer q 0x15
        else if staleVersion c.kpr.override b then c.answer q 0x14
        else c.hold_ q (.policy (some (storedOf c.kpr.override b table)) (bit q.flags 0)))

/-- The attestation report (Table 9). -/
def Chip.report (c : Chip) (nonce : List Byte) : List Byte :=
  let flags := b2n (c.is F.KPR_SEC_STATUS_DEBUG_SEEN) + 2 * b2n (c.is F.KPR_OBJ_STATUS_ACTIVE)
    + 4 * b2n (c.is F.KPR_OBJ_STATUS_OVERRIDE)
  let variant := match c.variant with
    | .c16 => 1
    | .e16 => 2
    | .c8 => 3
  let a := leBytes 4 0x01544148 ++ leBytes 4 flags ++ leBytes 8 c.kpr.otp.uid ++ leBytes 1 0xB1 ++ leBytes 1 variant
    ++ leBytes 1 (modeCode c.mode) ++ leBytes 1 (c.get F.KPR_ADAPT_STATUS_LEVEL) ++ leBytes 4 (c.get F.KPR_FW_VERSION_VERSION)
    ++ leBytes 4 c.kpr.otp.rollback ++ leBytes 4 (c.get F.KPR_PROFILE_INFO_VERSION) ++ leBytes 4 (c.get F.KPR_POLICY_INFO_VERSION)
    ++ leBytes 4 c.tick.field ++ leBytes 6 c.clock.sec ++ leBytes 4 c.clock.ns
  let body := padBytes 64 a ++ padBytes 32 nonce ++ (List.range 4).flatMap (fun i => leBytes 48 (c.digestOf i))
  body ++ padBytes 96 (Config.attestSign (Config.sha384 body))

/-- Output written to the buffer, where it is memory and long enough. -/
def Chip.opWrite (c : Chip) (q : KeeperReq) (out more : List Byte) : Chip :=
  if !c.memMapped q.addr q.len then c.answer q 0x17
  else if q.len < out.length then c.answer q 0x1C
  else (c.stores q.addr out).answer q 0 0 more

/-- ATTEST. -/
def Chip.opAttest (c : Chip) (q : KeeperReq) : Chip :=
  let c' := c.opWrite q (c.report q.data) []
  if c.memMapped q.addr q.len && 384 ≤ q.len then c'.count P.KPR 6 else c'

/-- CERT_GET. -/
def Chip.opCert (c : Chip) (q : KeeperReq) : Chip := c.opWrite q Config.certificate (leBytes 2 Config.certificate.length)

/-- FW_STORE: the image area not running. -/
def Chip.opFirmware (m : Memory) (c : Chip) (q : KeeperReq) : Chip :=
  if !c.memMapped q.addr q.len then c.answer q 0x17
  else if 8388608 < q.len then c.answer q 0x16
  else
    let r := c.keeperLoads m q
    let b := r.1
    let c := r.2
    match Config.imageHeader b with
    | none => c.answer q 0x10
    | some h =>
      if !Config.imageSigned b then c.answer q 0x12
      else if h.2 < c.kpr.otp.rollback then c.answer q 0x14
      else c.hold_ q (.image (1 - c.get F.KPR_BOOT_STATUS_IMAGE) ⟨some h, true, Config.sha384 b, Config.sha384 b, []⟩)

/-- ROLLBACK_COMMIT (R472). -/
def Chip.opRollback (c : Chip) (q : KeeperReq) : Chip :=
  let target := leNat (slice q.data 0 8)
  let index := fun (i : FwImage) => i.header.map (·.2)
  let above := fun (o : Option Nat) => match o with
    | some n => decide (n < target)
    | none => false
  let other := c.kpr.images.getD (1 - c.get F.KPR_BOOT_STATUS_IMAGE) {}
  if 64 < target then c.answer q 6
  else if target ≤ c.kpr.otp.rollback then c.answer q 0
  else if above (index c.runningImage) then c.answer q 0x1A
  else if above (index other) && !bit q.flags 0 then c.answer q 0x1A
  else ((c.kprUp (fun k => { k with otp := { k.otp with rollback := target } })).otpStatus).answer q 0

/-- KEY_PROGRAM (R473). -/
def Chip.opKey (m : Memory) (c : Chip) (q : KeeperReq) : Chip :=
  c.withObject m q 3 262144 (fun b c =>
    let key := objectBody b
    let o := c.kpr.otp
    if key.length ≠ 97 then c.answer q 0x10 (ob b 180 4 % 65536)
    else match o.slot0, o.slot1 with
      | none, none =>
        if ob b 5 1 ≠ 0 || objectKey b ≠ key then c.answer q 0x11
        else if !objectSigned b then c.answer q 0x12
        else ((c.kprUp (fun k => { k with otp := { k.otp with slot0 := some (Config.sha384 key) } })).otpStatus).answer q 0 0
      | some _, none =>
        if ob b 5 1 ≠ 0 then c.answer q 0x11
        else match c.objectAuth b with
          | some r => c.answer q r
          | none => ((c.kprUp (fun k => { k with otp := { k.otp with slot1 := some (Config.sha384 key) } })).otpStatus).answer q 0 1
      | _, some _ => c.answer q 0x19)

/-- KEY_REVOKE (R473): the slot other than the signer's. -/
def Chip.opRevoke (m : Memory) (c : Chip) (q : KeeperReq) : Chip :=
  c.withObject m q 4 262144 (fun b c =>
    let signer := ob b 5 1
    let target := 1 - signer
    let usable := fun (s : Nat) => (c.slotKey s).isSome && !c.slotRevoked s
    if usable target && !usable signer then c.answer q 0x1A
    else match c.objectAuth b with
      | some r => c.answer q r
      | none => ((c.kprUp (fun k => { k with otp := { k.otp with revoked := withBit k.otp.revoked target true } })).otpStatus).answer q 0)

/-- DEBUG_CHALLENGE: the challenge is a fresh value that nothing constrains. -/
def Chip.opChallenge (c : Chip) (q : KeeperReq) : Chip :=
  let ch := leBytes 32 c.freeNat
  ((c.drew).kprUp (fun k => { k with challenge := some ch })).answer q 0 0 (ch ++ leBytes 8 c.kpr.otp.uid)

/-- DEBUG_RESPONSE (R475). -/
def Chip.opDebug (m : Memory) (c : Chip) (q : KeeperReq) : Chip :=
  c.withObject m q 5 262144 (fun b c =>
    let body := objectBody b
    let scopes := leNat (slice body 40 4)
    if body.length ≠ 48 || 8 ≤ scopes then c.answer q 0x10 (ob b 176 4 % 65536)
    else match c.objectAuth b with
      | some r => c.answer q r
      | none =>
        if c.kpr.challenge ≠ some (body.take 32) || leNat (slice body 32 8) ≠ c.kpr.otp.uid then c.answer q 0x1B
        else if bit scopes 2 && ob b 5 1 ≠ 0xFF then c.answer q 0x19
        else
          let c := (c.set F.KPR_SEC_STATUS_SCOPES scopes).set F.KPR_SEC_STATUS_DEBUG_SEEN 1
          let c := c.kprUp (fun k => { k with challenge := none, debugEnd := c.clock.sec + leNat (slice body 44 4) })
          ((c.irq P.KPR 9).count P.KPR 7).answer q 0)

/-- BRIGHT_SET: the level and its ramp, in fields of the mode in force. -/
def Chip.opBright (c : Chip) (q : KeeperReq) : Chip :=
  let level := leNat (slice q.data 0 2)
  let ms := leNat (slice q.data 2 2)
  let now := c.rampLevel
  let c := c.kprUp (fun k => { k with
    bright := level, rampFrom := now, rampLen := ceilDiv (ms * c.timing.fieldHz) 1000, rampDone := 0 })
  (c.set F.KPR_BRIGHT_STATUS_REQUESTED level).answer q 0

/-- CAL_EXPORT. -/
def Chip.opExport (c : Chip) (q : KeeperReq) : Chip :=
  match c.cal.stored with
  | some s => c.opWrite q s.bytes (leBytes 8 (crc64 s.body))
  | none => c.answer q 0x18

/-- CAL_RUN: its reply follows completion. -/
def Chip.opCalRun (c : Chip) (q : KeeperReq) : Chip :=
  if bit q.flags 0 then
    if c.mode ≠ .safe && c.mode ≠ .flat && c.mode ≠ .lightfield then c.answer q 0x19
    else (c.calUp (fun k => { k with full := some { ep := q.ep, tag := q.tag } })).hold_ q .run
  else if (c.get F.CAL_BG_STATUS_PHASE = 3 && !c.is pauseMode) || c.cal.full.isSome then c.answer q 0x19
  else ((c.calUp (fun k => { k with asked := some { ep := q.ep, tag := q.tag } })).hold_ q .run).passStart

/-- CAL_COMMIT and CAL_STORE write a user set. -/
def Chip.userSet (c : Chip) (q : KeeperReq) (v : CalValues) : Chip :=
  let writes := match c.cal.stored with
    | some s => min 255 (s.writes + 1)
    | none => min 255 (c.get F.CAL_SET_INFO_WRITES + 1)
  c.hold_ q (.cal { origin := 2, writes := writes, uid := c.kpr.otp.uid, vals := v })

/-- CAL_STORE. -/
def Chip.opCalStore (m : Memory) (c : Chip) (q : KeeperReq) : Chip :=
  if !c.memMapped q.addr q.len then c.answer q 0x17
  else if q.len ≠ 65536 then c.answer q 0x10
  else
    let r := c.keeperLoads m q
    match readCalSet c.kpr.otp.uid r.1 with
    | some s => r.2.userSet q s.vals
    | none => r.2.answer q 0x10

/-- CAL_MODE. -/
def Chip.opCalMode (c : Chip) (q : KeeperReq) : Chip :=
  let b := leNat (slice q.data 0 1)
  if 4 ≤ b then c.answer q 6
  else
    let c := (c.setB pauseMode (bit b 0)).setB bgEn (bit b 1)
    ((c.set F.CAL_BG_CFG_PASS_INTERVAL (leNat (slice q.data 2 2))).set F.CAL_BG_CFG_STEP_PERIOD (leNat (slice q.data 4 1))).answer q 0

/-! ### The order of requests (R466) -/

/-- FLAGS bits that an op defines. -/
def opFlags (op : Nat) : Nat := if op = 0x31 then 3 else if [0x30, 0x35, 0x3C, 0x3D].contains op then 1 else 0

/-- DATA bytes that an op uses. -/
def opData (op : Nat) : Nat :=
  if op = 0x32 then 32 else if op = 0x35 then 8 else if op = 0x3A then 4 else if op = 0x3F then 5 else 0

/-- Ops that name no buffer: their ADDR and LEN are among the bytes of value 0. -/
def opBare (op : Nat) : Bool := [0x35, 0x38, 0x3A, 0x3C, 0x3D, 0x3F].contains op

/-- No reserved flag or field of the request is set (R465 Table 6). -/
def reservedZero (q : KeeperReq) : Bool :=
  q.flags % 256 &&& (255 - opFlags q.op) = 0 && q.bytes2 = 0 && q.bytes13 = 0
    && (!opBare q.op || (q.addr = 0 && q.len = 0)) && (q.data.drop (opData q.op)).all (fun b => b = 0)

/-- The sender and the state permit the op. -/
def Chip.opAllowed (c : Chip) (q : KeeperReq) : Bool :=
  !c.modes.bootRom && (q.ep ≠ 4 || q.op = 0x32 || q.op = 0x33)
    && (!(c.wallWorker && (storeOp q.op || q.op = 0x39)) || q.ep = 3)
    && (!storeOp q.op || c.is F.THM_GATES_FLASH_OK)

/-- A request performed. -/
def Chip.perform (m : Memory) (q : KeeperReq) (c : Chip) : Chip :=
  if !c.opAllowed q then c.answer q 0x19
  else if !reservedZero q then c.answer q 6
  else match q.op with
    | 0x30 => c.opProfile m q
    | 0x31 => c.opPolicy m q
    | 0x32 => c.opAttest q
    | 0x33 => c.opCert q
    | 0x34 => c.opFirmware m q
    | 0x35 => c.opRollback q
    | 0x36 => c.opKey m q
    | 0x37 => c.opRevoke m q
    | 0x38 => c.opChallenge q
    | 0x39 => c.opDebug m q
    | 0x3A => c.opBright q
    | 0x3B => c.opExport q
    | 0x3C => c.opCalRun q
    | 0x3D => if bit q.flags 0 then c.userSet q c.cal.active else c.answer q 6
    | 0x3E => c.opCalStore m q
    | 0x3F => c.opCalMode q
    | _ => c.answer q 6

/-- A request waits while another is in progress or the firmware does not run. -/
def Chip.submit (m : Memory) (q : KeeperReq) (c : Chip) : Chip :=
  if c.modes.bootRom || (c.firmware && c.kpr.busy.isNone) then c.perform m q
  else c.kprUp (fun k => { k with waiting := k.waiting ++ [q] })

/-- Requests that wait are taken up again, in order. -/
def Chip.keeperNext (m : Memory) (c : Chip) : Chip :=
  let w := c.kpr.waiting
  foldOver w (fun (q : KeeperReq) (c : Chip) => c.submit m q) (c.kprUp (fun k => { k with waiting := [] }))

/-- A Keeper op arrives from an endpoint: it leaves its mailbox channel. -/
def Chip.keeperOp (m : Memory) (q : KeeperReq) (c : Chip) : Chip :=
  if !c.blockOn 14 || c.mode = .mooring then c else (c.keeperTake q.ep (requestBytes q)).submit m q

/-! ### The end of flash writes and runs -/

/-- A calibration request is answered with its plausibility failures. -/
def Chip.calAnswer (m : Memory) (asked : Option CalAsked) (c : Chip) : Chip :=
  match asked, c.kpr.busy with
  | some a, some (q, .run) =>
    ((c.kprUp (fun k => { k with busy := none })).answer q 0 0 (leBytes 2 (min 65535 a.fails))).keeperNext m
  | _, _ => c

/-- A write's content is in flash (R470, R515). -/
def Chip.flashStore (c : Chip) : FlashWrite → Chip
  | .profile o act =>
    let other := match c.kpr.profile with
      | some p => decide (p.digest ≠ o.digest)
      | none => true
    let c := c.kprUp (fun k => { k with profile := some o, override := if other then none else k.override })
    -- An override stops applying when a different profile is stored (R469).
    let c : Chip := match c.kpr.active with
      | some p => if other && c.is F.KPR_OBJ_STATUS_OVERRIDE then c.policyLoad p none else c
      | none => c
    let c := (c.count P.KPR 4).profileStatus
    if c.mode = .safe then c.kprUp (fun k => { k with accepted := k.accepted || c.get F.KPR_MODE_STATUS_CAUSE = 7 })
    else if act && (c.mode = .flat || c.mode = .lightfield || c.mode = .hold) then c.kprUp (fun k => { k with activate := true })
    else c
  | .policy o act =>
    let c := (c.kprUp (fun k => { k with override := o })).count P.KPR 4
    if act && (c.mode = .flat || c.mode = .lightfield || c.mode = .hold) then c.kprUp (fun k => { k with activate := true }) else c
  | .image area i => (c.kprUp (fun k => { k with images := modifyAt k.images area (fun _ => i) })).count P.KPR 4
  | .cal s => c.calUp (fun k => { k with stored := some s })
  | .run => c

/-- DETAIL and further bytes of the reply to a write that ended well. -/
def FlashWrite.reply : FlashWrite → Nat × List Byte
  | .profile o _ => (o.place, leBytes 4 o.version)
  | .policy (some o) _ => (o.place, leBytes 4 o.version)
  | .policy none _ => (0, [])
  | .image area _ => (area, [])
  | .cal _ => (0, [])
  | .run => (0, [])

/-- FLASH_WRITE_DONE: the write ended, well or with a failed erase, program or read-back. -/
def Chip.flashDone (m : Memory) (ok : Bool) (c : Chip) : Chip :=
  match c.kpr.busy with
  | none => c
  | some (_, .run) => c
  | some (q, w) =>
    let c := c.kprUp (fun k => { k with busy := none })
    let c := if ok then (c.flashStore w).answer q 0 w.reply.1 w.reply.2
      else match w with
        | .cal _ => (c.calUp (fun k => { k with stored := none })).answer q 0x18
        | _ => c.answer q 0x18
    c.keeperNext m

/-! ### The debug lock and the restart -/

/-- DEBUG_EXPIRY. -/
def Chip.debugExpiry (c : Chip) : Chip := c.debugLock

/-- CHALLENGE_LAPSE. -/
def Chip.challengeLapse (c : Chip) : Chip := c.kprUp (fun k => { k with challenge := none })

/-- KEEPER_RESTART: three within one minute are FATAL (R476). -/
def Chip.keeperRestart (c : Chip) : Chip :=
  if !c.firmware then c
  else
    let now := c.clock.sec
    let recent := (c.kpr.restarts.filter (fun t => now < t + 60 && t ≤ now)) ++ [now]
    let c := ((c.incWrap F.KPR_WDOG_RESTARTS).irq P.KPR 10).debugLock
    let lost := match c.kpr.busy with
      | some (_, .cal _) => true
      | _ => false
    let c := if lost then c.calUp (fun k => { k with stored := none }) else c
    let c := c.calUp (fun k => { k with asked := none, full := if c.is F.CAL_FULL_STATUS_RUNNING then k.full else none })
    let c := c.kprUp (fun k => { k with restarting := true, restarts := recent, busy := none, waiting := [], challenge := none })
    let c := c.epReset 0
    c.event P.KPR .isol (.own 0x10) 0xFFF 0 0 (decide (recent.length < 3))

/-- KEEPER_RESTART_END. -/
def Chip.keeperRestartEnd (m : Memory) (c : Chip) : Chip :=
  if !c.kpr.restarting then c else (c.kprUp (fun k => { k with restarting := false })).keeperNext m

end Sys2Proof.Machine
end

