-- ==== Sys2Proof/Machine/Tile.lean ====
section
/-!
DEFINITION. Machine/Tile.lean: walls and redundant pairs (chapter 18): joining, barriers, summaries, heartbeats, divergence,
output ownership and remote register commands; and how a mode request is judged (R76).
-/

namespace Sys2Proof.Machine

/-! ### The judgement of a mode request (R72, R73, R76) -/

/-- The RESULT with which a request is refused, if it is (R76 to R79). Where several refusals of Table 4c apply, the first
of INVALID, REFUSED_ROLE, REFUSED_STATE and REFUSED_MODE is answered (the table gives no order; DESIGN CHOICE, log 90). -/
def Chip.modeJudge (c : Chip) (r : ModeRequest) : Option Nat :=
  let lit := r.target = 4 || r.target = 5
  let cause := c.get F.KPR_MODE_STATUS_CAUSE
  let back := c.mode = .hold && r.target = modeCode c.modes.holdMode
  let up := c.mode = .flat || c.mode = .lightfield || c.mode = .hold
  let moves : Bool :=
    match r.target with
    | 0 => c.mode ≠ .off && c.mode ≠ .mooring
    | 1 => up || (c.mode = .safe && cause = 7)
    | 2 => up || c.mode = .safe
    | 4 => back || c.mode = .lightfield || (c.mode = .safe && cause = 7 && c.kpr.accepted)
    | 5 => back || c.mode = .flat || (c.mode = .safe && cause = 7 && c.kpr.accepted)
    | 6 => c.mode = .flat || c.mode = .lightfield
    | _ => false
  if 8 ≤ r.target || (lit && (r.timing = 0 || 15 ≤ r.timing)) || (r.target = 6 && r.holdVar ≠ 1 && r.holdVar ≠ 2) then some 6
  else if c.wallWorker && r.ep ≠ 3 then some 3
  else if !moves then some 1
  else if lit && (!acceptsTiming c.isC8 r.timing || (r.target = 5 && !isLightfieldTiming r.timing)) then some 2
  else none

/-- The mode of a code (R68 Table 1). -/
def modeOf (n : Nat) : Mode :=
  match n with
  | 0 => .off
  | 1 => .standby
  | 2 => .boot
  | 3 => .safe
  | 4 => .flat
  | 5 => .lightfield
  | 6 => .hold
  | _ => .mooring

/-- The cause a request stands for. -/
def requestCause (r : ModeRequest) : Nat := if r.ep = 3 then 2 else 1

/-- The transition a request asks for. On leaving Hold the mode and timing mode held before it return (R91); Lightfield asked
for at L7 is Flat with cause ADAPT (R74). -/
def Chip.asked (c : Chip) (r : ModeRequest) : Transition :=
  let cause := requestCause r
  if c.mode = .hold && (r.target = 4 || r.target = 5) then ⟨c.modes.holdMode, c.modes.holdTiming, cause, 0, false, false⟩
  else if r.target = 5 && c.get F.KPR_ADAPT_STATUS_LEVEL = 7 then ⟨.flat, r.timing, 3, 0, false, false⟩
  else ⟨modeOf r.target, r.timing, cause, r.holdVar, false, false⟩

/-! ### Barriers and summaries as payloads (Tables 4 and 5) -/

/-- A barrier's payload. -/
def Barrier.bytes (b : Barrier) : List Byte :=
  leBytes 4 b.field ++ leBytes 4 b.frame ++ leBytes 1 b.level ++ leBytes 1 b.flags ++ leBytes 2 b.cap ++ leBytes 1 b.target
    ++ leBytes 1 b.timing ++ leBytes 1 b.holdVar ++ [0] ++ leBytes 2 b.at_

/-- A payload read as a barrier. -/
def readBarrier (d : List Byte) : Barrier :=
  { field := ob d 0 4, frame := ob d 4 4, level := ob d 8 1 % 8, flags := ob d 9 1 % 16, cap := ob d 10 2
    target := ob d 12 1, timing := ob d 13 1, holdVar := ob d 14 1, at_ := ob d 16 2 }

/-- A summary's payload. -/
def Summary.bytes (s : Summary) : List Byte :=
  leBytes 2 s.plan ++ leBytes 1 s.level ++ leBytes 1 s.flags ++ leBytes 2 s.bright ++ leBytes 2 s.budget ++ leBytes 8 s.members
    ++ leBytes 8 s.events ++ leBytes 4 s.late

/-- A payload read as a summary. -/
def readSummary (d : List Byte) : Summary :=
  { plan := ob d 0 2, level := ob d 2 1 % 8, flags := ob d 3 1 % 32, bright := ob d 4 2, budget := ob d 6 2
    members := ob d 8 8, events := ob d 16 8, late := ob d 24 4 }

/-- Two summaries of one plan merged. -/
def Summary.merge (a b : Summary) : Summary :=
  { plan := a.plan, level := max a.level b.level
    flags := (a.flags &&& b.flags &&& 1) + ((a.flags ||| b.flags) / 2 * 2), bright := min a.bright b.bright
    budget := max a.budget b.budget, members := a.members ||| b.members, events := a.events ||| b.events
    late := min 0xFFFFFFFF (a.late + b.late) }

/-- Bits of a barrier's flags. -/
def Barrier.bind (b : Barrier) : Bool := bit b.flags 0
def Barrier.sync (b : Barrier) : Bool := bit b.flags 1
def Barrier.announce (b : Barrier) : Bool := bit b.flags 2
def Barrier.cancel (b : Barrier) : Bool := bit b.flags 3

/-! ### Joining (R415) -/

/-- JOIN sent upward. -/
def Chip.sendJoin (c : Chip) : Chip :=
  if c.isTender then c
  else
    let flags := b2n c.paired + 2 * c.get F.TLK_NODE_CFG_SIDE + 4 * b2n c.tlk.seen
    let variant := match c.variant with
      | .c16 => 1
      | .e16 => 2
      | .c8 => 3
    let c := if c.get F.TLK_JOIN_STATUS_STATE = 2 then c else c.set F.TLK_JOIN_STATUS_STATE 1
    c.sendUp 0x10 c.ownId (leBytes 1 c.ownId ++ leBytes 1 flags ++ leBytes 1 1 ++ leBytes 1 variant)

/-- The Tender's count of members, itself included. -/
def Chip.memberCount (c : Chip) : Chip :=
  if c.isTender then c.set F.TLK_WALL_STATE_MEMBERS (1 + c.tlk.members.length) else c

/-- A member's bit in MEMBERS. -/
def Chip.memberBit (c : Chip) (id : Nat) (b : Bool) : Chip :=
  if id < 32 then c.set F.TLK_MEMBERS_LO_MAP (withBit (c.get F.TLK_MEMBERS_LO_MAP) id b)
  else c.set F.TLK_MEMBERS_HI_MAP (withBit (c.get F.TLK_MEMBERS_HI_MAP) (id - 32) b)

/-- The reason that Table 3 gives a joiner. -/
def Chip.joinReason (c : Chip) (id : Nat) (paired : Bool) (side : Nat) (seen : Bool) (depth variant : Nat) : Nat :=
  let held := c.tlk.members.find? (fun m => m.id = id)
  let partner := match held with
    | some m => m.paired && paired
    | none => false
  if held.isSome && !partner then 1
  else if 6 < depth then 2
  else if id = 0 then 3
  else if variant = 3 && is16K c.modeId then 4
  else if paired && (!seen || (match held with
    | some m => m.sides.contains side
    | none => false)) then 5
  else 0

/-- The Tender judges a JOIN and answers. -/
def Chip.joinJudge (c : Chip) (p : Nat) (d : List Byte) : Chip :=
  let id := ob d 0 1 % 64
  let paired := bit (ob d 1 1) 0
  let side := ob d 1 1 / 2 % 2
  let reason := c.joinReason id paired side (bit (ob d 1 1) 2) (ob d 2 1) (ob d 3 1)
  let c := if reason = 0 then
      let c := c.tlkUp (fun t => { t with members := match t.members.find? (fun m => m.id = id) with
        | some m => t.members.filter (fun m => m.id ≠ id) ++ [{ m with sides := m.sides ++ [side], absent := 0 }]
        | none => t.members ++ [⟨id, paired, [side], 0⟩] })
      (c.memberBit id true).memberCount
    else
      let c := ((c.set F.TLK_JOIN_REFUSED_ID id).set F.TLK_JOIN_REFUSED_REASON reason).set F.TLK_JOIN_REFUSED_VALID 1
      (c.count P.TLK 5).irq P.TLK 6
  c.sendPort p 0x11 id (leBytes 1 reason)

/-- JOIN: the Tender judges it; a worker sends it on with DEPTH one more. -/
def Chip.tileJoin (c : Chip) (l : Nat) (frame : List Byte) : Chip :=
  c.tileMsg l frame [0x10] (fun kind p id d c =>
    if p ≠ portD0 && p ≠ portD1 then c
    else
      let c := c.learnRoute p id
      if c.isTender then c.joinJudge p d
      else c.sendUp kind id (d.take 2 ++ leBytes 1 (min 255 (ob d 2 1 + 1)) ++ d.drop 3))

/-- JOIN_RESULT for this worker: it joins, or stands alone. -/
def Chip.joined (c : Chip) (reason : Nat) : Chip :=
  let state := c.get F.TLK_JOIN_STATUS_STATE
  let afresh := state ≠ 2 || c.is F.TLK_JOIN_STATUS_DETACHED
  if reason = 0 then
    let c := ((c.set F.TLK_JOIN_STATUS_STATE 2).set F.TLK_JOIN_STATUS_DETACHED 0).set F.TLK_JOIN_STATUS_REASON 0
    -- JOIN_RESULT does not say how deep the worker stands.
    let c := (c.set F.TLK_JOIN_STATUS_DEPTH (1 + c.freeNat % 6)).drew
    let c := c.stage F.TIM_TICK_CTRL_SRC 1
    if afresh then c.tlkUp (fun t => { t with synced := false, quiet := 0, barrier := none, taken := none, force := none }) else c
  else
    let c := (c.set F.TLK_JOIN_STATUS_STATE 3).set F.TLK_JOIN_STATUS_REASON reason
    let c := (c.set F.TLK_JOIN_STATUS_DETACHED 0).tlkUp (fun t => { t with barrier := none, taken := none, force := none, summary := none })
    if state = 2 then c.epReset 3 else c

/-- JOIN_RESULT. -/
def Chip.tileJoinResult (c : Chip) (l : Nat) (frame : List Byte) : Chip :=
  c.tileMsg l frame [0x11] (fun kind p id d c =>
    if p ≠ portU then c
    else if id ≠ c.ownId then c.sendDown kind id d
    else c.joined (ob d 0 1 % 16))

/-- JOIN_RETRY. -/
def Chip.joinRetry (c : Chip) : Chip :=
  if c.blockOn 4 && (c.get F.TLK_JOIN_STATUS_STATE = 3 || c.is F.TLK_JOIN_STATUS_DETACHED) then c.sendJoin else c

/-- TILE_PORT_UP: the link comes UP; messages in flight over a port that came up afresh go out again, and a worker sends
JOIN. -/
def Chip.tilePortUp (c : Chip) (l : Nat) : Chip :=
  let p := l / 2
  let was := (c.link l).up
  let fresh := !(c.link l).kept
  let c := c.tileLinkUp l
  if was || !(c.link l).up then c
  else
    let c := if fresh then
        if p = portU then c.outboxAgain 3
        else if p = portP then (c.tlkUp (fun t => { t with seen := false })).outboxAgain 4
        else foldOver ((c.tlk.routes.filter (fun r => r.2 = p)).map (·.1)) (fun (id : Nat) (c : Chip) => c.outboxAgain (4 + id)) c
      else c
    if p = portU then c.sendJoin else c

/-- PORT_DOWN of a link that retrained and has not returned: the partner's mailbox endpoint resets with port P (R486). -/
def Chip.tilePortDown (c : Chip) (l : Nat) : Chip :=
  if !c.blockOn 4 || l ≥ 8 || (c.link l).up || !(c.link l).kept then c
  else
    let c := c.tileLinkDown l
    if l / 2 = portP then (c.tlkUp (fun t => { t with seen := false, beat := none, sigs := [] })).epReset 4 else c

/-- A port goes DOWN without a fault: it was disabled or its SPLIT changed. -/
def Chip.tilePortOff (c : Chip) (p : Nat) : Chip :=
  let c := ((c.linkSet (2 * p) (fun _ => {})).linkSet (2 * p + 1) (fun _ => {})).set (portState p) 0
  let c := c.set (portLock p) 0
  if p = portP then (c.tlkUp (fun t => { t with seen := false, beat := none, sigs := [] })).epReset 4 else c

/-- PORT_CTRL written: a port whose EN falls or whose SPLIT changes goes DOWN (R410 gives the bits; that a change acts at once
is a DESIGN CHOICE, log 100). -/
def Chip.portCtrlWrite (c : Chip) (data : Nat) : Chip :=
  let en := c.get F.TLK_PORT_CTRL_EN
  let split := c.get F.TLK_PORT_CTRL_SPLIT
  let c := (c.set F.TLK_PORT_CTRL_EN (data % 16)).set F.TLK_PORT_CTRL_SPLIT (data / 16 % 8)
  foldOver ((List.range 4).filter (fun p => bit en p && !bit data p || p < 3 && decide (bit split p ≠ bit (data / 16) p)))
    (fun p c => c.tilePortOff p) c

/-! ### The barrier (R418 to R423) -/

/-- A worker that takes part: joined and not detached. -/
def Chip.inTree (c : Chip) : Bool := c.get F.TLK_JOIN_STATUS_STATE = 2 && !c.is F.TLK_JOIN_STATUS_DETACHED

/-- A barrier is accepted for the coming plan, where it names it or the counters have not been set yet. -/
def Chip.barrierKeep (c : Chip) (b : Barrier) : Chip :=
  if c.tlk.synced && b.field ≠ (c.tick.field + 1) % 2 ^ 32 then c
  else (c.tlkUp (fun t => { t with barrier := some b })).count P.TLK 0

/-- BARRIER: it goes on both D ports; a worker of the tree accepts it. -/
def Chip.tileBarrier (c : Chip) (l : Nat) (frame : List Byte) : Chip :=
  c.tileMsg l frame [0x12] (fun kind p id d c =>
    if p ≠ portU then c
    else
      let c := (c.sendPort portD0 kind id d).sendPort portD1 kind id d
      if c.inTree then c.barrierKeep (readBarrier d) else c)

/-- The registers of MAP_MASK, whose change waits for a frame boundary (R370). -/
def isMapMask (key : Nat) : Bool := K.MEM0_MAP_MASK ≤ key && key < K.MEM0_MAP_MASK + 32

/-- A staged value that waits for a frame boundary: a new TICK_CTRL.SRC (R11), a new MAP_MASK (R370) and a new TIMING.MODE
(R219). -/
def Chip.frameHeld (c : Chip) (key : Nat) : Bool :=
  isMapMask key || decide (key = K.SCN_TIMING ∧ c.get F.SCN_TIMING_MODE ≠ c.act F.SCN_TIMING_MODE) || decide (key = K.TIM_TICK_CTRL ∧ c.get F.TIM_TICK_CTRL_SRC ≠ c.act F.TIM_TICK_CTRL_SRC)

/-- The sector of the plan `k` ticks ahead. -/
def Chip.sectorAhead (c : Chip) (k : Nat) : Nat := (c.tick.sector + k) % c.sectors

/-- The commit `k` ticks ahead binds scene frames (R107): synthesis of sector 0 starts there. -/
def Chip.bindsAhead (c : Chip) (k : Nat) : Bool := c.sectorAhead (k + 1) = 0

/-- The Tender sends barriers and answers for the wall: a pair's Tender while it owns. -/
def Chip.leads (c : Chip) : Bool := c.isTender && c.frameActive

/-- BARRIER_SEND: the barrier for the next plan. A pair's Tender that does not own forms the same one and sends nothing: wall
values reach both members (R427). -/
def Chip.barrierSend (c : Chip) : Chip :=
  if !c.isTender || !c.blockOn 4 || !c.blockOn 9 then c
  else
    let own : Summary := ⟨0, c.get F.KPR_ADAPT_STATUS_WANT, 1, c.kpr.brightMax, 0, 0, 0, 0⟩
    let m := match c.tlk.merged with
      | some s => { s with level := max s.level own.level, bright := min s.bright own.bright }
      | none => { own with flags := 0 }
    let refuse := bit m.flags 1
    -- The announced transition: AT is fixed by the first barrier, and a refusal cancels it.
    let first := 4 + ((List.range c.sectors).find? (fun k => c.sectorAhead (5 + k) = 0)).getD 0
    let c := c.tlkUp (fun t => { t with move := t.move.map (fun w => match w.at_ with
      | some _ => w
      | none => { w with at_ := some ((c.tick.field + 1 + first) % 65536) }) })
    let c := match c.tlk.move with
      | some w =>
        if refuse && !w.cancel then
          (c.modeResult ⟨w.ep, w.target, w.timing, w.holdVar, w.tag⟩ 2).tlkUp (fun t => { t with move := some { w with cancel := true } })
        else c
      | none => c
    let sync := c.on F.TLK_WALL_CTRL_SCENE_SYNC
    let bindF := sync && c.bindsAhead 1 && bit m.flags 0
    let plan := (c.tick.field + 1) % 2 ^ 32
    let b : Barrier :=
      { field := plan, frame := (c.tick.frame + b2n (c.sectorAhead 1 = 0)) % 2 ^ 32
        level := if c.kpr.policy.isEmpty then m.level else c.levelClamp m.level
        flags := b2n bindF + 2 * b2n sync + (match c.tlk.move with
          | some w => 4 + 8 * b2n w.cancel
          | none => 0)
        cap := m.bright
        target := (c.tlk.move.map (·.target)).getD 0, timing := (c.tlk.move.map (·.timing)).getD 0
        holdVar := (c.tlk.move.map (·.holdVar)).getD 0, at_ := ((c.tlk.move.map (·.at_)).getD none).getD 0 }
    let c := c.when c.leads (fun c => (c.sendPort portD0 0x12 0 b.bytes).sendPort portD1 0x12 0 b.bytes)
    let c := c.tlkUp (fun t => { t with barrier := if t.members.isEmpty then none else some b })
    -- MODE_SCHED shows the transition until its barrier has gone.
    match c.tlk.move with
    | some w =>
      let c := ((c.set F.TLK_MODE_SCHED_TARGET w.target).set F.TLK_MODE_SCHED_TIMING w.timing).set F.TLK_MODE_SCHED_AT (w.at_.getD 0)
      let c := c.set F.TLK_MODE_SCHED_PENDING (b2n !w.cancel)
      if w.at_ = some (plan % 65536) && w.cancel then c.tlkUp (fun t => { t with move := none }) else c
    | none => c

/-- Plan lock: the barrier for the coming plan is taken, or missed (R418, R419); its values join the plan. An announced
transition whose frame boundary comes is taken up. -/
def Chip.tileLock (c : Chip) : Chip :=
  if !c.blockOn 4 then c
  else
    let plan := (c.tick.field + 1) % 2 ^ 32
    let got := c.tlk.barrier.filter (fun b => b.field = plan || !c.tlk.synced)
    let c := c.tlkUp (fun t => { t with barrier := none, taken := got, missing := false })
    let c := match got with
      | some b =>
        let c := (c.wallStage b).tlkUp (fun t => { t with quiet := 0 })
        if b.announce && !b.cancel && b.at_ = b.field % 65536 then
          let asked := if c.isTender then c.tlk.move else none
          let tr := c.asked ⟨3, b.target, b.timing, b.holdVar, 0⟩
          let tr := if c.isTender && tr.cause = 2 then { tr with cause := 1 } else tr
          let c := c.modesUp (fun x => { x with next := some tr, acting := match asked with
            | some w => some ⟨w.ep, w.target, w.timing, w.holdVar, w.tag⟩
            | none => x.acting })
          (c.tlkUp (fun t => { t with move := none })).set F.TLK_MODE_SCHED_PENDING 0
        else c
      | none => c
    if got.isNone && c.inTree then
      let c := c.tlkUp (fun t => { t with missing := true, quiet := t.quiet + 1 })
      ((c.count P.TLK 1).irq P.TLK 8).event P.TLK .cont (.own 0x10)
    else c

/-- The counters that the first sector-0 barrier sets (R415). -/
def Chip.tileJump (c : Chip) : Option (Nat × Nat) :=
  match c.tlk.taken with
  | some b => if c.blockOn 4 && !c.isTender && !c.tlk.synced && c.sectorAhead 1 = 0 then some (b.field, b.frame) else none
  | none => none

/-- The commit, first part: the wall values in force, before the counters move on. -/
def Chip.tileForce (c : Chip) : Chip :=
  if !c.blockOn 4 then c
  else
    let jump := c.tileJump
    let force := match c.tlk.taken with
      | some b => some b
      | none => c.tlk.force.map (fun b => { b with flags := withBit b.flags 0 false })
    let c := c.tlkUp (fun t => { t with force := force, taken := none, synced := t.synced || jump.isSome })
    let c := match force with
      | some b =>
        let c := ((c.set F.TLK_WALL_STATE_LEVEL b.level).setB F.TLK_WALL_STATE_BIND b.bind).setB F.TLK_WALL_STATE_ANNOUNCED b.announce
        c.set F.TLK_WALL_STATE_BRIGHT_CAP b.cap
      | none => c
    let leave := max 1 (c.act F.TLK_WALL_CTRL_LEAVE_FIELDS)
    if c.inTree && leave ≤ c.tlk.quiet then
      ((c.set F.TLK_JOIN_STATUS_DETACHED 1).event P.TLK .cont (.own 0x12)).epReset 3
    else c

/-- Under SCENE_SYNC a binding commit binds only with BIND 1 (R422): true where it is held. -/
def Chip.bindHeld (c : Chip) : Bool :=
  match c.wallForce with
  | some b => b.sync && !b.bind
  | none => false

/-! ### Summaries (R416, R417, R424) -/

/-- A member is lost to the wall. -/
def Chip.memberLost (c : Chip) (id : Nat) : Chip :=
  let c := c.tlkUp (fun t => { t with members := t.members.filter (fun m => m.id ≠ id) })
  let c := (c.memberBit id false).memberCount
  ((c.event P.TLK .cont (.own 0x11) 0xFFF 3 id).irq P.TLK 7).epReset (4 + id)

/-- The Tender has a complete merged summary. -/
def Chip.wallReport (c : Chip) (s : Summary) : Chip :=
  let c := ((c.set F.TLK_WALL_SUM_LEVEL_WANT s.level).set F.TLK_WALL_SUM_FLAGS s.flags).set F.TLK_WALL_SUM_BUDGET_MAX s.budget
  let c := (c.set F.TLK_WALL_LATE_TILES s.late).tlkUp (fun t => { t with merged := some s })
  let old := c.get F.TLK_WALL_ERR_LO_MAP + c.get F.TLK_WALL_ERR_HI_MAP * 2 ^ 32
  let now := old ||| s.events
  let c := (c.set F.TLK_WALL_ERR_LO_MAP now).set F.TLK_WALL_ERR_HI_MAP (now / 2 ^ 32)
  let c := if now ≠ old then c.irq P.TLK 7 else c
  let c := if bit s.flags 3 then c.irq P.TLK 9 else c
  let leave := max 1 (c.act F.TLK_WALL_CTRL_LEAVE_FIELDS)
  let c := c.tlkUp (fun t => { t with members := t.members.map (fun m =>
    if bit s.members m.id then { m with absent := 0 } else { m with absent := m.absent + 1 }) })
  foldOver ((c.tlk.members.filter (fun m => leave ≤ m.absent)).map (·.id)) (fun (id : Nat) (c : Chip) => c.memberLost id) c

/-- A summary is complete: it goes up, or the Tender reports it. -/
def Chip.summaryOut (c : Chip) (s : Summary) : Chip :=
  let c := c.tlkUp (fun t => { t with summary := none, awaited := [] })
  if c.isTender then c.wallReport s else c.sendUp 0x13 c.ownId s.bytes

/-- A child's summary of the plan in hand is merged. -/
def Chip.summaryMerge (c : Chip) (p : Nat) (s : Summary) : Chip :=
  match c.tlk.summary with
  | some mine =>
    let all := mine.merge s
    let left := c.tlk.awaited.filter (· ≠ p)
    let c := c.tlkUp (fun t => { t with summary := some all, awaited := left })
    if left.isEmpty then c.summaryOut all else c
  | none => c

/-- SUMMARY. -/
def Chip.tileSummary (c : Chip) (l : Nat) (frame : List Byte) : Chip :=
  c.tileMsg l frame [0x13] (fun _ p id d c =>
    if p ≠ portD0 && p ≠ portD1 then c
    else
      let c := c.learnRoute p id
      let s := readSummary d
      let now := c.tick.field % 65536
      if s.plan = now && c.tlk.awaited.contains p then c.summaryMerge p s
      else if 0 < signedDiff 16 s.plan now then
        c.tlkUp (fun t => { t with early := t.early.filter (fun e => e.1 ≠ p) ++ [(p, s)] })
      else c.count P.TLK 2)

/-- SUMMARY_WAIT_EXPIRY: what has not come is missing. -/
def Chip.summaryExpiry (c : Chip) : Chip :=
  match c.tlk.summary with
  | some s => c.summaryOut { s with flags := s.flags ||| 4 }
  | none => c

/-- A frame that completed would bind at the next binding (R107): a READY or QUEUED frame waits. -/
def Chip.bindReady (c : Chip) : Bool :=
  c.blockOn 1 && (c.considerReady (c.tick.frame + if c.sectorAhead 1 = 0 then 2 else 1)).1

/-- The module's own summary, for the plan just committed. -/
def Chip.ownSummary (c : Chip) : Summary :=
  let refuse := match c.tlk.force with
    | some b => b.announce && !b.cancel && (c.modeJudge ⟨3, b.target, b.timing, b.holdVar, 0⟩).isSome
    | none => false
  { plan := c.tick.field % 65536, level := c.get F.KPR_ADAPT_STATUS_WANT
    flags := b2n c.bindReady + 2 * b2n refuse + 8 * b2n c.tlk.took + 16 * b2n (c.is F.TLK_PAIR_STATUS_DIVERGED)
    bright := c.kpr.brightMax, budget := c.get ⟨P.RAY + 0x30, 0, 11, 4⟩, members := 2 ^ c.ownId
    events := if c.tlk.events then 2 ^ c.ownId else 0, late := c.get F.RAY_LATE_LAST_TILES }

/-- After a commit: the own summary starts, with the children's that have come already. -/
def Chip.summaryStart (c : Chip) : Chip :=
  if !c.blockOn 4 || !(c.isTender || c.get F.TLK_JOIN_STATUS_STATE = 2) then c
  else
    let s := c.ownSummary
    let wait := [portD0, portD1].filter c.portUp
    let early := c.tlk.early.filter (fun e => e.2.plan = s.plan)
    let c := c.tlkUp (fun t => { t with summary := some s, awaited := wait, early := [], events := false, took := false })
    if wait.isEmpty then c.summaryOut s
    else foldOver early (fun (e : Nat × Summary) (c : Chip) => c.summaryMerge e.1 e.2) c

/-! ### Pairs: heartbeat and divergence (R428, R429) -/

/-- ELIGIBLE. -/
def Chip.eligible (c : Chip) : Bool :=
  (c.mode = .flat || c.mode = .lightfield || c.mode = .hold) && c.ladder.fatal.isNone

/-- The signature of a region as latched at the last commit. -/
def Chip.daymarkSig (c : Chip) (r : Nat) : Nat := (c.w (K.SCN_DAYMARK_SIG + 4 * r)).toNat

/-- After a commit: HEARTBEAT and the signatures go out on P. -/
def Chip.heartbeatSend (c : Chip) : Chip :=
  if !c.paired || !c.blockOn 4 then c
  else
    let letsGo := c.tlk.release && !c.on F.SEC_OWNER_DRIVE
    let b := modeCode c.mode + 8 * b2n (c.is F.TLK_PAIR_STATUS_OWN) + 16 * b2n c.eligible + 32 * b2n letsGo
      + 64 * b2n (c.is F.TLK_PAIR_STATUS_DIVERGED)
    let sigs := fun (from_ : Nat) => (List.range 8).flatMap (fun i => leBytes 4 (c.daymarkSig (from_ + i)))
    let c := c.sendPort portP 0x03 c.ownId (leBytes 4 c.tick.field ++ leBytes 1 b)
    let lo := sigs 0
    let hi := sigs 8
    ((c.sendPort portP 0x04 c.ownId lo).sendPort portP 0x05 c.ownId hi).tlkUp (fun t => { t with release := t.release && !letsGo })

/-- The non-owner's Keeper stages both DRIVE bits for the next plan where R431 has it take over. -/
def Chip.tryTakeover (c : Chip) : Chip :=
  let why := c.get F.TLK_PAIR_STATUS_MISSED = 3 || c.tlk.releasing || c.tlk.fell
  if c.paired && !c.is F.TLK_PAIR_STATUS_OWN && !c.is F.TLK_PAIR_STATUS_PARTNER_OWN && c.eligible && why && !c.tlk.takeover then
    ((c.stage F.SEC_OWNER_DRIVE 1).stage F.APL_OWNER_DRIVE 1).tlkUp (fun t => { t with takeover := true })
  else c

/-- HEARTBEAT. -/
def Chip.tileHeartbeat (c : Chip) (l : Nat) (frame : List Byte) : Chip :=
  c.tileMsg l frame [0x03] (fun _ p _ d c =>
    if p ≠ portP || !c.paired then c
    else
      let b := ob d 4 1
      let f := ob d 0 4
      let c := ((c.set F.TLK_PAIR_STATUS_PARTNER_MODE b).setB F.TLK_PAIR_STATUS_PARTNER_ELIGIBLE (bit b 4)).set F.TLK_PAIR_STATUS_PARTNER_FIELD f
      (c.tlkUp (fun t => { t with seen := true, beat := some f, releasing := bit b 5 })).tryTakeover)

/-- HEARTBEAT_CHECK at T + HB_WAIT. -/
def Chip.heartbeatCheck (c : Chip) : Chip :=
  if !c.paired || !c.blockOn 4 then c
  else if c.tlk.beat = some c.tick.field then
    (c.set F.TLK_PAIR_STATUS_MISSED 0).set F.TLK_PAIR_STATUS_BLOCKED 0 |>.tryTakeover
  else
    let c := (c.count P.TLK 6).set F.TLK_PAIR_STATUS_MISSED (min 3 (c.get F.TLK_PAIR_STATUS_MISSED + 1))
    if c.get F.TLK_PAIR_STATUS_MISSED = 3 && c.is F.TLK_PAIR_STATUS_PARTNER_OWN then
      if c.is F.TLK_PAIR_STATUS_BLOCKED then c
      else ((c.set F.TLK_PAIR_STATUS_BLOCKED 1).irq P.TLK 11).event P.TLK .cont (.own 0x14)
    else (c.set F.TLK_PAIR_STATUS_BLOCKED 0).tryTakeover

/-- DAYMARK_LO: the partner's first signatures are kept. -/
def Chip.tileDaymarkLo (c : Chip) (l : Nat) (frame : List Byte) : Chip :=
  c.tileMsg l frame [0x04] (fun _ p _ d c =>
    if p ≠ portP then c else c.tlkUp (fun t => { t with sigs := (List.range 8).map (fun i => ob d (4 * i) 4) }))

/-- DAYMARK_HI: all 16 are compared, for a heartbeat of the same commit, and divergence is judged. -/
def Chip.tileDaymarkHi (c : Chip) (l : Nat) (frame : List Byte) : Chip :=
  c.tileMsg l frame [0x05] (fun _ p _ d c =>
    let limit := c.get F.TLK_PAIR_CTRL_DIVERGE_LIMIT
    if p ≠ portP || limit = 0 || c.tlk.beat ≠ some c.tick.field || c.tlk.sigs.length ≠ 8 then c
    else
      let theirs := c.tlk.sigs ++ (List.range 8).map (fun i => ob d (4 * i) 4)
      let diff := (List.range 16).foldl (fun n r => if theirs.getD r 0 = c.daymarkSig r then n else n + 2 ^ r) 0
      let c := c.tlkUp (fun t => { t with sigs := [] })
      if diff = 0 then (c.tlkUp (fun t => { t with diverged := 0 })).set F.TLK_PAIR_STATUS_DIVERGED 0
      else
        let c := (c.count P.TLK 8).set F.TLK_DAYMARK_DIFF_REGIONS (c.get F.TLK_DAYMARK_DIFF_REGIONS ||| diff)
        let c := c.tlkUp (fun t => { t with diverged := t.diverged + 1 })
        if c.tlk.diverged = limit then
          ((c.set F.TLK_PAIR_STATUS_DIVERGED 1).irq P.TLK 10).event P.TLK .cont (.own 0x13)
        else c)

/-! ### Output ownership (R430 to R432) -/

/-- The commit's ownership, with how long PAIR_OWN_I has been low, in µs: PAIR_OWN_O rises once both DRIVE bits are 1. -/
def Chip.ownCommit (c : Chip) (lowUs : Nat) : Chip :=
  if !c.paired then c
  else
    let both := c.on F.SEC_OWNER_DRIVE && c.on F.APL_OWNER_DRIVE
    let need := if c.is F.TLK_NODE_CFG_SIDE then 1000 else 10
    let c := if both && !c.is F.TLK_PAIR_STATUS_OWN && !c.is F.TLK_PAIR_STATUS_PARTNER_OWN && need ≤ lowUs && c.blockOn 12 then
        let c := (c.set F.TLK_PAIR_STATUS_OWN 1).tlkUp (fun t => { t with outputs := false, lowering := false })
        if c.tlk.takeover then
          ((c.count P.TLK 7).irq P.TLK 9).tlkUp (fun t => { t with took := true, takeover := false })
        else c
      else c
    -- A release: DRIVE has fallen, and PAIR_OWN_O follows once the light and the rails are off.
    let c := if c.tlk.release && !c.on F.SEC_OWNER_DRIVE then (c.set F.TLK_PAIR_CTRL_RELEASE 0).ownEnd else c
    c.tlkUp (fun t => { t with fell := false, takeover := t.takeover && both })

/-- PAIR_OUTPUT_ENABLE, 2 µs after asserting. -/
def Chip.pairEnable (c : Chip) : Chip :=
  if c.paired && c.is F.TLK_PAIR_STATUS_OWN && !c.is F.TLK_PAIR_STATUS_PARTNER_OWN then c.tlkUp (fun t => { t with outputs := true }) else c

/-- PAIR_OWN_I_CHANGE. -/
def Chip.pairOwnChange (c : Chip) (high : Bool) : Chip :=
  if !c.paired then c
  else
    let was := c.is F.TLK_PAIR_STATUS_PARTNER_OWN
    let c := c.setB F.TLK_PAIR_STATUS_PARTNER_OWN high
    if high then
      if c.is F.TLK_PAIR_STATUS_OWN && !c.tlk.outputs && c.is F.TLK_NODE_CFG_SIDE then c.set F.TLK_PAIR_STATUS_OWN 0 else c
    else if was then (c.tlkUp (fun t => { t with fell := true })).tryTakeover
    else c

/-- An owner gives up ownership: both DRIVE bits are staged to 0 and RELEASING goes out with the next heartbeat. -/
def Chip.releaseOwn (c : Chip) : Chip :=
  ((c.stage F.SEC_OWNER_DRIVE 0).stage F.APL_OWNER_DRIVE 0).tlkUp (fun t => { t with release := true })

/-- PAIR_RELEASE: RELEASE was written 1. -/
def Chip.pairRelease (c : Chip) : Chip :=
  if c.paired && c.is F.TLK_PAIR_STATUS_OWN then (c.set F.TLK_PAIR_CTRL_RELEASE 1).releaseOwn
  else c.set F.TLK_PAIR_CTRL_RELEASE 1

/-- Outputs of a module about to leave the lit modes pass to an eligible partner (R432). -/
def Chip.releaseAtExit (c : Chip) : Chip :=
  if c.paired && c.is F.TLK_PAIR_STATUS_OWN && c.is F.TLK_PAIR_STATUS_PARTNER_ELIGIBLE then c.releaseOwn else c

/-! ### Remote register commands (R424) -/

/-- REMOTE_GO: GO was written with DEST and WRITE as they stand. -/
def Chip.remoteGo (c : Chip) : Chip :=
  if c.is F.TLK_REMOTE_CTRL_BUSY then c
  else
    let dest := c.get F.TLK_REMOTE_CTRL_DEST
    let addr := c.get F.TLK_REMOTE_ADDR_LO_ADDR + c.get F.TLK_REMOTE_ADDR_HI_ADDR % 256 * 2 ^ 32
    let write := c.is F.TLK_REMOTE_CTRL_WRITE
    let kind := if write then 0x31 else 0x30
    let d := leBytes 5 addr ++ (if write then leBytes 4 (c.get F.TLK_REMOTE_DATA_DATA) else [])
    let go := (c.set F.TLK_REMOTE_CTRL_BUSY 1).set F.TLK_REMOTE_CTRL_STATUS 0
    if dest = 64 then if c.paired then go.sendPort portP kind c.ownId d else c.set F.TLK_REMOTE_CTRL_STATUS 8
    else if c.isTender && c.tlk.members.any (fun m => m.id = dest) then go.sendDown kind dest d
    else c.set F.TLK_REMOTE_CTRL_STATUS 8

/-- REG_CPL: it ends the command that runs, or goes on upward. -/
def Chip.tileRegCpl (c : Chip) (l : Nat) (frame : List Byte) : Chip :=
  c.tileMsg l frame [0x32] (fun kind p id d c =>
    match c.tileForward kind p id d with
    | (false, c) => c
    | (true, c) =>
      let dest := c.get F.TLK_REMOTE_CTRL_DEST
      let mine := if p = portP then dest = 64 else dest = id
      if !c.is F.TLK_REMOTE_CTRL_BUSY || !mine then c
      else
        let c := (c.set F.TLK_REMOTE_CTRL_BUSY 0).set F.TLK_REMOTE_CTRL_STATUS (ob d 0 1)
        if c.is F.TLK_REMOTE_CTRL_WRITE then c else c.set F.TLK_REMOTE_DATA_DATA (ob d 1 4))

/-- REMOTE_TIMEOUT. -/
def Chip.remoteTimeout (c : Chip) : Chip :=
  if c.is F.TLK_REMOTE_CTRL_BUSY then (c.set F.TLK_REMOTE_CTRL_BUSY 0).set F.TLK_REMOTE_CTRL_STATUS 9 else c

/-- TLK's locked values on the Tender (R433): the first offending offset. -/
def Chip.tileBad (c : Chip) (t : Nat) : Option Nat :=
  let delay := c.lck F.TLK_WALL_CTRL_BARRIER_DELAY
  let ns := match c.timingOf t with
    | some x => x.fieldNs
    | none => 16666666
  if c.isTender && (delay ≤ c.lck F.TLK_WALL_CTRL_SUM_WAIT || ns < delay * 10000 + 140000) then some 0x110 else none

end Sys2Proof.Machine
end

