-- ==== Sys2Proof/Machine/Modes.lean ====
section
/-!
DEFINITION. Machine/Modes.lean: operating modes, start-up, mode changes, the dark sequence and the shutdown order
(chapter 4).
-/

namespace Sys2Proof.Machine

/-! ### The raster -/

/-- The training slot of a dark sequence runs: no tick falls in it (R219). -/
def Chip.inSlot (c : Chip) : Bool :=
  match c.modes.dark with
  | some d => d.stage = 1
  | none => false

/-- SCN.TIMING.MODE as Keeper firmware and hardware set it in every tier at once. -/
def Chip.timingForce (c : Chip) (id : Nat) : Chip :=
  let k := K.SCN_TIMING
  let w := BitVec.ofNat 32 id
  (((c.setw k w).setLocked k w).setAct k w)

/-- SCN.TIMING.MODE staged by the Keeper (R78), and with it the lens values of the new mode's sector count (R186). -/
def Chip.timingStage (c : Chip) (id : Nat) : Chip := 
  (c.stage F.SCN_TIMING_MODE id).when (decide (id ≠ c.act F.SCN_TIMING_MODE)) (fun c => c.lensStage id)

/-- DARK and RASTER of SCN's STATUS. -/
def Chip.setDark (c : Chip) (b : Bool) : Chip := c.statusBit P.SCN 4 b
/-- The raster starts or stops: no field of it is in progress yet, or any more. -/
def Chip.setRaster (c : Chip) (b : Bool) : Chip :=
  ({ c with scan := { c.scan with live := false } } : Chip).statusBit P.SCN 3 b

/-! ### The transition that a plan lock takes (R72, R77) -/

/-- The timing mode a transition leads to, where it changes the raster (R75, R91, R278), or where it runs a dark sequence
without a change. -/
def Chip.newTiming (c : Chip) (t : Transition) : Option Nat :=
  let to_ := match t.target with
    | .flat => t.timing
    | .lightfield => t.timing
    | .hold => if c.mode ≠ .hold && t.holdVar = 2 then (if is16K c.modeId then 0x09 else 0x0B) else c.modeId
    | _ => c.modeId
  let moves := t.target = .flat || t.target = .lightfield || t.target = .hold || (t.target = .safe && t.dark)
  if moves && (to_ ≠ c.modeId || t.dark) then some to_ else none

/-- A wanted re-phase may run: the raster runs in a mode that is no step of a start-up, and not in Hold under HOST
(R13, R14). -/
def Chip.mayRephase (c : Chip) : Bool :=
  c.modes.rephase && (c.mode = .safe || c.mode = .flat || c.mode = .lightfield
    || (c.mode = .hold && decide (c.act F.TIM_TICK_CTRL_SRC ≠ 2)))

/-- From Safe a lit mode waits until the accepted profile has been loaded. -/
def Chip.profileWait (c : Chip) (r : ModeRequest) : Bool :=
  c.mode = .safe && (r.target = 4 || r.target = 5) && !c.is F.KPR_BOOT_STATUS_PROFILE_OK

/-- The pending request taken up: refused, or the next transition. -/
def Chip.takePending (c : Chip) (r : ModeRequest) : Chip :=
  match c.modeJudge r with
  | some e => (c.modesUp (fun m => { m with pending := none })).modeResult r e
  | none =>
    if c.profileWait r then c
    else c.modesUp (fun m => { m with pending := none, acting := some r, next := some (c.asked r) })

/-- A condition that waits for a frame boundary (R72). -/
def Chip.takeWanted (c : Chip) : Chip :=
  match c.modes.wanted with
  | some t => c.modesUp (fun m => { m with wanted := none, next := some t })
  | none => c

/-- What comes first: PWR_EN low, then the pending request, a stored profile's activation, a re-phase, and what else has
arisen. A mode with the raster that stays keeps its cause. -/
def Chip.pick (c : Chip) : Chip :=
  let cause := c.get F.KPR_MODE_STATUS_CAUSE
  let same : Transition := ⟨c.mode, c.modeId, cause, 0, true, false⟩
  let lit := c.mode = .flat || c.mode = .lightfield || c.mode = .hold
  match c.modes.next with
  | some _ =>
    -- A wall transition, announced before; one that the module now refuses is dropped.
    match c.modes.acting with
    | some r => if (c.modeJudge { r with ep := 3 }).isSome then
        (c.modesUp (fun m => { m with next := none, acting := none })).modeResult r 1
      else c
    | none => c
  | none =>
    if (c.modes.wanted.map (·.target)) = some .off then c.takeWanted
    else match c.modes.pending with
      | some r => c.takePending r
      | none =>
        if c.mode = .boot && c.get F.KPR_BOOT_STATUS_STEP = 7 then
          c.modesUp (fun m => { m with next := some ⟨.flat, c.polFlat, 0xC, 0, false, false⟩ })
        else if c.kpr.activate && lit then
          let c := match c.kpr.profile with
            | some p => (c.loadProfile p).lensStage c.modeId
            | none => c
          (c.kprUp (fun k => { k with activate := false })).modesUp (fun m => { m with next := some same })
        else if c.mayRephase then
          c.modesUp (fun m => { m with rephase := false, next := some { same with phase := true } })
        else c.takeWanted

/-- Nothing that changes the mode or the raster is under way. -/
def Chip.settled (c : Chip) : Bool := c.modes.dark.isNone && c.modes.shutdown.isNone && c.ladder.fatal.isNone

/-- PLAN_LOCK of a commit that starts a frame: the transition is taken, and its timing mode joins the plan. -/
def Chip.modeLock (c : Chip) : Chip :=
  if c.sectorAhead 1 ≠ 0 || !c.raster || !c.settled then c
  else
    let c := c.pick
    match c.modes.next with
    | some t => match c.newTiming t with
      | some id => c.timingStage id
      | none => c
    | none => c

/-- After SCN judged the locked set: a refused timing mode ends the transition with REFUSED_MODE. -/
def Chip.modeVerdict (c : Chip) (rejected : Bool) : Chip :=
  match c.modes.next with
  | some t =>
    if !rejected || (c.newTiming t).isNone then c
    else
      let c := match c.modes.acting with
        | some r => c.modeResult r 2
        | none => c
      let c := c.setw K.SCN_TIMING (c.aw K.SCN_TIMING)
      c.modesUp (fun m => { m with next := none, acting := none })
  | none => c

/-! ### The commit's part in a change -/

/-- A transition leads into the shutdown order. -/
def Transition.stops (t : Transition) : Bool := t.target = .off || t.target = .standby || t.target = .boot

/-- Start-up goes on after the first lit field of Flat: to Lightfield, or to Flat in another timing mode (DEDUCED, log 41). -/
def Chip.polMore (c : Chip) : Bool := c.polTarget = 5 || c.polTiming ≠ c.polFlat

/-- BOOT_TIME.TARGET at the first lit field of the start-up target mode. -/
def Chip.targetTime (c : Chip) (ms : Nat) : Chip :=
  let step := c.get F.KPR_BOOT_STATUS_STEP
  let target := (step = 7 && c.mode = .flat && !c.polMore) || (step = 8 && (c.mode = .lightfield || c.polTarget ≠ 5))
  if target && c.get F.KPR_MODE_STATUS_CAUSE = 0xC && c.modeId = c.polTiming then
    c.set F.KPR_BOOT_TIME_TARGET (min 65534 ms)
  else c

/-- A FATAL event waits that will end the running mode: from this tick the picture is dark (R45, R89). -/
def Chip.fatalDark (c : Chip) : Bool :=
  c.ladder.fatal.isSome && (c.mode = .flat || c.mode = .lightfield || c.mode = .hold || c.mode = .boot)

/-- A start-up step ends: PWR_EN having fallen, the shutdown order to Off follows (R90). -/
def Chip.stepEnds (c : Chip) : Chip :=
  if c.modes.stopBoot then
    c.modesUp (fun m => { m with stopBoot := false, wanted := some ⟨.off, 0, 0xB, 0, false, false⟩ })
  else c

/-- COMMIT: the black fields of a dark sequence or a shutdown are counted; at a frame boundary, `old` being the timing mode
until now, a taken transition darkens the raster or is due; ADAPT moves at once (R74); the first lit Safe field ends step 6.
`ms` is the time since VIN valid or the wake. -/
def Chip.modeCommit (c : Chip) (old ms : Nat) : Chip :=
  let boundary := c.tick.sector = 0
  let c := match c.modes.dark with
    | some d =>
      if d.stage = 2 && d.left = 0 then
        let lit := c.dark
        (c.setDark false).when lit (fun c => c.targetTime ms)
      else c.modesUp (fun m => { m with dark := some { d with left := d.left - 1 } })
    | none => c
  let c := c.modesUp (fun m => { m with shutdown := m.shutdown.map (fun s => { s with left := s.left - 1 }) })
  let c := match c.modes.next with
    | some t =>
      if !boundary || c.modes.due || !c.settled then c
      else
        -- Staged timing is active by now, so the old one is compared.
        let id := c.modeId
        let dark := t.dark || id ≠ old
        let c := if t.stops then c.setDark true
          else if dark then
            (c.setDark true).modesUp (fun m => { m with dark := some ⟨id, old, 0, 1, t.phase⟩ })
          else c
        if t.cause = 3 && !dark && c.modes.acting.isNone then
          ((c.setMode t.target 3).modesUp (fun m => { m with next := none }))
        else c.modesUp (fun m => { m with due := true })
    | none =>
      -- A MODE that was staged by itself: the dark sequence runs all the same (R219).
      if boundary && c.settled && decide (c.modeId ≠ old) then
        ((c.setDark true).set F.KPR_MODE_STATUS_CHANGING 1).modesUp (fun m => { m with dark := some ⟨c.modeId, old, 0, 1, false⟩ })
      else c
  let c := c.when c.fatalDark (fun c => c.setDark true)
  if c.get F.KPR_BOOT_STATUS_STEP = 5 && !c.dark && c.modeId = 0x0E then
    ((c.set F.KPR_BOOT_STATUS_STEP 6).set F.KPR_BOOT_TIME_FIRST_PICTURE (min 65534 ms)).stepEnds
  else c

/-- The field buffers do not swap at this commit: FLAT_HOLD after its last swap (R278). -/
def Chip.holdNoSwap (c : Chip) : Bool :=
  c.mode = .hold && c.get F.KPR_MODE_STATUS_HOLD_VAR = 2 && c.modes.holdSwapped

/-- COMMIT in FLAT_HOLD, after the swap: the first lit field makes the last swap; from the commit after it RAY, LNS and the
2D engine are unpowered, and a command that runs ends ABORTED (R278, R279). -/
def Chip.holdCommit (m : Memory) (c : Chip) : Chip :=
  if c.mode ≠ .hold || c.get F.KPR_MODE_STATUS_HOLD_VAR ≠ 2 || c.dark then c
  else if !c.modes.holdSwapped then c.modesUp (fun x => { x with holdSwapped := true })
  else if !c.blockOn 5 then c
  else
    let c := match c.blt.running with
      | some r => c.bltStop m r 3
      | none => c
    c.blocksDown [5, 6]

/-- COMMIT in Safe after a FATAL event: APL powers down once its last stop has ended and its rails are discharged (R353). -/
def Chip.safeCommit (c : Chip) : Chip :=
  if c.mode ≠ .safe || c.get F.KPR_MODE_STATUS_CAUSE ≠ 4 || !c.blockOn 13 || !c.apl.runs.isEmpty then c
  else if c.apl.rails ≠ 0 then c.railsDown
  else c.blocksDown [13]

/-! ### The transition itself (R72 to R75, R88, R91) -/

/-- The request whose transition ends is answered DONE. -/
def Chip.actingDone (c : Chip) : Chip :=
  match c.modes.acting with
  | some r => (c.modesUp (fun m => { m with acting := none })).modeResult r 0
  | none => c

/-- Blocks that FLAT_HOLD powered down return; RAY initialises its contexts (R281). -/
def Chip.holdPowers (c : Chip) : Chip :=
  if c.blockOn 5 then c else ((c.blockUp 5 0).blockUp 6 0).contextInit.regionState

/-- A transition takes effect; a dark sequence, where it runs one, has started at the commit. -/
def Chip.transit (t : Transition) (c : Chip) : Chip :=
  let c := c.modesUp (fun m => { m with next := none, due := false })
  if t.stops then
    let c := (c.set F.KPR_MODE_STATUS_CHANGING 1).modesUp (fun m => { m with
      shutdown := some ⟨t.target, t.cause, if c.raster then 1 else 0⟩ })
    let c := c.when (c.blockOn 13) Chip.aplShutdown
    c.releaseAtExit
  else
    let from_ := c.mode
    let was := match c.modes.dark with
      | some d => d.old
      | none => c.modeId
    let c := if t.target = from_ then c.set F.KPR_MODE_STATUS_CAUSE t.cause else c.setMode t.target t.cause
    let c := if t.target = .hold && from_ ≠ .hold then
        let c := (c.set F.KPR_MODE_STATUS_HOLD_VAR t.holdVar).modesUp (fun m => { m with
          holdMode := from_, holdTiming := was, holdSwapped := m.dark.isNone })
        let c := c.when (decide (c.act F.TIM_TICK_CTRL_SRC = 2)) Chip.tickHoldover
        c.when (c.blockOn 1) Chip.linkHold
      else if from_ = .hold && t.target ≠ .hold then
        let c := (c.set F.KPR_MODE_STATUS_HOLD_VAR 0).holdPowers
        c.hlkUp (fun h => { h with stopped := false })
      else if from_ = .safe && t.target ≠ .safe then (c.blockUp 2 0).blockUp 4 0 |>.blockUp 13 0 |>.regionState
      else c
    if c.modes.dark.isSome then c.set F.KPR_MODE_STATUS_CHANGING 1 else c.actingDone

/-- MODE_TRANSITION: at the frame boundary whose plan took it, or at once where no raster runs. -/
def Chip.modeTransition (c : Chip) : Chip :=
  if c.raster || c.inSlot then
    match c.modes.next, c.modes.due with
    | some t, true => c.transit t
    | _, _ => c
  else if !c.settled || c.mode = .off || c.mode = .mooring then c
  else
    let c := if c.mode = .boot && (c.modes.wanted.map (·.target)) ≠ some .off then c else c.pick
    match c.modes.next with
    | some t => c.transit t
    | none => c

/-- STARTUP_COMPLETE: Boot ends into the start-up target, first Flat. -/
def Chip.startupComplete (c : Chip) : Chip :=
  match c.modes.next, c.modes.due with
  | some t, true => if c.mode = .boot && t.cause = 0xC then c.transit t else c
  | _, _ => c

/-! ### The dark sequence (R80) -/

/-- DARK_TRAINING_SLOT: the raster stops, and lanes and DRAM change to the new mode's rates. A MODE 0 that was staged by
itself, no raster, ends the sequence here (DESIGN CHOICE, log 97). -/
def Chip.darkSlot (c : Chip) : Chip :=
  match c.modes.dark with
  | some d =>
    if d.stage ≠ 0 || d.left ≠ 0 then c
    else
      let c := c.modesUp (fun m => { m with dark := some { d with stage := 1 } })
      let c := ((c.setRaster false).setDark false).set F.KPR_MODE_STATUS_TIMING 0
      let c := { c with tick := { c.tick with sector := c.sectors - 1, planLocked := false } }
      let c := c.fstSizes
      if d.timing = 0 then (c.modesUp (fun m => { m with dark := none })).set F.KPR_MODE_STATUS_CHANGING 0
      else
        let c := c.when (c.blockOn 3) (fun c => c.set F.MEM0_CFG_RATE (dramRate d.timing))
        (c.set F.SER0_RATE_FWD (rateCode c.timing.laneGbps)).trainStart
  | none => c

/-- A rate per second as a period in whole ns and 2⁻³² ns, rounded to nearest. -/
def periodOf (hz n : Nat) : Nat × Nat :=
  let q := (2 * n * 1000000000 * 2 ^ 32 + hz) / (2 * hz)
  (q / 2 ^ 32, q % 2 ^ 32)

/-- Keeper firmware programs the tick series anew at the end of the training slot (R80, R451): trigger unit 0 runs at the
new field interval, EN written 0, then START, then EN 1. Under the ST 2059-2 profile START is the next multiple of the frame
interval since the epoch, as chapter 19's worked example has it; else it is this instant (R80 says "from that instant";
DEDUCED, log 90). -/
def Chip.tickSeries (c : Chip) : Chip :=
  if !c.firmware || !c.blockOn 17 then c
  else
    let t := c.timing
    let n := ceilDiv (c.clock.sub * t.frameHz) (1000000000 * 2 ^ 32)
    let at_ : Clock := if c.is F.TIM_PTP_CTRL_PROFILE then
        let p := periodOf t.frameHz n
        clockOf c.clock.sec ((p.1 * 2 ^ 32 + p.2 : Nat) : Int)
      else c.clock
    let p := periodOf t.fieldHz 1
    let c := (c.set (trigFld 0 0x04 0 30) at_.ns).set (trigFld 0 0x08 0 32) (at_.sec % 2 ^ 32)
    let c := (c.set (trigFld 0 0x0C 0 16) (at_.sec / 2 ^ 32)).set (trigFld 0 0x10 0 32) at_.frac
    let c := (c.set (trigFld 0 0x14 0 32) p.1).set (trigFld 0 0x18 0 32) p.2
    ((c.set (trigFld 0 0 0 1) 1).set (trigFld 0 0 1 1) 1).setTarget 0 (some at_)

/-- The line period of the new raster keeps the slew of the old one's (R12): `old` is the timing mode left. -/
def Chip.periodCarry (c : Chip) (old : Nat) : Chip :=
  let was := ((c.timingOf old).map Timing.linePs).getD 0
  let last := c.get F.SCN_LINE_PERIOD_PS
  let new := c.timing.linePs
  c.set F.SCN_LINE_PERIOD_PS (if was = 0 || last = 0 then new else (2 * new * last + was) / (2 * was))

/-- NEW_MODE_FIRST_TICK: the slot ends, and the raster of the new mode runs. -/
def Chip.newModeTick (c : Chip) : Chip :=
  match c.modes.dark with
  | some d =>
    if d.stage ≠ 1 then c
    else
      let c := c.modesUp (fun m => { m with dark := some { d with stage := 2, left := 2 } })
      let c := (((c.setRaster true).setDark true).set F.KPR_MODE_STATUS_TIMING d.timing).trainEnd.fstSizes
      let c := (c.periodCarry d.old).tickSeries
      let c := { c with pcn := { c.pcn with bypassNext := c.pcn.bypassNext || decide (d.timing ≠ d.old) } }
      if d.phase && c.act F.TIM_TICK_CTRL_SRC ≠ 0 then
        (c.set F.TIM_TICK_STATUS_LOCKED 1).set F.TIM_TICK_STATUS_HOLDOVER 0
      else c
  | none => c

/-- The start-up steps that end with a dark sequence (R83): 8 with Flat, 9 with Lightfield. -/
def Chip.startupStep (c : Chip) : Chip :=
  let step := c.get F.KPR_BOOT_STATUS_STEP
  if c.get F.KPR_MODE_STATUS_CAUSE ≠ 0xC then c
  else if step = 7 && c.mode = .flat then
    let c := (c.set F.KPR_BOOT_STATUS_STEP 8).stepEnds
    if c.polMore then
      c.want ⟨if c.polTarget = 5 then .lightfield else .flat, c.polTiming, 0xC, 0, false, false⟩
    else c
  else if step = 8 && c.mode = .lightfield then c.set F.KPR_BOOT_STATUS_STEP 9
  else c

/-- DARK_SEQUENCE_END: the first lit field follows. -/
def Chip.darkEnd (c : Chip) : Chip :=
  match c.modes.dark with
  | some d =>
    if d.stage ≠ 2 || d.left ≠ 0 || c.dark then c
    else
      let c := (c.modesUp (fun m => { m with dark := none })).set F.KPR_MODE_STATUS_CHANGING 0
      c.startupStep.actingDone
  | none => c

/-! ### The shutdown order (R88) -/

/-- A boot begins in the Keeper region: endpoint 0 starts anew. -/
def Chip.bootStart (c : Chip) (cause step : Nat) : Chip :=
  let c := if c.mode = .boot then c.set F.KPR_MODE_STATUS_CAUSE cause else c.setMode .boot cause
  let c := (c.set F.KPR_MODE_STATUS_CHANGING 0).set F.KPR_BOOT_STATUS_WARM 0
  let c := if step = 0 then c.set F.KPR_FW_VERSION_VERSION 0 else c
  let c := (c.set F.KPR_MODE_STATUS_TIMING 0).set F.KPR_MODE_STATUS_HOLD_VAR 0
  let c := (c.set F.KPR_BOOT_STATUS_STEP step).set F.KPR_BOOT_STATUS_PROFILE_OK 0
  let c := (c.set F.KPR_BOOT_TIME_FIRST_PICTURE 0xFFFF).set F.KPR_BOOT_TIME_TARGET 0xFFFF
  let c := c.modesUp (fun m => { m with
    bootRom := false, rephase := false, wanted := none, next := none, due := false, stopBoot := false })
  let c := c.kprUp (fun k => { k with active := none, policy := [], activate := false, accepted := false })
  (((c.set F.KPR_OBJ_STATUS_ACTIVE 0).set F.KPR_OBJ_STATUS_OVERRIDE 0).epReset 0).debugLock

/-- ORDERLY_RECORD: black fields and the layer have ended; the record is written and the regions power down. -/
def Chip.orderlyRecord (c : Chip) : Chip :=
  match c.modes.shutdown with
  | none => c
  | some s =>
    if (c.raster && s.left ≠ 0) || (c.blockOn 13 && !c.apl.runs.isEmpty) then c
    else
      let c := if c.modes.bootRom || c.get F.KPR_BOOT_STATUS_STEP < 2 then c else c.writeRecord (c.recordStart 1) 0
      let c := c.ownEnd.when (c.blockOn 13) Chip.railsDown
      let c := (((c.regionDown 2).regionDown 1).regionDown 0).ownLower
      let c := c.modesUp (fun m => { m with shutdown := none, dark := none, next := none, due := false })
      let c := (c.set F.KPR_MODE_STATUS_CHANGING 0).set F.KPR_MODE_STATUS_TIMING 0
      let c := c.set F.KPR_MODE_STATUS_HOLD_VAR 0
      match s.target with
      | .standby => (c.setMode .standby s.cause).actingDone
      | .boot => ((c.setMode .boot s.cause).actingDone).bootStart s.cause 0
      | _ => ((c.setMode .off s.cause).actingDone).powerOff false

/-! ### Safe (R45, R73, R84, R86) -/

/-- Blocks that Safe does not power, but for APL. -/
def safeOff : List Nat := [2, 4, 5, 6, 7, 8]

/-- Start-up ends in Safe. -/
def Chip.bootSafe (c : Chip) (cause : Nat) : Chip :=
  let c := (c.setMode .safe cause).kprUp (fun k => { k with accepted := false })
  (c.blocksDown (13 :: safeOff))

/-- FATAL_SAFE_ENTRY, at the tick after a FATAL event. -/
def Chip.fatalEntry (c : Chip) : Chip :=
  if c.ladder.fatal.isNone then c
  else
    let c := { c with ladder := { c.ladder with fatal := none } }
    if !(c.mode = .flat || c.mode = .lightfield || c.mode = .hold || c.mode = .boot) || c.modes.bootRom then c
    else
      let ticking := c.raster || c.inSlot
      let old := c.modeId
      let quiet := c.modes.dark.isNone && old = 0x0E
      let c := c.preemptModes.when (c.blockOn 13) Chip.aplHalt
      let c := (c.setMode .safe 4).set F.KPR_MODE_STATUS_HOLD_VAR 0
      let off := c.modes.stopBoot || (c.modes.shutdown.map (·.target)) = some .off
        || (c.modes.wanted.map (·.target)) = some .off
      let c := c.modesUp (fun m => { m with
        dark := none, shutdown := none, next := none, due := false, rephase := false, stopBoot := false
        wanted := if off then some ⟨.off, 0, 0xB, 0, false, false⟩ else none })
      let c := c.kprUp (fun k => { k with activate := false, accepted := false })
      let c := c.ownEnd.blocksDown safeOff
      let c := c.when (c.blockOn 1) (fun c => (c.hlkUp (fun h => { h with stopped := false })).linkLpLeave 2)
      if !ticking then (c.set F.KPR_MODE_STATUS_CHANGING 0).when (c.apl.runs.isEmpty) (fun c => c.blocksDown [13])
      else if quiet then (c.setDark false).set F.KPR_MODE_STATUS_CHANGING 0
      else
        let c := (c.trainEnd.timingForce 0x0E).daymarkReset.modesUp (fun m => { m with dark := some ⟨0x0E, old, 0, 1, false⟩ })
        let c := (c.setRaster true).setDark true
        (c.set F.KPR_MODE_STATUS_CHANGING 1).set F.KPR_MODE_STATUS_TIMING old

/-! ### Start-up (R83 to R87) -/

/-- A start-up step may run: in Boot, or in Safe with CAL_INVALID, where steps 4 to 6 go on; not while a stop is awaited. -/
def Chip.mayStep (c : Chip) : Bool :=
  !c.modes.bootRom && (c.modes.wanted.map (·.target)) ≠ some .off && c.modes.shutdown.isNone && c.ladder.fatal.isNone
    && (c.mode = .boot || (c.mode = .safe && c.get F.KPR_MODE_STATUS_CAUSE = 6))

/-- The result of trying a firmware image (R85 Table 5). -/
def Chip.imageResult (c : Chip) (i : FwImage) (readError : Bool) : Nat :=
  if readError then 5
  else match i.header with
    | none => 2
    | some (_, index) => if !i.signed then 3 else if index < c.kpr.otp.rollback then 4 else 1

/-- The images in the order in which the boot ROM tries them: by version, A first among equals. -/
def Chip.imageOrder (c : Chip) : List Nat :=
  let v := fun i => ((c.kpr.images.getD i {}).header).map (·.1)
  match v 0, v 1 with
  | some a, some b => if a < b then [1, 0] else [0, 1]
  | none, some _ => [1, 0]
  | _, _ => [0, 1]

/-- Straps sampled at step 1, once until the next Off (R564). -/
def Chip.strapSample (c : Chip) (id : Nat) (paired side : Bool) : Chip :=
  let c := (c.set F.TLK_NODE_CFG_ID id).setB F.TLK_NODE_CFG_PAIRED paired
  (c.setB F.TLK_NODE_CFG_SIDE side).setB F.TLK_NODE_CFG_TENDER (decide (id % 64 = 0))

/-- BOOT_ROM_START: the straps, and the images A and B; `errA` and `errB` where the flash read failed. -/
def Chip.bootRomStart (m : Memory) (id : Nat) (paired side errA errB : Bool) (c : Chip) : Chip :=
  if c.mode ≠ .boot || c.get F.KPR_BOOT_STATUS_STEP ≠ 0 || c.modes.bootRom || !c.mayStep then c
  else
    let c := c.when (c.get F.KPR_MODE_STATUS_CAUSE = 0) (fun c => c.strapSample id paired side)
    let try_ := fun (i : Nat) => c.imageResult (c.kpr.images.getD i {}) (if i = 0 then errA else errB)
    let order := c.imageOrder
    let first := order.headD 0
    let second := 1 - first
    let r1 := try_ first
    let r2 := if r1 = 1 then 0 else try_ second
    let put := fun (c : Chip) (i r : Nat) => c.set (if i = 0 then F.KPR_BOOT_STATUS_A_RESULT else F.KPR_BOOT_STATUS_B_RESULT) r
    let c := put (put c first r1) second r2
    let good := if r1 = 1 then some first else if r2 = 1 then some second else none
    match good with
    | some i =>
      let ver := (((c.kpr.images.getD i {}).header).map (·.1)).getD 0
      let c := foldOver (railsOfRegion 3) (fun (i : Nat) (c : Chip) => c.set ⟨K.PWR_REGION_STATE, 16 + i, 1, 4⟩ 1) c.regionState
      let c := ((c.set F.KPR_BOOT_STATUS_IMAGE i).set F.KPR_FW_VERSION_VERSION ver).set F.KPR_BOOT_STATUS_STEP 2
      -- Keeper firmware locks the pages that only it may write.
      let c := foldOver [P.KPR, P.CAL, P.THM, P.PWR] (fun (p : Nat) (c : Chip) => c.setw (p + 0x038) 0x80000001) c
      (c.otpStatus.profileStatus.keeperNext m).stepEnds
    | none =>
      let c := (c.modesUp (fun x => { x with bootRom := true })).setMode .safe 5
      ((((c.set F.KPR_BOOT_STATUS_STEP 1)).set F.KPR_FW_VERSION_VERSION 0).blockUp 1 0).regionState.stepEnds

/-- CAL_SET_LOAD: step 3. -/
def Chip.calSetLoad (c : Chip) : Chip :=
  if c.mode ≠ .boot || c.get F.KPR_BOOT_STATUS_STEP ≠ 2 || !c.mayStep then c
  else
    let good := match c.cal.stored with
      | some s => if s.uid = c.kpr.otp.uid && s.vals.plausible then some s else none
      | none => none
    let c := (c.takeRecord.set F.KPR_BOOT_STATUS_STEP 3).measureStart
    match good with
    | some s =>
      let c := c.calUp (fun k => { k with active := s.vals })
      (((c.set F.CAL_SET_INFO_ORIGIN s.origin).set F.CAL_SET_INFO_WRITES s.writes).set F.CAL_SET_INFO_VALID 1).stepEnds
    | none =>
      let c := c.calUp (fun k => { k with active := {} })
      (((c.set F.CAL_SET_INFO_ORIGIN 0).set F.CAL_SET_INFO_VALID 0).bootSafe 6).stepEnds

/-- REGION_POWER_UP in step order: the Scene and Panel regions at step 4, the Ray region at step 7, or once a profile has
been accepted in Safe. In Safe the other cases power what Safe keeps. -/
def Chip.regionPower (c : Chip) (r mask : Nat) : Chip :=
  let step := c.get F.KPR_BOOT_STATUS_STEP
  let accepted := c.mode = .safe && c.get F.KPR_MODE_STATUS_CAUSE = 7 && c.kpr.accepted
  if accepted then c.regionUp r mask
  else if !c.mayStep || step < 3 then c
  else if c.mode = .boot then (if r = 1 && step < 6 then c else c.regionUp r mask)
  else
    let keep := [1, 3, 9, 10, 11, 12]
    let c := foldOver ((blocksOfRegion r).filter keep.contains) (fun (b : Nat) (c : Chip) => c.blockUp b mask) c
    let rails := if r = 1 then [] else railsOfRegion r
    (foldOver rails (fun (i : Nat) (c : Chip) => c.set ⟨K.PWR_REGION_STATE, 16 + i, 1, 4⟩ 1) c).regionState

/-- The panel EEPROM's content keeps Table 9 and R218. -/
def eepromOk (c8 : Bool) (b : List Byte) : Bool :=
  let zero := fun (a n : Nat) => leNat (slice b a n) = 0
  b.length = 128 && leNat (slice b 0 4) = 0x4C4E5048 && leNat (slice b 4 2) = 1 && zero 6 2 && zero 56 8
    && leNat (slice b 68 1) < 2 && zero 69 55 && leNat (slice b 124 4) = crc32c (b.take 124)
    && nativeOk c8 (leNat (slice b 64 2)) (leNat (slice b 66 2))

/-- PANEL_EEPROM_READ: up to three reads; the first that completes is checked. `none` is a read that failed. -/
def Chip.eepromRead (tries : List (Option (List Byte))) (c : Chip) : Chip :=
  if c.get F.KPR_BOOT_STATUS_STEP ≠ 3 || !c.mayStep || !c.blockOn 9 || !c.blockOn 3 then c
  else
    let got := ((tries.take 3).filterMap (fun t => t)).head?
    match got.filter (eepromOk c.isC8) with
    | some b =>
      let c := (c.set F.SCN_NATIVE_WIDTH (leNat (slice b 64 2))).set F.SCN_NATIVE_HEIGHT (leNat (slice b 66 2))
      let c := c.kprUp (fun k => { k with identity := b.take 64 })
      let c := c.when (c.blockOn 10) (fun c => c.keeperWrite (K.PCN_PACK_CTRL,
        ((fldPut (c.w K.PCN_PACK_CTRL) F.PCN_PACK_CTRL_DEPTH (leNat (slice b 68 1))).toNat)))
      (c.set F.KPR_BOOT_STATUS_STEP 4).stepEnds
    | none => (c.bootSafe 8).stepEnds

/-- STARTUP_LANE_TRAINING: step 5. Return paths and region-layer lanes lock, the panel lanes train with the results given
and those of `failed` masked, and the raster of 0x0E runs. -/
def Chip.startTraining (results : List (Nat × List (Nat × Nat))) (failed : List Nat) (c : Chip) : Chip :=
  if c.get F.KPR_BOOT_STATUS_STEP ≠ 4 || !c.mayStep || !c.blockOn 9 || !c.blockOn 11 then c
  else
    let c := foldOver [(1, 0), (1, 1), (2, 0), (2, 1), (3, 0)] (fun (e : Nat × Nat) (c : Chip) => c.returnRelock e.1 e.2) c
    let c := foldOver (List.range 4) (fun (l : Nat) (c : Chip) => c.setLaneLock 3 l true) c
    let c := c.timingForce 0x0E
    let c := (c.set F.SER0_RATE_FWD (rateCode c.timing.laneGbps)).trainStart
    let c := foldOver (c.trainLanes.filter (fun e => !failed.contains (64 * e.1 + e.2)))
      (fun (e : Nat × Nat) (c : Chip) => c.setLaneLock e.1 e.2 true) c
    let c := ((c.trainApply results).trainJudge failed).trainEnd
    let c := { c with tick := { c.tick with sector := c.sectors - 1, planLocked := false } }
    let c := (c.setRaster true).set F.KPR_MODE_STATUS_TIMING 0x0E
    (c.set F.KPR_BOOT_STATUS_STEP 5).stepEnds

/-- STARTUP_PROFILE_LOAD: step 7, or after a profile has been accepted in Safe. -/
def Chip.profileLoad (c : Chip) : Chip :=
  let accepted := c.mode = .safe && c.get F.KPR_MODE_STATUS_CAUSE = 7 && c.kpr.accepted
  if !((c.mode = .boot && c.mayStep && c.get F.KPR_BOOT_STATUS_STEP = 6) || accepted) then c
  else
    let good := c.kpr.profile.filter (fun o => c.stillGood o && decide (o.bind = c.panelDigest))
    match good with
    | some p =>
      if !c.blockOn 5 then c
      else
        let c := ((c.blockUp 2 0).blockUp 4 0).blockUp 13 0
        let c := c.loadProfile p
        let c := c.lensStage c.polFlat
        let c := c.aplUp (fun a => { a with rebuild := true })
        -- Until a BRIGHT_SET asks for another, the level asked for is the profile's (DESIGN CHOICE, log 67).
        let level := if c.blockOn 12 then c.get F.SEC_BRIGHT_LEVEL else 0
        let c := (c.kprUp (fun k => { k with bright := level, rampLen := 0, rampDone := 0 })).set F.KPR_BRIGHT_STATUS_REQUESTED level
        if c.mode = .boot then (c.set F.KPR_BOOT_STATUS_STEP 7).stepEnds else c
    | none => if c.mode = .boot then (c.bootSafe 7).stepEnds else c.kprUp (fun k => { k with accepted := false })

/-! ### Supply and wake -/

/-- Boot from Off: the Keeper region is powered (R72). -/
def Chip.bootFromOff (c : Chip) : Chip :=
  if c.mode ≠ .off || !c.modes.vinValid || !c.modes.pwrEn || c.pwr.holdoff then c
  else
    let c := foldOver (blocksOfRegion 3) (fun (b : Nat) (c : Chip) => c.blockUp b 0) c
    let c := foldOver (railsOfRegion 3) (fun (i : Nat) (c : Chip) => c.set ⟨K.PWR_REGION_STATE, 16 + i, 1, 4⟩ 1) c
    { c.regionState with mode := .boot, pwr := { c.pwr with bleed := false } }

/-- VIN_VALID: VIN has been at or above 6.0 V for 2 ms. -/
def Chip.vinValid (c : Chip) (mv : Nat) : Chip :=
  if mv < 6000 then c
  else
    let c := c.modesUp (fun m => { m with vinValid := true })
    (c.when (c.blockOn 20) (fun c => c.vinReading mv)).bootFromOff

/-- PWR_EN_RISE. -/
def Chip.pwrEnRise (c : Chip) : Chip := (c.modesUp (fun m => { m with pwrEn := true })).bootFromOff

/-- PWR_EN_FALL: the shutdown order to Off, at the next frame boundary, or after the step in progress in Boot. -/
def Chip.pwrEnFall (c : Chip) : Chip :=
  let c := c.modesUp (fun m => { m with pwrEn := false })
  let off : Transition := ⟨.off, 0, 0xB, 0, false, false⟩
  if c.mode = .off || c.mode = .mooring then c
  else match c.modes.shutdown with
    | some s => c.modesUp (fun m => { m with shutdown := some { s with target := .off, cause := 0xB } })
    | none =>
      if c.mode = .boot then c.modesUp (fun m => { m with stopBoot := true })
      else c.modesUp (fun m => { m with wanted := some off })

/-- A wake from Standby: the verified firmware stays resident (R83); a fall of PWR_EN goes before it (R559). -/
def Chip.wake (c : Chip) : Chip :=
  if c.mode ≠ .standby || !c.settled || (c.modes.wanted.map (·.target)) = some .off then c else (c.bootStart 9 2).set F.KPR_BOOT_STATUS_WARM 1

/-- Hold is to end at the next frame boundary. CAUSE will be HOST_REQ where the link's wake ends it and WAKE where WAKE_N
does (Table 3 names no cause of an exit from Hold; DESIGN CHOICE, log 90). -/
def Chip.leaveHold (c : Chip) (cause : Nat) : Chip :=
  if c.mode ≠ .hold then c
  else c.want ⟨c.modes.holdMode, c.modes.holdTiming, cause, 0, false, false⟩

/-- WAKE_N_LOW. -/
def Chip.wakeLow (c : Chip) : Chip := if c.mode = .standby then c.wake else c.leaveHold 9

/-- OFF_HOLDOFF_EXPIRY. -/
def Chip.holdoffExpiry (c : Chip) : Chip :=
  ((c.when c.pwr.holdoff (fun c => c.bleedFor 50)).pwrUp (fun p => { p with holdoff := false })).bootFromOff

/-! ### Requests (R76 to R79) -/

/-- MODE_SET: judged, and held as the one pending request; on a Tender with workers it is announced to the wall. -/
def Chip.modeSet (c : Chip) (r : ModeRequest) : Chip :=
  if !c.firmware then c
  else match c.modeJudge r with
    | some e => c.modeResult r e
    | none =>
      let wall := c.leads && !c.tlk.members.isEmpty && c.blockOn 4 && c.raster
      if wall then
        let c := match c.tlk.move with
          | some w => c.modeResult ⟨w.ep, w.target, w.timing, w.holdVar, w.tag⟩ 4
          | none => c
        c.tlkUp (fun t => { t with move := some ⟨r.ep, r.target, r.timing, r.holdVar, r.tag, none, false⟩ })
      else
        let c := match c.modes.pending with
          | some w => c.modeResult w 4
          | none => c
        c.modesUp (fun m => { m with pending := some r })

/-- A MODE_SET message of 8 bytes or more from endpoint `ep`. -/
def readModeSet (ep : Nat) (b : List Byte) : ModeRequest :=
  ⟨ep, leNat (slice b 1 1), leNat (slice b 2 1), leNat (slice b 3 1), leNat (slice b 4 4)⟩

/-! ### The low-power state of the link and Hold (R406) -/

/-- LP_EXIT: the link leaves its low-power state, by the host or by the module; Hold ends with it. -/
def Chip.lpExit (c : Chip) (byHost : Bool) : Chip :=
  if c.linkState ≠ 6 then c else (c.linkLpLeave (if byHost then 1 else 2)).when byHost (fun c => c.leaveHold 1)

end Sys2Proof.Machine
end

