-- ==== Sys2Proof/Machine/Bus.lean ====
section
/-!
DEFINITION. Machine/Bus.lean: register access (chapter 3): mapping, alignment, page locks, access codes, register parity,
the computed registers, and what a write to a register with behaviour of its own does.
-/

namespace Sys2Proof.Machine

/-! ### Addresses (R53 to R55) -/

/-- The error page of the block through which a master's access enters (R53). -/
def entryPage (m : Master) : Nat :=
  match m with
  | .keeper => P.KPR
  | .host0 => P.HLK
  | .host1 => P.HLK
  | .tender => P.TLK
  | .partner => P.TLK

/-- The device address of a register's key. -/
def regAddr (key : Nat) : Nat := controlBase + key

/-- The page of a key is mapped: its block is powered, and the role has it (R54, R67, R68). -/
def Chip.pageMapped (c : Chip) (page : Nat) : Bool :=
  let b := blockOf page
  let i := instOf page
  c.blockOn b && (instancesOf b).contains i && (b ≠ 15 || i = 0 || c.epMapped (i - 1))

/-- An access to an unmapped address is recorded in the entry page (R53). -/
def Chip.unmapped (c : Chip) (m : Master) (addr : Nat) : Chip :=
  c.when (c.blockOn (blockOf (entryPage m))) (fun c => c.event (entryPage m) .cont .unmapped 0xFFF 1 addr)

/-- The answer to an access. -/
def Chip.respond (c : Chip) (s : Status) (data : Nat := 0) : Chip := { c with resp := ⟨s, BitVec.ofNat 32 data⟩ }

/-! ### Register parity (R66) -/

/-- A stored register word was found with a parity error: FATAL in SEC, APL and PWR. Elsewhere Keeper firmware, where it
runs, rewrites the register from its copy, which mends the parity; else the word stays bad. -/
def Chip.registerParity (c : Chip) (page off : Nat) : Chip :=
  let fatal := blockOf page = 12 || blockOf page = 13 || blockOf page = 20
  let c := c.event page (if fatal then .fatal else .cont) .parity 0xFFF 2 off
  let others := c.regs.badParity.filter (· ≠ page + off)
  { c with regs := { c.regs with badParity := if !fatal && c.firmware then others else others ++ [page + off] } }

/-! ### Computed registers -/

/-- BLOCK_CAPS of a block (each block's page fields). -/
def blockCaps (c8 : Bool) (b : Nat) : Nat :=
  match b with
  | 1 => 16
  | 2 => 8 + 4 * 16
  | 3 => 8 + 2 * 16
  | 4 => 4
  | 5 => 32 + 16 * 64
  | 6 => 32
  | 7 => 96
  | 8 => 4 + 16 * 16
  | 9 => 4 + 16
  | 10 => 8 + 16
  | 11 => if c8 then 24 else 48
  | 12 => 96 + 16 * 128
  | 13 => 16 + 32 * 32
  | 14 => 2
  | 17 => 16 + 6 * 16
  | 18 => 97
  | 19 => 40
  | 20 => 12
  | _ => 0

/-- CAPS.VARIANT. -/
def variantCode : Variant → Nat
  | .c16 => 1
  | .e16 => 2
  | .c8 => 3

/-- CAPS of a page. -/
def Chip.capsWord (c : Chip) (page : Nat) : Nat :=
  0xB1 + variantCode c.variant * 2 ^ 8 + blockCaps c.isC8 (blockOf page) * 2 ^ 16

/-- A cell of CAL or THM is out of service: a retired converter, a broken sensor (R56, R509, R540). The other blocks keep
their DEGRADED bit as their cells go. -/
def Chip.cellOut (c : Chip) (block : Nat) : Bool :=
  match block with
  | 18 => (List.range 97).any (fun i => c.is (retiredFld i))
  | 19 => (List.range 40).any c.sensorBroken
  | _ => false

/-- STATUS of a page: IN_RESET and ERR_VALID mirror other state, and so do DEGRADED of CAL and THM and the block bits of
LNS and PCN. IN_RESET reads 1 in the page whose CTRL was written, though the block's other pages reset with it (R57;
DESIGN CHOICE, log 88). -/
def Chip.statusWord (c : Chip) (page : Nat) : Nat :=
  let w := (c.w (page + 0x00C)).toNat
  let w := withBit (withBit w 0 (c.regs.inReset.contains page)) 1 (bit (c.w (page + 0x020)).toNat 4)
  let w := if c.cellOut (blockOf page) then withBit w 2 true else w
  if blockOf page = 6 then withBit w 3 (c.on F.LNS_GRID_CFG_GRID_EN)
  else if blockOf page = 10 then withBit (withBit w 3 c.demuraOn) 4 (c.on F.PCN_OD_CTRL_EN && !c.pcn.bypass)
  else w

/-- Staged writes of a page that wait for the next lock, and locked values of it that wait for the commit. -/
def Chip.pageDirty (c : Chip) (page : Nat) : Bool := c.regs.dirty.any (fun k => pageOf k = page)
def Chip.pageWaiting (c : Chip) (page : Nat) : Bool := c.regs.waiting.any (fun k => pageOf k = page)

/-- The number of the plan that the staged value of a key waits for: the open one, or, where the value waits for a frame
boundary (R11, R370), the first from it on that starts a frame. -/
def Chip.planOf (c : Chip) (key : Nat) : Nat :=
  let k := 1 + b2n c.tick.planLocked
  let held := if c.frameHeld key then ((List.range c.sectors).find? (fun j => c.sectorAhead (k + j) = 0)).getD 0 else 0
  c.tick.field + k + held

/-- STAGE of a page (R25). -/
def Chip.stageWord (c : Chip) (page : Nat) : Nat :=
  let dirty := c.pageDirty page
  let waiting := c.pageWaiting page
  let newest := ((c.regs.dirty.filter (fun k => pageOf k = page)).getLast?).getD page
  let id := if dirty then c.planOf newest else if waiting then c.tick.field + 1 else c.tick.field
  id % 65536 + b2n (dirty || waiting) * 2 ^ 16 + b2n (c.tick.planLocked && waiting) * 2 ^ 17
    + b2n (c.regs.rejected.contains page) * 2 ^ 18

/-- COND_STATUS and DEMURA_SIZE of PCN as they read. -/
def Chip.pcnView (c : Chip) (off : Nat) : Option Nat :=
  if off = 0x1C0 then
    let w := (c.w (P.PCN + off)).toNat
    let w := withBit (withBit w 3 (c.on F.PCN_PRE_CTRL_RESP_BANK)) 7 c.pcn.bypass
    some (withBit w 8 (c.on F.PCN_OD_CTRL_BANK))
  else if off = 0x19C then
    some (if c.modeId = 0 || c.modeId = 0x0E then 0 else demuraBytes c.demuraEdge c.timing.width c.timing.height)
  else none

/-- A register that is computed when it is read; none for a stored one. -/
def Chip.computed (m : Memory) (c : Chip) (mst : Master) (key : Nat) (f : ReadFault := .clean) : Option Nat :=
  let page := pageOf key
  let off := offOf key
  if off = 0x000 then some (blockOf page * 2 ^ 24 + instOf page * 2 ^ 16 + 2 ^ 8)
  else if off = 0x004 then some (c.capsWord page)
  else if off = 0x00C then some (c.statusWord page)
  else if off = 0x018 then some (c.intPend page)
  else if off = 0x034 then some (c.stageWord page)
  else match blockOf page with
    | 1 => if key = K.HLK_RING_STATUS then some c.ringStatus else if key = K.HLK_FILL_BYTES then some c.fillBytes else none
    | 5 =>
      let a := c.ctxBase + 8 * c.get F.RAY_TILE_PROBE_TILE
      if key = K.RAY_PROBE_LO then some (c.loadLE m a 4) else if key = K.RAY_PROBE_HI then some (c.loadLE m (a + 4) 4) else none
    | 6 => if 0x208 ≤ off && off < 0x21C then some (c.lensProbeWord m off f).toNat else none
    | 10 => c.pcnView off
    | 12 => c.secView off
    | 13 => c.aplView off
    | 14 =>
      if off = 0x100 then some c.chipInt
      else if 0x104 ≤ off && off < 0x114 then some (c.regionSum ((off - 0x104) / 4))
      else if key = K.KPR_DIGEST_DATA then some c.digestWord
      else if key = K.KPR_SEC_STATUS then some (fldPut (c.w key) F.KPR_SEC_STATUS_DEBUG_LEFT c.debugLeft).toNat
      else none
    | 15 => c.mbxView mst (instOf page) off
    | 17 => c.timView mst off
    | 18 => c.calView off
    | _ => none

/-- The word stored at a key as a read returns it: bits of access code WO read 0 (R59), and undefined offsets read 0. -/
def Chip.storedWord (c : Chip) (key : Nat) : Nat :=
  match findReg key with
  | some d => ((c.w key).toNat &&& (0xFFFFFFFF - d.wo))
  | none => 0

/-- The active copy of a register: its staged bits; 0 where it has none (R60). -/
def Chip.activeCopy (c : Chip) (key : Nat) : Nat :=
  match findReg key with
  | some d => (c.aw key).toNat &&& d.stg
  | none => 0

/-- The debug range is open (R475). -/
def Chip.debugOpen (c : Chip) : Bool := bit (c.get F.KPR_SEC_STATUS_SCOPES) 0

/-- What a read of a register below the active copies returns, with the effects a read has. -/
def Chip.readValue (m : Memory) (mst : Master) (key : Nat) (c : Chip) (f : ReadFault := .clean) : Nat × Chip :=
  let page := pageOf key
  let off := offOf key
  if key = K.PCN_TBL_DATA then c.pcnTableRead
  else if key = K.APL_TBL_DATA then c.aplTableRead
  else if key = K.TIM_NOW_FRAC then c.timeSnapshot mst
  else if blockOf page = 15 && instOf page = 0 && 0x200 ≤ off && off < 0x300 then c.lockRead mst ((off - 0x200) / 4)
  else
    ((c.computed m mst key f).getD (c.storedWord key),
      c.when (blockOf page = 6 && 0x208 ≤ off && off < 0x21C) (Chip.lensProbeRead f))

/-- A read of a mapped register (R59, R60), with the effects a read has; `f` says what a probe's read of the lens grid met. -/
def Chip.readReg (m : Memory) (mst : Master) (key : Nat) (c : Chip) (f : ReadFault := .clean) : Chip :=
  let page := pageOf key
  let off := offOf key
  if blockOf page = 16 && 17 ≤ instOf page && mst ≠ .keeper then c.respond .locked
  else if 0xF00 ≤ off then
    -- What the debug range holds is not given: a free value while it is open.
    if c.debugOpen then (c.respond .ok c.freeNat).drew else c.respond .ok
  else if 0x800 ≤ off then c.respond .ok (c.activeCopy (key - 0x800))
  else
    let r := c.readValue m mst key f
    if r.2.regs.badParity.contains key && r.2.is ⟨page + 0x03C, 0, 1, 4⟩ then
      (r.2.registerParity page off).respond .parity r.1
    else r.2.respond .ok r.1

/-! ### Page locks (R65) and writes refused whatever they say -/

/-- The write is refused by the page's lock. PAGE_LOCK itself is no exception: while WRITERS bars the Keeper too, its own
writes of PAGE_LOCK are refused (R65 says both that a master whose bit is 0 is refused and that WRITERS and LOCK can be
changed by the Keeper; DESIGN CHOICE, log 89). -/
def Chip.pageLocked (c : Chip) (m : Master) (key : Nat) : Bool :=
  let off := offOf key
  let l := (c.w (pageOf key + 0x038)).toNat
  let free := off = 0x010 || off = 0x020 || off = 0x02C
  let host := m = .host0 || m = .host1
  let roll := pageOf key = P.KPR && host && (0x100 ≤ off && off < 0x114 || off = (if m = .host0 then 0x114 else 0x118))
  let other := pageOf key = P.KPR && (m = .host0 && off = 0x118 || m = .host1 && off = 0x114)
  other || (bit l 31 && !free && !roll && (off = 0x038 && m ≠ .keeper || !bit l (masterBit m)))

/-- The write needs a master that the register names (R219, R322, R326, R356, R436, R438, R451, R483, R493). -/
def wrongMaster (m : Master) (key : Nat) : Bool :=
  let page := pageOf key
  let off := offOf key
  let notKeeper : Bool := m ≠ .keeper
  match blockOf page with
  | 9 => notKeeper && key = K.SCN_TIMING
  | 12 => notKeeper && (key = K.SEC_OWNER || key = K.SEC_AGE_LO || key = K.SEC_AGE_HI)
  | 13 => notKeeper && key = K.APL_OWNER
  | 15 =>
    let i := instOf page
    let mine := i ≠ 0 && masterBit m = i - 1
    -- Outbox pages name no master; their RX_POP is refused whoever writes it.
    decide (1 ≤ i) && decide (i ≤ 3) && !mine && (off = 0x560 || off = 0x568 || 0x100 ≤ off && off < 0x210 || 0x320 ≤ off && off < 0x430)
  | 16 => notKeeper && 17 ≤ instOf page
  | 17 => notKeeper && (key = K.TIM_RATE || key = K.TIM_STEP_GO || 0x200 ≤ off && off < 0x240)
  | _ => false

/-! ### Header registers -/

/-- CTRL written: CNT_CLR, RESET and BLOCK_CTRL (R57, R58). -/
def Chip.ctrlWrite (c : Chip) (m : Master) (page data : Nat) : Status × Chip :=
  let b := blockOf page
  let i := instOf page
  let c := if bit data 30 then
      let c := foldOver (List.range 47) (fun (n : Nat) (c : Chip) => c.setw (page + 0x044 + 4 * n) 0) c
      -- LAT_MAX of MEM[0] clears with its counters (R385 Table 6).
      c.when (decide (page = P.MEM)) (fun c => foldOver (List.range 8) (fun (p : Nat) (c : Chip) => c.set (F.MEM0_LAT_MAX_NS.ix p) 0) c)
    else c
  let c := if b = 18 then c.setw (page + 0x008) (BitVec.ofNat 32 (data % 4)) else c
  if !bit data 31 then (.ok, c)
  else if b = 15 then (if i = 0 then (.ok, c.mbxReset.debugLock) else c.epResetWrite m (some (i - 1)) data)
  else if b = 14 || b = 20 then (.ok, c)
  else (.ok, { c with regs := { c.regs with inReset := putLast c.regs.inReset page } })

/-- PAGE_LOCK written: WRITERS, LOCK, and UNLOCK by the Keeper. Where one write of the Keeper has both LOCK and UNLOCK 1,
UNLOCK acts last (R65 is silent; DESIGN CHOICE, log 89). -/
def Chip.pageLockWrite (c : Chip) (m : Master) (page data : Nat) : Chip :=
  let k := page + 0x038
  let lock := (bit (c.w k).toNat 31 || bit data 31) && !(bit data 30 && m = .keeper)
  c.setw k (BitVec.ofNat 32 (data % 32 + b2n lock * 2 ^ 31))

/-- A header register written; none where it acts by its access code alone. -/
def Chip.headerWrite (c : Chip) (m : Master) (page off data : Nat) : Option (Status × Chip) :=
  let old := (c.w (page + off)).toNat
  if off = 0x008 then some (c.ctrlWrite m page data)
  else if off = 0x010 || off = 0x014 then
    let new := if off = 0x010 then old &&& (0xFFFFFFFF - data) else data
    some (.ok, c.intChange page (fun c => c.setw (page + off) (BitVec.ofNat 32 new)))
  else if off = 0x01C then some (.ok, c.raise page data)
  else if off = 0x020 then
    some (.ok, if bit data 4 then ((c.setw (page + 0x020) 0).setw (page + 0x024) 0).setw (page + 0x028) 0 else c)
  else if off = 0x02C then
    let lo := if data % 65536 = 0 then old % 65536 else 0
    let hi := if data / 65536 = 0 then old / 65536 else 0
    some (.ok, c.setw (page + off) (BitVec.ofNat 32 (lo + hi * 65536)))
  else if off = 0x030 then
    some (.ok, if bit data 27 then ((c.set ⟨page + off, 16, 11, 4⟩ 0).set ⟨page + off, 31, 1, 4⟩ 0) else c)
  else if off = 0x038 then some (.ok, c.pageLockWrite m page data)
  else none

/-! ### Access codes (R59) -/

/-- The bits of a LANE_EN or RETRY word whose lanes the variant has; every bit of another word (R305). -/
def Chip.presentBits (c : Chip) (key : Nat) : Nat :=
  let port := key / 0x1000 % 16
  let off := key % 0x1000
  if !(key / 0x10000 = 11 && 1 ≤ port && port ≤ 3) then 0xFFFFFFFF
  else
    let all := 2 ^ (if port = 3 then 4 else if c.isC8 then 26 else 50) - 1
    if off = 0x148 || off = 0x160 then all % 2 ^ 32
    else if off = 0x14C || off = 0x164 then all / 2 ^ 32
    else 0xFFFFFFFF

/-- A write as the access codes have it: staged bits join the open plan (R22). -/
def Chip.plainWrite (c : Chip) (key data : Nat) : Chip :=
  match findReg key with
  | none => c
  | some d =>
    let data := data &&& c.presentBits key
    let old := (c.w key).toNat
    let free := d.rw ||| d.stg
    let kept := old &&& (0xFFFFFFFF - free)
    let new := ((kept &&& (0xFFFFFFFF - (d.w1c &&& data))) ||| (d.w1s &&& data)) ||| (data &&& free)
    let c := c.setw key (BitVec.ofNat 32 new)
    if d.stg = 0 then c else { c with regs := { c.regs with dirty := putLast c.regs.dirty key } }

/-! ### Registers with behaviour of their own -/

/-- PTP_CTRL written: a new PROFILE sets the intervals of Table 3, and ports outside ROLE are down; a
source on a port that is no longer the ordinary clock's is lost. -/
def Chip.ptpCtrlWrite (c : Chip) (data : Nat) : Chip :=
  let old := c.get F.TIM_PTP_CTRL_PROFILE
  let c := c.plainWrite K.TIM_PTP_CTRL data
  let p := c.get F.TIM_PTP_CTRL_PROFILE
  let c := if p = old then c
    else c.setw K.TIM_PTP_INTERVAL (if p = 1 then 0x03FDFEFD else 0x03000100)
  let c := foldOver [0, 1] (fun (n : Nat) (c : Chip) =>
    if c.portsOn.contains n then c else c.timePortDown n) c
  if c.tim.slaveOf.any (· ≠ c.ocPort) then c.sourceLost else c

/-- LINK_CTRL written: ENABLE 0 takes the link DOWN once the completion has gone (R407); RETRAIN enters RECOVER. -/
def Chip.linkCtrlWrite (c : Chip) (data : Nat) : Chip :=
  let was := c.is F.HLK_LINK_CTRL_ENABLE
  let c := c.plainWrite K.HLK_LINK_CTRL data
  let c := if bit data 4 then c.linkRetrain else c
  if was && !c.is F.HLK_LINK_CTRL_ENABLE then c.hlkUp (fun h => { h with downNext := true }) else c

/-- CTX_CTRL written: a context that is disabled resets its endpoint (R486). -/
def Chip.ctxCtrlWrite (c : Chip) (data : Nat) : Chip :=
  let was := c.get ⟨K.HLK_CTX_CTRL, 0, 2, 4⟩
  let c := c.plainWrite K.HLK_CTX_CTRL data
  foldOver [0, 1] (fun (h : Nat) (c : Chip) => if bit was h && !bit data h then c.epReset (1 + h) else c) c

/-- A register of a Scene, Ray or Panel block with behaviour of its own. -/
def Chip.engineWrite (m : Memory) (c : Chip) (key data : Nat) : Option (Status × Chip) :=
  let off := offOf key
  match blockOf key with
  | 1 =>
    if key = K.HLK_LINK_CTRL then some (.ok, c.linkCtrlWrite data)
    else if key = K.HLK_CTX_CTRL then some (.ok, c.ctxCtrlWrite data)
    else none
  | 2 =>
    if off = 0x100 || off = 0x104 || off = 0x108 then (if c.cdcBusy then some (.busy, c) else none)
    else if key = K.CDC_JOB_HEAD then some (.ok, c.jobPost m (data % 256))
    else if key = K.CDC_JOB_ABORT then some (.ok, c.jobAbort m (data % 256) (bit data 31))
    else if key = K.CDC_FLUSH then some (.ok, if bit data 0 then c.jobFlush else c)
    else none
  | 4 =>
    if key = K.TLK_PORT_CTRL then some (.ok, c.portCtrlWrite data)
    else if key = K.TLK_PAIR_CTRL then
      let c := c.plainWrite key (withBit data 1 false)
      some (.ok, if bit data 1 then c.pairRelease else c)
    else if key = K.TLK_REMOTE_CTRL then
      if c.is F.TLK_REMOTE_CTRL_BUSY then some (.ok, c)
      else
        let c := c.plainWrite key (withBit data 8 false)
        some (.ok, if bit data 8 then c.remoteGo else c)
    else none
  | 5 =>
    if key = K.RAY_CLUSTER_OUT then
      some (.ok, { c with ray := { c.ray with returning := c.ray.returning ||| (data &&& c.get F.RAY_CLUSTER_OUT_OUT) } })
    else none
  | 7 =>
    if key = K.FST_CONFLICT_CTRL then
      some (.ok, if bit data 0 then
        foldOver (List.range 8) (fun (i : Nat) (c : Chip) =>
          (c.set (F.FST_CONFLICT_CYCLES.ix i) 0).set (F.FST_WAIT_MAX_CYCLES.ix i) 0) c
        else c)
    else none
  | 8 =>
    if off = 0x100 then (if c.bltBusy then some (.busy, c) else none)
    else if key = K.BLT_RING_HEAD then some (.ok, c.bltPost m (data % 256))
    else if key = K.BLT_ABORT then some (.ok, c.bltAbort m (data % 256) (bit data 31))
    else none
  | 10 =>
    if key = K.PCN_TBL_DATA then some (c.pcnTableWrite data)
    else if key = K.PCN_PROBE_SEL then
      -- The first field that starts after this write latches (R283).
      let c := (c.plainWrite key data).set F.PCN_PROBE_B_VALID 0
      some (.ok, { c with pcn := { c.pcn with probeAsked := true, probeArmed := false } })
    else none
  | 12 =>
    if key = K.SEC_AGE_LO then some (.ok, c.ageWrite false data)
    else if key = K.SEC_AGE_HI then some (.ok, c.ageWrite true data)
    else none
  | 13 =>
    if key = K.APL_TBL_DATA then some (c.aplTableWrite data)
    else if key = K.APL_REQ_POST then some (.ok, if bit data 0 then c.aplPost else c)
    else if key = K.APL_ABORT then some (.ok, c.aplAbort data)
    else if key = K.APL_RECOVER then some (.ok, if bit data 0 then c.aplUnfreeze else c)
    else none
  | _ => none

/-- A register of the Keeper region with behaviour of its own. -/
def Chip.keeperRegWrite (c : Chip) (m : Master) (key data : Nat) : Option (Status × Chip) :=
  let off := offOf key
  let i := instOf key
  match blockOf key with
  | 15 =>
    if i = 0 then
      if 0x100 ≤ off && off < 0x140 then
        some (.ok, c.mbxUp (fun b => { b with
          tx := storePut (fun _ => (0 : Word)) b.tx (masterBit m * 16 + (off - 0x100) / 4) (BitVec.ofNat 32 data) }))
      else if key = K.MBX0_TX_POST then some (.ok, c.txPost m data)
      else if key = K.MBX0_EP_RESET then some (c.epResetWrite m none data)
      else if 0x200 ≤ off && off < 0x300 then some (.ok, c.lockWrite m ((off - 0x200) / 4) data)
      else none
    else
      let r := i - 1
      if 0x210 ≤ off && off < 0x320 then some (c.dbSet m r ((off - 0x210) / 4) data)
      else if 0x430 ≤ off && off < 0x540 then some (.ok, c.noticeClr r ((off - 0x430) / 4) data)
      else if off = 0x568 then some (c.rxPop m r data)
      else none
  | 16 => (c.chkWrite i off data).map (fun c => (.ok, c))
  | 17 =>
    if key = K.TIM_RATE then some (c.rateWrite m data)
    else if key = K.TIM_STEP_GO then some (c.stepGo m data)
    else if key = K.TIM_PTP_CTRL then some (.ok, c.ptpCtrlWrite data)
    else if 0x200 ≤ off && off < 0x400 && off % 0x20 = 0 then some (c.trigWrite m ((off - 0x200) / 0x20) data)
    else none
  | 20 =>
    if key = K.PWR_VIN_MIN then some (.ok, if bit data 31 then c.set F.PWR_VIN_MIN_MV (c.get F.PWR_VIN_MV) else c)
    else if key = K.PWR_CAP_CTRL then some (.ok, c.capCtrl data)
    else if key = K.PWR_MOORING_TEST then some (.ok, c.mooringTest data)
    else none
  | _ => none

/-! ### Mirroring on a pair (R427) -/

/-- A host's staged write on a pair with MIRROR 1: the owner refuses it while 256 frames wait, the other member always. -/
def Chip.mirrorRefusal (c : Chip) (m : Master) (key : Nat) : Option Status :=
  let staged := match findReg key with
    | some d => decide (d.stg ≠ 0)
    | none => false
  if !(m = .host0 || m = .host1) || !staged || !c.paired || !c.blockOn 4 || !c.is F.TLK_PAIR_CTRL_MIRROR then none
  else if !c.is F.TLK_PAIR_STATUS_OWN then some .locked
  else if (c.linksOf portP).any (fun l => 256 ≤ ((c.link l).waiting.filter (fun f => f.kind = 0x40)).length) then some .busy
  else some .ok

/-- The owner's copy of a host's staged write. -/
def Chip.mirrorSend (c : Chip) (key data : Nat) : Chip :=
  let plan := c.tick.field + 1 + b2n c.tick.planLocked
  c.sendPort portP 0x40 c.ownId (leBytes 5 (regAddr key) ++ leBytes 4 data ++ leBytes 2 plan)

/-! ### A write -/

/-- After an accepted write: INJECT stores inverted parity in it and clears; else its parity is right. -/
def Chip.afterWrite (c : Chip) (key : Nat) (inject : Bool) : Chip :=
  let bad := c.regs.badParity.filter (· ≠ key)
  if inject then
    ({ c with regs := { c.regs with badParity := bad ++ [key] } }).set ⟨pageOf key + 0x03C, 1, 1, 4⟩ 0
  else { c with regs := { c.regs with badParity := bad } }

/-- What a write that the page lets through does: the header, then the registers with behaviour of their own, then the
access codes. -/
def Chip.writeMeaning (m : Memory) (mst : Master) (key data : Nat) (c : Chip) : Status × Chip :=
  match (if offOf key < 0x100 then c.headerWrite mst (pageOf key) (offOf key) data
    else match c.engineWrite m key data with
      | some r => some r
      | none => c.keeperRegWrite mst key data) with
  | some r => r
  | none => (.ok, c.plainWrite key data)

/-- A host's master. -/
def isHost (mst : Master) : Bool := mst = .host0 || mst = .host1

/-- A write of a mapped register. The boot ROM serves no host's write of one (R86; that it answers LOCKED is a DESIGN CHOICE,
log 91). -/
def Chip.writeReg (m : Memory) (mst : Master) (key data : Nat) (c : Chip) : Chip :=
  let page := pageOf key
  let off := offOf key
  if c.modes.bootRom && isHost mst then c.respond .locked
  else if 0x800 ≤ off then (if c.pageLocked mst key then c.respond .locked else c.respond .ok)
  else if c.pageLocked mst key || wrongMaster mst key then
    -- INDEX moves on after a refused access too (R276).
    ((c.when (decide (key = K.PCN_TBL_DATA)) Chip.pcnIndexStep).when (decide (key = K.APL_TBL_DATA)) Chip.aplIndexStep).respond .locked
  else
    let mirror := c.mirrorRefusal mst key
    match mirror with
    | some .locked => c.respond .locked
    | some .busy => c.respond .busy
    | _ =>
      let inject := c.is ⟨page + 0x03C, 1, 1, 4⟩
      let r := c.writeMeaning m mst key data
      let c := if r.1 = .ok then r.2.afterWrite key inject else r.2
      let c := if r.1 = .ok && mirror.isSome then c.mirrorSend key data else c
      c.respond r.1

/-! ### The bus -/

/-- What an address names: a mapped register's key, mapped memory, or nothing. -/
inductive Target where
  | reg (key : Nat)
  | mem
  | none
  deriving DecidableEq, Repr

/-- The target of an access of one word at `addr`. -/
def Chip.target (c : Chip) (addr : Nat) : Target :=
  if controlBase ≤ addr && addr < controlEnd then
    if c.pageMapped (pageOf (addr - controlBase)) then .reg (addr - controlBase) else .none
  else if c.memMapped (addr / 4 * 4) 4 then .mem
  else .none

/-- The word of a flash image area that an access of the boot ROM's reaches (R86). -/
def Chip.imageTarget (c : Chip) (mst : Master) (addr : Nat) : Option (Nat × Nat) :=
  if c.modes.bootRom && isHost mst then Config.imageWindow addr else none

/-- A word of an image area: as written, else the image's own. -/
def Chip.imageRead (c : Chip) (area off : Nat) : Nat :=
  let i := c.kpr.images.getD area {}
  match i.words.find? (fun e => e.1 = off) with
  | some e => e.2
  | none => Config.imageWord i.base off

/-- A word written to an image area, which takes effect through Boot alone (R86). -/
def Chip.imageWrite (c : Chip) (area off data : Nat) : Chip :=
  c.kprUp (fun k => { k with images := modifyAt k.images area (fun i =>
    let words := (off, data) :: i.words.filter (fun e => e.1 ≠ off)
    { i with header := Config.rewrittenHeader i.base words, signed := Config.rewrittenSigned i.base words
             digest := Config.rewrittenDigest i.base words, words := words }) })

/-- The field-store master under which a master's register access reads SRAM (R206 Table 3). -/
def storeMaster : Master → Nat
  | .keeper => 0
  | .host0 => 1
  | .host1 => 1
  | .tender => 7
  | .partner => 7

/-- A read of `bytes` bytes at a device address by a master: the mapping test, then alignment (R55); `f` says what a read of
memory met. -/
def Chip.busRead (m : Memory) (mst : Master) (addr bytes : Nat) (c : Chip) (f : ReadFault := .clean) : Chip :=
  match c.target addr with
  | .none => match c.imageTarget mst addr with
    | some w => if addr % 4 ≠ 0 || bytes ≠ 4 then c.respond .unaligned else c.respond .ok (c.imageRead w.1 w.2)
    | none => (c.unmapped mst addr).respond .unmapped
  | .reg key => if addr % 4 ≠ 0 || bytes ≠ 4 then c.respond .unaligned else c.readReg m mst key f
  | .mem =>
    if addr % 4 ≠ 0 || bytes ≠ 4 then c.respond .unaligned
    else
      let v := c.loadLE m addr 4
      let r := c.engineReads (entryPage mst) (storeMaster mst) [(addr, 4)] f
      r.2.respond (if r.1 then .parity else .ok) v

/-- A write of the low `bytes` bytes of `data`. -/
def Chip.busWrite (m : Memory) (mst : Master) (addr data bytes : Nat) (c : Chip) : Chip :=
  match c.target addr with
  | .none => match c.imageTarget mst addr with
    | some w =>
      if addr % 4 ≠ 0 || bytes ≠ 4 then c.respond .unaligned else (c.imageWrite w.1 w.2 (data % 2 ^ 32)).respond .ok
    | none => (c.unmapped mst addr).respond .unmapped
  | .reg key => if addr % 4 ≠ 0 || bytes ≠ 4 then c.respond .unaligned else c.writeReg m mst key (data % 2 ^ 32)
  | .mem =>
    if addr % 4 ≠ 0 || bytes ≠ 4 then c.respond .unaligned
    else (c.storeLE addr 4 (data % 2 ^ 32)).respond .ok

/-- Writes of one cycle to one staged register stand in the order Partner, Tender, HOST1, HOST0, Keeper (R24): `c` is the
module after a REGISTER_WRITE of `addr`, `was` before it. Where it lands in the cycle of a write that comes later in that
order, the staged bits stay as that write left them. -/
def Chip.serialised (c was : Chip) (m : Master) (addr : Nat) (same : Bool) : Chip :=
  let key := addr - controlBase
  match (if c.resp.status = .ok && decide (controlBase ≤ addr) then findReg key else none) with
  | none => c
  | some d =>
    if d.stg = 0 then c
    else if same && (match was.regs.last with | some l => decide (l.1 = key ∧ masterBit l.2 < masterBit m) | none => false) then
      c.setw key (BitVec.ofNat 32 (((c.w key).toNat &&& (0xFFFFFFFF - d.stg)) ||| ((was.w key).toNat &&& d.stg)))
    else { c with regs := { c.regs with last := some (key, m) } }

/-- What a write that did not come over the link leaves for its end: the link goes DOWN where ENABLE fell. -/
def Chip.busEnd (c : Chip) : Chip :=
  if c.hlk.downNext then (c.hlkUp (fun h => { h with downNext := false })).linkDown 1 else c

/-- A register command: a write of a register at its key. -/
def Chip.regWrite (mst : Master) (key data : Nat) (m : Memory) (c : Chip) : Chip :=
  (c.busWrite m mst (regAddr key) data 4).busEnd

/-- A register command: a read of a register at its key. -/
def Chip.regRead (mst : Master) (key : Nat) (m : Memory) (c : Chip) (f : ReadFault := .clean) : Chip :=
  c.busRead m mst (regAddr key) 4 f

end Sys2Proof.Machine
end

