-- ==== Sys2Proof/Machine/Packets.lean ====
section
/-!
DEFINITION. Machine/Packets.lean: packets of the Adeak link (R397 to R403): their checks, their execution and their
responses; DATA flits; and the register frames of the tile link (R413, R424, R427).
-/

namespace Sys2Proof.Machine

/-! ### Checks (R397, R400) -/

/-- The virtual channel of a request (Table 5); none for an opcode that the host may not send. -/
def requestVc (op : Nat) : Option Nat :=
  if op = 1 || op = 2 || op = 4 || op = 6 then some 0
  else if op = 3 || op = 5 then some 1
  else if op = 7 || op = 8 then some 2
  else none

/-- LEN, AUX and RDLEN are in range (Table 5). -/
def packetSizesOk (p : Packet) : Bool :=
  match p.op with
  | 1 => p.len = 0 && 1 ≤ p.aux && p.aux ≤ 64
  | 2 => 4 ≤ p.len && p.len ≤ 256 && p.len % 4 = 0
  | 3 => 1 ≤ p.len && p.len ≤ 4144
  | 4 => p.len = 0 && 1 ≤ p.rdlen && p.rdlen ≤ 4096
  | 5 => 1 ≤ p.len && p.len ≤ 4144
  | 6 => p.len = 64 && p.aux ≤ 67
  | _ => p.len = 0

/-- Flits of a packet with LEN data bytes. -/
def packetFlits (len : Nat) : Nat := if len ≤ 48 then 1 else 1 + ceilDiv (len - 48) 64

/-- The context of a packet is enabled. -/
def Chip.ctxEnabled (c : Chip) (ctx : Nat) : Bool := bit (c.w K.HLK_CTX_CTRL).toNat ctx

/-- The reason for which a request is INVALID (BAD_PKT.REASON), 0 for none; `flits` is how many it came in. -/
def Chip.packetFault (c : Chip) (p : Packet) (vc flits : Nat) : Nat :=
  if (requestVc p.op).isNone then 1
  else if requestVc p.op ≠ some vc then 2
  else if !packetSizesOk p then 3
  else if flits ≠ packetFlits p.len then 4
  else if !c.ctxEnabled p.ctx then 5
  else 0

/-- The last INVALID request, latched and counted. -/
def Chip.badPacket (c : Chip) (p : Packet) (vc reason : Nat) : Chip :=
  let c := c.setw K.HLK_BAD_PKT (BitVec.ofNat 32 (p.op % 256 + p.ctx % 2 * 2 ^ 8 + vc % 4 * 2 ^ 9 + reason * 2 ^ 12 + p.tag % 65536 * 2 ^ 16))
  c.count P.HLK 17

/-- An INVALID request: recorded, and answered with REJECT on VC0 and VC1 but for SCENE. -/
def Chip.rejectPacket (c : Chip) (p : Packet) (vc reason : Nat) : Chip :=
  let c := ((c.badPacket p vc reason).irq P.HLK 13).event P.HLK .cont (.own 0x1B)
  if (vc = 0 || vc = 1) && p.op ≠ 5 then c.sendPacket { op := 0xFF, ctx := p.ctx, tag := p.tag, status := Status.invalid.value } else c

/-! ### Responses -/

/-- OUTSTANDING of a context. -/
def outstandingFld (ctx : Nat) : Fld := if ctx = 0 then F.HLK_OUTSTANDING_CTX0 else F.HLK_OUTSTANDING_CTX1

/-- A response to a request. -/
def Chip.reply (c : Chip) (p : Packet) (op status aux : Nat) (data : List Byte) : Chip :=
  c.sendPacket { op := op, ctx := p.ctx, tag := p.tag, status := status, aux := aux, data := data }

/-! ### Register packets (R399) -/

/-- Words read one after another, up to the first refused one: STATUS, the words in order, and the module. A word that comes
with PARITY is read, and PARITY is the STATUS. `f` says what the first of them met. -/
def Chip.readWords (m : Memory) (mst : Master) (f : ReadFault) : Nat → Nat → Chip → Status × List Byte × Chip
  | 0, _, c => (.ok, [], c)
  | n + 1, a, c =>
    let c := c.busRead m mst a 4 f
    let r := c.resp
    if r.status = .ok || r.status = .parity then
      let rest := Chip.readWords m mst .clean n (a + 4) c
      let st := if rest.1 = .ok || rest.1 = .parity then (if r.status = .parity then .parity else rest.1) else rest.1
      (st, leBytes 4 r.data.toNat ++ rest.2.1, rest.2.2)
    else (r.status, [], c)

/-- Words written one after another, up to the first refused one: its STATUS, how many were written, and the module. -/
def Chip.writeWords (m : Memory) (mst : Master) : Nat → Nat → List Byte → Nat → Chip → Status × Nat × Chip
  | 0, _, _, done, c => (.ok, done, c)
  | n + 1, a, d, done, c =>
    let c := c.busWrite m mst a (leNat (d.take 4)) 4
    if c.resp.status = .ok then Chip.writeWords m mst n (a + 4) (d.drop 4) (done + 1) c
    else (c.resp.status, done, c)

/-- REG_RD. -/
def Chip.packetRegRd (m : Memory) (p : Packet) (c : Chip) : Chip :=
  let r := c.readWords m (hostMaster p.ctx) p.fault p.aux p.addr
  let whole := r.1 = .ok || r.1 = .parity
  r.2.2.reply p 0x81 r.1.value 0 (if whole then r.2.1 else [])

/-- REG_WR. -/
def Chip.packetRegWr (m : Memory) (p : Packet) (c : Chip) : Chip :=
  let r := c.writeWords m (hostMaster p.ctx) (p.len / 4) p.addr p.data 0
  (r.2.2.reply p 0x82 r.1.value r.2.1 []).busEnd

/-! ### DMA (R398, R399) -/

/-- Requests of a context accepted and not answered. -/
def Chip.outstand (c : Chip) : Chip :=
  let n := fun ctx => (c.hlk.dma.filter (fun d => d.ctx = ctx && (!d.write || d.ackreq))).length
    + (c.hlk.readQueue.filter (fun p => p.ctx = ctx)).length
  (c.set F.HLK_OUTSTANDING_CTX0 (min 255 (n 0))).set F.HLK_OUTSTANDING_CTX1 (min 255 (n 1))

/-- A DMA job begins: its DRAM accesses join P0's queue with the context as source; accesses to SRAM take effect here, in the
order in which they are issued (R208). -/
def Chip.dmaStart (m : Memory) (c : Chip) (p : Packet) (write : Bool) : Chip :=
  let n := if write then p.len else p.rdlen
  let job := c.hlk.nextJob
  let sram := decide (sramBase ≤ p.addr)
  let d : DmaJob := ⟨job, p.ctx, p.tag, p.addr, n, write, p.ackreq, if sram && !write then c.loads m p.addr n else [],
    if sram && !write then c.stuckLines p.addr n else []⟩
  let c := c.hlkUp (fun h => { h with nextJob := job + 1, dma := h.dma ++ [d] })
  let c := if sram then (if write then c.stores p.addr p.data else c)
    else if write then c.askWrite 0 p.ctx job p.addr p.data
    else c.askRead 0 p.ctx job p.addr n
  c.outstand

/-- DMA_WR: it writes memory, or is refused as a whole. -/
def Chip.packetDmaWr (m : Memory) (p : Packet) (c : Chip) : Chip :=
  if c.memMapped p.addr p.len then c.dmaStart m p true
  else
    let c := c.unmapped (hostMaster p.ctx) p.addr
    if p.ackreq then c.reply p 0x83 Status.unmapped.value 0 [] else c

/-- Reads of a context in progress. -/
def Chip.readsRunning (c : Chip) (ctx : Nat) : Nat := (c.hlk.dma.filter (fun d => !d.write && d.ctx = ctx)).length

/-- RD_MAX (0 taken as 1). -/
def Chip.rdMax (c : Chip) : Nat := max 1 (c.get F.HLK_DMA_CTRL_RD_MAX)

/-- DMA_RD: it starts, waits behind RD_MAX reads of its context, or is refused as a whole. -/
def Chip.packetDmaRd (m : Memory) (p : Packet) (c : Chip) : Chip :=
  if !c.memMapped p.addr p.rdlen then
    (c.unmapped (hostMaster p.ctx) p.addr).reply p 0x84 Status.unmapped.value 0 []
  else if c.rdMax ≤ c.readsRunning p.ctx || c.hlk.readQueue.any (fun q => q.ctx = p.ctx) then
    (c.hlkUp (fun h => { h with readQueue := h.readQueue ++ [p] })).outstand
  else c.dmaStart m p false

/-- The accesses of a job have all been served. -/
def Chip.dmaServed (c : Chip) (job : Nat) : Bool := !c.dram.reqs.any (fun r => r.job = job && r.port = 0)

/-- Waiting reads start as far as RD_MAX allows. -/
def Chip.readNext (m : Memory) (c : Chip) (ctx : Nat) : Chip :=
  match c.hlk.readQueue.find? (fun q => q.ctx = ctx) with
  | some p =>
    if c.rdMax ≤ c.readsRunning ctx then c
    else (c.hlkUp (fun h => { h with readQueue := h.readQueue.erase p })).dmaStart m p false
  | none => c

/-- DMA_WR_COMPLETE of a job: DMA_WR_CPL goes out after its last write has landed. -/
def Chip.dmaWrComplete (job : Nat) (c : Chip) : Chip :=
  match c.hlk.dma.find? (fun d => d.job = job && d.write) with
  | none => c
  | some d =>
    if !c.dmaServed job then c
    else
      let c := (c.hlkUp (fun h => { h with dma := h.dma.erase d })).outstand
      if d.ackreq then c.reply { op := 3, ctx := d.ctx, tag := d.tag } 0x83 0 0 [] else c.pump

/-- DMA_RD_COMPLETE of a job: its data goes out with its TAG. `f` says what a read of SRAM met. -/
def Chip.dmaRdComplete (m : Memory) (job : Nat) (f : ReadFault) (c : Chip) : Chip :=
  match c.hlk.dma.find? (fun d => d.job = job && !d.write) with
  | none => c
  | some d =>
    if !c.dmaServed job then c
    else
      let parts := c.dram.done.filter (fun x => x.job = job)
      let sram := sramBase ≤ d.addr
      let data := if sram then d.data
        else (accesses d.addr d.len).flatMap (fun a => ((parts.find? (fun x => x.addr = a.1)).map (·.data)).getD [])
      let bad := stuckFaults d.stuck [(d.addr, d.len)] f
      let r := if sram then (bad.any (·.2), c.readFaults P.HLK 1 bad) else (parts.any (·.bad), c)
      let c := { r.2 with dram := { r.2.dram with done := r.2.dram.done.filter (fun x => x.job ≠ job) } }
      let c := c.hlkUp (fun h => { h with dma := h.dma.erase d })
      let c := c.readNext m d.ctx
      c.outstand.reply { op := 4, ctx := d.ctx, tag := d.tag } 0x84 (if r.1 then Status.parity.value else 0) 0 data

/-! ### The other requests (R401, R403) -/

/-- MBX_POST. -/
def Chip.packetMbx (p : Packet) (c : Chip) : Chip :=
  let r := c.post (1 + p.ctx) p.aux p.far p.data
  r.2.2.reply p 0x86 r.1.value p.aux []

/-- TICK: its arrival is latched, and it marks the next sector-0 tick where the tick source is HOST. -/
def Chip.packetTick (c : Chip) : Chip :=
  let t := c.arrival
  let c := ((c.set F.HLK_TICK_TS_LO_NS t.2).set F.HLK_TICK_TS_HI_S t.1).count P.HLK 19
  if c.act F.TIM_TICK_CTRL_SRC ≠ 2 || c.mode = .hold then c
  else
    let ns := t.2 + 1000 * max 50 (c.act F.TIM_TICK_CTRL_HOST_DELAY)
    { c with tick := { c.tick with hostTarget := some (t.1 + ns / 1000000000, ns % 1000000000) } }

/-- TIME_REQ: answered with its arrival and the response's departure. -/
def Chip.packetTime (p : Packet) (c : Chip) : Chip :=
  let t2 := c.arrival
  let t3 := c.timePlus 0
  c.reply p 0x88 0 0 (leBytes 4 t2.2 ++ leBytes 4 t2.1 ++ leBytes 4 t3.2 ++ leBytes 4 t3.1)

/-- A valid request executed. -/
def Chip.packetRun (m : Memory) (p : Packet) (c : Chip) : Chip :=
  match p.op with
  | 1 => c.packetRegRd m p
  | 2 => c.packetRegWr m p
  | 3 => c.packetDmaWr m p
  | 4 => c.packetDmaRd m p
  | 5 => c.scenePacket p.ctx p.start p.data
  | 6 => c.packetMbx p
  | 7 => c.packetTick
  | _ => c.packetTime p

/-- A request that has arrived whole on virtual channel `vc` in `flits` flits: while Hold stops execution it is discarded and
counted; an INVALID one is discarded (R400, R405). The boot ROM serves register packets alone (R86). -/
def Chip.packet (m : Memory) (p : Packet) (vc flits : Nat) (c : Chip) : Chip :=
  if c.linkState ≠ 4 then c
  else if c.hlk.stopped then c.badPacket p vc 6
  else
    let why := c.packetFault p vc flits
    if why ≠ 0 then c.rejectPacket p vc why
    else if c.modes.bootRom && !(p.op = 1 || p.op = 2) then c
    else c.packetRun m p

/-- A request of one opcode as a command of its own: it arrives on its own virtual channel in its own number of flits. -/
def Chip.request (op : Nat) (p : Packet) (m : Memory) (c : Chip) : Chip :=
  let p := { p with op := op, len := p.data.length, ctx := p.ctx % 2 }
  c.packet m p ((requestVc op).getD 0) (packetFlits p.len)

/-! ### DATA flits (R393, R395, R397) -/

/-- The header in a packet's first payload. -/
def readHeader (b : List Byte) : Packet :=
  let w := fun i n => leNat ((b.drop i).take n)
  { op := w 0 1, ctx := w 1 1 % 2, start := bit (w 1 1) 1, ackreq := bit (w 1 1) 2, tag := w 2 2, len := w 4 2
    status := w 6 1, aux := w 7 1, addr := w 8 5, rdlen := w 13 2, far := w 15 1 }

/-- Flits that a header calls for: a LEN out of every range takes one. -/
def headerFlits (p : Packet) : Nat := if p.len ≤ 4144 then packetFlits p.len else 1

/-- A payload accepted on a virtual channel: with the last of its packet the packet executes, and its buffers are freed. -/
def Chip.dataPayload (m : Memory) (vc : Nat) (payload : List Byte) (c : Chip) : Chip :=
  let before := ((c.hlk.parts.find? (fun e => e.1 = vc)).map (·.2)).getD []
  let all := before ++ [payload]
  let head := readHeader (all.headD [])
  let need := headerFlits head
  let others := c.hlk.parts.filter (fun e => e.1 ≠ vc)
  if all.length < need then c.hlkUp (fun h => { h with parts := others ++ [(vc, all)] })
  else
    let c := c.hlkUp (fun h => { h with parts := others })
    let p := { head with data := (all.flatten.drop 16).take head.len }
    (c.packet m p vc need).freeBuffers vc need

/-- DATA_FLIT. -/
def Chip.dataFlit (l : List Byte) (m : Memory) (c : Chip) : Chip :=
  if c.linkState ≠ 4 then c
  else match readFlit l with
    | none => c.flitLost l
    | some (w, payload) =>
      let vc := w / 2 ^ 24 % 4
      if w / 2 ^ 26 % 4 ≠ 0 then c
      else if w % 4096 ≠ c.get F.HLK_SEQ_STATUS_RX_EXPECT then c.sendNak
      else if myBuffers.getD vc 0 ≤ c.hlk.held.getD vc 0 + c.hlk.owed.getD vc 0 then c.linkProtocol
      else
        let c := (c.set F.HLK_SEQ_STATUS_RX_EXPECT (w % 4096 + 1)).hlkUp (fun h => { h with
          nak := false, rxCount := h.rxCount + 1, held := modifyAt h.held vc (· + 1) })
        let r := c.flitHeader w
        if r.1 then r.2.dataPayload m vc payload else r.2

/-! ### Register frames of the tile link (R413, R424) -/

/-- The master that a register frame of a port acts as. -/
def frameMaster (p : Nat) : Master := if p = portP then .partner else .tender

/-- TL_REG_RD: a register frame for this module reads as the Tender or the partner and is answered; else it is forwarded. -/
def Chip.tileRegRd (l : Nat) (frame : List Byte) (f : ReadFault) (m : Memory) (c : Chip) : Chip :=
  c.tileMsg l frame [0x30] (fun kind p id d c =>
    match c.tileForward kind p id d with
    | (false, c) => c
    | (true, c) =>
      let c := c.busRead m (frameMaster p) (ob d 0 5) 4 f
      c.tileAnswer 0x32 p id (leBytes 1 c.resp.status.value ++ leBytes 4 c.resp.data.toNat))

/-- TL_REG_WR. -/
def Chip.tileRegWr (l : Nat) (frame : List Byte) (m : Memory) (c : Chip) : Chip :=
  c.tileMsg l frame [0x31] (fun kind p id d c =>
    match c.tileForward kind p id d with
    | (false, c) => c
    | (true, c) =>
      let c := (c.busWrite m (frameMaster p) (ob d 0 5) (ob d 5 4) 4).busEnd
      c.tileAnswer 0x32 p id (leBytes 1 c.resp.status.value ++ leBytes 4 0))

/-- MIRROR: the owner's host write is staged in the plan it is tagged with: the open one, or the one after it. -/
def Chip.tileMirror (l : Nat) (frame : List Byte) (c : Chip) : Chip :=
  c.tileMsg l frame [0x40] (fun _ p _ d c =>
    let addr := ob d 0 5
    let data := ob d 5 4
    let open_ := c.tick.field + 1 + b2n c.tick.planLocked
    if p ≠ portP || !c.paired || c.is F.TLK_PAIR_STATUS_OWN then c
    else match c.target addr with
      | .reg key =>
        if 0x800 ≤ offOf key then c
        else if 0 < signedDiff 16 (ob d 9 2) (open_ % 65536) then
          c.tlkUp (fun t => { t with mirrored := t.mirrored ++ [(key, data)] })
        else c.plainWrite key data
      | _ => c)

end Sys2Proof.Machine
end

