-- ==== Sys2Proof/Machine/Plan.lean ====
section
/-!
DEFINITION. Machine/Plan.lean: the plan lock (R15, R17), the commit at the field tick (R10, R15, R18), the block resets and
the re-fold that a commit performs, and the synthesis deadline (R27).
-/

namespace Sys2Proof.Machine

/-! ### Plan lock: staged values are taken (R15, R22) -/


/-- The key's staged value becomes its locked value. -/
def Chip.lockKey (c : Chip) (key : Nat) (w : Word) : Chip :=
  let c := c.setLocked key w
  { c with regs := { c.regs with waiting := putLast c.regs.waiting key } }

/-- A new TIMING.MODE may commit: nothing that changes the raster is under way (R219). -/
def Chip.darkFree (c : Chip) : Bool := c.raster && c.settled && !c.modes.due

/-- Every staged value that changed since the last lock is taken; `frame` where the coming tick starts a frame. Elsewhere
a new TICK_CTRL.SRC, a new MAP_MASK and a new TIMING.MODE wait on (R11, R219, R370). -/
def Chip.takeStaged (c : Chip) (frame : Bool) : Chip :=
  let src := F.TIM_TICK_CTRL_SRC
  let stay := fun (c : Chip) (k : Nat) => (!frame || decide (k = K.SCN_TIMING) && !c.darkFree) && c.frameHeld k
  let keys := c.regs.dirty
  let c := { c with regs := { c.regs with dirty := keys.filter (stay c) } }
  foldOver keys (fun (k : Nat) (c : Chip) =>
    if stay c k && k ≠ K.TIM_TICK_CTRL then c
    else if stay c k then c.lockKey k (fldPut (c.w k) src (c.act src))
    else c.lockKey k (c.w k)) c

/-! ### Plan lock: the blocks judge their locked sets (R17) -/

/-- The field-encode ratio fits the timing mode (R145). -/
def ratioOk (ratio id : Nat) : Bool := ratio = 0 || (4 ≤ id && id ≤ 8) || (11 ≤ id && id ≤ 13)

/-- What makes a block's locked set invalid: the page, the first offending offset and the block's reason, judged against
the timing mode `id` with figures `t` that commits in the same plan. -/
def Chip.lockFault (c : Chip) (id : Nat) (t : Timing) (block : Nat) : Option (Nat × Nat × Nat) :=
  let at_ := fun (page : Nat) (o : Option Nat) => o.map (fun off => (page, off, 0))
  let why := fun (page reason off : Nat) => if reason = 0 then none else some (page, off, reason)
  match block with
  | 1 => at_ P.HLK c.sceneRingBad
  | 2 => if ratioOk (c.lck F.CDC_FIELD_CTRL_RATIO) id then none else some (P.CDC, 0x120, 0)
  | 3 => match c.memBad with
    | some off => some (P.MEM, off, 0)
    | none => (List.range 8).findSome? (fun ch => at_ (memPage ch) (c.memChanBad ch))
  | 4 => at_ P.TLK (c.tileBad id)
  | 5 => at_ P.RAY (c.rayBad id)
  | 6 => let r := lensReason c.lck c.lck id t; why P.LNS r (lensReasonOffset c.lck t r)
  | 7 => at_ P.FST (c.fstBad id t)
  | 8 => let r := c.bltReason t; why P.BLT r.1 r.2
  | 9 => let r := c.scnReason id t; why P.SCN r.1 r.2
  | 10 => let r := c.pcnReason id t; why P.PCN r (pcnReasonOffset r)
  | 11 => at_ P.SER c.serBad
  | 12 => let r := c.secReason t; why P.SEC r.1 r.2
  | 13 => let r := c.aplReasonAtLock t; why P.APL r.1 r.2
  | 17 => if c.lck F.TIM_TICK_CTRL_SRC = 3 then some (P.TIM, 0x180, 0) else none
  | _ => none

/-- CHECK_INFO.REASON of the blocks that have one. -/
def reasonFld : Nat → Option Fld
  | 6 => some F.LNS_CHECK_INFO_REASON
  | 8 => some F.BLT_CHECK_INFO_REASON
  | 9 => some F.SCN_CHECK_INFO_REASON
  | 10 => some F.PCN_CHECK_INFO_REASON
  | 12 => some F.SEC_CHECK_INFO_REASON
  | 13 => some F.APL_CHECK_INFO_REASON
  | _ => none

/-- A block's whole locked set is rejected: its active values will stay. Of a block with several pages, the offending page
and every page that held locked values show STAGE.REJECTED (R17 says "that block's page"; DESIGN CHOICE, log 88). -/
def Chip.rejectSet (c : Chip) (block page : Nat) : Chip :=
  -- Each page of SER rejects its own set alone (R305).
  let keys := c.regs.waiting.filter (fun k => decide (blockOf k = block) && (block ≠ 11 || pageOf k = page))
  let c := foldOver keys (fun (k : Nat) (c : Chip) => c.setLocked k (c.aw k)) c
  { c with regs := { c.regs with rejectNow := (c.regs.rejectNow ++ page :: keys.map pageOf).eraseDups } }

/-- The other blocks against whose values a block judges its own: RAY's ranges for LNS, the RATIO, the RAY ranges and the
lens grid for FST, the layer's geometry for BLT, and every area R214 protects for SCN. -/
def judgedWith : Nat → List Nat
  | 6 => [5]
  | 7 => [2, 5, 6]
  | 8 => [13]
  | 9 => [2, 5, 6, 7]
  | _ => []

/-- One powered block judges its locked values, where it or a block it is judged with holds some for this plan or the timing
mode changes, and it has not rejected them already. -/
def Chip.judgeBlock (c : Chip) (moves : Bool) (block : Nat) : Chip :=
  if !c.blockOn block || c.regs.rejectNow.any (fun p => blockOf p = block)
      || !(moves || c.regs.waiting.any (fun k => (block :: judgedWith block).contains (blockOf k))) then c
  else
    let id := c.lck F.SCN_TIMING_MODE
    let r := c.lockFault id ((c.timingOf id).getD c.timing) block
    let c := match reasonFld block with
      | some f => c.set f ((r.map (·.2.2)).getD 0)
      | none => c
    match r with
    | some (page, off, _) => (c.rejectSet block page).event page .cont .invalidPlan 0xFFF 2 off
    | none => c

/-- Blocks in the order in which they judge: those whose values the others are judged against come first. -/
def judgeOrder : List Nat := [13, 2, 5, 6, 7, 9, 1, 3, 4, 8, 10, 11, 12, 17]

/-- Every block judges; while one rejected its set, whose active values stay, the others judge once more against what will
now commit (R17 says that each block checks its own values; DESIGN CHOICE, log 26). -/
def Chip.judgeAll (moves : Bool) : Nat → Chip → Chip
  | 0, c => c
  | n + 1, c =>
    let d := foldOver judgeOrder (fun (b : Nat) (c : Chip) => c.judgeBlock moves b) c
    if d.regs.rejectNow = c.regs.rejectNow then d else d.judgeAll moves n

/-- Mirrored writes for the plan after the one that locked join it now (R427). -/
def Chip.applyMirrored (c : Chip) : Chip :=
  let l := c.tlk.mirrored
  foldOver l (fun (e : Nat × Nat) (c : Chip) => c.plainWrite e.1 e.2) (c.tlkUp (fun t => { t with mirrored := [] }))

/-- Keeper firmware grants a requested training by staging QUIET: RETRAIN requests ahead of TRACK, the lowest channel first
(R381). It stages ahead of a plan lock, once the windows it last granted are over (DEDUCED, log 99). -/
def Chip.quietStage (c : Chip) : Chip :=
  if !c.firmware || !c.blockOn 3 || c.dram.quiet.isSome || c.regs.dirty.contains K.MEM0_QUIET || c.get F.MEM0_QUIET_CHANNEL ≠ 0
  then c
  else
    let first := fun (n : Nat) => c.dram.live.find? (fun ch => bit n ch)
    let grant := fun (ch kind : Nat) => (c.stage F.MEM0_QUIET_CHANNEL (ch + 1)).stage F.MEM0_QUIET_KIND kind
    match first (c.get F.MEM0_TRAIN_REQ_RETRAIN), first (c.get F.MEM0_TRAIN_REQ_TRACK) with
    | some ch, _ => grant ch 1
    | none, some ch => grant ch 0
    | none, none => c

/-- PLAN_LOCK, 40 µs before the tick: while a raster runs, or in the training slot before the first tick of a new one. -/
def Chip.planLock (c : Chip) : Chip :=
  if !(c.raster || c.inSlot) || c.tick.planLocked then c
  else
    let c := c.tileLock.modeLock.quietStage
    let c := c.takeStaged (decide (c.sectorAhead 1 = 0))
    let moves := decide (c.lck F.SCN_TIMING_MODE ≠ c.act F.SCN_TIMING_MODE)
    let c := c.judgeAll moves judgeOrder.length
    let c := c.modeVerdict (c.regs.rejectNow.contains P.SCN)
    let c := (c.when (c.blockOn 10) Chip.odBandSelect).applyMirrored
    { c with tick := { c.tick with planLocked := true } }

/-! ### The commit: what the ended interval leaves (R29) -/

/-- BUDGET of every powered page but those of MBX and CHK. -/
def Chip.budgetLatch (c : Chip) (use : List (Nat × Nat)) : Chip :=
  let pages := c.blocksOn.flatMap (fun b => if b = 15 || b = 16 then [] else (instancesOf b).map (mkPage b))
  foldOver pages (fun (p : Nat) (c : Chip) =>
    let v := min 2047 (storeGet (fun _ => 0) use p)
    let most : Fld := ⟨p + 0x30, 16, 11, 4⟩
    (c.set ⟨p + 0x30, 0, 11, 4⟩ v).set most (max v (c.get most))) c

/-- A 32-bit field that saturates at its largest value. -/
def sat32 (n : Nat) : Nat := min n (2 ^ 32 - 1)

/-- Figures of the ended interval that the blocks report. -/
def Chip.intervalFigures (c : Chip) (io : CommitIn) : Chip :=
  let c := c.when (c.blockOn 3) (fun c =>
    let c := foldOver (List.range 8) (fun (p : Nat) (c : Chip) => c.set (F.MEM0_PORT_BYTES_UNITS.ix p) (io.portUnits.getD p 0)) c
    foldOver c.dram.live (fun (ch : Nat) (c : Chip) =>
      let u := io.chanUnits.getD ch (0, 0)
      (c.count (memPage ch) 0 u.1).count (memPage ch) 1 u.2) c)
  let c := c.when (c.blockOn 5) (fun c => (c.set F.RAY_STALL_LAST_CYCLES (sat32 io.stalls)).count P.RAY 10 io.stalls)
  let c := c.when (c.blockOn 7) (fun c =>
    foldOver (List.range 8) (fun (i : Nat) (c : Chip) => c.incWrap (F.FST_CONFLICT_CYCLES.ix i) (io.conflicts.getD i 0)) c)
  let c := c.when (c.blockOn 8) (fun c =>
    let c := (c.set F.BLT_PIX_LAST_PIXELS c.blt.pixels).set F.BLT_HOLD_LAST_CYCLES (sat32 io.bltHeld)
    let c := (c.set F.BLT_RD_LAST_UNITS io.bltReads).set F.BLT_WR_LAST_UNITS io.bltWrites
    { c with blt := { c.blt with pixels := 0 } })
  let c := c.when (c.blockOn 11) (fun c => c.set F.SER0_SLACK_MIN_NS (min 65535 io.slackNs))
  let c := foldOver io.rails (fun (r : Nat × Nat × Nat) (c : Chip) =>
    if r.1 < 12 then (c.set (F.PWR_RAIL_MV.ix r.1) (min 65535 r.2.1)).set (F.PWR_RAIL_CURRENT.ix r.1) (min 65535 r.2.2) else c) c
  let c := c.set F.PWR_INPUT_POWER_P (min 65535 io.inputPower)
  let c := c.when (c.blockOn 1) (fun c =>
    let c := foldOver io.hostMarkers (fun (e : Nat × Nat) (c : Chip) =>
      if e.1 < 16 then c.incWrap (F.HLK_LANE_ERR_MKR.ix e.1) e.2 else c) c
    c.when (c.linkState = 0 && c.is F.HLK_TEST_CTRL_PRBS) (fun c => c.incSat F.HLK_TEST_RESULT_ERRORS io.prbsErrors))
  c.when (c.blockOn 4) (fun c => foldOver io.tileMarkers (fun (e : Nat × Nat) (c : Chip) =>
    if e.1 < 8 then c.incWrap (F.TLK_LANE_ERR_MKR.ix e.1) e.2 else c) c)

/-- The ended field is judged: its lanes (R300), with a freeze of the region layer where one of its lanes was masked
(R354), its Daymark signatures (R239), and the tiles of each viewer zone (R196). -/
def Chip.fieldEnd (c : Chip) : Chip :=
  if !c.scan.live then c
  else
    let was := c.laneMask 3
    -- A field that R280 skips is not judged (R300).
    let c := c.when (c.blockOn 11 && !c.scan.skip) (fun c => c.lanesJudge c.tick.field)
    let c := c.when (c.blockOn 13 && decide (c.laneMask 3 - (c.laneMask 3 &&& was) ≠ 0)) Chip.aplFreeze
    let c := c.daymarkUpdate c.tick.sector
    c.when (c.blockOn 6) Chip.zoneLatch

/-! ### The commit: locked values become active, and the counters (R10, R15) -/

/-- The locked values become active; rejected sets raise STAGE.REJECTED and INT_RAW bit 5 (R25, R61). -/
def Chip.activate (c : Chip) : Chip :=
  let keys := c.regs.waiting
  let bad := c.regs.rejectNow
  let c := foldOver keys (fun (k : Nat) (c : Chip) => c.setAct k (c.lw k)) c
  -- OWNER.DRIVE is no staged field: a write of it takes effect at the next commit (R322, R356).
  let c := foldOver ([K.SEC_OWNER, K.APL_OWNER].filter (fun k => !c.regs.dirty.contains k)) (fun (k : Nat) (c : Chip) => c.setAct k (c.w k)) c
  let c := { c with regs := { c.regs with waiting := [], rejected := bad, rejectNow := [] } }
  foldOver bad (fun (p : Nat) (c : Chip) => c.irq p 5) c

/-- The field and the frame number at the tick that starts sector `s`: the next ones, or a wall's (R415). -/
def Chip.numbersNext (c : Chip) (s : Nat) : Nat × Nat :=
  let n := c.tileJump.getD (c.tick.field + 1, if s = 0 then c.tick.frame + 1 else c.tick.frame)
  (n.1 % 2 ^ 32, n.2 % 2 ^ 32)

/-- The counters moved on to a tick: its field and frame number, and no plan is locked. -/
def Chip.numbered (c : Chip) (n : Nat × Nat) : Chip :=
  { c with tick := { c.tick with field := n.1, frame := n.2, planLocked := false } }

/-- The counters at the tick that starts sector `s`. -/
def Chip.advance (c : Chip) (s : Nat) (n : Nat × Nat) : Chip :=
  let c := c.numbered n
  { c with tick := { c.tick with
    sector := s, hostTarget := if s = 0 then none else c.tick.hostTarget
    hostBase := if s = 0 then c.tick.hostTarget else c.tick.hostBase } }

/-! ### Block resets (R57, R117, R352, R439, R509) -/

/-- Header registers that a block reset leaves: the error record and PAGE_LOCK. -/
def keptAtReset (off : Nat) : Bool := (0x020 ≤ off && off < 0x030) || off = 0x038

/-- What a block holds beyond its registers, after a reset: queues are empty. -/
def Chip.resetContent (c : Chip) (block : Nat) : Chip :=
  match block with
  | 10 => c
  | 12 =>
    let c := c.litCut (fun _ => true)
    { c with sec := { charge := c.sec.charge, moored := c.sec.moored } }
  | 16 => { c with chk := [] }
  | 19 => { c with thm := {} }
  | 3 => { c with dram := { live := c.dram.live, refolds := c.dram.refolds, retire := c.dram.retire, rejoin := c.dram.rejoin } }
  | b => c.blockClear b

/-- A block reset is performed. -/
def Chip.blockReset (m : Memory) (c : Chip) (block : Nat) : Chip :=
  let pages := fun (p : Nat) => decide (blockOf p = block)
  if block = 17 then c.timReset
  else if block = 18 then (c.resetPages pages keptAtReset).calReset
  else
    let c := if block = 2 then c.jobsDiscard m else if block = 8 then c.bltDiscard m else c
    let c := c.resetContent block
    let node := c.w K.TLK_NODE_CFG
    let pair := c.w K.TLK_PAIR_STATUS &&& 3
    let c := c.resetPages pages keptAtReset
    if block = 4 then (c.setw K.TLK_NODE_CFG node).setw K.TLK_PAIR_STATUS pair
    else if block = 3 then c.mapStatus
    else if block = 2 then c.cdcFlags
    else if block = 8 then c.bltFlags
    else c

/-- APL's reset begins to stop its updates, and is performed once nothing is in flight (R352). -/
def Chip.aplResetCommit (c : Chip) : Chip :=
  let c := if c.apl.resetting then c else (c.aplUp (fun a => { a with resetting := true })).aplDropQueue.aplStopRuns
  if !c.apl.runs.isEmpty then c
  else
    let c := c.aplClear.resetPages (fun p => decide (blockOf p = 13)) keptAtReset
    { c with regs := { c.regs with inReset := c.regs.inReset.filter (fun p => blockOf p ≠ 13) } }

/-- The block resets asked for since the last commit. -/
def Chip.blockResets (m : Memory) (c : Chip) : Chip :=
  let blocks := (c.regs.inReset.map blockOf).eraseDups.filter (fun b => c.blockOn b)
  let c := { c with regs := { c.regs with inReset := c.regs.inReset.filter (fun p => blockOf p = 13 && c.blockOn 13) } }
  let c := c.when (!blocks.isEmpty) Chip.debugLock
  foldOver blocks (fun (b : Nat) (c : Chip) => if b = 13 then c.aplResetCommit else c.blockReset m b) c

/-! ### The re-fold (R370, R382 to R384) -/

/-- The committed MAP_MASK words. -/
def Chip.mapMasks (c : Chip) : List Nat := (List.range 8).map c.mapMask

/-- A re-fold falls in this commit: at a frame boundary a channel retires or rejoins or a mask changes, or a reset of MEM
changes a mask. -/
def Chip.refoldDue (c : Chip) (frame : Bool) : Bool :=
  c.blockOn 3 && ((frame && (!c.dram.retire.isEmpty || !c.dram.rejoin.isEmpty
    || c.regs.waiting.any (fun k => isMapMask k && decide (c.lw k ≠ c.aw k)))) || c.regs.inReset.any (fun p => blockOf p = 3))

/-- A staged field cleared by hardware in its active copy. -/
def Chip.clearAct (c : Chip) (f : Fld) : Chip := c.setAct f.key (fldPut (c.aw f.key) f 0)

/-- Keeper firmware reloads what the profile keeps in DRAM, and stages DEMURA EN again where it was on. -/
def Chip.reloadTables (c : Chip) (demura : Bool) : Chip :=
  match c.kpr.active with
  | none => c
  | some p =>
    if !c.firmware then c
    else
      let l := (Config.profileMemory p.digest).filter (fun e => decide (e.1 < sramBase) && c.memMapped e.1 e.2.length)
      let c := foldOver l (fun (e : Nat × List Byte) (c : Chip) => c.stores e.1 e.2) c
      c.when (demura && c.blockOn 10) (fun c => c.stage F.PCN_DEMURA_CTRL_EN 1)

/-- The map is folded anew; `demura` says whether the demura table was in use. -/
def Chip.refold (m : Memory) (c : Chip) : Chip :=
  let gone := c.dram.retire
  let live := (List.range 8).filter (fun ch => (c.dram.live.contains ch && !gone.contains ch) || c.dram.rejoin.contains ch)
  let demura := c.on F.PCN_DEMURA_CTRL_EN
  let c := (c.blockReset m 2).blockReset m 8
  let c := c.fillMem (.refold c.dram.refolds)
  let c := { c with dram := { c.dram with
    live := live, retire := [], rejoin := [], refolds := c.dram.refolds + 1, reqs := []
    quiet := c.dram.quiet.filter (fun q => live.contains q.ch) } }
  let c := ((c.mapStatus.count P.MEM 3).irq P.MEM 6).sceneDropAll
  let c := c.when (decide (c.dramLimit < c.ringBase + 3 * c.slotBytes)) (fun c => c.clearAct F.HLK_SCENE_CTRL_ENABLE)
  let c := foldOver [0, 1, 2, 3] (fun (i : Nat) (c : Chip) => c.clearAct (F.SCN_PLANE_CTRL_EN.ix i)) c
  (c.clearAct F.PCN_DEMURA_CTRL_EN).reloadTables demura

/-! ### The commit: the scene and synthesis (R18, R107, R117, R169, R174, R198, R210) -/

/-- SCENE_CTRL.ENABLE moved at this commit. -/
def Chip.sceneEnable (c : Chip) (was : Bool) : Chip :=
  let now := c.on F.HLK_SCENE_CTRL_ENABLE
  if now = was then c
  else if now then c.ringUp (fun r => { r with lastAlive := none }) else c.sceneDisable

/-- The scene bound at the tick that starts synthesis of sector 0 for frame number `n`; a new frame makes every tile
context STALE and empties the texel caches (R107, R149, R169, R263). -/
def Chip.bindScene (c : Chip) (n : Nat) : Chip :=
  let held := c.bindHeld
  let waits := c.ring.ready.isSome || c.ring.queued.isSome
  let c := c.when (held && waits) (fun c => c.count P.TLK 9)
  let bound := c.w (P.HLK + 0x44 + 4)
  let c := (c.sceneBind n held).toneSelect
  let new := decide (c.w (P.HLK + 0x44 + 4) ≠ bound)
  let c := { c with ray := { c.ray with parityFills := [] } }
  if new then c.dropCaches.fillMem (.stale c.ctxBase)
  else { c with ray := { c.ray with transparent := [] } }

/-- A rejected LNS set that does not cover a newly committed mode fills every field with code 0; an accepted set ends that
(R198). `id` is the new mode where this commit brings one. -/
def Chip.lensCover (c : Chip) (moved : Bool) (judged : Bool) : Chip :=
  let bad := c.regs.rejected.contains P.LNS
  let id := c.act F.SCN_TIMING_MODE
  let t := (c.timingOf id).getD c.timing
  if bad && moved && decide (lensReason c.act c.act id t ≠ 0) then
    ({ c with lens := { c.lens with rejectFill := true } } : Chip).event P.LNS .isol .invalidPlan 0xFFF 0 0 true
  else if judged && !bad then { c with lens := { c.lens with rejectFill := false } }
  else c

/-- Synthesis side of the commit that starts the field of `c.tick.sector`; `old` is the module before the commit. -/
def Chip.synthesisCommit (c : Chip) (m : Memory) (old : Chip) : Chip :=
  if !c.blockOn 7 then c
  else
    let idle := old.is F.RAY_FIELD_STATUS_FOLDED_IDLE
    let fold := idle && decide (c.tick.sector % 2 = 1)
    -- Flat under a light-field timing mode shows one field in every sector field (R69; DEDUCED, log 42).
    let same := c.flatLf && decide (c.tick.sector ≠ 0)
    let c := (c.bufferSwap (c.holdNoSwap || fold || same)).fstSizes
    let c := c.holdCommit m
    if !c.blockOn 5 then c
    else
      let c := c.clusterReturnCommit
      let c := c.when (decide (c.ctxBase ≠ old.ctxBase)) Chip.contextInit
      let c := if c.l2Base = old.l2Base then c else { c with ray := { c.ray with lines := [] } }
      let moved := decide (c.act F.SCN_TIMING_MODE ≠ old.act F.SCN_TIMING_MODE)
      let judged := moved || old.regs.waiting.any (fun k => blockOf k = 6)
      let c := c.lensCover moved judged
      -- Nothing is synthesised for the Safe picture (R70).
      if c.modeId = 0 || c.modeId = 0x0E then c
      else
        let s := c.synthSector
        let c := c.when (decide (s = 0) && c.blockOn 1) (fun c => c.bindScene ((c.tick.frame + 1) % 2 ^ 32))
        c.synthesisStart m s

/-! ### The commit: scan-out and conditioning (R212, R226, R227, R231, R240, R280) -/

/-- Overdrive is bypassed in the first field that follows a new OH4 base, a new timing mode or a clear of the store (R212);
`odd` is a field that R280 skips. -/
def Chip.bypassCommit (c old : Chip) (odd : Bool) : Chip :=
  let moved := decide (c.oh4Base ≠ old.oh4Base) || decide (c.modeId ≠ old.modeId)
  let want := c.pcn.bypassNext || moved
  if c.dark || odd || !c.blockOn 7 then { c with pcn := { c.pcn with bypass := false, bypassNext := want } }
  else
    let c := { c with pcn := { c.pcn with bypass := want, bypassNext := false } }
    c.when want (fun c => c.count P.PCN 5)

/-- Scan-out side of the commit; `old` is the module before it. -/
def Chip.scanCommit (c old : Chip) : Chip :=
  let hold := decide (c.mode = .hold)
  let odd := hold && decide (c.get F.KPR_MODE_STATUS_HOLD_VAR = 2) && c.on F.PCN_HOLD_CTRL_DIV2 && decide (c.tick.frame % 2 = 1)
  let c := c.when odd (fun c => c.count P.PCN 6)
  let lit := !c.dark && !odd
  -- Fetch for the field starts with the commit, so no plane is ahead of it yet (R228, R268).
  let c := c.fogNow (lit && c.fogP3 [0, 0, 0, 0]) (lit && c.fogP4 (some 0))
  let c := c.when (c.scan.held && !hold || decide (c.act F.SCN_TIMING_MODE ≠ old.act F.SCN_TIMING_MODE)
    || c.on F.HLK_SCENE_CTRL_ENABLE ≠ old.on F.HLK_SCENE_CTRL_ENABLE) Chip.daymarkReset
  let c := c.daymarkMax
  let opaques := if lit then c.opaquesInForce else []
  let c := { c with scan := { c.scan with
    next := 0, skip := odd, opaques := opaques, lfBad := [], crcs := if lit then List.replicate 16 0xFFFFFFFF else []
    live := true, held := hold } }
  let c := c.when (!opaques.isEmpty) (fun c => c.count P.SCN 3 c.fetchSkips)
  let c := (c.when (!odd) (fun c => c.count P.SCN 0)).set F.SCN_UNDERRUN_PLANES 0
  let c := (c.set F.SCN_LINE_STATUS_LINE 0).set F.SCN_LINE_STATUS_ACTIVE 0
  let c := (c.set F.SCN_LINE_STATUS_SECTOR c.tick.sector).set F.SCN_LINE_STATUS_FIELD c.tick.field
  if !c.blockOn 10 then c
  else
    let c := (c.odBandCommit).bypassCommit old odd
    { c with pcn := { c.pcn with
      demuraOff := false, demuraBad := [], histBad := [], probeArmed := c.pcn.probeAsked } }

/-- The scene frame that the frame now scanned out is bound to (R238, R239): bound one field before. -/
def Chip.scanFrame (c : Chip) : Chip :=
  if c.tick.sector ≠ 0 then c
  else { c with scan := { c.scan with
    alive := c.ring.use.map (·.frame.alive), digests := (c.ring.use.map (·.digests)).getD [] } }

/-! ### The commit -/

/-- The panel's lanes, the region layer, the flat windows and the sector light. -/
def Chip.panelCommit (c : Chip) (frame : Bool) (lowUs : Nat) : Chip :=
  let c := c.when (c.blockOn 11) (fun c => c.retryLanes.lanesNextField)
  let c := c.aplCommit
  let c := if c.apl.rebuild && c.blockOn 13 && !c.regs.dirty.any (fun k => blockOf k = 13) then
      (c.aplUp (fun a => { a with rebuild := false })).aplRestore (c.pwr.last.map (fun r => (r.entries, r.overflow)))
    else c
  let c := c.windowsCommit
  let c := c.when (c.blockOn 12) (fun c => c.secCommit frame)
  c.ownCommit lowUs

/-- What Keeper firmware and the tile link do after the commit. -/
def Chip.afterCommit (m : Memory) (c : Chip) (io : CommitIn) (frame retired : Bool) (src : Nat) : Chip :=
  let c := c.tickCommit src
  let r := c.calCommit frame
  let c := r.2.calAnswer m r.1
  let last := decide (c.sectorAhead 1 = 0)
  let c := c.heartbeatSend.summaryStart
  let c := c.keeperCommit io.regionPower io.ledMw last last
  c.when retired (fun c => c.adaptTrigger 5)

/-- COMMIT, at the field tick. -/
def Chip.commit (m : Memory) (io : CommitIn) (c : Chip) : Chip :=
  if !c.raster then c
  else
    let mode := c.modeId
    let s := c.sectorAhead 1
    let frame := decide (s = 0)
    let n := c.numbersNext s
    -- The counts restart first: what else falls in this cycle counts in the new frame (R43).
    let c := (((c.when frame Chip.restartCounts).budgetLatch io.use).intervalFigures io).fieldEnd
    let c := c.tileForce
    let again := c.refoldDue frame
    let masks := c.mapMasks
    let c := c.when again (fun c => c.drainRequests m)
    let old := c
    let c := (c.activate.advance s n).modeCommit mode io.bootMs
    let c := c.blockResets m
    let moved := decide (c.mapMasks ≠ masks) || (frame && (!c.dram.retire.isEmpty || !c.dram.rejoin.isEmpty))
    let retired := frame && !c.dram.retire.isEmpty
    let c := c.when (again && moved) (fun c => c.refold m)
    let c := (c.sceneEnable (old.on F.HLK_SCENE_CTRL_ENABLE)).scanFrame
    let c := c.when (c.blockOn 3) Chip.quietGrant
    let c := c.panelCommit frame io.ownLowUs
    let c := (c.synthesisCommit m old).when (c.blockOn 1) Chip.returnCredits
    let c := c.scanCommit old
    let c := c.safeCommit.sendFieldStart
    let c := (c.cdcFlags.bltFlags).when (c.blockOn 1) Chip.linkLatch
    let c := c.irq P.SCN 6
    -- The counters are the tick's: nothing that follows it moves them.
    (c.afterCommit m io frame retired (old.act F.TIM_TICK_CTRL_SRC)).numbered n

/-! ### The synthesis deadline (R21, R27) -/

/-- BUDGET.OVERRUN of a page set (R29, R61). -/
def Chip.overrun (c : Chip) (page : Nat) : Chip := (c.set ⟨page + 0x30, 31, 1, 4⟩ 1).irq page 4

/-- SYNTHESIS_DEADLINE: TICK jobs that have not finished are aborted, and the proxy fill writes what is missing. -/
def Chip.deadline (m : Memory) (c : Chip) : Chip :=
  if !c.raster then c
  else
    let a := c.jobDeadline m
    let c := a.2.when a.1 (fun c => c.overrun P.CDC)
    let b := c.bltDeadline m
    let c := b.2.when b.1 (fun c => c.overrun P.BLT)
    (c.synthesisDeadline m).cdcFlags.bltFlags

end Sys2Proof.Machine
end

