-- ==== Sys2Proof/Machine/CalCommands.lean ====
section
/-!
DEFINITION. Machine/CalCommands.lean: the meanings of calibration steps (chapter 22).
-/

namespace Sys2Proof.Machine

/-- A FULL run ends (R511): its results are judged, and the request that asked for it is answered. -/
def Chip.fullRunEnd (m : Memory) (result : FullIn) (c : Chip) : Chip :=
  let r := c.fullEnd result
  r.2.calAnswer m r.1

/-- CAL_PASS_START (R506): A background pass starts PASS_INTERVAL after the previous one. -/
def execCalPassStart (s : State) : Host.Outcome State Fault Refusal :=
  s.run (fun _ c => c.passStart)

/-- CAL_STEP_START (R506): A background step starts calibrating the spare converter. -/
def execCalStepStart (calv : Nat) (cali : Nat) (s : State) : Host.Outcome State Fault Refusal :=
  s.run (fun _ c => c.stepStart calv cali)

/-- CAL_STEP_DONE (R504): A calibration step completes with a new result. -/
def execCalStepDone (result : ConvIn) (s : State) : Host.Outcome State Fault Refusal :=
  s.run (fun _ c => c.stepDone result)

/-- CAL_PAUSE (R507): In pause mode sensing stops for 12 ms and all converters calibrate in place. -/
def execCalPause (results : List ConvIn) (s : State) : Host.Outcome State Fault Refusal :=
  s.run (fun _ c => c.calPause results)

/-- CAL_FULL_RUN_END (R511): A FULL run ends and light returns at the next frame boundary. -/
def execCalFullRunEnd (result : FullIn) (s : State) : Host.Outcome State Fault Refusal :=
  s.run (fun m c => c.fullRunEnd m result)

end Sys2Proof.Machine
end

