-- ==== Sys2Proof/Machine/FieldCommands.lean ====
section
/-!
DEFINITION. Machine/FieldCommands.lean: the meanings of lens, field-store, scan-out, 2D-engine and conditioning commands (chapters 8 to 12).
-/

namespace Sys2Proof.Machine

/-- A request of a field-store master has waited `waited` cycles (R207): at AGE_LIMIT, unless that is 0, it is raised. -/
def Chip.agePromotion (c : Chip) (master waited : Nat) : Chip :=
  if !c.blockOn 7 || 8 ≤ master then c
  else
    let worst := F.FST_WAIT_MAX_CYCLES.ix master
    let c := c.set worst (max (c.get worst) (min 65535 waited))
    let limit := c.act F.FST_AGE_LIMIT_CYCLES
    if limit = 0 || waited < limit then c else (c.count P.FST 4).irq P.FST 7

/-- LNS_PROBE (R199): A read of the probe registers computes the lens-map values of the selected subpixel. -/
def execLnsProbe (mst : Master) (off : Reading Nat) (s : State) : Host.Outcome State Fault Refusal :=
  s.run (fun m c => c.regRead mst (P.LNS + off.src) m off.fault)

/-- AGE_PROMOTION (R207): A request that has waited AGE_LIMIT cycles is raised to class 3. -/
def execAgePromotion (master : Nat) (waited : Nat) (s : State) : Host.Outcome State Fault Refusal :=
  s.run (fun _ c => c.agePromotion master waited)

/-- CONFLICT_CLEAR (R209): Writing CONFLICT_CTRL.CLR clears the conflict and wait counters. -/
def execConflictClear (mst : Master) (data : Nat) (s : State) : Host.Outcome State Fault Refusal :=
  s.run (fun m c => c.regWrite mst K.FST_CONFLICT_CTRL data m)

/-- SCANOUT_LINE (R291): At each line period SCN composes a line and sends its packets on every data lane. -/
def execScanoutLine (io : LineIn) (s : State) : Host.Outcome State Fault Refusal :=
  s.run (fun m c => c.scanoutLine m io)

/-- TIMING_MODE_WRITE (R219): A write to SCN.TIMING.MODE is accepted from the Keeper only. -/
def execTimingModeWrite (mst : Master) (data : Nat) (s : State) : Host.Outcome State Fault Refusal :=
  s.run (fun m c => c.regWrite mst K.SCN_TIMING data m)

/-- BLT_CMD_POST (R243): A write to RING_HEAD posts BLT commands into plans. -/
def execBltCmdPost (mst : Master) (data : Nat) (s : State) : Host.Outcome State Fault Refusal :=
  s.run (fun m c => c.regWrite mst K.BLT_RING_HEAD data m)

/-- BLT_CMD_START (R243): The command at RING_TAIL is checked and starts when its plan commits or at once. -/
def execBltCmdStart (s : State) : Host.Outcome State Fault Refusal :=
  s.run (fun m c => c.bltStart m)

/-- BLT_CMD_COMPLETE (R244): At completion BLT writes words 33 and 34 and advances RING_TAIL. -/
def execBltCmdComplete (parity : ReadFault) (s : State) : Host.Outcome State Fault Refusal :=
  s.run (fun m c => c.bltComplete m parity)

/-- BLT_ABORT (R251): A write to BLT.ABORT stops or marks a command aborted. -/
def execBltAbort (mst : Master) (data : Nat) (s : State) : Host.Outcome State Fault Refusal :=
  s.run (fun m c => c.regWrite mst K.BLT_ABORT data m)

/-- BEAM_ROW_RELEASE (R252): A held destination row is released once the beam has composed it and is written. -/
def execBeamRowRelease (s : State) : Host.Outcome State Fault Refusal :=
  s.run (fun m c => c.beamRelease m)

/-- PCN_TBL_DATA_WRITE (R276): A write to TBL_DATA stores a table entry or is refused BUSY, then INDEX increments. -/
def execPcnTblDataWrite (mst : Master) (data : Nat) (s : State) : Host.Outcome State Fault Refusal :=
  s.run (fun m c => c.regWrite mst K.PCN_TBL_DATA data m)

/-- PCN_TBL_DATA_READ (R276): A read of TBL_DATA returns the entry and increments INDEX. -/
def execPcnTblDataRead (mst : Master) (s : State) : Host.Outcome State Fault Refusal :=
  s.run (fun m c => c.regRead mst K.PCN_TBL_DATA m)

/-- PCN_PROBE_SELECT (R283): A write to PROBE_SEL selects a subpixel and clears VALID. -/
def execPcnProbeSelect (mst : Master) (data : Nat) (s : State) : Host.Outcome State Fault Refusal :=
  s.run (fun m c => c.regWrite mst K.PCN_PROBE_SEL data m)

end Sys2Proof.Machine
end

