-- ==== Sys2Proof/Machine/KeeperCommands.lean ====
section
/-!
DEFINITION. Machine/KeeperCommands.lean: the meanings of the Keeper's ops and events (chapter 20).
-/

namespace Sys2Proof.Machine

/-- LUMINANCE_UPDATE (R462): Once per second the Keeper updates the photo gain and channel trims. -/
def execLuminanceUpdate (readings : List Nat) (currents : List Nat) (s : State) : Host.Outcome State Fault Refusal :=
  s.run (fun _ c => c.luminance readings currents)

/-- PROFILE_STORE (R470): The Keeper verifies and stores a PROFILE object and may activate it. -/
def execProfileStore (req : KeeperReq) (s : State) : Host.Outcome State Fault Refusal :=
  s.run (fun m c => c.keeperOp m (req.as 0x30))

/-- POLICY_STORE (R469): The Keeper verifies and stores or clears a POLICY object. -/
def execPolicyStore (req : KeeperReq) (s : State) : Host.Outcome State Fault Refusal :=
  s.run (fun m c => c.keeperOp m (req.as 0x31))

/-- ATTEST (R474): The Keeper writes a signed attestation report with the caller's nonce. -/
def execAttest (req : KeeperReq) (s : State) : Host.Outcome State Fault Refusal :=
  s.run (fun m c => c.keeperOp m (req.as 0x32))

/-- CERT_GET (R465): The Keeper writes the attestation certificate to the buffer. -/
def execCertGet (req : KeeperReq) (s : State) : Host.Outcome State Fault Refusal :=
  s.run (fun m c => c.keeperOp m (req.as 0x33))

/-- FW_STORE (R471): The Keeper verifies a firmware image and stores it in the idle image area. -/
def execFwStore (req : KeeperReq) (s : State) : Host.Outcome State Fault Refusal :=
  s.run (fun m c => c.keeperOp m (req.as 0x34))

/-- ROLLBACK_COMMIT (R472): The Keeper raises the OTP anti-rollback counter to the target when allowed. -/
def execRollbackCommit (req : KeeperReq) (s : State) : Host.Outcome State Fault Refusal :=
  s.run (fun m c => c.keeperOp m (req.as 0x35))

/-- KEY_PROGRAM (R473): The Keeper programs a customer key slot from a KEY object. -/
def execKeyProgram (req : KeeperReq) (s : State) : Host.Outcome State Fault Refusal :=
  s.run (fun m c => c.keeperOp m (req.as 0x36))

/-- KEY_REVOKE (R473): The Keeper revokes a customer key slot with a REVOKE object. -/
def execKeyRevoke (req : KeeperReq) (s : State) : Host.Outcome State Fault Refusal :=
  s.run (fun m c => c.keeperOp m (req.as 0x37))

/-- DEBUG_CHALLENGE (R475): The Keeper returns a fresh debug challenge and the unique ID. -/
def execDebugChallenge (req : KeeperReq) (s : State) : Host.Outcome State Fault Refusal :=
  s.run (fun m c => c.keeperOp m (req.as 0x38))

/-- DEBUG_RESPONSE (R475): A DEBUG object unlocks debug scopes for its duration. -/
def execDebugResponse (req : KeeperReq) (s : State) : Host.Outcome State Fault Refusal :=
  s.run (fun m c => c.keeperOp m (req.as 0x39))

/-- DEBUG_EXPIRY (R475): The unlock lapses at the end of its duration. -/
def execDebugExpiry (s : State) : Host.Outcome State Fault Refusal :=
  s.run (fun _ c => c.debugExpiry)

/-- CHALLENGE_LAPSE (R475): A challenge lapses 60 s after issue. -/
def execChallengeLapse (s : State) : Host.Outcome State Fault Refusal :=
  s.run (fun _ c => c.challengeLapse)

/-- BRIGHT_SET (R461): The Keeper records a requested brightness and ramp. -/
def execBrightSet (req : KeeperReq) (s : State) : Host.Outcome State Fault Refusal :=
  s.run (fun m c => c.keeperOp m (req.as 0x3A))

/-- KEEPER_RESTART (R476): The watchdog restarts the Keeper after 4 ticks without budget reads. -/
def execKeeperRestart (s : State) : Host.Outcome State Fault Refusal :=
  s.run (fun _ c => c.keeperRestart)

/-- CAL_EXPORT (R514): The Keeper writes the stored calibration set to the buffer. -/
def execCalExport (req : KeeperReq) (s : State) : Host.Outcome State Fault Refusal :=
  s.run (fun m c => c.keeperOp m (req.as 0x3B))

/-- CAL_RUN (R511): The Keeper starts a FULL run or one background pass. -/
def execCalRun (req : KeeperReq) (s : State) : Host.Outcome State Fault Refusal :=
  s.run (fun m c => c.keeperOp m (req.as 0x3C))

/-- CAL_COMMIT (R515): The Keeper writes the active values as a user calibration set. -/
def execCalCommit (req : KeeperReq) (s : State) : Host.Outcome State Fault Refusal :=
  s.run (fun m c => c.keeperOp m (req.as 0x3D))

/-- CAL_STORE (R514): The Keeper checks and writes a supplied calibration set. -/
def execCalStore (req : KeeperReq) (s : State) : Host.Outcome State Fault Refusal :=
  s.run (fun m c => c.keeperOp m (req.as 0x3E))

/-- CAL_MODE (R514): The Keeper sets pause mode, background enable and intervals. -/
def execCalMode (req : KeeperReq) (s : State) : Host.Outcome State Fault Refusal :=
  s.run (fun m c => c.keeperOp m (req.as 0x3F))

/-- FLASH_WRITE_DONE (R470): A Keeper flash write of an object or calibration set finishes its program and read-back,
writes the slot's valid marker and sends the reply. -/
def execFlashWriteDone (ok : Bool) (s : State) : Host.Outcome State Fault Refusal :=
  s.run (fun m c => c.flashDone m ok)

/-- KEEPER_RESTART_END (R476): The restarted Keeper firmware runs again from the resident image within 20 ms and
resumes its readings and requests. -/
def execKeeperRestartEnd (s : State) : Host.Outcome State Fault Refusal :=
  s.run (fun m c => c.keeperRestartEnd m)

end Sys2Proof.Machine
end

