-- ==== Sys2Proof/Machine/LinkCommands.lean ====
section
/-!
DEFINITION. Machine/LinkCommands.lean: the meanings of the Adeak link's commands (chapter 17).
-/

namespace Sys2Proof.Machine

/-- LINK_DETECT (R389): With ENABLE 1 and the Scene region powered the link sends markers on all lanes. -/
def execLinkDetect (s : State) : Host.Outcome State Fault Refusal :=
  s.run (fun _ c => c.linkDetect)

/-- LINK_DETECT_TIMEOUT (R389): 100 ms without lanes 0 to 3 locked returns the link to DOWN. -/
def execLinkDetectTimeout (s : State) : Host.Outcome State Fault Refusal :=
  s.run (fun _ c => c.linkDetectTimeout)

/-- LINK_TRAIN_ENTRY (R389): Lanes 0 to 3 locked for 100 µs move the link to TRAIN. -/
def execLinkTrainEntry (lanes : Nat) (s : State) : Host.Outcome State Fault Refusal :=
  s.run (fun _ c => c.linkTrainEntry lanes)

/-- TS (R390): A TS flit reports lanes in lock and the greatest width and rate. -/
def execTs (flit : List Byte) (s : State) : Host.Outcome State Fault Refusal :=
  s.run (fun _ c => c.linkTs flit)

/-- LINK_RATE_SWITCH (R390): At the named marker COUNT both sides switch rate and equalise. -/
def execLinkRateSwitch (pass : Nat) (peaks : List Nat) (s : State) : Host.Outcome State Fault Refusal :=
  s.run (fun _ c => c.linkRateSwitch pass peaks)

/-- LINK_TRAIN_TIMEOUT (R389): TRAIN not ending within 6 ms enters RECOVER. -/
def execLinkTrainTimeout (s : State) : Host.Outcome State Fault Refusal :=
  s.run (fun _ c => c.linkTrainTimeout)

/-- INIT (R389): The peer's INIT flit brings the link UP with its buffer advertisement. -/
def execInit (flit : List Byte) (s : State) : Host.Outcome State Fault Refusal :=
  s.run (fun _ c => c.linkInit flit)

/-- LINK_RECOVER_TIMEOUT (R389): RECOVER not returning to UP within 20 ms takes the link DOWN. -/
def execLinkRecoverTimeout (s : State) : Host.Outcome State Fault Refusal :=
  s.run (fun _ c => c.linkRecoverTimeout)

/-- DATA_FLIT (R393): A DATA flit is accepted in sequence, returning ACK and credits. -/
def execDataFlit (flit : List Byte) (s : State) : Host.Outcome State Fault Refusal :=
  s.run (fun m c => c.dataFlit flit m)

/-- NAK (R394): A received NAK resends every flit from EXPECT onwards. -/
def execNak (flit : List Byte) (s : State) : Host.Outcome State Fault Refusal :=
  s.run (fun _ c => c.linkNakRx flit)

/-- ACK_TIMEOUT (R394): ACK not advancing for ACK_TIMEOUT resends from the oldest flit. -/
def execAckTimeout (s : State) : Host.Outcome State Fault Refusal :=
  s.run (fun _ c => c.linkAckTimeout)

/-- REG_RD (R399): An Adeak REG_RD reads whole words and returns REG_RD_CPL. -/
def execRegRd (packet : Packet) (s : State) : Host.Outcome State Fault Refusal :=
  s.run (fun m c => c.request 1 packet m)

/-- REG_WR (R399): An Adeak REG_WR writes words up to the first refused one and returns REG_WR_CPL. -/
def execRegWr (packet : Packet) (s : State) : Host.Outcome State Fault Refusal :=
  s.run (fun m c => c.request 2 packet m)

/-- DMA_WR (R399): A DMA_WR writes memory through P0 or FST master 1. -/
def execDmaWr (packet : Packet) (s : State) : Host.Outcome State Fault Refusal :=
  s.run (fun m c => c.request 3 packet m)

/-- DMA_WR_COMPLETE (R399): DMA_WR_CPL goes out after the packet's last write has landed. -/
def execDmaWrComplete (job : Nat) (s : State) : Host.Outcome State Fault Refusal :=
  s.run (fun _ c => c.dmaWrComplete job)

/-- DMA_RD (R398): A DMA_RD starts a memory read, queued behind RD_MAX reads. -/
def execDmaRd (packet : Packet) (s : State) : Host.Outcome State Fault Refusal :=
  s.run (fun m c => c.request 4 packet m)

/-- DMA_RD_COMPLETE (R398): The read data returns as DMA_RD_CPL with its TAG. -/
def execDmaRdComplete (job : Reading Nat) (s : State) : Host.Outcome State Fault Refusal :=
  s.run (fun m c => c.dmaRdComplete m job.src job.fault)

/-- MBX_POST (R401): An Adeak MBX_POST places 64 bytes in a mailbox channel and returns MBX_CPL. -/
def execMbxPost (packet : Packet) (s : State) : Host.Outcome State Fault Refusal :=
  s.run (fun m c => c.request 6 packet m)

/-- TICK (R11): A host tick packet marks the next sector-0 target tick from its time-stamp. -/
def execTick (packet : Packet) (s : State) : Host.Outcome State Fault Refusal :=
  s.run (fun m c => c.request 7 packet m)

/-- TIME_REQ (R403): A TIME_REQ is answered with TIME_RSP carrying T2 and T3. -/
def execTimeReq (packet : Packet) (s : State) : Host.Outcome State Fault Refusal :=
  s.run (fun m c => c.request 8 packet m)

/-- LP_ACK (R405): Receipt of LP_ACK puts the link into LP. -/
def execLpAck (flit : List Byte) (s : State) : Host.Outcome State Fault Refusal :=
  s.run (fun _ c => c.linkLpAck flit)

/-- LP_ACK_WAIT_EXPIRY (R405): ACK_WAIT passing without LP_ACK enters LP with UNILATERAL set. -/
def execLpAckWaitExpiry (s : State) : Host.Outcome State Fault Refusal :=
  s.run (fun _ c => c.linkLp true)

/-- LP_EXIT (R406): Signal on lane 0 for 10 µs, or the module leaving Hold, brings the link out of LP. -/
def execLpExit (byHost : Bool) (s : State) : Host.Outcome State Fault Refusal :=
  s.run (fun _ c => c.lpExit byHost)

/-- LINK_RETRAIN (R389): Writing LINK_CTRL.RETRAIN enters RECOVER. -/
def execLinkRetrain (mst : Master) (data : Nat) (s : State) : Host.Outcome State Fault Refusal :=
  s.run (fun m c => c.regWrite mst K.HLK_LINK_CTRL data m)

/-- LINK_ENABLE_WRITE (R407): Writing LINK_CTRL.ENABLE 0 takes the link DOWN after its completion. -/
def execLinkEnableWrite (mst : Master) (data : Nat) (s : State) : Host.Outcome State Fault Refusal :=
  s.run (fun m c => c.regWrite mst K.HLK_LINK_CTRL data m)

/-- LINK_CRC_INJECT (R408): INJECT.CRC corrupts the CRC of the next DATA flit sent. -/
def execLinkCrcInject (mst : Master) (data : Nat) (s : State) : Host.Outcome State Fault Refusal :=
  s.run (fun m c => c.regWrite mst K.HLK_INJECT data m)

/-- LANE_LOCK_LOSS (R389): A lane receiver drops lock after 4 consecutive marker errors under R287, and an UP Adeak
link enters RECOVER while a tile link retrains. -/
def execLaneLockLoss (host : Bool) (lane : Nat) (s : State) : Host.Outcome State Fault Refusal :=
  s.run (fun _ c => if host then c.linkLaneLost lane else c.tileLaneLost lane)

/-- NULL_FLIT (R391): A received NULL flit delivers its ACK, which frees replay-buffer entries, and any credits it
returns. -/
def execNullFlit (flit : List Byte) (s : State) : Host.Outcome State Fault Refusal :=
  s.run (fun _ c => c.linkNull flit)

end Sys2Proof.Machine
end

