-- ==== Sys2Proof/Machine/MailboxCommands.lean ====
section
/-!
DEFINITION. Machine/MailboxCommands.lean: the meanings of mailbox, lock and check commands (chapter 21).
-/

namespace Sys2Proof.Machine

/-- An endpoint's reset (R486): a host's write of EP_RESET, or a write of CTRL of the endpoint's page. -/
def Chip.endpointReset (mst : Master) (ep : Option Nat) (data : Nat) (m : Memory) (c : Chip) : Chip :=
  match ep with
  | none => c.regWrite mst K.MBX0_EP_RESET data m
  | some e => c.regWrite mst (epPage e + 0x008) data m

/-- TX_POST (R481): Writing MBX.TX_POST posts TX_DATA to a destination channel. -/
def execTxPost (mst : Master) (data : Nat) (s : State) : Host.Outcome State Fault Refusal :=
  s.run (fun m c => c.regWrite mst K.MBX0_TX_POST data m)

/-- RX_POP (R483): Writing RX_POP frees the head slot of the selected channel. -/
def execRxPop (mst : Master) (ep : Nat) (data : Nat) (s : State) : Host.Outcome State Fault Refusal :=
  s.run (fun m c => c.regWrite mst (epPage ep + 0x568) data m)

/-- DB_SET (R484): Sender c rings doorbell bits by writing DB_SET. -/
def execDbSet (mst : Master) (ep : Nat) (ch : Nat) (data : Nat) (s : State) : Host.Outcome State Fault Refusal :=
  s.run (fun m c => c.regWrite mst (epPage ep + 0x210 + 4 * ch) data m)

/-- NOTICE_CLR (R485): Writing CH_STATUS.NOTICE_CLR clears ABORTED and PEER_RESET. -/
def execNoticeClr (mst : Master) (ep : Nat) (ch : Nat) (data : Nat) (s : State) : Host.Outcome State Fault Refusal :=
  s.run (fun m c => c.regWrite mst (epPage ep + 0x430 + 4 * ch) data m)

/-- EP_RESET (R486): An endpoint reset clears channels into it, advances its epoch and raises notices. -/
def execEpReset (mst : Master) (ep : Option Nat) (data : Nat) (s : State) : Host.Outcome State Fault Refusal :=
  s.run (fun m c => c.endpointReset mst ep data m)

/-- MBX_BLOCK_RESET (R489): CTRL.RESET of MBX[0] resets every endpoint in its landing cycle. -/
def execMbxBlockReset (mst : Master) (s : State) : Host.Outcome State Fault Refusal :=
  s.run (fun m c => c.regWrite mst (mkPage 15 0 + 0x008) 0x80000000 m)

/-- LOCK_READ (R490): A read of LOCK[k] acquires a free lock or reports its holder. -/
def execLockRead (mst : Master) (lock : Nat) (s : State) : Host.Outcome State Fault Refusal :=
  s.run (fun m c => c.regRead mst (K.MBX0_LOCK + 4 * lock) m)

/-- LOCK_RELEASE (R492): A write to LOCK[k] releases or force-releases the lock. -/
def execLockRelease (mst : Master) (lock : Nat) (data : Nat) (s : State) : Host.Outcome State Fault Refusal :=
  s.run (fun m c => c.regWrite mst (K.MBX0_LOCK + 4 * lock) data m)

/-- CHK_START (R495): CMD.START loads the initial value and sets COUNT to 0. -/
def execChkStart (mst : Master) (unit : Nat) (data : Nat) (s : State) : Host.Outcome State Fault Refusal :=
  s.run (fun m c => c.regWrite mst (mkPage 16 unit + 0x104) data m)

/-- CHK_DATA32 (R495): A write to DATA32 feeds four bytes into the unit. -/
def execChkData32 (mst : Master) (unit : Nat) (data : Nat) (s : State) : Host.Outcome State Fault Refusal :=
  s.run (fun m c => c.regWrite mst (mkPage 16 unit + 0x108) data m)

/-- CHK_DATA8 (R495): A write to DATA8 feeds one byte into the unit. -/
def execChkData8 (mst : Master) (unit : Nat) (data : Nat) (s : State) : Host.Outcome State Fault Refusal :=
  s.run (fun m c => c.regWrite mst (mkPage 16 unit + 0x10C) data m)

/-- CHK_FINISH (R495): CMD.FINISH computes RESULT and compares it with EXPECT. -/
def execChkFinish (mst : Master) (unit : Nat) (data : Nat) (s : State) : Host.Outcome State Fault Refusal :=
  s.run (fun m c => c.regWrite mst (mkPage 16 unit + 0x104) data m)

/-- CHK_RESYNC (R496): CMD.RESYNC clears ALIVE.VALID. -/
def execChkResync (mst : Master) (unit : Nat) (data : Nat) (s : State) : Host.Outcome State Fault Refusal :=
  s.run (fun m c => c.regWrite mst (mkPage 16 unit + 0x104) data m)

end Sys2Proof.Machine
end

