-- ==== Sys2Proof/Machine/MemoryCommands.lean ====
section
/-!
DEFINITION. Machine/MemoryCommands.lean: the meanings of DRAM commands (chapter 16).
-/

namespace Sys2Proof.Machine

/-- A granted quiet window of a channel (R379): a waiting reference result takes effect at its start (R508). -/
def Chip.quietRun (c : Chip) (ch margin : Nat) (found : Bool) : Chip :=
  match c.dram.quiet with
  | some q => if q.ch = ch && 0 < q.left then (c.calMem ch).quietWindow ch margin found else c
  | none => c

/-- DRAM_COMMAND_SLOT (R373): Each sub-channel scheduler issues a refresh, fog, urgent or weighted request per slot.
-/
def execDramCommandSlot (ch : Nat) (sub : Nat) (ns : Nat) (once : Bool) (twice : Bool)
    (s : State) : Host.Outcome State Fault Refusal :=
  s.run (fun m c => c.commandSlot m ch sub ns once twice)

/-- REFRESH_DUE (R376): A per-bank refresh falls due every tREFIpb and issues or is postponed. -/
def execRefreshDue (ch : Nat) (sub : Nat) (inWindow : Bool) (s : State) : Host.Outcome State Fault Refusal :=
  s.run (fun _ c => c.refreshDue ch sub inWindow)

/-- DEVICE_TEMP_REPORT (R377): Every 250 µs a device report may double or restore the refresh rate. -/
def execDeviceTempReport (ch : Nat) (temp : Int) (hot : Bool) (s : State) : Host.Outcome State Fault Refusal :=
  s.run (fun _ c => c.tempReport ch temp hot)

/-- QUIET_WINDOW (R379): A granted quiet window trains its channel without serving requests. -/
def execQuietWindow (ch : Nat) (margin : Nat) (found : Bool) (s : State) : Host.Outcome State Fault Refusal :=
  s.run (fun _ c => c.quietRun ch margin found)

/-- TRACK_REQUEST (R381): TRACK_PERIOD elapsing or temperature drift raises a TRACK request. -/
def execTrackRequest (ch : Nat) (s : State) : Host.Outcome State Fault Refusal :=
  s.run (fun _ c => c.trackRequest ch)

/-- CHANNEL_RETRY (R382): Writing RETIRE_CTRL.RETRY grants a RETRAIN to a retired channel. -/
def execChannelRetry (mst : Master) (data : Nat) (s : State) : Host.Outcome State Fault Refusal :=
  s.run (fun m c => c.regWrite mst K.MEM0_RETIRE_CTRL data m)

/-- DRAM_PARITY_INJECT (R385): INJECT.PARITY stores inverted parity on the next write to the channel. -/
def execDramParityInject (mst : Master) (ch : Nat) (data : Nat) (s : State) : Host.Outcome State Fault Refusal :=
  s.run (fun m c => c.regWrite mst (memPage ch + 0x110) data m)

end Sys2Proof.Machine
end

