-- ==== Sys2Proof/Machine/ModeCommands.lean ====
section
/-!
DEFINITION. Machine/ModeCommands.lean: the meanings of start-up, mode and shutdown commands (chapter 4).
-/

namespace Sys2Proof.Machine

/-- A MODE_SET message reaches the Keeper (R76): it leaves its channel, and is judged once the firmware runs. -/
def Chip.modeMessage (ep : Nat) (message : List Byte) (c : Chip) : Chip :=
  if c.modes.bootRom || !c.firmware then c else (c.keeperTake ep message).modeSet (readModeSet ep message)

/-- VIN_VALID (R83): VIN at or above 6.0 V for 2 ms with PWR_EN high starts Boot from Off. -/
def execVinValid (mv : Nat) (s : State) : Host.Outcome State Fault Refusal :=
  s.run (fun _ c => c.vinValid mv)

/-- PWR_EN_RISE (R72): PWR_EN rising while VIN is valid starts Boot. -/
def execPwrEnRise (s : State) : Host.Outcome State Fault Refusal :=
  s.run (fun _ c => c.pwrEnRise)

/-- PWR_EN_FALL (R90): PWR_EN low starts the shutdown order to Off, after the step in progress during Boot. -/
def execPwrEnFall (s : State) : Host.Outcome State Fault Refusal :=
  s.run (fun _ c => c.pwrEnFall)

/-- WAKE_N_LOW (R72): WAKE_N low for at least 1 ms starts Boot from Standby or ends Hold. -/
def execWakeNLow (s : State) : Host.Outcome State Fault Refusal :=
  s.run (fun _ c => c.wakeLow)

/-- BOOT_ROM_START (R83): With the Keeper rails and reference stable the boot ROM starts. -/
def execBootRomStart (id : Nat) (paired : Bool) (side : Bool) (errA : Bool) (errB : Bool)
    (s : State) : Host.Outcome State Fault Refusal :=
  s.run (fun m c => c.bootRomStart m id paired side errA errB)

/-- CAL_SET_LOAD (R513): At start-up step 3 the calibration set is loaded and checked, entering Safe with CAL_INVALID
on failure. -/
def execCalSetLoad (s : State) : Host.Outcome State Fault Refusal :=
  s.run (fun _ c => c.calSetLoad)

/-- REGION_POWER_UP (R520): A region's rails rise in order and its blocks leave reset when the last rail is in window.
-/
def execRegionPowerUp (region : Nat) (rails : Nat) (s : State) : Host.Outcome State Fault Refusal :=
  s.run (fun _ c => c.regionPower region rails)

/-- PANEL_EEPROM_READ (R565): At step 4 the module reads and checks the panel EEPROM, retrying twice, else
EEPROM_INVALID. -/
def execPanelEepromRead (tries : List (Option (List Byte))) (s : State) : Host.Outcome State Fault Refusal :=
  s.run (fun _ c => c.eepromRead tries)

/-- STARTUP_PROFILE_LOAD (R83): At step 7 the stored profile is verified and its tables loaded, or Safe with
PROFILE_INVALID. -/
def execStartupProfileLoad (s : State) : Host.Outcome State Fault Refusal :=
  s.run (fun _ c => c.profileLoad)

/-- STARTUP_COMPLETE (R72): At the first frame boundary after start-up the module moves to the policy's target mode.
-/
def execStartupComplete (s : State) : Host.Outcome State Fault Refusal :=
  s.run (fun _ c => c.startupComplete)

/-- MODE_SET (R76): A MODE_SET message to the Keeper is judged and held as the one pending request. -/
def execModeSet (ep : Nat) (message : List Byte) (s : State) : Host.Outcome State Fault Refusal :=
  s.run (fun _ c => c.modeMessage ep message)

/-- MODE_TRANSITION (R72): A pending or triggered transition takes effect at its frame boundary, tick or at once. -/
def execModeTransition (s : State) : Host.Outcome State Fault Refusal :=
  s.run (fun _ c => c.modeTransition)

/-- DARK_TRAINING_SLOT (R80): At B + 2 old fields the lanes retrain at the new rates in a fixed 8 ms slot. -/
def execDarkTrainingSlot (s : State) : Host.Outcome State Fault Refusal :=
  s.run (fun _ c => c.darkSlot)

/-- NEW_MODE_FIRST_TICK (R80): The first tick of the new mode falls at the end of the slot on the re-phased series. -/
def execNewModeFirstTick (s : State) : Host.Outcome State Fault Refusal :=
  s.run (fun _ c => c.newModeTick)

/-- DARK_SEQUENCE_END (R81): After 2 black fields of the new mode the first lit field follows. -/
def execDarkSequenceEnd (s : State) : Host.Outcome State Fault Refusal :=
  s.run (fun _ c => c.darkEnd)

/-- ORDERLY_RECORD (R88): Once the layer has stopped the Keeper writes an orderly record and the regions power down in
order. -/
def execOrderlyRecord (s : State) : Host.Outcome State Fault Refusal :=
  s.run (fun _ c => c.orderlyRecord)

/-- FATAL_SAFE_ENTRY (R45): After a FATAL event the module blanks the modulator, stops the light at the next tick and
enters Safe. -/
def execFatalSafeEntry (s : State) : Host.Outcome State Fault Refusal :=
  s.run (fun _ c => c.fatalEntry)

/-- STARTUP_LANE_TRAINING (R302): At start-up step 5 the module locks the return paths and region-layer lanes and
trains the panel lanes at the 0x0E rate, after which the raster runs. -/
def execStartupLaneTraining (results : List (Nat × List (Nat × Nat))) (failed : List Nat)
    (s : State) : Host.Outcome State Fault Refusal :=
  s.run (fun _ c => c.startTraining results failed)

end Sys2Proof.Machine
end

