-- ==== Sys2Proof/Machine/PanelCommands.lean ====
section
/-!
DEFINITION. Machine/PanelCommands.lean: the meanings of panel-lane, sector-light and region-layer commands (chapters 13 to 15).
-/

namespace Sys2Proof.Machine

/-- A driver status frame (R299): its counts are taken, and on port C an accepted frame of a region-layer driver is a
report of the frames it drove (R355). -/
def Chip.driverFrame (c : Chip) (port : Nat) (frame : List Byte) (settled : Bool) : Chip :=
  let group := leNat (slice frame 1 1)
  let key := 256 * 3 + group
  let was := storeGet (fun _ => ({} : DriverCounts)) c.lanes.drivers key
  let n := c.lanes.seen.length
  let c := c.statusFrame port frame
  if port ≠ 3 || c.lanes.seen.length = n || group < 0x40 || 0x43 < group then c
  else
    let now := storeGet (fun _ => ({} : DriverCounts)) c.lanes.drivers key
    let adv := (now.crc + 65536 - was.crc) % 65536 + (now.hdr + 65536 - was.hdr) % 65536
    c.aplReport (group - 0x40) adv (leNat (slice frame 12 2)) settled

/-- A region-layer frame starts (R344); where no update runs, a waiting ladder result takes effect (R508). -/
def Chip.layerFrameStart (c : Chip) : Chip :=
  let c := c.aplFrameStart.ownLower
  if c.blockOn 13 && c.apl.runs.isEmpty then c.calLadder else c

/-- DRIVER_STATUS_FRAME (R299): A driver status frame arrives on a return path and its counts are taken. -/
def execDriverStatusFrame (port : Nat) (frame : List Byte) (settled : Bool)
    (s : State) : Host.Outcome State Fault Refusal :=
  s.run (fun _ c => c.driverFrame port frame settled)

/-- LANE_RETRY (R300): Writing a RETRY bit clears the lane's mask at the next commit. -/
def execLaneRetry (mst : Master) (port : Nat) (high : Bool) (data : Nat)
    (s : State) : Host.Outcome State Fault Refusal :=
  s.run (fun m c => c.regWrite mst (mkPage 11 port + (if high then 0x164 else 0x160)) data m)

/-- RETURN_LOST (R301): A return receiver dropping lock stops judging its lanes and records RETURN_LOST. -/
def execReturnLost (port : Nat) (path : Nat) (s : State) : Host.Outcome State Fault Refusal :=
  s.run (fun _ c => c.returnLost port path)

/-- RETURN_RELOCK (R301): A return receiver regaining lock resumes judging at the next commit. -/
def execReturnRelock (port : Nat) (path : Nat) (s : State) : Host.Outcome State Fault Refusal :=
  s.run (fun _ c => c.returnRelock port path)

/-- TRAIN_LOCK_CHECK (R302): At S + 1.0 ms every driver must report lock and adaptation starts. -/
def execTrainLockCheck (s : State) : Host.Outcome State Fault Refusal :=
  s.run (fun _ c => c.trainLockCheck)

/-- TRAIN_SETTINGS_APPLY (R302): At S + 5.0 ms the chosen post-cursor settings apply. -/
def execTrainSettingsApply (results : List (Nat × List (Nat × Nat))) (s : State) : Host.Outcome State Fault Refusal :=
  s.run (fun _ c => c.trainApply results)

/-- TRAIN_JUDGE (R303): At S + 7.0 ms lanes that failed confirmation are masked and port A is checked. -/
def execTrainJudge (failed : List Nat) (s : State) : Host.Outcome State Fault Refusal :=
  s.run (fun _ c => c.trainJudge failed)

/-- EYE_SCAN_START (R305): Writing EYE_CTRL.START starts an eye scan of a return path. -/
def execEyeScanStart (mst : Master) (data : Nat) (s : State) : Host.Outcome State Fault Refusal :=
  s.run (fun m c => c.regWrite mst K.SER0_EYE_CTRL data m)

/-- EYE_SCAN_DONE (R305): The eye scan ends and EYE_RESULT becomes valid. -/
def execEyeScanDone (host : Bool) (width : Nat) (height : Nat) (s : State) : Host.Outcome State Fault Refusal :=
  s.run (fun _ c => if host then c.linkEyeDone width height else c.eyeDone width height)

/-- SER_CRC_INJECT (R305): INJECT.CRC inverts the CRC of the next packet on the named lane. -/
def execSerCrcInject (mst : Master) (data : Nat) (s : State) : Host.Outcome State Fault Refusal :=
  s.run (fun m c => c.regWrite mst K.SER0_INJECT data m)

/-- SCAN_SLOT_START (R311): At each slot start every channel stops and the outgoing scan line switches off. -/
def execScanSlotStart (io : SlotIn) (s : State) : Host.Outcome State Fault Refusal :=
  s.run (fun _ c => c.slotStart io)

/-- LIT_WINDOW_START (R311): After pre-charge the incoming scan line turns on and its channels light. -/
def execLitWindowStart (io : WindowIn) (s : State) : Host.Outcome State Fault Refusal :=
  s.run (fun _ c => c.windowStart io)

/-- CHANNEL_POWER_AVERAGE (R319): Each 1 ms average above 15 W stops the channel with POWER_LIMIT. -/
def execChannelPowerAverage (ch : Nat) (mw : Nat) (s : State) : Host.Outcome State Fault Refusal :=
  s.run (fun _ c => c.powerAverage ch mw)

/-- VLED_RANGE_FAULT (R329): VLED outside its window stops switching and sinks. -/
def execVledRangeFault (mv : Nat) (s : State) : Host.Outcome State Fault Refusal :=
  s.run (fun _ c => c.vledReading mv)

/-- VLED_RESUME (R329): After 10 ms inside the window switching resumes at the next commit. -/
def execVledResume (s : State) : Host.Outcome State Fault Refusal :=
  s.run (fun _ c => c.vledResume)

/-- SEC_DRIVE_WRITE (R322): A Keeper write of SEC.OWNER.DRIVE holds outputs off or releases them at a commit. -/
def execSecDriveWrite (mst : Master) (data : Nat) (s : State) : Host.Outcome State Fault Refusal :=
  s.run (fun m c => c.regWrite mst K.SEC_OWNER data m)

/-- SEC_RETRY (R331): Writing a SEC.RETRY bit clears that kind of fault mark at the next commit. -/
def execSecRetry (mst : Master) (data : Nat) (s : State) : Host.Outcome State Fault Refusal :=
  s.run (fun m c => c.regWrite mst K.SEC_RETRY data m)

/-- APL_FRAME_START (R344): A region-layer frame opens with APL_FRAME and row packets for running updates. -/
def execAplFrameStart (s : State) : Host.Outcome State Fault Refusal :=
  s.run (fun _ c => c.layerFrameStart)

/-- APL_REQ_POST (R347): Writing REQ_POST posts a region-layer update and reports its result. -/
def execAplReqPost (mst : Master) (data : Nat) (s : State) : Host.Outcome State Fault Refusal :=
  s.run (fun m c => c.regWrite mst K.APL_REQ_POST data m)

/-- APL_UPDATE_COMPLETE (R350): At the end of its last frame an update writes its target into the map. -/
def execAplUpdateComplete (slot : Nat) (s : State) : Host.Outcome State Fault Refusal :=
  s.run (fun _ c => c.aplComplete slot)

/-- APL_ABORT (R352): A write to APL.ABORT ends a queued update or stops one in flight. -/
def execAplAbort (mst : Master) (data : Nat) (s : State) : Host.Outcome State Fault Refusal :=
  s.run (fun m c => c.regWrite mst K.APL_ABORT data m)

/-- APL_RAIL_READY (R338): Rails within window set RAIL_STATUS.READY. -/
def execAplRailReady (reached : Bool) (s : State) : Host.Outcome State Fault Refusal :=
  s.run (fun _ c => c.aplRailReady reached)

/-- APL_RAIL_CHECK (R338): Every 10 µs each rail is checked against its window. -/
def execAplRailCheck (within : Nat) (s : State) : Host.Outcome State Fault Refusal :=
  s.run (fun _ c => c.aplRailCheck within)

/-- APL_UNFREEZE (R354): Writing RECOVER.UNFREEZE ends a freeze at the next commit. -/
def execAplUnfreeze (mst : Master) (data : Nat) (s : State) : Host.Outcome State Fault Refusal :=
  s.run (fun m c => c.regWrite mst K.APL_RECOVER data m)

/-- APL_DRIVE_WRITE (R356): A Keeper write of APL.OWNER.DRIVE stops or resumes driving the layer. -/
def execAplDriveWrite (mst : Master) (data : Nat) (s : State) : Host.Outcome State Fault Refusal :=
  s.run (fun m c => c.regWrite mst K.APL_OWNER data m)

/-- APL_TBL_DATA_WRITE (R343): A write to APL.TBL_DATA stores a waveform entry or is refused BUSY. -/
def execAplTblDataWrite (mst : Master) (data : Nat) (s : State) : Host.Outcome State Fault Refusal :=
  s.run (fun m c => c.regWrite mst K.APL_TBL_DATA data m)

end Sys2Proof.Machine
end

