-- ==== Sys2Proof/Machine/PlanCommands.lean ====
section
/-!
DEFINITION. Machine/PlanCommands.lean: the meanings of the plan and tick commands (chapter 1).
-/

namespace Sys2Proof.Machine

/-- PLAN_LOCK (R15): At T−40 µs each changed staged value is copied to its locked value and every block checks its
locked set. -/
def execPlanLock (s : State) : Host.Outcome State Fault Refusal :=
  s.run (fun _ c => c.planLock)

/-- COMMIT (R15): At the field tick the locked values become active, buffers swap and the plan with its jobs takes
effect. -/
def execCommit (io : CommitIn) (s : State) : Host.Outcome State Fault Refusal :=
  s.run (fun m c => c.commit m io)

/-- SYNTHESIS_DEADLINE (R27): At T + 0.97 × interval the ray engine stops starting tiles and abandons tiles in flight.
-/
def execSynthesisDeadline (s : State) : Host.Outcome State Fault Refusal :=
  s.run (fun m c => c.deadline m)

/-- TICK_HOLDOVER (R12): With no target for 2 intervals or a source off rate, the module ticks from the reference and
sets HOLDOVER. -/
def execTickHoldover (s : State) : Host.Outcome State Fault Refusal :=
  s.run (fun _ c => c.tickHoldover)

/-- TICK_SOURCE_RELOCK (R13): When a source returns or is newly selected the phase error is measured and the raster
slews back into lock. -/
def execTickSourceRelock (error : Int) (s : State) : Host.Outcome State Fault Refusal :=
  s.run (fun _ c => c.tickRelock error)

end Sys2Proof.Machine
end

