-- ==== Sys2Proof/Machine/RegisterCommands.lean ====
section
/-!
DEFINITION. Machine/RegisterCommands.lean: the meanings of register accesses and of the shared page header (chapters 2 and 3).
-/

namespace Sys2Proof.Machine

/-- A host's clear of REGION_EVT of a region, or of CHIP_EVT, in the KPR page (R65). -/
def Chip.rollupClear (mst : Master) (region : Option Nat) (data : Nat) (m : Memory) (c : Chip) : Chip :=
  match region with
  | some r => c.regWrite mst (K.KPR_REGION_SUM + 4 * r) data m
  | none => c.regWrite mst K.KPR_CHIP_INT data m

/-- REGISTER_WRITE (R59): A write to a register without behaviour of its own acts per its access code, staged values
joining a plan under R22. -/
def execRegisterWrite (mst : Master) (addr : Nat) (data : Nat) (acc : Access) (s : State) : Host.Outcome State Fault Refusal :=
  s.run (fun m c => ((c.busWrite m mst addr data acc.bytes).serialised c mst addr acc.same).busEnd)

/-- BUDGET_MAX_CLR (R29): Writing MAX_CLR clears BUDGET.MAX and OVERRUN. -/
def execBudgetMaxClr (mst : Master) (page : Nat) (data : Nat) (s : State) : Host.Outcome State Fault Refusal :=
  s.run (fun m c => c.regWrite mst (page + 0x030) data m)

/-- ERR_INFO_CLEAR (R47): Writing 1 to ERR_INFO.VALID clears the captured error record. -/
def execErrInfoClear (mst : Master) (page : Nat) (data : Nat) (s : State) : Host.Outcome State Fault Refusal :=
  s.run (fun m c => c.regWrite mst (page + 0x020) data m)

/-- ERR_COUNT_CLEAR (R49): A write with any bit of a half set clears that half of ERR_COUNT. -/
def execErrCountClear (mst : Master) (page : Nat) (data : Nat) (s : State) : Host.Outcome State Fault Refusal :=
  s.run (fun m c => c.regWrite mst (page + 0x02C) data m)

/-- BLOCK_RESET_REQUEST (R57): A write of CTRL.RESET requests a block reset at the next commit and sets IN_RESET. -/
def execBlockResetRequest (mst : Master) (page : Nat) (data : Nat) (s : State) : Host.Outcome State Fault Refusal :=
  s.run (fun m c => c.regWrite mst (page + 0x008) data m)

/-- COUNTER_CLEAR (R58): Writing CTRL.CNT_CLR clears all event counters of the page. -/
def execCounterClear (mst : Master) (page : Nat) (data : Nat) (s : State) : Host.Outcome State Fault Refusal :=
  s.run (fun m c => c.regWrite mst (page + 0x008) data m)

/-- INT_RAW_CLEAR (R62): A W1C write to INT_RAW clears interrupt bits unless an event sets them in the same cycle. -/
def execIntRawClear (mst : Master) (page : Nat) (data : Nat) (s : State) : Host.Outcome State Fault Refusal :=
  s.run (fun m c => c.regWrite mst (page + 0x010) data m)

/-- INT_FORCE (R61): Writing INT_FORCE sets INT_RAW bits without an error record. -/
def execIntForce (mst : Master) (page : Nat) (data : Nat) (s : State) : Host.Outcome State Fault Refusal :=
  s.run (fun m c => c.regWrite mst (page + 0x01C) data m)

/-- ROLLUP_EVENT_CLEAR (R65): A host W1C write clears REGION_EVT or CHIP_EVT in the KPR page whatever LOCK holds. -/
def execRollupEventClear (mst : Master) (region : Option Nat) (data : Nat)
    (s : State) : Host.Outcome State Fault Refusal :=
  s.run (fun m c => c.rollupClear mst region data m)

/-- PAGE_LOCK_SET (R65): Writing PAGE_LOCK.LOCK applies WRITERS to the page. -/
def execPageLockSet (mst : Master) (page : Nat) (data : Nat) (s : State) : Host.Outcome State Fault Refusal :=
  s.run (fun m c => c.regWrite mst (page + 0x038) data m)

/-- PAGE_UNLOCK (R65): A Keeper write of PAGE_LOCK.UNLOCK clears LOCK. -/
def execPageUnlock (mst : Master) (page : Nat) (data : Nat) (s : State) : Host.Outcome State Fault Refusal :=
  s.run (fun m c => c.regWrite mst (page + 0x038) data m)

/-- PARITY_INJECT (R66): PARITY_CTRL.INJECT makes the next write store inverted parity in byte 0 of its register. -/
def execParityInject (mst : Master) (page : Nat) (data : Nat) (s : State) : Host.Outcome State Fault Refusal :=
  s.run (fun m c => c.regWrite mst (page + 0x03C) data m)

/-- REGISTER_PARITY_ERROR (R66): A register parity error records PARITY, FATAL in SEC, APL and PWR and CONT elsewhere.
-/
def execRegisterParityError (page : Nat) (off : Nat) (s : State) : Host.Outcome State Fault Refusal :=
  s.run (fun _ c => c.registerParity page off)

/-- EVENT_PACKET (R402): A rise of a delivered interrupt bit sends an EVENT packet on VC2, merging when no credit is
held. -/
def execEventPacket (host : Nat) (s : State) : Host.Outcome State Fault Refusal :=
  s.run (fun _ c => c.eventPacket host)

/-- EVENT_PACKET_MERGE (R64): Rises within 10 µs of a packet are sent as one further packet 10 µs after it. -/
def execEventPacketMerge (host : Nat) (s : State) : Host.Outcome State Fault Refusal :=
  s.run (fun _ c => c.eventMerge host)

end Sys2Proof.Machine
end

