-- ==== Sys2Proof/Machine/SceneCommands.lean ====
section
/-!
DEFINITION. Machine/SceneCommands.lean: the meanings of scene, codec and ray commands (chapters 5 to 7).
-/

namespace Sys2Proof.Machine

/-- The scene packet of a context that carries `data` (R101, R397). -/
def scenePacketOf (ctx : Nat) (start : Bool) (data : List Byte) : Packet := { ctx := ctx, start := start, data := data }

/-- SCENE (R101): A scene packet is written into the FILL slot or discarded as stray. -/
def execScene (ctx : Nat) (start : Bool) (data : List Byte) (s : State) : Host.Outcome State Fault Refusal :=
  s.run (fun m c => c.request 5 (scenePacketOf ctx start data) m)

/-- CDC_GROUP_DECODE (R111): A scene group read for a cache miss is decoded and released only after its CHECK matches.
-/
def execCdcGroupDecode (layer : Nat) (group : Nat) (pipe : Nat) (once : Bool) (twice : Bool)
    (s : State) : Host.Outcome State Fault Refusal :=
  s.run (fun m c => (c.groupDecode m layer group pipe once twice).serveAsked m)

/-- CDC_JOB_POST (R137): A write to JOB_HEAD posts descriptors into plans or ignores an out-of-range HEAD. -/
def execCdcJobPost (mst : Master) (data : Nat) (s : State) : Host.Outcome State Fault Refusal :=
  s.run (fun m c => c.regWrite mst K.CDC_JOB_HEAD data m)

/-- CDC_JOB_START (R137): The job at TAIL is checked and starts when its plan commits or at once for ASAP. -/
def execCdcJobStart (s : State) : Host.Outcome State Fault Refusal :=
  s.run (fun m c => c.jobStart m)

/-- CDC_JOB_COMPLETE (R140): At completion the module writes result words 12 to 15 and advances JOB_TAIL. -/
def execCdcJobComplete (parity : ReadFault) (s : State) : Host.Outcome State Fault Refusal :=
  s.run (fun m c => c.jobComplete m parity)

/-- CDC_JOB_ABORT (R143): A JOB_ABORT write stops a running job, marks a posted one aborted, or sets ABORT_LATE. -/
def execCdcJobAbort (mst : Master) (data : Nat) (s : State) : Host.Outcome State Fault Refusal :=
  s.run (fun m c => c.regWrite mst K.CDC_JOB_ABORT data m)

/-- CDC_FLUSH (R144): A FLUSH write ends the current group of the running encode or capture job. -/
def execCdcFlush (mst : Master) (data : Nat) (s : State) : Host.Outcome State Fault Refusal :=
  s.run (fun m c => c.regWrite mst K.CDC_FLUSH data m)

/-- TILE_DISPATCH (R148): The next tile in schedule order goes to the lowest-numbered cluster with a free slot. -/
def execTileDispatch (ctxParity : Bool) (gridRetry : List Nat) (s : State) : Host.Outcome State Fault Refusal :=
  s.run (fun m c => c.tileDispatch m ctxParity gridRetry)

/-- TEXEL_CACHE_MISS (R150): A level-1 miss reads level 2, and a level-2 miss asks CDC for the block's group. -/
def execTexelCacheMiss (cluster : Nat) (layer : Nat) (bx : Nat) (bty : Nat)
    (s : State) : Host.Outcome State Fault Refusal :=
  s.run (fun m c => c.texelMiss m ⟨cluster, layer, bx, bty⟩)

/-- TILE_FINISH (R162): When all 384 codes of a tile are present the tile is finished and its context rewritten. -/
def execTileFinish (cluster : Nat) (tile : Nat) (s : State) : Host.Outcome State Fault Refusal :=
  s.run (fun m c => c.tileFinish m cluster tile)

/-- TILE_PARITY_RESTART (R175): A parity error on a texel line invalidates it and restarts the tile from its first
ray. -/
def execTileParityRestart (cluster : Nat) (tile : Nat) (level : Nat) (layer : Nat) (bx : Nat) (bty : Nat)
    (s : State) : Host.Outcome State Fault Refusal :=
  s.run (fun m c => c.tileParity m cluster tile level ⟨cluster, layer, bx, bty⟩)

/-- CLUSTER_RETURN (R178): Writing 1 to a CLUSTER_OUT bit returns the cluster to service at the next commit. -/
def execClusterReturn (mst : Master) (data : Nat) (s : State) : Host.Outcome State Fault Refusal :=
  s.run (fun m c => c.regWrite mst K.RAY_CLUSTER_OUT data m)

end Sys2Proof.Machine
end

