-- ==== Sys2Proof/Machine/SupplyCommands.lean ====
section
/-!
DEFINITION. Machine/SupplyCommands.lean: the meanings of supply, Mooring and thermal commands (chapter 23).
-/

namespace Sys2Proof.Machine

/-- MOORING_TRIGGER (R529): A supply, rail, thermal or test trigger starts Mooring and darkens the light. -/
def execMooringTrigger (mv : Nat) (slope : Int) (s : State) : Host.Outcome State Fault Refusal :=
  s.run (fun _ c => c.supplyTrigger mv slope)

/-- MOORING_TEST_GO (R529): A Keeper write of MOORING_TEST.GO raises a TEST trigger. -/
def execMooringTestGo (mst : Master) (data : Nat) (s : State) : Host.Outcome State Fault Refusal :=
  s.run (fun m c => c.regWrite mst K.PWR_MOORING_TEST data m)

/-- MOORING_BLANK (R530): At t + 200 µs the modulator is blanked and Ray and Scene power down. -/
def execMooringBlank (s : State) : Host.Outcome State Fault Refusal :=
  s.run (fun _ c => c.mooringBlank)

/-- MOORING_LANES_IDLE (R530): At t + 300 µs the panel lanes idle and the Panel region powers down except APL. -/
def execMooringLanesIdle (s : State) : Host.Outcome State Fault Refusal :=
  s.run (fun _ c => c.mooringLanesIdle)

/-- MOORING_LAYER_STEP_END (R357): The region-layer step ends and updates not ended become UNKNOWN. -/
def execMooringLayerStepEnd (s : State) : Host.Outcome State Fault Refusal :=
  s.run (fun _ c => c.layerStepEnd)

/-- LAYER_CUT (R531): The capacitor at 16 V ends the layer step at once. -/
def execLayerCut (mv : Nat) (s : State) : Host.Outcome State Fault Refusal :=
  s.run (fun _ c => c.layerCut mv)

/-- MOORING_RECORD (R534): Keeper firmware writes and reads back the Mooring record. -/
def execMooringRecord (energy : Nat) (s : State) : Host.Outcome State Fault Refusal :=
  s.run (fun _ c => c.mooringRecord energy)

/-- MOORING_END (R530): The Keeper region powers down and the module is Off. -/
def execMooringEnd (s : State) : Host.Outcome State Fault Refusal :=
  s.run (fun _ c => c.mooringEnd)

/-- OFF_HOLDOFF_EXPIRY (R533): After 50 ms in Off the module may enter Boot. -/
def execOffHoldoffExpiry (s : State) : Host.Outcome State Fault Refusal :=
  s.run (fun _ c => c.holdoffExpiry)

/-- RAIL_FAULT (R521): A rail outside window for 50 µs is FATAL or a Mooring trigger. -/
def execRailFault (cell : Nat) (mv : Nat) (s : State) : Host.Outcome State Fault Refusal :=
  s.run (fun _ c => c.railFault cell mv)

/-- CAP_MEASURE (R525): A capacitance measurement classifies the capacitor. -/
def execCapMeasure (droop : Nat) (mv : Nat) (s : State) : Host.Outcome State Fault Refusal :=
  s.run (fun _ c => c.capMeasure droop mv)

/-- CAP_TOPUP (R526): The capacitor below 35.5 V is charged to 36.0 V. -/
def execCapTopup (mv : Nat) (charge : Nat) (s : State) : Host.Outcome State Fault Refusal :=
  s.run (fun _ c => c.capTopup mv charge)

/-- CAP_OVERVOLT (R526): The capacitor at 38.0 V stops the charger. -/
def execCapOvervolt (mv : Nat) (s : State) : Host.Outcome State Fault Refusal :=
  s.run (fun _ c => c.capOvervolt mv)

/-- RESERVE_COMPUTE (R527): Every 1 ms PWR computes the Mooring reserve and RESERVE_OK. -/
def execReserveCompute (mv : Nat) (s : State) : Host.Outcome State Fault Refusal :=
  s.run (fun _ c => c.reserveSample mv)

/-- RECORD_SLOT_ERASE (R534): The slot after the newest record is erased and READY is set. -/
def execRecordSlotErase (s : State) : Host.Outcome State Fault Refusal :=
  s.run (fun _ c => c.slotErase)

/-- THERMAL_SAMPLE (R539): THM samples every sensor and converts to zone temperatures. -/
def execThermalSample (temps : List Int) (counts : List Nat) (s : State) : Host.Outcome State Fault Refusal :=
  s.run (fun _ c => c.thermalSample temps counts)

/-- THERMAL_STEP_REPEAT (R542): A zone staying at 100 °C is throttled another step every 10 ms. -/
def execThermalStepRepeat (zone : Nat) (s : State) : Host.Outcome State Fault Refusal :=
  s.run (fun _ c => c.thermalRepeat zone)

/-- BROKEN_RETRY (R540): Writing BROKEN_RETRY rejudges broken sensors at the next sample. -/
def execBrokenRetry (mst : Master) (data : Nat) (s : State) : Host.Outcome State Fault Refusal :=
  s.run (fun m c => c.regWrite mst K.THM_BROKEN_RETRY data m)

/-- PANEL_TEMP_SAMPLE (R543): Every 10 ms the thermistor is sampled and the panel temperature averaged. -/
def execPanelTempSample (temp : Int) (s : State) : Host.Outcome State Fault Refusal :=
  s.run (fun _ c => c.panelSample temp)

/-- VIN_MIN_CLR (R545): Writing VIN_MIN.CLR restarts the lowest-VIN record. -/
def execVinMinClr (mst : Master) (data : Nat) (s : State) : Host.Outcome State Fault Refusal :=
  s.run (fun m c => c.regWrite mst K.PWR_VIN_MIN data m)

/-- REFCLK_LOST (R563): REFCLK stopping for 1 µs records FATAL REFCLK_LOST and enters Safe. -/
def execRefclkLost (s : State) : Host.Outcome State Fault Refusal :=
  s.run (fun _ c => c.refclkLost)

/-- REFCLK_RETURN (R563): The clock stable for 10 ms sets SYNC_STATE to ACQUIRING. -/
def execRefclkReturn (s : State) : Host.Outcome State Fault Refusal :=
  s.run (fun _ c => c.refclkReturn)

end Sys2Proof.Machine
end

