-- ==== Sys2Proof/Machine/TileCommands.lean ====
section
/-!
DEFINITION. Machine/TileCommands.lean: the meanings of the tile links' commands (chapter 18).
-/

namespace Sys2Proof.Machine

/-- JOIN (R415): The Tender judges a JOIN frame and answers JOIN_RESULT. -/
def execJoin (link : Nat) (frame : List Byte) (s : State) : Host.Outcome State Fault Refusal :=
  s.run (fun _ c => c.tileJoin link frame)

/-- JOIN_RESULT (R415): A worker receiving JOIN_RESULT joins or runs standalone. -/
def execJoinResult (link : Nat) (frame : List Byte) (s : State) : Host.Outcome State Fault Refusal :=
  s.run (fun _ c => c.tileJoinResult link frame)

/-- JOIN_RETRY (R415): A refused or detached worker sends JOIN again every 1 s. -/
def execJoinRetry (s : State) : Host.Outcome State Fault Refusal :=
  s.run (fun _ c => c.joinRetry)

/-- BARRIER (R418): A worker accepting a BARRIER commits its wall values in plan p. -/
def execBarrier (link : Nat) (frame : List Byte) (s : State) : Host.Outcome State Fault Refusal :=
  s.run (fun _ c => c.tileBarrier link frame)

/-- BARRIER_SEND (R418): At BARRIER_DELAY after a tick the Tender sends the barrier for the next plan. -/
def execBarrierSend (s : State) : Host.Outcome State Fault Refusal :=
  s.run (fun _ c => c.barrierSend)

/-- SUMMARY (R417): A child SUMMARY for the current plan is merged. -/
def execSummary (link : Nat) (frame : List Byte) (s : State) : Host.Outcome State Fault Refusal :=
  s.run (fun _ c => c.tileSummary link frame)

/-- SUMMARY_WAIT_EXPIRY (R417): At T + SUM_WAIT the summary is sent with MISSING set. -/
def execSummaryWaitExpiry (s : State) : Host.Outcome State Fault Refusal :=
  s.run (fun _ c => c.summaryExpiry)

/-- MBX_A (R482): A tile MBX_A frame carries bytes 0 to 31 of a mailbox message. -/
def execMbxA (link : Nat) (frame : List Byte) (s : State) : Host.Outcome State Fault Refusal :=
  s.run (fun _ c => c.tileMbxA link frame)

/-- MBX_B (R482): A tile MBX_B frame completes a message into the far endpoint's inbox. -/
def execMbxB (link : Nat) (frame : List Byte) (s : State) : Host.Outcome State Fault Refusal :=
  s.run (fun _ c => c.tileMbxB link frame)

/-- MBX_CPL (R482): A tile MBX_CPL frees the outbox slot or schedules a resend. -/
def execMbxCpl (link : Nat) (frame : List Byte) (s : State) : Host.Outcome State Fault Refusal :=
  s.run (fun _ c => c.tileMbxCpl link frame)

/-- MBX_REMOTE_RESEND (R482): After FULL the message is sent again 100 µs later. -/
def execMbxRemoteResend (ep : Nat) (slot : Nat) (s : State) : Host.Outcome State Fault Refusal :=
  s.run (fun _ c => c.mbxResend ep slot)

/-- TL_REG_RD (R413): A tile REG_RD frame reads a register as master 3 or 4. -/
def execTlRegRd (link : Nat) (frame : Reading (List Byte)) (s : State) : Host.Outcome State Fault Refusal :=
  s.run (fun m c => c.tileRegRd link frame.src frame.fault m)

/-- TL_REG_WR (R413): A tile REG_WR frame writes a register as master 3 or 4. -/
def execTlRegWr (link : Nat) (frame : List Byte) (s : State) : Host.Outcome State Fault Refusal :=
  s.run (fun m c => c.tileRegWr link frame m)

/-- REG_CPL (R424): A REG_CPL frame ends the remote command with STATUS and data. -/
def execRegCpl (link : Nat) (frame : List Byte) (s : State) : Host.Outcome State Fault Refusal :=
  s.run (fun _ c => c.tileRegCpl link frame)

/-- MIRROR (R427): A MIRROR frame stages the owner's host write in the tagged plan. -/
def execMirror (link : Nat) (frame : List Byte) (s : State) : Host.Outcome State Fault Refusal :=
  s.run (fun _ c => c.tileMirror link frame)

/-- HEARTBEAT (R428): A partner HEARTBEAT frame is accepted for its field. -/
def execHeartbeat (link : Nat) (frame : List Byte) (s : State) : Host.Outcome State Fault Refusal :=
  s.run (fun _ c => c.tileHeartbeat link frame)

/-- DAYMARK_LO (R429): Partner signatures 0 to 7 are compared with the member's own. -/
def execDaymarkLo (link : Nat) (frame : List Byte) (s : State) : Host.Outcome State Fault Refusal :=
  s.run (fun _ c => c.tileDaymarkLo link frame)

/-- DAYMARK_HI (R429): Partner signatures 8 to 15 are compared and divergence is judged. -/
def execDaymarkHi (link : Nat) (frame : List Byte) (s : State) : Host.Outcome State Fault Refusal :=
  s.run (fun _ c => c.tileDaymarkHi link frame)

/-- TL_NAK (R412): A tile NAK resends sequenced frames from EXPECT. -/
def execTlNak (link : Nat) (frame : List Byte) (s : State) : Host.Outcome State Fault Refusal :=
  s.run (fun _ c => c.tileNakRx link frame)

/-- TL_REPLAY_TIMEOUT (R412): ACK not advancing for 2 µs resends from the oldest frame. -/
def execTlReplayTimeout (link : Nat) (s : State) : Host.Outcome State Fault Refusal :=
  s.run (fun _ c => c.tileReplayTimeout link)

/-- PORT_DOWN (R412): A tile link not returning within 20 ms is DOWN. -/
def execPortDown (link : Nat) (s : State) : Host.Outcome State Fault Refusal :=
  s.run (fun _ c => c.tilePortDown link)

/-- HEARTBEAT_CHECK (R428): At T + HB_WAIT a member judges whether the partner's heartbeat is missed. -/
def execHeartbeatCheck (s : State) : Host.Outcome State Fault Refusal :=
  s.run (fun _ c => c.heartbeatCheck)

/-- PAIR_OUTPUT_ENABLE (R430): 2 µs after asserting, outputs leave high impedance if PAIR_OWN_I is still low. -/
def execPairOutputEnable (s : State) : Host.Outcome State Fault Refusal :=
  s.run (fun _ c => c.pairEnable)

/-- PAIR_OWN_I_CHANGE (R431): A change of PAIR_OWN_I gates outputs and may allow a takeover. -/
def execPairOwnIChange (high : Bool) (s : State) : Host.Outcome State Fault Refusal :=
  s.run (fun _ c => c.pairOwnChange high)

/-- PAIR_RELEASE (R432): Writing PAIR_CTRL.RELEASE gives up ownership at the next commit. -/
def execPairRelease (mst : Master) (data : Nat) (s : State) : Host.Outcome State Fault Refusal :=
  s.run (fun m c => c.regWrite mst K.TLK_PAIR_CTRL data m)

/-- REMOTE_GO (R424): Writing REMOTE_CTRL.GO sends a remote register command. -/
def execRemoteGo (mst : Master) (data : Nat) (s : State) : Host.Outcome State Fault Refusal :=
  s.run (fun m c => c.regWrite mst K.TLK_REMOTE_CTRL data m)

/-- REMOTE_TIMEOUT (R424): No REG_CPL within 1 ms ends the remote command with TIMEOUT. -/
def execRemoteTimeout (s : State) : Host.Outcome State Fault Refusal :=
  s.run (fun _ c => c.remoteTimeout)

/-- TILE_PORT_UP (R415): A Basenaord tile port, or one lane of a SPLIT port, finishes training and comes UP, and a
worker then sends JOIN upward. -/
def execTilePortUp (link : Nat) (s : State) : Host.Outcome State Fault Refusal :=
  s.run (fun _ c => c.tilePortUp link)

/-- IDLE (R412): A received tile-link IDLE frame delivers its ACK and frees sequenced frames held in the replay
buffer. -/
def execIdle (link : Nat) (frame : List Byte) (s : State) : Host.Outcome State Fault Refusal :=
  s.run (fun _ c => c.tileIdle link frame)

end Sys2Proof.Machine
end

