-- ==== Sys2Proof/Machine/TimeCommands.lean ====
section
/-!
DEFINITION. Machine/TimeCommands.lean: the meanings of the time commands (chapter 19).
-/

namespace Sys2Proof.Machine

/-- A trigger unit fires (R449): what it triggers is the tick target for unit 0, a wake for unit 1, and the photo-sense
conversion for the unit that PHOTO_CTRL names (R325). -/
def Chip.triggerFire (c : Chip) (unit : Nat) (readings : List Nat) : Chip :=
  match c.trigFire unit with
  | none => c
  | some (t, c) =>
    let c := { c with tick := { c.tick with timeTarget := if unit = 0 then some (t.sec, t.ns) else c.tick.timeTarget } }
    (if unit = 1 then c.wake else c).photoSense unit readings

/-- TIME (R448): A tile TIME frame is consumed or forwarded with residence correction. -/
def execTime (link : Nat) (frame : List Byte) (residence : Nat) (full : Bool)
    (s : State) : Host.Outcome State Fault Refusal :=
  s.run (fun _ c => c.tileTime link frame residence full)

/-- TIME_SNAPSHOT (R437): A read of NOW_FRAC latches the whole clock into the reader's snapshot. -/
def execTimeSnapshot (mst : Master) (s : State) : Host.Outcome State Fault Refusal :=
  s.run (fun m c => c.regRead mst K.TIM_NOW_FRAC m)

/-- RATE_WRITE (R436): A Keeper write of RATE sets the clock rate within ±1 000 ppm. -/
def execRateWrite (mst : Master) (data : Nat) (s : State) : Host.Outcome State Fault Refusal :=
  s.run (fun m c => c.regWrite mst K.TIM_RATE data m)

/-- STEP_GO (R438): A Keeper write of STEP_GO while armed applies the offset in the next cycle. -/
def execStepGo (mst : Master) (data : Nat) (s : State) : Host.Outcome State Fault Refusal :=
  s.run (fun m c => c.regWrite mst K.TIM_STEP_GO data m)

/-- TRIGGER_FIRE (R449): A trigger unit fires when the clock reaches its target and advances it. -/
def execTriggerFire (unit : Nat) (readings : List Nat) (s : State) : Host.Outcome State Fault Refusal :=
  s.run (fun _ c => c.triggerFire unit readings)

/-- TRIGGER_ENABLE (R451): Writing TRIG_CTRL.EN from 0 to 1 loads the first target from START. -/
def execTriggerEnable (mst : Master) (unit : Nat) (data : Nat) (s : State) : Host.Outcome State Fault Refusal :=
  s.run (fun m c => c.regWrite mst (K.TIM_TRIG_CTRL + 0x20 * unit) data m)

/-- PTP_MESSAGE (R445): A PTP event message on a time port is time-stamped and processed. -/
def execPtpMessage (port : Nat) (message : PtpMsg) (residence : Nat) (full : Bool)
    (s : State) : Host.Outcome State Fault Refusal :=
  s.run (fun _ c => c.ptpMessage port message residence full)

/-- FOLLOW_UP_TIMEOUT (R446): A held Sync residence without Follow_Up for 1 s is dropped. -/
def execFollowUpTimeout (port : Nat) (seq : Nat) (source : Nat) (s : State) : Host.Outcome State Fault Refusal :=
  s.run (fun _ c => c.followUpTimeout port seq source)

/-- TIME_PORT_DOWN (R446): A time port losing its link records TIME_PORT_DOWN. -/
def execTimePortDown (port : Nat) (s : State) : Host.Outcome State Fault Refusal :=
  s.run (fun _ c => c.timePortDown port)

/-- TIME_PORT_UP (R444): A 1000BASE-X or SGMII time port completes auto-negotiation and its link comes up, which sets
TPn_UP and raises PORT_LINK. -/
def execTimePortUp (port : Nat) (s : State) : Host.Outcome State Fault Refusal :=
  s.run (fun _ c => c.timePortUp port)

/-- ANNOUNCE_RECEIPT_TIMEOUT (R445): No Announce arrives for ANNOUNCE_TIMEOUT intervals, so the PTP source is lost and
SYNC_STATE moves to HOLDOVER. -/
def execAnnounceReceiptTimeout (port : Nat) (s : State) : Host.Outcome State Fault Refusal :=
  s.run (fun _ c => c.announceTimeout port)

/-- PTP_SYNC_INTERVAL (R447): Every 2^LOG_TL s, or at the time-port log intervals, the module sends its Sync as master
or its Delay_Req as slave. -/
def execPtpSyncInterval (port : Nat) (s : State) : Host.Outcome State Fault Refusal :=
  s.run (fun _ c => c.ptpInterval port)

end Sys2Proof.Machine
end

