-- ==== Sys2Proof/Machine/Dispatch.lean ====
section
/-!
DEFINITION. Machine/Dispatch.lean: one arm per command, each a direct call of the command's meaning.
-/

namespace Sys2Proof.Machine

/-- The effect of a command on everything but the queue. -/
def exec (i : Instr) (s : State) : Host.Outcome State Fault Refusal :=
  match i with
  | .planLock => Sys2Proof.Machine.execPlanLock s
  | .commit io => Sys2Proof.Machine.execCommit io s
  | .synthesisDeadline => Sys2Proof.Machine.execSynthesisDeadline s
  | .tickHoldover => Sys2Proof.Machine.execTickHoldover s
  | .tickSourceRelock error => Sys2Proof.Machine.execTickSourceRelock error s
  | .registerWrite mst addr data acc => Sys2Proof.Machine.execRegisterWrite mst addr data acc s
  | .budgetMaxClr mst page data => Sys2Proof.Machine.execBudgetMaxClr mst page data s
  | .errInfoClear mst page data => Sys2Proof.Machine.execErrInfoClear mst page data s
  | .errCountClear mst page data => Sys2Proof.Machine.execErrCountClear mst page data s
  | .blockResetRequest mst page data => Sys2Proof.Machine.execBlockResetRequest mst page data s
  | .counterClear mst page data => Sys2Proof.Machine.execCounterClear mst page data s
  | .intRawClear mst page data => Sys2Proof.Machine.execIntRawClear mst page data s
  | .intForce mst page data => Sys2Proof.Machine.execIntForce mst page data s
  | .rollupEventClear mst region data => Sys2Proof.Machine.execRollupEventClear mst region data s
  | .pageLockSet mst page data => Sys2Proof.Machine.execPageLockSet mst page data s
  | .pageUnlock mst page data => Sys2Proof.Machine.execPageUnlock mst page data s
  | .parityInject mst page data => Sys2Proof.Machine.execParityInject mst page data s
  | .registerParityError page off => Sys2Proof.Machine.execRegisterParityError page off s
  | .eventPacket host => Sys2Proof.Machine.execEventPacket host s
  | .eventPacketMerge host => Sys2Proof.Machine.execEventPacketMerge host s
  | .vinValid mv => Sys2Proof.Machine.execVinValid mv s
  | .pwrEnRise => Sys2Proof.Machine.execPwrEnRise s
  | .pwrEnFall => Sys2Proof.Machine.execPwrEnFall s
  | .wakeNLow => Sys2Proof.Machine.execWakeNLow s
  | .bootRomStart id paired side errA errB => Sys2Proof.Machine.execBootRomStart id paired side errA errB s
  | .calSetLoad => Sys2Proof.Machine.execCalSetLoad s
  | .regionPowerUp region rails => Sys2Proof.Machine.execRegionPowerUp region rails s
  | .panelEepromRead tries => Sys2Proof.Machine.execPanelEepromRead tries s
  | .startupProfileLoad => Sys2Proof.Machine.execStartupProfileLoad s
  | .startupComplete => Sys2Proof.Machine.execStartupComplete s
  | .modeSet ep message => Sys2Proof.Machine.execModeSet ep message s
  | .modeTransition => Sys2Proof.Machine.execModeTransition s
  | .darkTrainingSlot => Sys2Proof.Machine.execDarkTrainingSlot s
  | .newModeFirstTick => Sys2Proof.Machine.execNewModeFirstTick s
  | .darkSequenceEnd => Sys2Proof.Machine.execDarkSequenceEnd s
  | .orderlyRecord => Sys2Proof.Machine.execOrderlyRecord s
  | .fatalSafeEntry => Sys2Proof.Machine.execFatalSafeEntry s
  | .scene ctx start data => Sys2Proof.Machine.execScene ctx start data s
  | .cdcGroupDecode layer group pipe once twice => Sys2Proof.Machine.execCdcGroupDecode layer group pipe once twice s
  | .cdcJobPost mst data => Sys2Proof.Machine.execCdcJobPost mst data s
  | .cdcJobStart => Sys2Proof.Machine.execCdcJobStart s
  | .cdcJobComplete parity => Sys2Proof.Machine.execCdcJobComplete parity s
  | .cdcJobAbort mst data => Sys2Proof.Machine.execCdcJobAbort mst data s
  | .cdcFlush mst data => Sys2Proof.Machine.execCdcFlush mst data s
  | .tileDispatch ctxParity gridRetry => Sys2Proof.Machine.execTileDispatch ctxParity gridRetry s
  | .texelCacheMiss cluster layer bx bty => Sys2Proof.Machine.execTexelCacheMiss cluster layer bx bty s
  | .tileFinish cluster tile => Sys2Proof.Machine.execTileFinish cluster tile s
  | .tileParityRestart cluster tile level layer bx bty => Sys2Proof.Machine.execTileParityRestart cluster tile level layer bx bty s
  | .clusterReturn mst data => Sys2Proof.Machine.execClusterReturn mst data s
  | .lnsProbe mst off => Sys2Proof.Machine.execLnsProbe mst off s
  | .agePromotion master waited => Sys2Proof.Machine.execAgePromotion master waited s
  | .conflictClear mst data => Sys2Proof.Machine.execConflictClear mst data s
  | .scanoutLine io => Sys2Proof.Machine.execScanoutLine io s
  | .timingModeWrite mst data => Sys2Proof.Machine.execTimingModeWrite mst data s
  | .bltCmdPost mst data => Sys2Proof.Machine.execBltCmdPost mst data s
  | .bltCmdStart => Sys2Proof.Machine.execBltCmdStart s
  | .bltCmdComplete parity => Sys2Proof.Machine.execBltCmdComplete parity s
  | .bltAbort mst data => Sys2Proof.Machine.execBltAbort mst data s
  | .beamRowRelease => Sys2Proof.Machine.execBeamRowRelease s
  | .pcnTblDataWrite mst data => Sys2Proof.Machine.execPcnTblDataWrite mst data s
  | .pcnTblDataRead mst => Sys2Proof.Machine.execPcnTblDataRead mst s
  | .pcnProbeSelect mst data => Sys2Proof.Machine.execPcnProbeSelect mst data s
  | .driverStatusFrame port frame settled => Sys2Proof.Machine.execDriverStatusFrame port frame settled s
  | .laneRetry mst port high data => Sys2Proof.Machine.execLaneRetry mst port high data s
  | .returnLost port path => Sys2Proof.Machine.execReturnLost port path s
  | .returnRelock port path => Sys2Proof.Machine.execReturnRelock port path s
  | .trainLockCheck => Sys2Proof.Machine.execTrainLockCheck s
  | .trainSettingsApply results => Sys2Proof.Machine.execTrainSettingsApply results s
  | .trainJudge failed => Sys2Proof.Machine.execTrainJudge failed s
  | .eyeScanStart mst data => Sys2Proof.Machine.execEyeScanStart mst data s
  | .eyeScanDone host width height => Sys2Proof.Machine.execEyeScanDone host width height s
  | .serCrcInject mst data => Sys2Proof.Machine.execSerCrcInject mst data s
  | .scanSlotStart io => Sys2Proof.Machine.execScanSlotStart io s
  | .litWindowStart io => Sys2Proof.Machine.execLitWindowStart io s
  | .channelPowerAverage ch mw => Sys2Proof.Machine.execChannelPowerAverage ch mw s
  | .vledRangeFault mv => Sys2Proof.Machine.execVledRangeFault mv s
  | .vledResume => Sys2Proof.Machine.execVledResume s
  | .secDriveWrite mst data => Sys2Proof.Machine.execSecDriveWrite mst data s
  | .secRetry mst data => Sys2Proof.Machine.execSecRetry mst data s
  | .aplFrameStart => Sys2Proof.Machine.execAplFrameStart s
  | .aplReqPost mst data => Sys2Proof.Machine.execAplReqPost mst data s
  | .aplUpdateComplete slot => Sys2Proof.Machine.execAplUpdateComplete slot s
  | .aplAbort mst data => Sys2Proof.Machine.execAplAbort mst data s
  | .aplRailReady reached => Sys2Proof.Machine.execAplRailReady reached s
  | .aplRailCheck within => Sys2Proof.Machine.execAplRailCheck within s
  | .aplUnfreeze mst data => Sys2Proof.Machine.execAplUnfreeze mst data s
  | .aplDriveWrite mst data => Sys2Proof.Machine.execAplDriveWrite mst data s
  | .aplTblDataWrite mst data => Sys2Proof.Machine.execAplTblDataWrite mst data s
  | .dramCommandSlot ch sub ns once twice => Sys2Proof.Machine.execDramCommandSlot ch sub ns once twice s
  | .refreshDue ch sub inWindow => Sys2Proof.Machine.execRefreshDue ch sub inWindow s
  | .deviceTempReport ch temp hot => Sys2Proof.Machine.execDeviceTempReport ch temp hot s
  | .quietWindow ch margin found => Sys2Proof.Machine.execQuietWindow ch margin found s
  | .trackRequest ch => Sys2Proof.Machine.execTrackRequest ch s
  | .channelRetry mst data => Sys2Proof.Machine.execChannelRetry mst data s
  | .dramParityInject mst ch data => Sys2Proof.Machine.execDramParityInject mst ch data s
  | .linkDetect => Sys2Proof.Machine.execLinkDetect s
  | .linkDetectTimeout => Sys2Proof.Machine.execLinkDetectTimeout s
  | .linkTrainEntry lanes => Sys2Proof.Machine.execLinkTrainEntry lanes s
  | .ts flit => Sys2Proof.Machine.execTs flit s
  | .linkRateSwitch pass peaks => Sys2Proof.Machine.execLinkRateSwitch pass peaks s
  | .linkTrainTimeout => Sys2Proof.Machine.execLinkTrainTimeout s
  | .init flit => Sys2Proof.Machine.execInit flit s
  | .linkRecoverTimeout => Sys2Proof.Machine.execLinkRecoverTimeout s
  | .dataFlit flit => Sys2Proof.Machine.execDataFlit flit s
  | .nak flit => Sys2Proof.Machine.execNak flit s
  | .ackTimeout => Sys2Proof.Machine.execAckTimeout s
  | .regRd packet => Sys2Proof.Machine.execRegRd packet s
  | .regWr packet => Sys2Proof.Machine.execRegWr packet s
  | .dmaWr packet => Sys2Proof.Machine.execDmaWr packet s
  | .dmaWrComplete job => Sys2Proof.Machine.execDmaWrComplete job s
  | .dmaRd packet => Sys2Proof.Machine.execDmaRd packet s
  | .dmaRdComplete job => Sys2Proof.Machine.execDmaRdComplete job s
  | .mbxPost packet => Sys2Proof.Machine.execMbxPost packet s
  | .tick packet => Sys2Proof.Machine.execTick packet s
  | .timeReq packet => Sys2Proof.Machine.execTimeReq packet s
  | .lpAck flit => Sys2Proof.Machine.execLpAck flit s
  | .lpAckWaitExpiry => Sys2Proof.Machine.execLpAckWaitExpiry s
  | .lpExit byHost => Sys2Proof.Machine.execLpExit byHost s
  | .linkRetrain mst data => Sys2Proof.Machine.execLinkRetrain mst data s
  | .linkEnableWrite mst data => Sys2Proof.Machine.execLinkEnableWrite mst data s
  | .linkCrcInject mst data => Sys2Proof.Machine.execLinkCrcInject mst data s
  | .join link frame => Sys2Proof.Machine.execJoin link frame s
  | .joinResult link frame => Sys2Proof.Machine.execJoinResult link frame s
  | .joinRetry => Sys2Proof.Machine.execJoinRetry s
  | .barrier link frame => Sys2Proof.Machine.execBarrier link frame s
  | .barrierSend => Sys2Proof.Machine.execBarrierSend s
  | .summary link frame => Sys2Proof.Machine.execSummary link frame s
  | .summaryWaitExpiry => Sys2Proof.Machine.execSummaryWaitExpiry s
  | .mbxA link frame => Sys2Proof.Machine.execMbxA link frame s
  | .mbxB link frame => Sys2Proof.Machine.execMbxB link frame s
  | .mbxCpl link frame => Sys2Proof.Machine.execMbxCpl link frame s
  | .mbxRemoteResend ep slot => Sys2Proof.Machine.execMbxRemoteResend ep slot s
  | .tlRegRd link frame => Sys2Proof.Machine.execTlRegRd link frame s
  | .tlRegWr link frame => Sys2Proof.Machine.execTlRegWr link frame s
  | .regCpl link frame => Sys2Proof.Machine.execRegCpl link frame s
  | .mirror link frame => Sys2Proof.Machine.execMirror link frame s
  | .heartbeat link frame => Sys2Proof.Machine.execHeartbeat link frame s
  | .daymarkLo link frame => Sys2Proof.Machine.execDaymarkLo link frame s
  | .daymarkHi link frame => Sys2Proof.Machine.execDaymarkHi link frame s
  | .tlNak link frame => Sys2Proof.Machine.execTlNak link frame s
  | .tlReplayTimeout link => Sys2Proof.Machine.execTlReplayTimeout link s
  | .portDown link => Sys2Proof.Machine.execPortDown link s
  | .heartbeatCheck => Sys2Proof.Machine.execHeartbeatCheck s
  | .pairOutputEnable => Sys2Proof.Machine.execPairOutputEnable s
  | .pairOwnIChange high => Sys2Proof.Machine.execPairOwnIChange high s
  | .pairRelease mst data => Sys2Proof.Machine.execPairRelease mst data s
  | .remoteGo mst data => Sys2Proof.Machine.execRemoteGo mst data s
  | .remoteTimeout => Sys2Proof.Machine.execRemoteTimeout s
  | .time link frame residence full => Sys2Proof.Machine.execTime link frame residence full s
  | .timeSnapshot mst => Sys2Proof.Machine.execTimeSnapshot mst s
  | .rateWrite mst data => Sys2Proof.Machine.execRateWrite mst data s
  | .stepGo mst data => Sys2Proof.Machine.execStepGo mst data s
  | .triggerFire unit readings => Sys2Proof.Machine.execTriggerFire unit readings s
  | .triggerEnable mst unit data => Sys2Proof.Machine.execTriggerEnable mst unit data s
  | .ptpMessage port message residence full => Sys2Proof.Machine.execPtpMessage port message residence full s
  | .followUpTimeout port seq source => Sys2Proof.Machine.execFollowUpTimeout port seq source s
  | .timePortDown port => Sys2Proof.Machine.execTimePortDown port s
  | .luminanceUpdate readings currents => Sys2Proof.Machine.execLuminanceUpdate readings currents s
  | .profileStore req => Sys2Proof.Machine.execProfileStore req s
  | .policyStore req => Sys2Proof.Machine.execPolicyStore req s
  | .attest req => Sys2Proof.Machine.execAttest req s
  | .certGet req => Sys2Proof.Machine.execCertGet req s
  | .fwStore req => Sys2Proof.Machine.execFwStore req s
  | .rollbackCommit req => Sys2Proof.Machine.execRollbackCommit req s
  | .keyProgram req => Sys2Proof.Machine.execKeyProgram req s
  | .keyRevoke req => Sys2Proof.Machine.execKeyRevoke req s
  | .debugChallenge req => Sys2Proof.Machine.execDebugChallenge req s
  | .debugResponse req => Sys2Proof.Machine.execDebugResponse req s
  | .debugExpiry => Sys2Proof.Machine.execDebugExpiry s
  | .challengeLapse => Sys2Proof.Machine.execChallengeLapse s
  | .brightSet req => Sys2Proof.Machine.execBrightSet req s
  | .keeperRestart => Sys2Proof.Machine.execKeeperRestart s
  | .txPost mst data => Sys2Proof.Machine.execTxPost mst data s
  | .rxPop mst ep data => Sys2Proof.Machine.execRxPop mst ep data s
  | .dbSet mst ep ch data => Sys2Proof.Machine.execDbSet mst ep ch data s
  | .noticeClr mst ep ch data => Sys2Proof.Machine.execNoticeClr mst ep ch data s
  | .epReset mst ep data => Sys2Proof.Machine.execEpReset mst ep data s
  | .mbxBlockReset mst => Sys2Proof.Machine.execMbxBlockReset mst s
  | .lockRead mst lock => Sys2Proof.Machine.execLockRead mst lock s
  | .lockRelease mst lock data => Sys2Proof.Machine.execLockRelease mst lock data s
  | .chkStart mst unit data => Sys2Proof.Machine.execChkStart mst unit data s
  | .chkData32 mst unit data => Sys2Proof.Machine.execChkData32 mst unit data s
  | .chkData8 mst unit data => Sys2Proof.Machine.execChkData8 mst unit data s
  | .chkFinish mst unit data => Sys2Proof.Machine.execChkFinish mst unit data s
  | .chkResync mst unit data => Sys2Proof.Machine.execChkResync mst unit data s
  | .calPassStart => Sys2Proof.Machine.execCalPassStart s
  | .calStepStart calv cali => Sys2Proof.Machine.execCalStepStart calv cali s
  | .calStepDone result => Sys2Proof.Machine.execCalStepDone result s
  | .calPause results => Sys2Proof.Machine.execCalPause results s
  | .calFullRunEnd result => Sys2Proof.Machine.execCalFullRunEnd result s
  | .calExport req => Sys2Proof.Machine.execCalExport req s
  | .calRun req => Sys2Proof.Machine.execCalRun req s
  | .calCommit req => Sys2Proof.Machine.execCalCommit req s
  | .calStore req => Sys2Proof.Machine.execCalStore req s
  | .calMode req => Sys2Proof.Machine.execCalMode req s
  | .mooringTrigger mv slope => Sys2Proof.Machine.execMooringTrigger mv slope s
  | .mooringTestGo mst data => Sys2Proof.Machine.execMooringTestGo mst data s
  | .mooringBlank => Sys2Proof.Machine.execMooringBlank s
  | .mooringLanesIdle => Sys2Proof.Machine.execMooringLanesIdle s
  | .mooringLayerStepEnd => Sys2Proof.Machine.execMooringLayerStepEnd s
  | .layerCut mv => Sys2Proof.Machine.execLayerCut mv s
  | .mooringRecord energy => Sys2Proof.Machine.execMooringRecord energy s
  | .mooringEnd => Sys2Proof.Machine.execMooringEnd s
  | .offHoldoffExpiry => Sys2Proof.Machine.execOffHoldoffExpiry s
  | .railFault cell mv => Sys2Proof.Machine.execRailFault cell mv s
  | .capMeasure droop mv => Sys2Proof.Machine.execCapMeasure droop mv s
  | .capTopup mv charge => Sys2Proof.Machine.execCapTopup mv charge s
  | .capOvervolt mv => Sys2Proof.Machine.execCapOvervolt mv s
  | .reserveCompute mv => Sys2Proof.Machine.execReserveCompute mv s
  | .recordSlotErase => Sys2Proof.Machine.execRecordSlotErase s
  | .thermalSample temps counts => Sys2Proof.Machine.execThermalSample temps counts s
  | .thermalStepRepeat zone => Sys2Proof.Machine.execThermalStepRepeat zone s
  | .brokenRetry mst data => Sys2Proof.Machine.execBrokenRetry mst data s
  | .panelTempSample temp => Sys2Proof.Machine.execPanelTempSample temp s
  | .vinMinClr mst data => Sys2Proof.Machine.execVinMinClr mst data s
  | .refclkLost => Sys2Proof.Machine.execRefclkLost s
  | .refclkReturn => Sys2Proof.Machine.execRefclkReturn s
  | .tilePortUp link => Sys2Proof.Machine.execTilePortUp link s
  | .laneLockLoss host lane => Sys2Proof.Machine.execLaneLockLoss host lane s
  | .nullFlit flit => Sys2Proof.Machine.execNullFlit flit s
  | .idle link frame => Sys2Proof.Machine.execIdle link frame s
  | .timePortUp port => Sys2Proof.Machine.execTimePortUp port s
  | .announceReceiptTimeout port => Sys2Proof.Machine.execAnnounceReceiptTimeout port s
  | .ptpSyncInterval port => Sys2Proof.Machine.execPtpSyncInterval port s
  | .flashWriteDone ok => Sys2Proof.Machine.execFlashWriteDone ok s
  | .startupLaneTraining results failed => Sys2Proof.Machine.execStartupLaneTraining results failed s
  | .keeperRestartEnd => Sys2Proof.Machine.execKeeperRestartEnd s

end Sys2Proof.Machine
end

