-- ==== Sys2Proof/Machine/Step.lean ====
section
/-!
DEFINITION. Machine/Step.lean: the step. The command at the front of the queue runs; on an empty queue one reference
cycle of the time-of-day clock passes (DESIGN CHOICE, log 2).
-/

namespace Sys2Proof.Machine

/-- One step of the module. -/
def step (s : State) : Host.Outcome State Fault Refusal :=
  match s.pending with
  | [] => s.run (fun _ c => c.refCycle)
  | i :: rest => exec i { s with pending := rest }

/-- `s` with the command that a table word spells at the front of its queue; no row of the table gives bits, so no word
spells one. -/
def State.withFetchWord (s : State) (nbits w : Nat) : State :=
  match decodeTableWord nbits w with
  | some i => { s with pending := i :: s.pending }
  | none => s

end Sys2Proof.Machine
end

