-- ==== Sys2Proof/Safety.lean ====
section
/-!
DEFINITION. Safety.lean: the words that claims use: a state in canonical form, what a step leaves unchanged, and when a
register takes a write.
-/

namespace Sys2Proof.Machine

/-! ### States -/

/-- A state as every step leaves it: memory in its canonical form, and no store pending outside memory. -/
abbrev State.wf (s : State) : Prop := s.mem.wf ∧ s.chip.out = []

/-- A command runs to its end: it answers a next state, of which `p` holds. -/
def completes (i : Instr) (s : State) (p : State → Prop) : Prop := ∃ t, exec i s = .next t ∧ p t

/-! ### One part of the module changed, the others kept -/

/-- `f` of the part that the name says. -/
abbrev Chip.tickUp (c : Chip) (f : Tick → Tick) : Chip := { c with tick := f c.tick }
abbrev Chip.cdcUp (c : Chip) (f : Cdc → Cdc) : Chip := { c with cdc := f c.cdc }
abbrev Chip.rayUp (c : Chip) (f : Ray → Ray) : Chip := { c with ray := f c.ray }
abbrev Chip.lensUp (c : Chip) (f : Lens → Lens) : Chip := { c with lens := f c.lens }
abbrev Chip.fstUp (c : Chip) (f : FieldStore → FieldStore) : Chip := { c with fst := f c.fst }
abbrev Chip.pcnUp (c : Chip) (f : Pcn → Pcn) : Chip := { c with pcn := f c.pcn }
abbrev Chip.bltUp (c : Chip) (f : Blt → Blt) : Chip := { c with blt := f c.blt }
abbrev Chip.scanUp (c : Chip) (f : Scan → Scan) : Chip := { c with scan := f c.scan }
abbrev Chip.lanesUp (c : Chip) (f : Lanes → Lanes) : Chip := { c with lanes := f c.lanes }
abbrev Chip.secUp (c : Chip) (f : Sec → Sec) : Chip := { c with sec := f c.sec }
abbrev Chip.dramUp (c : Chip) (f : Dram → Dram) : Chip := { c with dram := f c.dram }
abbrev Chip.clockUp (c : Chip) (f : Clock → Clock) : Chip := { c with clock := f c.clock }

/-! ### What a step leaves unchanged -/

/-- The state in which the module has become `c`, and memory and the queue are as they were. -/
def State.became (s : State) (c : Chip) : State := { s with chip := c }

/-- The state in which the module has become `c` and the stores `c` has made are in memory; the queue is as it was. -/
def State.stored (s : State) (c : Chip) : State := { s with chip := { c with out := [] }, mem := s.mem.applyAll c.out }

/-- Every byte of memory reads as before. -/
def memKept (s t : State) : Prop := ∀ a, t.mem.read a = s.mem.read a

/-- Every byte of memory outside the `n` bytes from `a` reads as before. -/
def memKeptBut (a n : Nat) (s t : State) : Prop := ∀ b, b < a ∨ a + n ≤ b → t.mem.read b = s.mem.read b

/-- Every register but those at `keys` reads as before, staged, locked and active. -/
def regsKeptBut (keys : List Nat) (c d : Chip) : Prop :=
  ∀ k, k ∉ keys → d.w k = c.w k ∧ d.lw k = c.lw k ∧ d.aw k = c.aw k

/-- A step that changed registers at `keys` and the answer of the access, and nothing else: not memory, not the queue,
and of the module's own state not even what waits for a plan lock or a commit. -/
def onlyRegs (keys : List Nat) (s t : State) : Prop :=
  regsKeptBut keys s.chip t.chip ∧ (∀ k, t.chip.lw k = s.chip.lw k) ∧ (∀ k, t.chip.aw k = s.chip.aw k)
    ∧ t.chip = { s.chip.quiet with
        regs := { s.chip.regs with imm := t.chip.regs.imm, badParity := t.chip.regs.badParity }, resp := t.chip.resp }
    ∧ (∀ k, k ∉ keys → (k ∈ t.chip.regs.badParity ↔ k ∈ s.chip.regs.badParity))
    ∧ memKept s t ∧ t.pending = s.pending

/-! ### Register accesses -/

/-- The register at `key` takes a write by master `m`: it is mapped and aligned (R53 to R55) at its own offset (R60),
neither a page lock nor a rule of its own keeps the master out (R65), the write is not mirrored (R427), no parity
injection waits (R66), the link is not about to go DOWN, and no host writes under the boot ROM (R86). -/
abbrev Chip.takesWrite (c : Chip) (m : Master) (key : Nat) : Prop :=
  key < 0x10000000 ∧ key % 4 = 0 ∧ offOf key < 0x800 ∧ c.pageMapped (pageOf key) = true ∧ c.pageLocked m key = false
    ∧ wrongMaster m key = false ∧ c.mirrorRefusal m key = none ∧ c.is ⟨pageOf key + 0x03C, 1, 1, 4⟩ = false
    ∧ c.hlk.downNext = false ∧ (c.modes.bootRom && isHost m) = false

/-- The module after a write of the register at `key` that was taken: the answer is OK, and the register's parity is
right (R66). -/
def Chip.taken (c : Chip) (key : Nat) : Chip :=
  { c with regs := { c.regs with badParity := c.regs.badParity.filter (· ≠ key) }, resp := ⟨.ok, 0⟩ }

/-- A request of opcode `op` that arrives over the host link is executed: the link is UP, Hold has not stopped requests,
nothing is wrong with the packet (R400), and the firmware runs (R86). -/
abbrev Chip.takesRequest (c : Chip) (op : Nat) (p : Packet) : Prop :=
  c.linkState = 4 ∧ c.hlk.stopped = false ∧ c.modes.bootRom = false
    ∧ c.packetFault { p with op := op, len := p.data.length, ctx := p.ctx % 2 } ((requestVc op).getD 0)
      (packetFlits p.data.length) = 0

/-- The packet of a request as it arrives. -/
def arrived (op : Nat) (p : Packet) : Packet := { p with op := op, len := p.data.length, ctx := p.ctx % 2 }

/-- The Keeper performs a request when it arrives: its firmware runs and has no request in progress, the sender and the
state permit the op, and no reserved flag or field is set (R465, R466). -/
abbrev Chip.performs (c : Chip) (q : KeeperReq) : Prop :=
  c.firmware = true ∧ c.kpr.busy = none ∧ c.opAllowed q = true ∧ reservedZero q = true

/-- The object a request names, as the Keeper reads it: its bytes where they are mapped and no longer than `most`, and
where they keep Table 8 for an object of the kind (R468). -/
abbrev objectAt (s : State) (q : KeeperReq) (kind most : Nat) (b : List Byte) : Prop :=
  s.chip.memMapped q.addr q.len = true ∧ q.len ≤ most ∧ b = s.chip.quiet.loads s.mem q.addr q.len ∧ objectFault b kind = none

/-- The result that the Keeper gave last, to which op. -/
abbrev Chip.answered (c : Chip) (op result : Nat) : Prop :=
  c.get F.KPR_OBJ_STATUS_LAST_OP = op ∧ c.get F.KPR_OBJ_STATUS_LAST_RESULT = result

/-- The register at `key` can be read: it is mapped and aligned. -/
abbrev Chip.takesRead (c : Chip) (key : Nat) : Prop :=
  key < 0x10000000 ∧ key % 4 = 0 ∧ c.pageMapped (pageOf key) = true

end Sys2Proof.Machine
end

