-- ==== Sys2Proof/Certificates/Slice0/Obligations.lean ====
section
/-!
DEFINITION. Obligations.lean: the statements for the provers. Each docstring says what the statement claims, names the rules
of the spec it rests on and, where a clause rests on a choice of the model, the entry of the assumption log.
-/

open Sys2Proof Sys2Proof.Machine

/-- Writes of BUDGET, ERR_INFO, ERR_COUNT and CTRL clear or reset what they name (R49, R57, R58). When a page takes the
write: MAX_CLR clears BUDGET.MAX and OVERRUN; a 1 in ERR_INFO.VALID clears the captured record; a write of ERR_COUNT
clears each half in which a bit is set and leaves the other; a write of CTRL outside MBX clears all 47 event
counters where CNT_CLR is 1 (and LAT_MAX in MEM[0]), holds the mode bits in CAL, and where RESET is 1 asks for a
block reset at the next commit, except in KPR and PWR. Nothing else of the state changes but the answer OK and the
register's parity. Where RESET alone is written, IN_RESET of that page then reads 1 and no stored register changes. -/
def Obligations.HeaderWritesClear : Prop :=
  ∀ (mst : Master) (page data : Nat) (s : State), page % 4096 = 0 → data < 2 ^ 32 →
    (s.chip.takesWrite mst (page + 0x030) → bit data 27 = true →
      exec (.budgetMaxClr mst page data) s = .next (s.became (
        ((s.chip.quiet.set ⟨page + 0x030, 16, 11, 4⟩ 0).set ⟨page + 0x030, 31, 1, 4⟩ 0).taken (page + 0x030))))
    ∧ (s.chip.takesWrite mst (page + 0x020) → bit data 4 = true →
      exec (.errInfoClear mst page data) s = .next (s.became (
        (((s.chip.quiet.setw (page + 0x020) 0).setw (page + 0x024) 0).setw (page + 0x028) 0).taken (page + 0x020))))
    ∧ (s.chip.takesWrite mst (page + 0x02C) →
      exec (.errCountClear mst page data) s = .next (s.became ((s.chip.quiet.setw (page + 0x02C) (BitVec.ofNat 32
        ((if data % 65536 = 0 then (s.chip.w (page + 0x02C)).toNat % 65536 else 0)
          + (if data / 65536 = 0 then (s.chip.w (page + 0x02C)).toNat / 65536 else 0) * 65536))).taken (page + 0x02C))))
    ∧ (∀ i, (i = .counterClear mst page data ∨ i = .blockResetRequest mst page data) →
      s.chip.takesWrite mst (page + 0x008) → blockOf page ≠ 15 →
      ∀ c₁ : Chip, c₁ = (if bit data 30 then foldOver (List.range 47) (fun n c => c.setw (page + 0x044 + 4 * n) 0) s.chip.quiet
          else s.chip.quiet) →
      ∀ c₂ : Chip, c₂ = (if bit data 30 = true ∧ page = P.MEM
          then foldOver (List.range 8) (fun p c => c.set (F.MEM0_LAT_MAX_NS.ix p) 0) c₁ else c₁) →
      ∀ c₃ : Chip, c₃ = (if blockOf page = 18 then c₂.setw (page + 0x008) (BitVec.ofNat 32 (data % 4)) else c₂) →
        exec i s = .next (s.became (Chip.taken (if bit data 31 = true ∧ blockOf page ≠ 14 ∧ blockOf page ≠ 20
          then { c₃ with regs := { c₃.regs with inReset := putLast c₃.regs.inReset page } } else c₃) (page + 0x008))))
    ∧ (s.chip.takesWrite mst (page + 0x008) → bit data 30 = false → bit data 31 = true → blockOf page ≠ 18 → blockOf page ≠ 15 → blockOf page ≠ 14 → blockOf page ≠ 20 → completes (.blockResetRequest mst page data) s (fun t =>
        bit (t.chip.statusWord page) 0 = true ∧ t.chip.regs.inReset = putLast s.chip.regs.inReset page
          ∧ regsKeptBut [] s.chip t.chip ∧ memKept s t))

/-- INT_RAW is cleared by writing ones and set by INT_FORCE; roll-up events clear by a host's write; injection arms
(R61, R62, R65, R66). A taken write of INT_RAW clears the bits written as 1 and leaves the rest, and delivers
nothing. A taken write of INT_FORCE sets the bits written as 1; no other register of the module changes, so no
record and no count, and the error ladder and the log stay. While the Keeper region is powered and the firmware
runs, HOST0 and HOST1 clear REGION_EVT of a region by a 1 in bit 31 and CHIP_EVT by a 1 in bit 8, whatever the KPR
page's lock says. A taken write of PARITY_CTRL with bit 1 arms INJECT. -/
def Obligations.InterruptBitsClearAndForce : Prop :=
  ∀ (mst : Master) (page data : Nat) (s : State), page % 4096 = 0 → data < 2 ^ 32 →
    (s.chip.takesWrite mst (page + 0x010) → exec (.intRawClear mst page data) s = .next (s.became
      ((s.chip.quiet.setw (page + 0x010) (s.chip.w (page + 0x010) &&& ~~~ BitVec.ofNat 32 data)).taken (page + 0x010))))
    ∧ (s.chip.takesWrite mst (page + 0x01C) → completes (.intForce mst page data) s (fun t =>
      t.chip.w (page + 0x010) = s.chip.w (page + 0x010) ||| BitVec.ofNat 32 data
        ∧ regsKeptBut [page + 0x010] s.chip t.chip ∧ t.chip.log = s.chip.log ∧ t.chip.ladder = s.chip.quiet.ladder ∧ memKept s t))
    ∧ (s.chip.takesWrite mst (page + 0x03C) → bit data 1 = true → completes (.parityInject mst page data) s (fun t =>
      t.chip.get ⟨page + 0x03C, 1, 1, 4⟩ = 1 ∧ onlyRegs [page + 0x03C] s t))
    ∧ (∀ r, (mst = .host0 ∨ mst = .host1) → s.chip.modes.bootRom = false → s.chip.blockOn 14 = true → s.chip.is ⟨P.KPR + 0x03C, 1, 1, 4⟩ = false →
      s.chip.hlk.downNext = false → bit data 31 = true → r < 4 →
      completes (.rollupEventClear mst (some r) data) s (fun t =>
        t.chip.get (F.KPR_REGION_SUM_REGION_EVT.ix r) = 0 ∧ onlyRegs [K.KPR_REGION_SUM + 4 * r] s t))
    ∧ ((mst = .host0 ∨ mst = .host1) → s.chip.modes.bootRom = false → s.chip.blockOn 14 = true → s.chip.is ⟨P.KPR + 0x03C, 1, 1, 4⟩ = false →
      s.chip.hlk.downNext = false → bit data 8 = true → completes (.rollupEventClear mst none data) s (fun t =>
        t.chip.get F.KPR_CHIP_INT_CHIP_EVT = 0 ∧ onlyRegs [K.KPR_CHIP_INT] s t))

/-- PAGE_LOCK: setting it, the refusals it brings, and the Keeper's unlock (R65). A taken write of PAGE_LOCK stores
WRITERS and sets LOCK. While LOCK is 1 a write by a master whose WRITERS bit is 0, to a register other than INT_RAW,
ERR_INFO, ERR_COUNT and, for a host, the KPR page's host registers, is answered LOCKED and changes nothing else, but
that INDEX of the two table windows moves on. A write of PAGE_LOCK by a master other than the Keeper is then
answered LOCKED. A Keeper's taken write of UNLOCK clears LOCK. -/
def Obligations.PageLockKeepsMastersOut : Prop :=
  ∀ (mst : Master) (page data : Nat) (s : State), page % 4096 = 0 → data < 2 ^ 32 →
    (s.chip.takesWrite mst (page + 0x038) → bit data 31 = true → bit data 30 = false →
      completes (.pageLockSet mst page data) s (fun t =>
        t.chip.get ⟨page + 0x038, 31, 1, 4⟩ = 1 ∧ t.chip.get ⟨page + 0x038, 0, 5, 4⟩ = data % 32 ∧ onlyRegs [page + 0x038] s t))
    ∧ (s.chip.takesWrite .keeper (page + 0x038) → bit data 30 = true →
      completes (.pageUnlock .keeper page data) s (fun t =>
        t.chip.get ⟨page + 0x038, 31, 1, 4⟩ = 0 ∧ onlyRegs [page + 0x038] s t))
    ∧ (∀ off same, off < 0x1000 → off % 4 = 0 → page + off < 0x10000000 → s.chip.pageMapped page = true →
      s.chip.hlk.downNext = false → s.chip.modes.bootRom = false → s.chip.get ⟨page + 0x038, 31, 1, 4⟩ = 1 →
      bit (s.chip.get ⟨page + 0x038, 0, 5, 4⟩) (masterBit mst) = false → off ≠ 0x010 → off ≠ 0x020 → off ≠ 0x02C →
      (page = P.KPR → isHost mst = true → off < 0x100 ∨ 0x11C ≤ off) →
      exec (.registerWrite mst (regAddr (page + off)) data ⟨4, same⟩) s = .next (s.became (Chip.respond (
        if page + off = K.PCN_TBL_DATA then s.chip.quiet.pcnIndexStep
        else if page + off = K.APL_TBL_DATA then s.chip.quiet.aplIndexStep else s.chip.quiet) .locked)))
    ∧ (s.chip.pageMapped page = true → page + 0x038 < 0x10000000 → s.chip.hlk.downNext = false → mst ≠ .keeper →
      s.chip.get ⟨page + 0x038, 31, 1, 4⟩ = 1 → exec (.pageUnlock mst page data) s
        = .next (s.became { s.chip.quiet with resp := ⟨.locked, 0⟩ }))

/-- A word written over the bus: a plain register, memory, and what is refused (R22, R24, R53, R55, R59). A taken write
of such a register replaces its RW and staged bits by the data's, clears the W1C bits and sets the W1S bits that are
written as 1, and keeps the others; lanes that the variant lacks read 0. A staged register joins the open plan, and
is noted as the last one written, unless the write lands in the cycle of a write of the same register by a master of
higher rank: then the staged bits stay as that one left them. A word written to mapped memory is stored least
significant byte first at its four addresses, and no other byte and no register changes. An access of another length
or alignment is answered UNALIGNED and changes nothing else. One that hits nothing, and is not the boot ROM's, is
answered UNMAPPED: no memory changes, and no block register outside KPR; where the block it entered by is powered
and its page's record is empty, that record holds UNMAPPED with the address, as CONT while the CONT limit is 0. In
it the model's own choices are those of log entries 25, 86 and 91. -/
def Obligations.WordWritesReachRegistersAndMemory : Prop :=
  ∀ (mst : Master) (addr data key : Nat) (same : Bool) (s : State), data < 2 ^ 32 → s.chip.hlk.downNext = false →
    (∀ d, findReg key = some d → ∀ v, v = (((((s.chip.w key).toNat &&& (0xFFFFFFFF - (d.rw ||| d.stg)))
          &&& (0xFFFFFFFF - (d.w1c &&& (data &&& s.chip.presentBits key))))
        ||| (d.w1s &&& (data &&& s.chip.presentBits key))) ||| ((data &&& s.chip.presentBits key) &&& (d.rw ||| d.stg))) →
      s.chip.takesWrite mst key → 0x100 ≤ offOf key →
      s.chip.quiet.engineWrite s.mem key data = none → s.chip.quiet.keeperRegWrite mst key data = none →
      (d.stg = 0 → exec (.registerWrite mst (regAddr key) data ⟨4, same⟩) s = .next (s.became
        ((s.chip.quiet.setw key (BitVec.ofNat 32 v)).taken key)))
      ∧ (d.stg ≠ 0 → (same = true → ∀ l, s.chip.regs.last = some l → l.1 = key → masterBit mst ≤ masterBit l.2) →
        completes (.registerWrite mst (regAddr key) data ⟨4, same⟩) s (fun t => t.chip.w key = BitVec.ofNat 32 v
          ∧ t.chip.regs.dirty = putLast s.chip.regs.dirty key ∧ t.chip.regs.last = some (key, mst)
          ∧ regsKeptBut [key] s.chip t.chip ∧ t.chip.resp = ⟨.ok, 0⟩ ∧ memKept s t))
      ∧ (∀ m, d.stg ≠ 0 → same = true → s.chip.regs.last = some (key, m) → masterBit m < masterBit mst →
        completes (.registerWrite mst (regAddr key) data ⟨4, same⟩) s (fun t =>
          (t.chip.w key).toNat &&& d.stg = (s.chip.w key).toNat &&& d.stg
          ∧ t.chip.regs.last = s.chip.regs.last ∧ regsKeptBut [key] s.chip t.chip ∧ t.chip.resp = ⟨.ok, 0⟩ ∧ memKept s t)))
    ∧ (s.chip.target addr = .mem → addr % 4 = 0 →
      completes (.registerWrite mst addr data ⟨4, same⟩) s (fun t =>
        (∀ i, i < 4 → t.mem.read (addr + i) = BitVec.ofNat 8 (data / 256 ^ i)) ∧ memKeptBut addr 4 s t
          ∧ t.chip.resp = ⟨.ok, 0⟩ ∧ ∀ k, t.chip.w k = s.chip.w k ∧ t.chip.lw k = s.chip.lw k ∧ t.chip.aw k = s.chip.aw k))
    ∧ (∀ n, s.chip.target addr ≠ .none → (addr % 4 ≠ 0 ∨ n ≠ 4) →
      exec (.registerWrite mst addr data ⟨n, same⟩) s = .next (s.became { s.chip.quiet with resp := ⟨.unaligned, 0⟩ }))
    ∧ (∀ n, s.chip.target addr = .none → s.chip.imageTarget mst addr = none →
      completes (.registerWrite mst addr data ⟨n, same⟩) s (fun t =>
        t.chip.resp = ⟨.unmapped, 0⟩ ∧ memKept s t ∧ (∀ k, 0x100 ≤ offOf k → blockOf k ≠ 14 → t.chip.w k = s.chip.w k)
          ∧ (s.chip.blockOn (blockOf (entryPage mst)) = true → bit (s.chip.w (entryPage mst + 0x20)).toNat 4 = false →
            s.chip.act ⟨entryPage mst + 0x40, 8, 8, 4⟩ = 0 →
            t.chip.w (entryPage mst + 0x20) = 0x0FFF0A15 ∧ t.chip.w (entryPage mst + 0x24) = BitVec.ofNat 32 addr
              ∧ (t.chip.w (entryPage mst + 0x28)).toNat % 2048 = 256 + addr / 2 ^ 32 % 256)))

/-- A register parity error is an event PARITY with ADDR_KIND 0b010 in its page, FATAL in SEC, APL and PWR and CONT
elsewhere (R46, R47, R66). In every state the command is one event of code PARITY in the register's page, with
ADDR_KIND 0b010 and the register's offset; outside SEC, APL and PWR the firmware, where it runs, mends the
register's parity, and else the register stays marked. Where the page's record is empty, it then holds code 0x01,
the offset in ERR_ADDR_LO and ADDR_KIND 2 with the field number in ERR_ADDR_HI: as FATAL in SEC, APL and PWR, where
the event waits for the next tick unless one waits already; as CONT elsewhere while the page's CONT limit is 0, and
then no FATAL event arises. Mode and memory stay as they were. -/
def Obligations.RegisterParityErrorIsRecorded : Prop :=
  ∀ (page off : Nat) (s : State), page % 4096 = 0 → off < 4096 →
    (∃ c : Chip, c = s.chip.quiet.event page
        (if blockOf page = 12 ∨ blockOf page = 13 ∨ blockOf page = 20 then .fatal else .cont) .parity 0xFFF 2 off
      ∧ exec (.registerParityError page off) s = .next (s.became { c with regs := { c.regs with
          badParity := c.regs.badParity.filter (· ≠ page + off)
            ++ (if blockOf page ≠ 12 ∧ blockOf page ≠ 13 ∧ blockOf page ≠ 20 ∧ s.chip.firmware = true then []
              else [page + off]) } }))
    ∧ (bit (s.chip.w (page + 0x20)).toNat 4 = false → (blockOf page = 12 ∨ blockOf page = 13 ∨ blockOf page = 20) →
      completes (.registerParityError page off) s (fun t =>
        t.chip.w (page + 0x20) = 0x0FFF011F ∧ t.chip.w (page + 0x24) = BitVec.ofNat 32 off
          ∧ t.chip.w (page + 0x28) = BitVec.ofNat 32 (512 + s.chip.tick.field % 65536 * 65536)
          ∧ t.chip.ladder.fatal = some (s.chip.ladder.fatal.getD ⟨page, 1⟩)
          ∧ t.chip.mode = s.chip.mode ∧ memKept s t))
    ∧ (bit (s.chip.w (page + 0x20)).toNat 4 = false → s.chip.act ⟨page + 0x40, 8, 8, 4⟩ = 0 →
      blockOf page ≠ 12 → blockOf page ≠ 13 → blockOf page ≠ 20 → completes (.registerParityError page off) s (fun t =>
        t.chip.w (page + 0x20) = 0x0FFF0115 ∧ t.chip.w (page + 0x24) = BitVec.ofNat 32 off
          ∧ t.chip.w (page + 0x28) = BitVec.ofNat 32 (512 + s.chip.tick.field % 65536 * 65536)
          ∧ t.chip.ladder.fatal = s.chip.ladder.fatal ∧ t.chip.mode = s.chip.mode ∧ memKept s t))

/-- A rise of a delivered interrupt bit goes out as one EVENT packet, and rises within 10 µs merge (R64, R402). With the
link UP and a VC2 credit held, a rise goes out as an EVENT packet of the context and starts the 10 µs; without a
credit it merges into the next. When the 10 µs end, rises meanwhile go out the same way. -/
def Obligations.EventPacketsTellTheHost : Prop :=
  ∀ (h : Nat) (s : State), s.chip.linkState = 4 → (s.chip.hostEvents h).rise = true →
    ((s.chip.hostEvents h).window = false → s.chip.hlk.credits.getD 2 0 ≠ 0 →
      exec (.eventPacket h) s = .next (s.became
        (((s.chip.quiet.setHostEvents h { rise := false, window := true, merged := false, resume := false }).count P.HLK 18
          ).sendPacket { op := 0x90, ctx := h
                         aux := b2n (s.chip.hostEvents h).merged + 2 * b2n (s.chip.hostEvents h).resume
                         data := s.chip.eventData h })))
    ∧ ((s.chip.hostEvents h).window = false → s.chip.hlk.credits.getD 2 0 = 0 →
      exec (.eventPacket h) s = .next (s.became
        (s.chip.quiet.setHostEvents h { s.chip.hostEvents h with merged := true })))
    ∧ ((s.chip.hostEvents h).window = true →
      exec (.eventPacketMerge h) s = .next (s.became
        ((s.chip.quiet.setHostEvents h { s.chip.hostEvents h with window := false }).sendEvent h)))

/-- ERR_COUNT counts CORR and uncorrected events in two saturating halves, each cleared by a write (R49). An event
counts once, by the class at which it ends: CORR in bits 15 to 0, CONT, ISOL and FATAL in bits 31 to 16. Each half
stops at 0xFFFF. A taken write of ERR_COUNT clears each half in which it has a bit set, leaves the other, and
changes nothing else but the answer and the register's parity. -/
def Obligations.ErrCountHalves : Prop :=
  (∀ (c : Chip) (page cell kind addr : Nat) (cls : ErrClass) (code : Code) (replan : Bool), page % 4096 = 0 →
    (c.event page cls code cell kind addr replan).get ⟨page + 0x02C, 0, 16, 4⟩
        = (if c.eventClass page cls code replan = .corr then min (c.get ⟨page + 0x02C, 0, 16, 4⟩ + 1) 0xFFFF
          else c.get ⟨page + 0x02C, 0, 16, 4⟩)
      ∧ (c.event page cls code cell kind addr replan).get ⟨page + 0x02C, 16, 16, 4⟩
        = (if c.eventClass page cls code replan = .corr then c.get ⟨page + 0x02C, 16, 16, 4⟩
          else min (c.get ⟨page + 0x02C, 16, 16, 4⟩ + 1) 0xFFFF))
    ∧ (∀ (mst : Master) (page data : Nat) (s : State), page % 4096 = 0 → data < 2 ^ 32 → s.chip.takesWrite mst (page + 0x02C) →
      completes (.errCountClear mst page data) s (fun t =>
        t.chip.get ⟨page + 0x02C, 0, 16, 4⟩ = (if data % 65536 = 0 then s.chip.get ⟨page + 0x02C, 0, 16, 4⟩ else 0)
          ∧ t.chip.get ⟨page + 0x02C, 16, 16, 4⟩ = (if data / 65536 = 0 then s.chip.get ⟨page + 0x02C, 16, 16, 4⟩ else 0)
          ∧ onlyRegs [page + 0x02C] s t))

/-- The plan lock, the commit's counters, the deadline and the loss and return of the tick source (R10, R12, R13, R18,
R21, R22, R27, R415). While a raster runs or the training slot before its first tick: a plan lock leaves the plan
locked. While a raster runs: the commit moves the field number on by one modulo 2^32 and the frame number with it at
sector 0, unless a wall's first barrier sets both, and unlocks the plan; at the deadline synthesis stops with no
tile in flight. With a TIME or HOST source selected, its loss clears LOCKED and sets HOLDOVER. Its return, but for
HOST in Hold, within 200 µs sets LOCKED, clears HOLDOVER and ends a re-phase that is wanted or pending; its return
with more than 200 µs of error stays in holdover, and leaves a re-phase pending where REPHASE_AUTO is 0. In it the
model's own choices are those of log entry 101. -/
def Obligations.TickCountersAndSource : Prop :=
  ∀ s : State,
    ((s.chip.raster = true ∨ s.chip.inSlot = true) → completes .planLock s (fun t => t.chip.tick.planLocked = true))
    ∧ (∀ io, s.chip.raster = true → s.chip.tileJump = none → completes (.commit io) s (fun t =>
      t.chip.tick.field = (s.chip.tick.field + 1) % 2 ^ 32
        ∧ t.chip.tick.frame = (if s.chip.sectorAhead 1 = 0 then s.chip.tick.frame + 1 else s.chip.tick.frame) % 2 ^ 32
        ∧ t.chip.tick.planLocked = false))
    ∧ (∀ io n, s.chip.raster = true → s.chip.tileJump = some n → completes (.commit io) s (fun t =>
      t.chip.tick.field = n.1 % 2 ^ 32 ∧ t.chip.tick.frame = n.2 % 2 ^ 32))
    ∧ (s.chip.raster = true → s.chip.ray.running = true → completes .synthesisDeadline s (fun t =>
        t.chip.ray.running = false ∧ t.chip.ray.slots = [] ∧ t.chip.ray.redo = []))
    ∧ (s.chip.act F.TIM_TICK_CTRL_SRC ≠ 0 → exec .tickHoldover s = .next (s.became
        ((s.chip.quiet.set F.TIM_TICK_STATUS_LOCKED 0).set F.TIM_TICK_STATUS_HOLDOVER 1)))
    ∧ (∀ e : Int, s.chip.act F.TIM_TICK_CTRL_SRC ≠ 0 → (s.chip.act F.TIM_TICK_CTRL_SRC = 2 → s.chip.mode ≠ .hold) →
      -20000 ≤ e → e ≤ 20000 →
      exec (.tickSourceRelock e) s = .next (s.became ((((s.chip.quiet.phaseErr e).set F.TIM_TICK_STATUS_LOCKED 1).set
        F.TIM_TICK_STATUS_HOLDOVER 0).rephaseNot)))
    ∧ (∀ e : Int, s.chip.act F.TIM_TICK_CTRL_SRC ≠ 0 → (s.chip.act F.TIM_TICK_CTRL_SRC = 2 → s.chip.mode ≠ .hold) →
      (e < -20000 ∨ 20000 < e) → completes (.tickSourceRelock e) s (fun t =>
        t.chip.get F.TIM_TICK_STATUS_LOCKED = 0 ∧ t.chip.get F.TIM_TICK_STATUS_HOLDOVER = 1
          ∧ t.chip.get F.TIM_TICK_STATUS_REPHASE_PENDING = (if s.chip.on F.TIM_TICK_CTRL_REPHASE_AUTO then 0 else 1)
          ∧ regsKeptBut [K.TIM_TICK_STATUS] s.chip t.chip ∧ memKept s t))

/-- VIN, PWR_EN and WAKE_N: boot from Off, the order to Off, the end of Hold (R72, R90). From Off, with VIN valid and
PWR_EN high and no hold-off running, the second of the two to arrive powers the Keeper region and enters Boot.
PWR_EN falling orders the module Off: it asks for Off at the next frame boundary, stops start-up after the step in
progress in Boot, and turns a shutdown order under way to Off. WAKE_N falling in Hold asks for the mode before Hold,
cause 9, unless Off is asked for; in Standby, while nothing else is under way, it starts Boot at step 2 with WARM
set, cause 9. In it the model's own choices are those of log entries 72 and 90. -/
def Obligations.PowerPinsMoveTheMode : Prop :=
  ∀ s : State,
    (∀ mv, s.chip.mode = .off → s.chip.modes.pwrEn = true → s.chip.pwr.holdoff = false → 6000 ≤ mv →
      completes (.vinValid mv) s (fun t => t.chip.mode = .boot ∧ t.chip.modes.vinValid = true
        ∧ (∀ b ∈ [14, 15, 16, 17, 18, 19, 20], t.chip.blockOn b = true) ∧ memKept s t))
    ∧ (s.chip.mode = .off → s.chip.modes.vinValid = true → s.chip.pwr.holdoff = false →
      completes .pwrEnRise s (fun t => t.chip.mode = .boot ∧ t.chip.modes.pwrEn = true
        ∧ (∀ b ∈ [14, 15, 16, 17, 18, 19, 20], t.chip.blockOn b = true) ∧ memKept s t))
    ∧ (s.chip.mode ≠ .off → s.chip.mode ≠ .mooring → s.chip.mode ≠ .boot → s.chip.modes.shutdown = none →
      exec .pwrEnFall s = .next (s.became (s.chip.quiet.modesUp (fun m => { m with
        pwrEn := false, wanted := some ⟨.off, 0, 0xB, 0, false, false⟩ }))))
    ∧ (∀ o, s.chip.mode ≠ .off → s.chip.mode ≠ .mooring → s.chip.modes.shutdown = some o →
      exec .pwrEnFall s = .next (s.became (s.chip.quiet.modesUp (fun m => { m with
        pwrEn := false, shutdown := some { o with target := .off, cause := 0xB } }))))
    ∧ (s.chip.mode = .standby → s.chip.settled = true → (∀ n, s.chip.modes.wanted = some n → n.target ≠ .off) →
      completes .wakeNLow s (fun t => t.chip.mode = .boot ∧ t.chip.get F.KPR_BOOT_STATUS_STEP = 2
        ∧ t.chip.get F.KPR_BOOT_STATUS_WARM = 1 ∧ t.chip.get F.KPR_MODE_STATUS_CAUSE = 9
        ∧ t.chip.get F.KPR_FW_VERSION_VERSION = s.chip.get F.KPR_FW_VERSION_VERSION))
    ∧ (s.chip.mode = .boot → s.chip.modes.shutdown = none →
      exec .pwrEnFall s = .next (s.became (s.chip.quiet.modesUp (fun m => { m with
        pwrEn := false, stopBoot := true }))))
    ∧ (s.chip.mode = .hold → (∀ n, s.chip.modes.wanted = some n → n.target ≠ .off) →
      exec .wakeNLow s = .next (s.became (s.chip.quiet.modesUp (fun m => { m with
        wanted := some ⟨m.holdMode, m.holdTiming, 9, 0, false, false⟩ }))))

/-- The start-up steps: what each leaves when it ends, and the Safe mode that a failed one leads to (R83, R85, R86,
R302, R513, R520, R565). In Boot, while a step may run. Step 1 takes image i where it is good and comes first or the
other is not: STEP is then 2, IMAGE i, its result 1 and FW_VERSION its version; what waits for the Keeper follows.
With neither good the module is in Safe, cause 5, under the boot ROM with HLK powered and no FW_VERSION. Step 3
makes a good stored calibration set the active one; without one it is in Safe, cause 6, with the default values.
REGION_POWER_UP powers every block of its region and marks its rails up, the Ray region from step 7 on. The EEPROM
step takes the native geometry and the identity of the first read of three that completes, if it is well formed, and
STEP is 4; else it is in Safe, cause 8. Step 5 ends with the panel trained, the raster of timing 0x0E running and
STEP 5. Step 7 with a good stored profile for this panel makes it the active one, powers CDC, TLK and APL and sets
PROFILE_OK and STEP 7; without one it is in Safe, cause 7. In it the model's own choices are those of log entries 9
and 38. -/
def Obligations.StartUpStepsEndOrFail : Prop :=
  ∀ s : State, s.chip.mayStep = true → s.chip.mode = .boot →
    (∀ (id : Nat) (paired side errA errB : Bool) (i : Nat), i < 2 → s.chip.get F.KPR_BOOT_STATUS_STEP = 0 →
      s.chip.imageResult (s.chip.kpr.images.getD i {}) (if i = 0 then errA else errB) = 1 →
      (i = s.chip.imageOrder.headD 0
        ∨ s.chip.imageResult (s.chip.kpr.images.getD (1 - i) {}) (if i = 0 then errB else errA) ≠ 1) →
      ∃ c : Chip, exec (.bootRomStart id paired side errA errB) s = .next (s.stored (c.keeperNext s.mem).stepEnds)
        ∧ c.mode = .boot ∧ c.get F.KPR_BOOT_STATUS_STEP = 2 ∧ c.get F.KPR_BOOT_STATUS_IMAGE = i
        ∧ c.get (if i = 0 then F.KPR_BOOT_STATUS_A_RESULT else F.KPR_BOOT_STATUS_B_RESULT) = 1
        ∧ (∀ h, (s.chip.kpr.images.getD i {}).header = some h → c.get F.KPR_FW_VERSION_VERSION = h.1 % 2 ^ 32))
    ∧ (∀ (id : Nat) (paired side errA errB : Bool), s.chip.get F.KPR_BOOT_STATUS_STEP = 0 →
      s.chip.imageResult (s.chip.kpr.images.getD 0 {}) errA ≠ 1 → s.chip.imageResult (s.chip.kpr.images.getD 1 {}) errB ≠ 1 →
      completes (.bootRomStart id paired side errA errB) s (fun t =>
        t.chip.mode = .safe ∧ t.chip.modes.bootRom = true ∧ t.chip.blockOn 1 = true ∧ t.chip.get F.KPR_MODE_STATUS_CAUSE = 5
          ∧ t.chip.get F.KPR_FW_VERSION_VERSION = 0 ∧ memKept s t))
    ∧ (∀ set, s.chip.get F.KPR_BOOT_STATUS_STEP = 2 → s.chip.cal.stored = some set → set.uid = s.chip.kpr.otp.uid →
      set.vals.plausible = true → completes .calSetLoad s (fun t =>
        t.chip.mode = .boot ∧ t.chip.cal.active = set.vals ∧ t.chip.get F.CAL_SET_INFO_VALID = 1
          ∧ t.chip.get F.KPR_BOOT_STATUS_STEP = 3 ∧ memKept s t))
    ∧ (s.chip.get F.KPR_BOOT_STATUS_STEP = 2 →
      (∀ set, s.chip.cal.stored = some set → set.uid ≠ s.chip.kpr.otp.uid ∨ set.vals.plausible = false) →
      completes .calSetLoad s (fun t =>
        t.chip.mode = .safe ∧ t.chip.get F.KPR_MODE_STATUS_CAUSE = 6 ∧ t.chip.cal.active = {}
          ∧ t.chip.get F.CAL_SET_INFO_VALID = 0))
    ∧ (∀ region rails : Nat, 3 ≤ s.chip.get F.KPR_BOOT_STATUS_STEP → s.chip.blockOn 14 = true →
      (region = 1 → 6 ≤ s.chip.get F.KPR_BOOT_STATUS_STEP) →
      completes (.regionPowerUp region rails) s (fun t => (∀ b ∈ blocksOfRegion region, t.chip.blockOn b = true)
        ∧ (∀ i ∈ railsOfRegion region, t.chip.is ⟨K.PWR_REGION_STATE, 16 + i, 1, 4⟩ = true) ∧ t.chip.mode = .boot))
    ∧ (∀ tries b, s.chip.get F.KPR_BOOT_STATUS_STEP = 3 → s.chip.blockOn 9 = true → s.chip.blockOn 3 = true →
      ((tries.take 3).filterMap (fun t => t)).head? = some b → eepromOk s.chip.isC8 b = true →
      completes (.panelEepromRead tries) s (fun t =>
        t.chip.get F.SCN_NATIVE_WIDTH = leNat (slice b 64 2) ∧ t.chip.get F.SCN_NATIVE_HEIGHT = leNat (slice b 66 2)
          ∧ t.chip.get F.KPR_BOOT_STATUS_STEP = 4 ∧ t.chip.kpr.identity = b.take 64 ∧ t.chip.mode = .boot ∧ memKept s t))
    ∧ (∀ tries, s.chip.get F.KPR_BOOT_STATUS_STEP = 3 → s.chip.blockOn 9 = true → s.chip.blockOn 3 = true →
      (∀ b, ((tries.take 3).filterMap (fun t => t)).head? = some b → eepromOk s.chip.isC8 b = false) →
      completes (.panelEepromRead tries) s (fun t =>
        t.chip.mode = .safe ∧ t.chip.get F.KPR_MODE_STATUS_CAUSE = 8))
    ∧ (∀ results failed, s.chip.get F.KPR_BOOT_STATUS_STEP = 4 → s.chip.blockOn 9 = true → s.chip.blockOn 11 = true →
      completes (.startupLaneTraining results failed) s (fun t =>
        t.chip.raster = true ∧ t.chip.get F.KPR_MODE_STATUS_TIMING = 0x0E ∧ t.chip.modeId = 0x0E
          ∧ t.chip.get F.KPR_BOOT_STATUS_STEP = 5 ∧ t.chip.get F.SER0_TRAIN_STATUS_DONE = 1 ∧ memKept s t))
    ∧ (∀ p, s.chip.get F.KPR_BOOT_STATUS_STEP = 6 → s.chip.kpr.profile = some p → s.chip.stillGood p = true →
      p.bind = s.chip.panelDigest → s.chip.blockOn 5 = true → completes .startupProfileLoad s (fun t =>
        t.chip.kpr.active = some p ∧ t.chip.get F.KPR_BOOT_STATUS_PROFILE_OK = 1 ∧ t.chip.get F.KPR_BOOT_STATUS_STEP = 7
          ∧ t.chip.blockOn 2 = true ∧ t.chip.blockOn 4 = true ∧ t.chip.blockOn 13 = true ∧ t.chip.mode = .boot))
    ∧ (s.chip.get F.KPR_BOOT_STATUS_STEP = 6 →
      (∀ p, s.chip.kpr.profile = some p → s.chip.stillGood p = false ∨ p.bind ≠ s.chip.panelDigest) →
      completes .startupProfileLoad s (fun t =>
        t.chip.mode = .safe ∧ t.chip.get F.KPR_MODE_STATUS_CAUSE = 7))

/-- A MODE_SET waits for its frame boundary, and a transition, a shutdown order or the end of start-up moves the mode
(R72, R76, R77, R80, R83, R88). A MODE_SET that the module accepts becomes the one pending request, or on the Tender
of a wall with members the one announced; one it refuses is answered with its result. At the boundary the transition
taken there takes effect; where it moves the mode in a dark sequence it sets MODE and PREV, and CHANGING while the
sequence runs; one that ends the raster starts the shutdown order. Start-up completes the same way, with cause 0xC.
Once the black fields are over and the layer has stopped, the order ends with the module in Standby, in Boot at step
0, or Off with no block powered. In it the model's own choices are those of log entries 70, 71 and 90. -/
def Obligations.ModeChangesTakeEffect : Prop :=
  ∀ s : State,
    (∀ ep msg, s.chip.firmware = true → (s.chip.quiet.keeperTake ep msg).modeJudge (readModeSet ep msg) = none →
      s.chip.leads = true → s.chip.tlk.members ≠ [] → s.chip.blockOn 4 = true → s.chip.raster = true →
      completes (.modeSet ep msg) s (fun t => t.chip.mode = s.chip.mode ∧ t.chip.modes.pending = s.chip.modes.pending
        ∧ ∃ w, t.chip.tlk.move = some w ∧ w.ep = ep ∧ w.target = (readModeSet ep msg).target ∧ w.timing = (readModeSet ep msg).timing))
    ∧ (∀ ep msg, s.chip.firmware = true → (s.chip.quiet.keeperTake ep msg).modeJudge (readModeSet ep msg) = none →
      (s.chip.leads = false ∨ s.chip.tlk.members = [] ∨ s.chip.blockOn 4 = false ∨ s.chip.raster = false) →
      completes (.modeSet ep msg) s (fun t => t.chip.modes.pending = some (readModeSet ep msg) ∧ t.chip.mode = s.chip.mode))
    ∧ (∀ ep msg e, s.chip.firmware = true →
      (s.chip.quiet.keeperTake ep msg).modeJudge (readModeSet ep msg) = some e →
      exec (.modeSet ep msg) s = .next (s.became
        ((s.chip.quiet.keeperTake ep msg).modeResult (readModeSet ep msg) e)))
    ∧ (∀ n, s.chip.raster = true → s.chip.modes.next = some n → s.chip.modes.due = true →
      exec .modeTransition s = .next (s.stored (s.chip.quiet.transit n)))
    ∧ (∀ n d, s.chip.raster = true → s.chip.modes.next = some n → s.chip.modes.due = true → n.stops = false →
      s.chip.modes.dark = some d → n.target ≠ s.chip.mode → n.target ≠ .hold → s.chip.mode ≠ .hold → s.chip.mode ≠ .safe →
      completes .modeTransition s (fun t => t.chip.mode = n.target ∧ t.chip.get F.KPR_MODE_STATUS_CHANGING = 1
        ∧ t.chip.get F.KPR_MODE_STATUS_MODE = modeCode n.target ∧ t.chip.get F.KPR_MODE_STATUS_PREV = modeCode s.chip.mode
        ∧ t.chip.modes.next = none))
    ∧ (∀ n, s.chip.raster = true → s.chip.modes.next = some n → s.chip.modes.due = true → n.stops = true →
      s.chip.blockOn 13 = false → s.chip.paired = false →
      completes .modeTransition s (fun t => t.chip.modes.shutdown = some ⟨n.target, n.cause, 1⟩
        ∧ t.chip.mode = s.chip.mode ∧ t.chip.get F.KPR_MODE_STATUS_CHANGING = 1))
    ∧ (∀ n d, s.chip.mode = .boot → s.chip.modes.next = some n → s.chip.modes.due = true → n.cause = 0xC →
      n.stops = false → n.target = .flat → s.chip.modes.dark = some d →
      completes .startupComplete s (fun t => t.chip.mode = .flat ∧ t.chip.get F.KPR_MODE_STATUS_CAUSE = 0xC))
    ∧ (∀ n, s.chip.modes.shutdown = some n → (s.chip.raster = true → n.left = 0) →
      (s.chip.blockOn 13 = true → s.chip.apl.runs = []) → completes .orderlyRecord s (fun t =>
        (n.target = .standby → t.chip.mode = .standby ∧ t.chip.modes.shutdown = none
          ∧ t.chip.get F.KPR_MODE_STATUS_CAUSE = n.cause % 16)
        ∧ (n.target = .boot → t.chip.mode = .boot ∧ t.chip.get F.KPR_BOOT_STATUS_STEP = 0)
        ∧ (n.target = .off → t.chip.mode = .off ∧ t.chip.blocksOn = [])
        ∧ ∀ b, b < 14 → t.chip.blockOn b = false))

/-- The dark sequence: raster off in the training slot, on again at the new mode's first tick, and its end (R45, R80).
After the black fields of the old mode the raster stops, TIMING reads 0, the sequence is in its slot and the panel
trains; at the new mode's first tick it runs again with TIMING the new mode and training over; after two black
fields the sequence ends with CHANGING 0 and the mode as it was. A FATAL event takes a module that runs start-up or
a picture to Safe at the next tick, with cause 4, and with CDC, TLK, RAY, LNS, FST and BLT unpowered. -/
def Obligations.DarkSequenceStages : Prop :=
  ∀ s : State,
    (∀ d, s.chip.modes.dark = some d → d.stage = 0 → d.left = 0 → d.timing ≠ 0 → completes .darkTrainingSlot s (fun t =>
      t.chip.raster = false ∧ t.chip.modes.dark = some { d with stage := 1 } ∧ t.chip.get F.KPR_MODE_STATUS_TIMING = 0
        ∧ t.chip.lanes.training = true ∧ memKept s t))
    ∧ (∀ d, s.chip.modes.dark = some d → d.stage = 1 → completes .newModeFirstTick s (fun t =>
      t.chip.raster = true ∧ t.chip.modes.dark = some { d with stage := 2, left := 2 }
        ∧ t.chip.get F.KPR_MODE_STATUS_TIMING = d.timing % 256 ∧ t.chip.lanes.training = false ∧ memKept s t))
    ∧ (∀ d, s.chip.modes.dark = some d → d.stage = 2 → d.left = 0 → s.chip.dark = false →
      completes .darkSequenceEnd s (fun t =>
        t.chip.modes.dark = none ∧ t.chip.get F.KPR_MODE_STATUS_CHANGING = 0 ∧ t.chip.mode = s.chip.mode))
    ∧ (∀ f, s.chip.ladder.fatal = some f → s.chip.modes.bootRom = false →
      s.chip.mode = .flat ∨ s.chip.mode = .lightfield ∨ s.chip.mode = .hold ∨ s.chip.mode = .boot →
      completes .fatalSafeEntry s (fun t => t.chip.mode = .safe ∧ t.chip.get F.KPR_MODE_STATUS_CAUSE = 4
        ∧ t.chip.ladder.fatal = none ∧ ∀ b ∈ safeOff, t.chip.blockOn b = false))

/-- The codec's job ring: posting, starting, completing, aborting and flushing (R137, R138, R140, R143, R144). A write
of JOB_HEAD within the ring that does not overfill it posts the slots from the old HEAD up to the new one in order
and sets HEAD; another one is ignored. The job at TAIL, its words checked at posting or now, ends INVALID where they
fail the checks of R138 and otherwise waits until its plan commits, and starts then. A running job that completes, a
CAPTURE not before its field is over, leaves the ring and moves TAIL on by one slot, with the result that jobFinish
gives. JOB_ABORT marks the posted jobs it names ABORTED and stops the running one with status 3 in its result; for a
job that has completed it sets ABORT_LATE, bit 8 of result word 12. FLUSH ends the group of a running ENCODE or
CAPTURE job at a texel count that the spec leaves open, no more than the job has received; in another case it does
nothing. In it the model's own choices are those of log entries 44, 46 and 93. -/
def Obligations.CodecJobRing : Prop :=
  ∀ (mst : Master) (data : Nat) (s : State),
    (s.chip.takesWrite mst K.CDC_JOB_HEAD →
      ∀ n, n = s.chip.jobEntries → ∀ v, v = data % 256 → ∀ head, head = s.chip.get F.CDC_JOB_HEAD_HEAD →
        ∀ used, used = (head + n - s.chip.get F.CDC_JOB_TAIL_TAIL) % n → ∀ new, new = (v + n - head) % n →
        (v < n → used + new < n → completes (.cdcJobPost mst data) s (fun t =>
          t.chip.get F.CDC_JOB_HEAD_HEAD = v
            ∧ t.chip.cdc.posted.map Posted.index = s.chip.cdc.posted.map Posted.index ++ (List.range new).map (fun i => (head + i) % n)
            ∧ t.chip.cdc.running = s.chip.cdc.running
            ∧ regsKeptBut [K.CDC_JOB_HEAD, K.CDC_JOB_TAIL, P.CDC + 0x00C] s.chip t.chip ∧ memKept s t))
        ∧ (n ≤ v ∨ n ≤ used + new →
          exec (.cdcJobPost mst data) s = .next (s.became (s.chip.quiet.taken K.CDC_JOB_HEAD))))
    ∧ (∀ (p : Posted) rest, s.chip.cdc.posted = p :: rest → s.chip.cdc.running = none →
        ∀ ws, ws = p.words.getD (s.chip.jobWords s.mem p.index) →
        (p.doom = none → p.words = none → s.chip.jobBad ws = true →
          completes .cdcJobStart s (fun t => t.chip.cdc.running = none ∧ t.chip.cdc.posted = rest
            ∧ t.chip.get F.CDC_JOB_TAIL_TAIL = (p.index + 1) % max 1 s.chip.jobEntries % 256
            ∧ (s.chip.memMapped (s.chip.jobAddr p.index) 64 = true → t.mem.read (s.chip.jobAddr p.index + 48) = 5)))
        ∧ (∀ st, p.doom = some st → completes .cdcJobStart s (fun t => t.chip.cdc.running = none ∧ t.chip.cdc.posted = rest
            ∧ t.chip.get F.CDC_JOB_TAIL_TAIL = (p.index + 1) % max 1 s.chip.jobEntries % 256
            ∧ (s.chip.memMapped (s.chip.jobAddr p.index) 64 = true →
              t.mem.read (s.chip.jobAddr p.index + 48) = BitVec.ofNat 8 st)))
        ∧ (p.doom = none → (p.words ≠ none ∨ s.chip.jobBad ws = false) → s.chip.due p = false →
          exec .cdcJobStart s = .next (s.became (s.chip.quiet.cdcUp (fun d => { d with
            posted := { p with words := some ws } :: rest }))))
        ∧ (p.doom = none → (p.words ≠ none ∨ s.chip.jobBad ws = false) → s.chip.due p = true →
          completes .cdcJobStart s (fun t =>
            t.chip.cdc.running = some ⟨p.index, p.start, ws, [], p.plan⟩ ∧ t.chip.cdc.posted = rest
              ∧ t.chip.get F.CDC_JOB_TAIL_RUNNING = 1
              ∧ regsKeptBut [K.CDC_JOB_TAIL, P.CDC + 0x00C] s.chip t.chip ∧ memKept s t)))
    ∧ (∀ r, s.chip.cdc.running = some r →
        (∀ parity, ((jobSpec r.words).op = 2 → s.chip.tick.field = r.plan → s.chip.timing.total ≤ s.chip.scan.next) →
          exec (.cdcJobComplete parity) s
              = .next (s.stored (s.chip.quiet.jobFinish s.mem r (jobSpec r.words).blocks none parity))
            ∧ completes (.cdcJobComplete parity) s (fun t =>
              t.chip.cdc.running = none ∧ r.index ∈ t.chip.cdc.done
                ∧ t.chip.get F.CDC_JOB_TAIL_TAIL = (r.index + 1) % max 1 s.chip.jobEntries % 256))
        ∧ (s.chip.takesWrite mst K.CDC_JOB_ABORT → (bit data 31 = true ∨ r.index = data % 256) →
          completes (.cdcJobAbort mst data) s (fun t => t.chip.cdc.running = none
            ∧ t.chip.get F.CDC_JOB_TAIL_TAIL = (r.index + 1) % max 1 s.chip.jobEntries % 256
            ∧ (s.chip.memMapped (s.chip.jobAddr r.index) 64 = true → t.mem.read (s.chip.jobAddr r.index + 48) = 3)))
        ∧ (s.chip.takesWrite mst K.CDC_FLUSH → (jobSpec r.words).op ≠ 1 → bit data 0 = true →
          (∀ q ∈ r.flushAt, q ≤ s.chip.jobReceived (jobSpec r.words)) → completes (.cdcFlush mst data) s (fun t =>
            ∃ p, p ≤ s.chip.jobReceived (jobSpec r.words) ∧ (∀ q ∈ r.flushAt, q ≤ p)
              ∧ t.chip.cdc.running = some { r with flushAt := r.flushAt ++ [p] }
              ∧ regsKeptBut [P.CDC + 0x044 + 4 * 7] s.chip t.chip ∧ memKept s t)))
    ∧ (s.chip.takesWrite mst K.CDC_FLUSH →
        (bit data 0 = false ∨ s.chip.cdc.running = none ∨ ∃ r, s.chip.cdc.running = some r ∧ (jobSpec r.words).op = 1) →
        exec (.cdcFlush mst data) s = .next (s.became (s.chip.quiet.taken K.CDC_FLUSH)))
    ∧ (s.chip.takesWrite mst K.CDC_JOB_ABORT → s.chip.cdc.running = none →
        ((bit data 31 = true ∨ (data % 256) ∉ s.chip.cdc.done) → completes (.cdcJobAbort mst data) s (fun t =>
          t.chip.cdc.posted = s.chip.cdc.posted.map (fun (p : Posted) =>
              if bit data 31 = true ∨ p.index = data % 256 then { p with doom := some 3 } else p)
            ∧ regsKeptBut [] s.chip t.chip ∧ memKept s t))
        ∧ (bit data 31 = false → (data % 256) ∈ s.chip.cdc.done → (∀ p ∈ s.chip.cdc.posted, p.index ≠ data % 256) →
          s.chip.memMapped (s.chip.jobAddr (data % 256) + 49) 1 = true → completes (.cdcJobAbort mst data) s (fun t =>
            t.mem.read (s.chip.jobAddr (data % 256) + 49) = s.mem.read (s.chip.jobAddr (data % 256) + 49) ||| 1
              ∧ memKeptBut (s.chip.jobAddr (data % 256) + 49) 1 s t ∧ regsKeptBut [] s.chip t.chip)))

/-- Tiles are dispatched, finished and restarted; cache misses ask the codec; failing groups become transparent (R111,
R148, R150, R162, R171, R175, R176, R178). While synthesis runs, the next tile in schedule order goes to the lowest-
numbered cluster that is enabled, in service and has a free slot, and of memory only its context changes; with a
parity error of the context its occupancy is all ones and it is marked. A level-1 miss that level 2 does not hold is
counted as a miss of both and asks CDC for the block. A group that fails its check twice becomes transparent. A tile
in flight is finished once what its rays read has been fetched: it leaves its cluster's slot, and its number joins
the finished ones. A first parity error restarts the tile in its slot; a second, of a cluster that has filled none
yet, fills it and takes it out. A write of CLUSTER_OUT notes the clusters whose return is asked for. In it the
model's own choices are those of log entries 19 and 20. -/
def Obligations.TilesAndTexelCaches : Prop :=
  ∀ s : State,
    (∀ bad retry cls t k, s.chip.nextTile = some (cls, t) → (List.range 32).find? s.chip.clusterFree = some k →
      s.chip.ray.running = true → completes (.tileDispatch bad retry) s (fun u =>
        (∃ mask, u.chip.ray.slots = s.chip.ray.slots ++ [⟨k, t, mask, cls, bad || s.chip.stuckAt (s.chip.ctxBase + 8 * t) 8, false⟩]
            ∧ (bad = true → mask = 2 ^ ((s.chip.ring.use.map (·.frame.layers)).getD []).length - 1))
          ∧ memKeptBut (s.chip.ctxBase + 8 * t) 8 s u))
    ∧ (∀ cl layer bx bty, s.chip.ring.use ≠ none → (∀ e ∈ s.chip.ray.l1, e.tag ≠ ⟨cl, layer, bx, bty⟩) →
      (∀ x ∈ s.chip.ray.lines, x.holds layer bx bty = false) →
      exec (.texelCacheMiss cl layer bx bty) s = .next (s.became
        (((s.chip.quiet.count P.RAY 8).count P.RAY 9).rayUp (fun r => { r with asked := putLast r.asked ⟨cl, layer, bx, bty⟩ }))))
    ∧ (∀ layer group pipe sf d g, s.chip.ring.use = some sf → sf.frame.layers[layer]? = some d →
      ((groupsOf sf.frame (s.chip.loads s.mem (s.chip.slotAddr sf.slot) sf.frame.frameBytes)).filter
        (fun g => g.layer = layer))[group]? = some g → (layer, group) ∉ s.chip.ray.transparent →
      completes (.cdcGroupDecode layer group pipe true true) s (fun t =>
        t.chip.ray.transparent = s.chip.ray.transparent ++ [(layer, group)] ∧ memKept s t))
    ∧ (∀ cl tile c, c = Chip.tileFetch s.mem cl tile 33 [] s.chip.quiet →
      exec (.tileFinish cl tile) s = .next (s.stored (c.tileEnd s.mem cl tile))
        ∧ (∀ slot, c.ray.slots.find? (fun x => x.cluster = cl && x.tile = tile) = some slot →
          completes (.tileFinish cl tile) s (fun t =>
            t.chip.ray.slots = c.ray.slots.filter (fun x => decide (x ≠ slot)) ∧ t.chip.ray.finished = c.ray.finished ++ [tile])))
    ∧ (∀ cl tile slot level layer bx bty, s.chip.ray.slots.find? (fun x => x.cluster = cl && x.tile = tile) = some slot →
      (slot.parity = false → completes (.tileParityRestart cl tile level layer bx bty) s (fun t =>
        t.chip.ray.slots = s.chip.ray.slots.map (fun x => if x = slot then { x with parity := true } else x)
          ∧ t.chip.ray.finished = s.chip.ray.finished ∧ memKeptBut (s.chip.ctxBase + 8 * tile) 8 s t))
      ∧ (slot.parity = true → cl ∉ s.chip.ray.parityFills → completes (.tileParityRestart cl tile level layer bx bty) s (fun t =>
        t.chip.ray.slots = s.chip.ray.slots.filter (fun x => decide (x ≠ slot))
          ∧ t.chip.ray.finished = s.chip.ray.finished ++ [tile] ∧ t.chip.ray.parityFills = s.chip.ray.parityFills ++ [cl])))
    ∧ (∀ mst data, s.chip.takesWrite mst K.RAY_CLUSTER_OUT → data < 2 ^ 32 →
      exec (.clusterReturn mst data) s = .next (s.became ((s.chip.quiet.rayUp (fun r =>
        { r with returning := r.returning ||| (data &&& s.chip.get F.RAY_CLUSTER_OUT_OUT) })).taken K.RAY_CLUSTER_OUT)))

/-- The host link moves through its states: DETECT, TRAIN, INIT, UP, RECOVER, LP and DOWN (R389, R390, R405, R406,
R407). DETECT begins with ENABLE 1 and the Scene region powered, and ends in TRAIN or, at its time-out, in DOWN. TS
flits before the switch give the peer's limits; a TS flit after it gives the width on which both sides agree, where
there is one, and leads to INIT. At the switch the rate is 32 Gb/s unless RATE16, the peer or a failed switch at 32
limits it to 16. INIT brings the link UP with the peer's buffers. Time-outs, a lost lane in use and RETRAIN lead to
RECOVER or DOWN, ENABLE 0 to DOWN with cause 1; LP is entered on LP_ACK or its expiry, and left into RECOVER. In it
the model's own choices are those of log entries 7, 58 and 59. -/
def Obligations.HostLinkStates : Prop :=
  ∀ s : State,
    (s.chip.linkState = 0 → s.chip.is F.HLK_LINK_CTRL_ENABLE = true → s.chip.blockOn 1 = true →
      exec .linkDetect s = .next (s.became (s.chip.quiet.set F.HLK_LINK_STATUS_STATE 1)))
    ∧ (s.chip.linkState = 1 → completes .linkDetectTimeout s (fun t =>
        t.chip.linkState = 0 ∧ t.chip.hlk.replay = [] ∧ memKept s t))
    ∧ (∀ lanes, s.chip.linkState = 1 → lanes % 16 = 15 → completes (.linkTrainEntry lanes) s (fun t =>
        t.chip.linkState = 2 ∧ t.chip.get F.HLK_LANE_STATUS_RX_LOCK = lanes % 65536
          ∧ t.chip.hlk.ownLanes = lanes % 65536 ∧ t.chip.hlk.wire.length = 1))
    ∧ (∀ l w p, s.chip.linkState = 2 → readFlit l = some (w, p) → bitsOf w 27 26 = 2 → leNat (p.take 1) = 1 →
        s.chip.modes.bootRom = false →
        (s.chip.hlk.trainRate = 0 → exec (.ts l) s = .next (s.became
          (((s.chip.quiet.set F.HLK_PEER_INFO_MAX_WIDTH (leNat ((p.drop 3).take 1))).set
            F.HLK_PEER_INFO_MAX_RATE (leNat ((p.drop 4).take 1))).hlkUp (fun h => { h with peerLanes := leNat ((p.drop 1).take 2) }))))
        ∧ (∀ width, s.chip.hlk.trainRate ≠ 0 →
          (s.chip.set F.HLK_PEER_INFO_MAX_WIDTH (leNat ((p.drop 3).take 1))).agreedWidth
            (s.chip.hlk.ownLanes &&& leNat ((p.drop 1).take 2)) = some width → completes (.ts l) s (fun t =>
            t.chip.linkState = 3 ∧ t.chip.get F.HLK_LINK_STATUS_WIDTH = width
              ∧ t.chip.get F.HLK_LINK_STATUS_RATE = s.chip.hlk.trainRate % 4 ∧ t.chip.hlk.agreed = true)))
    ∧ (∀ pass peaks, s.chip.linkState = 2 → s.chip.hlk.agreed = false → s.chip.modes.bootRom = false →
        completes (.linkRateSwitch pass peaks) s (fun t =>
          t.chip.hlk.trainRate = (if s.chip.is F.HLK_LINK_CTRL_RATE16 = true ∨ s.chip.get F.HLK_PEER_INFO_MAX_RATE = 1
              ∨ s.chip.hlk.trainRate = 2 then 1 else 2)
            ∧ t.chip.get F.HLK_LINK_STATUS_RATE = t.chip.hlk.trainRate
            ∧ t.chip.get F.HLK_LANE_STATUS_RX_LOCK = pass % 65536 ∧ t.chip.linkState = 2))
    ∧ (s.chip.linkState = 2 → completes .linkTrainTimeout s (fun t => t.chip.linkState = 5 ∧ memKept s t))
    ∧ (∀ l w p, s.chip.linkState = 3 → s.chip.hlk.agreed = true → readFlit l = some (w, p) → bitsOf w 27 26 = 2 →
        leNat (p.take 1) = 2 → s.chip.hlk.waiting = [] → completes (.init l) s (fun t =>
          t.chip.linkState = 4 ∧ t.chip.get F.HLK_SEQ_STATUS_TX_NEXT = 0 ∧ t.chip.get F.HLK_SEQ_STATUS_RX_EXPECT = 0
            ∧ t.chip.hlk.credits = [leNat ((p.drop 1).take 2), leNat ((p.drop 3).take 2), leNat ((p.drop 5).take 2)]))
    ∧ (s.chip.linkState = 5 → completes .linkRecoverTimeout s (fun t => t.chip.linkState = 0 ∧ memKept s t))
    ∧ (∀ mst data, s.chip.takesWrite mst K.HLK_LINK_CTRL → s.chip.linkState = 4 → bit data 4 = true → bit data 0 = true →
        completes (.linkRetrain mst data) s (fun t => t.chip.linkState = 5 ∧ t.chip.get F.HLK_LINK_CTRL_RETRAIN = 0))
    ∧ (∀ mst data, s.chip.takesWrite mst K.HLK_LINK_CTRL → s.chip.is F.HLK_LINK_CTRL_ENABLE = true → bit data 0 = false →
        completes (.linkEnableWrite mst data) s (fun t =>
          t.chip.linkState = 0 ∧ t.chip.get F.HLK_DOWN_INFO_CAUSE = 1 ∧ t.chip.resp.status = .ok))
    ∧ (∀ lane, s.chip.linkState = 4 → bit (s.chip.get F.HLK_LANE_STATUS_USED) lane = true →
        completes (.laneLockLoss true lane) s (fun t => t.chip.linkState = 5 ∧ memKept s t))
    ∧ (∀ l w p, s.chip.linkState = 4 → s.chip.hlk.lpReq = true → readFlit l = some (w, p) → bitsOf w 27 26 = 2 →
        leNat (p.take 1) = 5 → completes (.lpAck l) s (fun t =>
          t.chip.linkState = 6 ∧ t.chip.get F.HLK_LP_STATUS_IN_LP = 1 ∧ t.chip.get F.HLK_LP_STATUS_UNILATERAL = 0))
    ∧ (s.chip.linkState = 4 → s.chip.hlk.lpReq = true → completes .lpAckWaitExpiry s (fun t =>
        t.chip.linkState = 6 ∧ t.chip.get F.HLK_LP_STATUS_IN_LP = 1 ∧ t.chip.get F.HLK_LP_STATUS_UNILATERAL = 1))
    ∧ (s.chip.linkState = 6 → completes (.lpExit false) s (fun t =>
        t.chip.linkState = 5 ∧ t.chip.get F.HLK_LP_STATUS_IN_LP = 0 ∧ t.chip.get F.HLK_LP_STATUS_EXIT_CAUSE = 2))

/-- DATA, NULL and NAK flits: sequence, credits, acknowledgement and resending (R391, R393, R394, R395, R397, R408). A
DATA flit of the expected number is accepted: the expected number moves on by one modulo 4 096 and its payload joins
its packet, which runs when it is whole. A flit of another number is discarded, with one NAK. A flit's ACK frees the
flits it covers, its credits add up four by four. A NAK resends every unacknowledged flit from EXPECT on, an ACK
time-out every one, each counted once. INJECT.CRC waits for the next DATA flit. In it the model's own choices are
those of log entries 4 and 35. -/
def Obligations.FlitsInSequence : Prop :=
  ∀ (l : List Byte) (w : Nat) (p : List Byte) (s : State), readFlit l = some (w, p) → s.chip.linkState = 4 →
    (∀ vc before head, vc = bitsOf w 25 24 → bitsOf w 27 26 = 0 → w % 4096 = s.chip.get F.HLK_SEQ_STATUS_RX_EXPECT →
      bitsOf w 29 28 = 3 → s.chip.hlk.held.getD vc 0 + s.chip.hlk.owed.getD vc 0 < myBuffers.getD vc 0 →
      s.chip.hlk.replay = [] → s.chip.hlk.waiting = [] → s.chip.hlk.stopped = false →
      before = ((s.chip.hlk.parts.find? (fun e => e.1 = vc)).map (·.2)).getD [] →
      head = readHeader ((before ++ [p]).headD []) → before.length + 1 < headerFlits head →
      completes (.dataFlit l) s (fun t =>
        t.chip.get F.HLK_SEQ_STATUS_RX_EXPECT = (w + 1) % 4096
          ∧ t.chip.hlk.parts = s.chip.hlk.parts.filter (fun e => decide (e.1 ≠ vc)) ++ [(vc, before ++ [p])]
          ∧ t.chip.hlk.held = modifyAt s.chip.hlk.held vc (· + 1) ∧ memKept s t))
    ∧ (bitsOf w 27 26 = 0 → w % 4096 ≠ s.chip.get F.HLK_SEQ_STATUS_RX_EXPECT →
      (s.chip.hlk.nak = true → exec (.dataFlit l) s = .next (s.became s.chip.quiet))
      ∧ (s.chip.hlk.nak = false → completes (.dataFlit l) s (fun t =>
          t.chip.hlk.nak = true ∧ t.chip.hlk.wire.length = 1
            ∧ t.chip.w (P.HLK + 0x044 + 4 * 13) = s.chip.w (P.HLK + 0x044 + 4 * 13) + 1
            ∧ regsKeptBut [P.HLK + 0x044 + 4 * 13] s.chip t.chip ∧ memKept s t)))
    ∧ (s.chip.hlk.waiting = [] → s.chip.hlk.stopped = false →
      (∀ v, v = bitsOf w 29 28 → v < 3 → s.chip.hlk.credits.getD v 0 + 4 * bitsOf w 31 30 ≤ s.chip.hlk.peerBuf.getD v 0 →
        completes (.nullFlit l) s (fun t =>
          t.chip.hlk.credits = modifyAt s.chip.hlk.credits v (fun _ => s.chip.hlk.credits.getD v 0 + 4 * bitsOf w 31 30)
            ∧ t.chip.hlk.replay = s.chip.hlk.replay.filter (fun f => decide (0 < signedDiff 12 f.seq (bitsOf w 23 12)))
            ∧ memKept s t))
      ∧ (∀ e, e = bitsOf (leNat ((p.drop 1).take 2)) 11 0 → bitsOf w 27 26 = 2 → leNat (p.take 1) = 3 → bitsOf w 29 28 = 3 →
        (∀ f ∈ s.chip.hlk.replay, 0 < signedDiff 12 f.seq (bitsOf w 23 12)) →
        (∀ f ∈ s.chip.hlk.replay, f.resent + 1 < s.chip.get F.HLK_RETRY_CFG_REPLAY_LIMIT) →
        (∃ f ∈ s.chip.hlk.replay, 0 ≤ signedDiff 12 f.seq e) → completes (.nak l) s (fun t =>
          t.chip.hlk.replay = s.chip.hlk.replay.map (fun f => if 0 ≤ signedDiff 12 f.seq e then { f with resent := f.resent + 1 } else f)
            ∧ t.chip.hlk.wire.length = (s.chip.hlk.replay.filter (fun f => decide (0 ≤ signedDiff 12 f.seq e))).length
            ∧ t.chip.linkState = 4)))
    ∧ (∀ f rest, s.chip.hlk.replay = f :: rest → (∀ g ∈ f :: rest, 0 ≤ signedDiff 12 g.seq f.seq) →
      (∀ g ∈ f :: rest, g.resent + 1 < s.chip.get F.HLK_RETRY_CFG_REPLAY_LIMIT) → completes .ackTimeout s (fun t =>
        t.chip.hlk.replay = (f :: rest).map (fun g => { g with resent := g.resent + 1 })
          ∧ t.chip.hlk.wire.length = rest.length + 1
          ∧ t.chip.w (P.HLK + 0x044 + 4 * 14) = s.chip.w (P.HLK + 0x044 + 4 * 14) + 1))
    ∧ (∀ mst data, s.chip.takesWrite mst K.HLK_INJECT → bit data 0 = true → completes (.linkCrcInject mst data) s (fun t =>
        t.chip.get F.HLK_INJECT_CRC = 1 ∧ onlyRegs [K.HLK_INJECT] s t))

/-- Requests over the host link: register packets, DMA, mailbox posts, ticks, time requests and scene packets (R11,
R101, R398, R399, R401, R403). Each clause holds where the request is executed: the link UP, Hold not stopping
requests, the packet VALID, the firmware running. REG_RD and REG_WR act as the context's host master, word after
word up to the first refused one, and are answered with its STATUS and the words read or the count written. DMA_WR
to on-chip SRAM stores exactly its data at ADDR; to LPDDR6 its accesses join its port's queue and memory stays.
DMA_RD starts while fewer than RD_MAX reads of its context run and none waits, and waits behind them otherwise. A
DMA request to memory that is not mapped is refused as a whole. A served job is retired, and a write that asks for
it or a read is answered; a read that waited may start then. MBX_POST places 64 bytes in its channel. TICK latches
its arrival, and with the host as the tick source outside Hold sets the next target to its arrival and HOST_DELAY.
TIME_REQ is answered with T2 and T3. A scene packet of another context than SRC_CTX, or with the stream disabled, is
counted as a stray; while nothing in the frame so far is wrong, a START packet opens the lowest-numbered free slot
and further ones add to it, their bytes stored at the slot's running offset. In it the model's own choices are those
of log entries 16, 56 and 57. -/
def Obligations.HostRequestsAreServed : Prop :=
  ∀ (p : Packet) (s : State),
    (s.chip.takesRequest 1 p →
      ∀ r, r = s.chip.quiet.readWords s.mem (hostMaster (p.ctx % 2)) p.fault p.aux p.addr →
      exec (.regRd p) s = .next (s.stored (r.2.2.reply (arrived 1 p) 0x81 r.1.value 0
        (if r.1 = .ok ∨ r.1 = .parity then r.2.1 else []))))
    ∧ (s.chip.takesRequest 2 p →
      ∀ r, r = s.chip.quiet.writeWords s.mem (hostMaster (p.ctx % 2)) (p.data.length / 4) p.addr p.data 0 →
      exec (.regWr p) s = .next (s.stored ((r.2.2.reply (arrived 2 p) 0x82 r.1.value r.2.1 []).busEnd)))
    ∧ (s.chip.takesRequest 3 p → s.chip.memMapped p.addr p.data.length = true →
      (sramBase ≤ p.addr → completes (.dmaWr p) s (fun t =>
        memKeptBut p.addr p.data.length s t ∧ (∀ i (h : i < p.data.length), t.mem.read (p.addr + i) = p.data[i])
          ∧ t.chip.hlk.dma = s.chip.hlk.dma
            ++ [⟨s.chip.hlk.nextJob, p.ctx % 2, p.tag, p.addr, p.data.length, true, p.ackreq, [], []⟩]
          ∧ t.chip.dram = s.chip.dram))
      ∧ (p.addr < sramBase → completes (.dmaWr p) s (fun t =>
        memKept s t ∧ t.chip.dram.reqs.length = s.chip.dram.reqs.length + (accesses p.addr p.data.length).length)))
    ∧ (s.chip.takesRequest 3 p → s.chip.memMapped p.addr p.data.length = false → completes (.dmaWr p) s (fun t =>
        memKept s t ∧ t.chip.hlk.dma = s.chip.hlk.dma ∧ t.chip.dram = s.chip.dram))
    ∧ (s.chip.takesRequest 4 p → s.chip.memMapped p.addr p.rdlen = true → s.chip.readsRunning (p.ctx % 2) < s.chip.rdMax →
      (∀ q ∈ s.chip.hlk.readQueue, q.ctx ≠ p.ctx % 2) → completes (.dmaRd p) s (fun t =>
        t.chip.hlk.dma = s.chip.hlk.dma ++ [⟨s.chip.hlk.nextJob, p.ctx % 2, p.tag, p.addr, p.rdlen, false, p.ackreq,
            if sramBase ≤ p.addr then s.chip.quiet.loads s.mem p.addr p.rdlen else [],
            if sramBase ≤ p.addr then s.chip.stuckLines p.addr p.rdlen else []⟩]
          ∧ memKept s t))
    ∧ (s.chip.takesRequest 4 p → s.chip.memMapped p.addr p.rdlen = true →
      (s.chip.rdMax ≤ s.chip.readsRunning (p.ctx % 2) ∨ ∃ q ∈ s.chip.hlk.readQueue, q.ctx = p.ctx % 2) →
      completes (.dmaRd p) s (fun t => t.chip.hlk.readQueue = s.chip.hlk.readQueue ++ [arrived 4 p]
        ∧ t.chip.hlk.dma = s.chip.hlk.dma ∧ memKept s t))
    ∧ (∀ job d, s.chip.dmaServed job = true → s.chip.hlk.dma.find? (fun x => x.job = job && x.write) = some d →
      completes (.dmaWrComplete job) s (fun t => t.chip.hlk.dma = s.chip.hlk.dma.erase d ∧ memKept s t))
    ∧ (∀ job d f, s.chip.dmaServed job = true → s.chip.hlk.dma.find? (fun x => x.job = job && !x.write) = some d →
      completes (.dmaRdComplete ⟨job, f⟩) s (fun t => memKept s t
        ∧ t.chip.hlk.dma.take (s.chip.hlk.dma.erase d).length = s.chip.hlk.dma.erase d
        ∧ ((∀ q ∈ s.chip.hlk.readQueue, q.ctx ≠ d.ctx) → t.chip.hlk.dma = s.chip.hlk.dma.erase d)))
    ∧ (s.chip.takesRequest 6 p → p.aux ≤ 2 → p.aux ≠ 1 + p.ctx % 2 → p.far = 0 → s.chip.epExists p.aux = true →
      (s.chip.chan p.aux (1 + p.ctx % 2)).length < 8 → completes (.mbxPost p) s (fun t =>
        (t.chip.chan p.aux (1 + p.ctx % 2)).map MbxMsg.data
          = (s.chip.chan p.aux (1 + p.ctx % 2)).map MbxMsg.data ++ [padBytes 64 p.data]))
    ∧ (s.chip.takesRequest 7 p → completes (.tick p) s (fun t =>
        t.chip.get F.HLK_TICK_TS_LO_NS = s.chip.arrival.2 % 2 ^ 30 ∧ t.chip.get F.HLK_TICK_TS_HI_S = s.chip.arrival.1 % 2 ^ 32
          ∧ memKept s t
          ∧ (s.chip.act F.TIM_TICK_CTRL_SRC = 2 → s.chip.mode ≠ .hold →
            ∀ ns, ns = s.chip.arrival.2 + 1000 * max 50 (s.chip.act F.TIM_TICK_CTRL_HOST_DELAY) →
              t.chip.tick.hostTarget = some (s.chip.arrival.1 + ns / 1000000000, ns % 1000000000))
          ∧ ((s.chip.act F.TIM_TICK_CTRL_SRC ≠ 2 ∨ s.chip.mode = .hold) → t.chip.tick = s.chip.tick)))
    ∧ (s.chip.takesRequest 8 p → exec (.timeReq p) s = .next (s.became (s.chip.quiet.reply (arrived 8 p) 0x88 0 0
        (leBytes 4 s.chip.arrival.2 ++ leBytes 4 s.chip.arrival.1 ++ leBytes 4 (s.chip.timePlus 0).2 ++ leBytes 4 (s.chip.timePlus 0).1))))
    ∧ (∀ ctx start data, ctx < 2 → s.chip.takesRequest 5 { p with ctx := ctx, start := start, data := data } →
      ((s.chip.on F.HLK_SCENE_CTRL_ENABLE = false ∨ s.chip.act F.HLK_SCENE_CTRL_SRC_CTX ≠ ctx) →
        exec (.scene ctx start data) s = .next (s.became (s.chip.quiet.count P.HLK 10)))
      ∧ (∀ fl, s.chip.on F.HLK_SCENE_CTRL_ENABLE = true → s.chip.act F.HLK_SCENE_CTRL_SRC_CTX = ctx →
        (start = false ∧ s.chip.ring.fill = some fl
          ∨ start = true ∧ s.chip.ring.fill = none ∧ s.chip.ring.freeSlot = some fl.slot ∧ fl.bytes = []) →
        slsCheck (fl.bytes ++ data) s.chip.slotBytes = .partialOk → (fl.bytes ++ data).length ≤ s.chip.slotBytes →
        (24 ≤ (fl.bytes ++ data).length → (fl.bytes ++ data).length ≤ wordAt (fl.bytes ++ data) 20) →
        completes (.scene ctx start data) s (fun t =>
          t.chip.ring.fill = some ⟨fl.slot, fl.bytes ++ data⟩
            ∧ memKeptBut (s.chip.slotAddr fl.slot + fl.bytes.length) data.length s t
            ∧ (∀ i (h : i < data.length), t.mem.read (s.chip.slotAddr fl.slot + fl.bytes.length + i) = data[i]))))

/-- Tile-link frames: acceptance in sequence, acknowledgement, resending, retraining and loss of a link (R389, R411,
R412, R415). On an UP link an IDLE frame's ACK frees the frames it covers and lets waiting ones out. A sequenced
frame of the expected number moves the number on modulo 256, and on a port not SPLIT acts; one of another number
does nothing but a NAK. A received NAK resends every unacknowledged frame from EXPECT on; a replay time-out resends
from the oldest on. A lane that loses lock has its link retrain with its buffers and numbers kept and the resends
without progress at 0; a retraining link that does not return is DOWN, with buffers and numbers gone. A link of an
enabled port that finishes training comes UP: afresh, or with its buffers where it retrained and no frame stands at
its eighth resend. In it the model's own choices are those of log entry 49. -/
def Obligations.TileLinkFrames : Prop :=
  ∀ (l : Nat) (s : State), s.chip.blockOn 4 = true →
    (∀ frame w d, readTile frame = some (w, d) → (s.chip.link l).up = true →
      (w % 256 = 0 → completes (.idle l frame) s (fun t =>
        t.chip.link l = ((s.chip.quiet.linkSet l (fun k => { k with
          active := bit w 30
          replay := k.replay.filter (fun f => decide (0 < signedDiff 8 f.seq (bitsOf w 23 16))) })).tilePump l).link l
          ∧ ((s.chip.link l).waiting = [] → t.chip.link l = { s.chip.link l with
              active := bit w 30
              replay := (s.chip.link l).replay.filter (fun f => decide (0 < signedDiff 8 f.seq (bitsOf w 23 16))) })
          ∧ memKept s t))
      ∧ (w % 256 ∈ tileTypes → 0x10 ≤ w % 256 → bitsOf w 15 8 = (s.chip.link l).expect →
        (s.chip.portSplit (l / 2) = false → l % 2 = 0 → (s.chip.tileRx l frame).2 = some (w % 256, bitsOf w 29 24, d))
          ∧ ((s.chip.tileRx l frame).1.link l).expect = ((s.chip.link l).expect + 1) % 256
          ∧ ((s.chip.tileRx l frame).1.link l).nak = false)
      ∧ (w % 256 ∈ tileTypes → 0x10 ≤ w % 256 → bitsOf w 15 8 ≠ (s.chip.link l).expect →
        (s.chip.tileRx l frame).2 = none ∧ ((s.chip.tileRx l frame).1.link l).expect = (s.chip.link l).expect
          ∧ ((s.chip.tileRx l frame).1.link l).nak = true)
      ∧ (w % 256 = 1 →
        exec (.tlNak l frame) s = .next (s.stored ((s.chip.quiet.tileRx l frame).1.tileResend l (leNat (d.take 1))))
        ∧ ((s.chip.link l).waiting = [] →
          (∀ f ∈ (s.chip.link l).replay, 0 < signedDiff 8 f.seq (bitsOf w 23 16) ∧ f.resent + 1 < 8) →
          (∃ f ∈ (s.chip.link l).replay, 0 ≤ signedDiff 8 f.seq (leNat (d.take 1))) → completes (.tlNak l frame) s (fun t =>
            (t.chip.link l).replay = (s.chip.link l).replay.map (fun f =>
              if 0 ≤ signedDiff 8 f.seq (leNat (d.take 1)) then { f with resent := f.resent + 1 } else f)
            ∧ (t.chip.link l).up = true))))
    ∧ (∀ f rest, (s.chip.link l).up = true → (s.chip.link l).replay = f :: rest →
      exec (.tlReplayTimeout l) s = .next (s.stored (s.chip.quiet.tileResend l f.seq))
      ∧ ((∀ g ∈ f :: rest, 0 ≤ signedDiff 8 g.seq f.seq ∧ g.resent + 1 < 8) → completes (.tlReplayTimeout l) s (fun t =>
        (t.chip.link l).replay = (f :: rest).map (fun g => { g with resent := g.resent + 1 })
          ∧ t.chip.tlk.wire.length = rest.length + 1)))
    ∧ (l < 8 → (s.chip.link l).up = false → (s.chip.link l).kept = true → completes (.portDown l) s (fun t =>
        t.chip.link l = {} ∧ memKept s t))
    ∧ (l < s.chip.tlk.links.length → (s.chip.link l).up = false → bit (s.chip.get F.TLK_PORT_CTRL_EN) (l / 2) = true →
      l ∈ s.chip.linksOf (l / 2) → ((s.chip.link l).kept = true → ∀ f ∈ (s.chip.link l).replay, f.resent + 1 < 8) →
      completes (.tilePortUp l) s (fun t =>
        (t.chip.link l).up = true ∧ (t.chip.link l).kept = false ∧ t.chip.get (portState (l / 2)) = 2 ∧ memKept s t
          ∧ ((s.chip.link l).kept = false → (t.chip.link l).expect = 0)
          ∧ ((s.chip.link l).kept = true → (t.chip.link l).expect = (s.chip.link l).expect)))
    ∧ (∀ lane, l = (if s.chip.portSplit (lane / 2) then lane else 2 * (lane / 2)) → (s.chip.link l).up = true →
      completes (.laneLockLoss false lane) s (fun t =>
        t.chip.link l = { s.chip.link l with
          up := false, kept := true, nak := false
          replay := (s.chip.link l).replay.map (fun f => { f with resent := 0 }) } ∧ memKept s t))

/-- Joining a wall, its barriers and its summaries (R415, R416, R417, R418). Of a frame that has been accepted on a
link: a JOIN on a D port is sent on by a worker with DEPTH one more (at most 255), and judged by the Tender, who
admits a joiner whose reason of Table 3 is 0 and refuses another with its ID and reason in JOIN_REFUSED. A
JOIN_RESULT with a worker's ID has it join, or stand alone; one with another ID goes on down. A refused or detached
worker asks again. A worker of the tree keeps a barrier for its next plan, or any barrier while its counters have
not been set. The Tender's barrier names the next field, the highest level within the policy's bounds and the lower
of the brightness bounds. A child's summary of the plan in hand is merged, and goes out when it is the last awaited;
one of a later plan is kept, one of an earlier plan or not awaited is counted late. What has not come by the wait's
end is marked MISSING. In it the model's own choices are those of log entries 7, 50 and 51. -/
def Obligations.WallMembersBarriersAndSummaries : Prop :=
  ∀ (l : Nat) (frame : List Byte) (s : State),
    (∀ kind id d, (s.chip.quiet.tileRx l frame).2 = some (kind, id, d) → ∀ c, c = (s.chip.quiet.tileRx l frame).1 →
      (kind = 0x10 → (l / 2 = portD0 ∨ l / 2 = portD1) →
        (c.isTender = false → exec (.join l frame) s = .next (s.became ((c.learnRoute (l / 2) id).sendUp 0x10 id
          (d.take 2 ++ leBytes 1 (min 255 (ob d 2 1 + 1)) ++ d.drop 3))))
        ∧ (c.isTender = true →
          ∀ r, r = (c.learnRoute (l / 2) id).joinReason (ob d 0 1 % 64) (bit (ob d 1 1) 0) (ob d 1 1 / 2 % 2) (bit (ob d 1 1) 2)
            (ob d 2 1) (ob d 3 1) →
          (r = 0 → completes (.join l frame) s (fun t =>
            (∃ m ∈ t.chip.tlk.members, m.id = ob d 0 1 % 64) ∧ t.chip.isMember (ob d 0 1 % 64) = true ∧ memKept s t))
          ∧ (r ≠ 0 → completes (.join l frame) s (fun t =>
            t.chip.tlk.members = c.tlk.members ∧ t.chip.get F.TLK_JOIN_REFUSED_ID = ob d 0 1 % 64
              ∧ t.chip.get F.TLK_JOIN_REFUSED_REASON = r ∧ t.chip.get F.TLK_JOIN_REFUSED_VALID = 1 ∧ memKept s t))))
      ∧ (kind = 0x11 → l / 2 = portU →
        (id ≠ c.ownId → exec (.joinResult l frame) s = .next (s.became (c.sendDown 0x11 id d)))
        ∧ (id = c.ownId → ob d 0 1 % 16 = 0 → completes (.joinResult l frame) s (fun t =>
          t.chip.get F.TLK_JOIN_STATUS_STATE = 2 ∧ t.chip.get F.TLK_JOIN_STATUS_DETACHED = 0
            ∧ t.chip.get F.TIM_TICK_CTRL_SRC = 1 ∧ memKept s t))
        ∧ (id = c.ownId → ob d 0 1 % 16 ≠ 0 → completes (.joinResult l frame) s (fun t =>
          t.chip.get F.TLK_JOIN_STATUS_STATE = 3 ∧ t.chip.get F.TLK_JOIN_STATUS_REASON = ob d 0 1 % 16 ∧ memKept s t)))
      ∧ (kind = 0x12 → l / 2 = portU → c.inTree = true →
        (c.tlk.synced = false ∨ (readBarrier d).field = (c.tick.field + 1) % 2 ^ 32) → completes (.barrier l frame) s (fun t =>
          t.chip.tlk.barrier = some (readBarrier d)
            ∧ t.chip.w (P.TLK + 0x044) = c.w (P.TLK + 0x044) + 1 ∧ memKept s t))
      ∧ (kind = 0x13 → (l / 2 = portD0 ∨ l / 2 = portD1) →
        ((readSummary d).plan = c.tick.field % 65536 → l / 2 ∈ c.tlk.awaited →
          ∀ mine, c.tlk.summary = some mine →
          ((∃ p ∈ c.tlk.awaited, p ≠ l / 2) → completes (.summary l frame) s (fun t =>
            t.chip.tlk.summary = some (mine.merge (readSummary d)) ∧ l / 2 ∉ t.chip.tlk.awaited ∧ memKept s t))
          ∧ ((∀ p ∈ c.tlk.awaited, p = l / 2) → completes (.summary l frame) s (fun t =>
            t.chip.tlk.summary = none ∧ t.chip.tlk.awaited = [] ∧ memKept s t
              ∧ (c.isTender = true → t.chip.tlk.merged = some (mine.merge (readSummary d))))))
        ∧ ((readSummary d).plan ≠ c.tick.field % 65536 → 0 < signedDiff 16 (readSummary d).plan (c.tick.field % 65536) →
          completes (.summary l frame) s (fun t => (l / 2, readSummary d) ∈ t.chip.tlk.early ∧ memKept s t))
        ∧ (signedDiff 16 (readSummary d).plan (c.tick.field % 65536) < 0 → completes (.summary l frame) s (fun t =>
          t.chip.w (P.TLK + 0x04C) = c.w (P.TLK + 0x04C) + 1 ∧ memKept s t))))
    ∧ (s.chip.blockOn 4 = true → (s.chip.get F.TLK_JOIN_STATUS_STATE = 3 ∨ s.chip.get F.TLK_JOIN_STATUS_DETACHED = 1) →
      s.chip.isTender = false → completes .joinRetry s (fun t =>
        t.chip.get F.TLK_JOIN_STATUS_STATE = (if s.chip.get F.TLK_JOIN_STATUS_STATE = 2 then 2 else 1) ∧ memKept s t))
    ∧ (s.chip.isTender = true → s.chip.blockOn 4 = true → s.chip.blockOn 9 = true →
      (s.chip.tlk.members = [] → completes .barrierSend s (fun t => t.chip.tlk.barrier = none ∧ memKept s t))
      ∧ (s.chip.tlk.members ≠ [] → completes .barrierSend s (fun t => ∃ b, t.chip.tlk.barrier = some b ∧
        b.field = (s.chip.tick.field + 1) % 2 ^ 32
          ∧ (∀ m, s.chip.tlk.merged = some m → b.cap = min m.bright s.chip.kpr.brightMax
            ∧ (s.chip.kpr.policy ≠ [] → b.level = s.chip.levelClamp (max m.level (s.chip.get F.KPR_ADAPT_STATUS_WANT))))
          ∧ (s.chip.tlk.merged = none → b.cap = s.chip.kpr.brightMax ∧ b.bind = false) ∧ memKept s t)))
    ∧ (∀ mine, s.chip.tlk.summary = some mine →
      (s.chip.isTender = true → completes .summaryWaitExpiry s (fun t =>
        t.chip.tlk.summary = none ∧ t.chip.tlk.merged = some { mine with flags := mine.flags ||| 4 } ∧ memKept s t))
      ∧ (s.chip.isTender = false → exec .summaryWaitExpiry s = .next (s.became
        ((s.chip.quiet.tlkUp (fun k => { k with summary := none, awaited := [] })).sendUp 0x13 s.chip.ownId
          { mine with flags := mine.flags ||| 4 }.bytes))))

/-- Mailbox halves, register frames, mirrored writes and remote commands over the tile link (R413, R424, R427, R482). Of
a frame that has been accepted on a link: one that is not for this module goes on its way. For this module, MBX_A
keeps the first 32 bytes, and MBX_B with its half there places the 64 in the inbox of FAR if a slot is free, else
leaves the channel. MBX_CPL with OK frees the slot of the message in flight; with FULL the message waits. REG_RD and
REG_WR act as master 3, or 4 from the partner, and are answered; REG_CPL from the command's target ends it. A
mirrored write acts at once for the open plan and waits for the one after it, on the member that does not own the
outputs. After 100 µs a held message goes out when it is its outbox's next. REMOTE_CTRL.GO runs a command to the
partner or, at the Tender, to a member, ends at once with STATUS 8 for another target, and 1 ms ends one with STATUS
9. In it the model's own choices are those of log entry 55. -/
def Obligations.TileMessagesAndRemoteCommands : Prop :=
  ∀ (l : Nat) (frame : List Byte) (s : State),
    (∀ kind id d, (s.chip.quiet.tileRx l frame).2 = some (kind, id, d) → ∀ c, c = (s.chip.quiet.tileRx l frame).1 →
      (∀ own here, c.tileForward kind (l / 2) id d = (own, here) →
        (own = false →
          (kind ∈ [0x20, 0x23, 0x25] → exec (.mbxA l frame) s = .next (s.became here))
          ∧ (kind ∈ [0x21, 0x24, 0x26] → exec (.mbxB l frame) s = .next (s.became here))
          ∧ (kind = 0x22 → exec (.mbxCpl l frame) s = .next (s.became here))
          ∧ (kind = 0x30 → ∀ f, exec (.tlRegRd l ⟨frame, f⟩) s = .next (s.became here))
          ∧ (kind = 0x31 → exec (.tlRegWr l frame) s = .next (s.became here))
          ∧ (kind = 0x32 → exec (.regCpl l frame) s = .next (s.became here)))
        ∧ (own = true →
          (kind ∈ [0x20, 0x23, 0x25] → exec (.mbxA l frame) s = .next (s.became (here.tlkUp (fun t => { t with
            halves := t.halves.filter (fun h => !(h.port = l / 2 && h.id = id && h.kind = kind)) ++ [⟨l / 2, id, kind, d⟩] }))))
          ∧ (kind ∈ [0x21, 0x24, 0x26] →
            ∀ h, here.tlk.halves.find? (fun h => h.port = l / 2 && h.id = id && h.kind + 1 = kind) = some h →
            ∀ from_, from_ = partyOf (l / 2) id → here.epExists from_ = true →
            ((here.chan (farOf kind) from_).length < 8 → completes (.mbxB l frame) s (fun t =>
              (t.chip.chan (farOf kind) from_).map MbxMsg.data
                = (here.chan (farOf kind) from_).map MbxMsg.data ++ [padBytes 64 (h.data ++ d)]
              ∧ h ∉ t.chip.tlk.halves ∧ memKept s t))
            ∧ (8 ≤ (here.chan (farOf kind) from_).length → completes (.mbxB l frame) s (fun t =>
              t.chip.chan (farOf kind) from_ = here.chan (farOf kind) from_ ∧ h ∉ t.chip.tlk.halves ∧ memKept s t)))
          ∧ (kind = 0x22 → ∀ e, e = partyOf (l / 2) id → ∀ f, here.mbx.flight.find? (fun f => f.1 = e) = some f →
            (leNat (d.take 1) = 0 → completes (.mbxCpl l frame) s (fun t =>
              t.chip.chan e f.2 = (here.chan e f.2).drop 1 ∧ t.chip.mbx.order = here.mbx.order.erase f ∧ memKept s t))
            ∧ (leNat (d.take 1) = 7 → completes (.mbxCpl l frame) s (fun t =>
              t.chip.chan e f.2 = here.chan e f.2 ∧ t.chip.mbx.order = here.mbx.order ∧ f ∈ t.chip.mbx.hold ∧ memKept s t)))
          ∧ (kind = 0x30 → ∀ f, ∀ r : Chip, r = here.busRead s.mem (frameMaster (l / 2)) (ob d 0 5) 4 f →
            exec (.tlRegRd l ⟨frame, f⟩) s = .next (s.stored
              (r.tileAnswer 0x32 (l / 2) id (leBytes 1 r.resp.status.value ++ leBytes 4 r.resp.data.toNat))))
          ∧ (kind = 0x31 → ∀ r : Chip, r = (here.busWrite s.mem (frameMaster (l / 2)) (ob d 0 5) (ob d 5 4) 4).busEnd →
            exec (.tlRegWr l frame) s = .next (s.stored
              (r.tileAnswer 0x32 (l / 2) id (leBytes 1 r.resp.status.value ++ leBytes 4 0))))
          ∧ (kind = 0x32 → here.is F.TLK_REMOTE_CTRL_BUSY = true →
            here.get F.TLK_REMOTE_CTRL_DEST = (if l / 2 = portP then 64 else id) → completes (.regCpl l frame) s (fun t =>
              t.chip.get F.TLK_REMOTE_CTRL_BUSY = 0 ∧ t.chip.get F.TLK_REMOTE_CTRL_STATUS = ob d 0 1
                ∧ t.chip.get F.TLK_REMOTE_DATA_DATA
                  = (if here.is F.TLK_REMOTE_CTRL_WRITE = true then here.get F.TLK_REMOTE_DATA_DATA else ob d 1 4)
                ∧ memKept s t))))
      ∧ (kind = 0x40 → l / 2 = portP → c.paired = true → c.is F.TLK_PAIR_STATUS_OWN = false →
        ∀ key, c.target (ob d 0 5) = .reg key → offOf key < 0x800 →
        ∀ ahead, ahead = signedDiff 16 (ob d 9 2) ((c.tick.field + 1 + b2n c.tick.planLocked) % 65536) →
        (ahead ≤ 0 → exec (.mirror l frame) s = .next (s.became (c.plainWrite key (ob d 5 4))))
        ∧ (0 < ahead → exec (.mirror l frame) s = .next (s.became
          (c.tlkUp (fun t => { t with mirrored := t.mirrored ++ [(key, ob d 5 4)] }))))))
    ∧ (∀ e q, (e, q) ∈ s.chip.mbx.hold → (∀ f ∈ s.chip.mbx.flight, f.1 ≠ e) → s.chip.chan e q ≠ [] →
      s.chip.mbx.order.find? (fun o => o.1 = e && !(s.chip.mbx.hold.filter (· ≠ (e, q))).contains o) = some (e, q) →
      completes (.mbxRemoteResend e q) s (fun t =>
        t.chip.mbx.hold = s.chip.mbx.hold.filter (· ≠ (e, q)) ∧ t.chip.mbx.flight = s.chip.mbx.flight ++ [(e, q)] ∧ memKept s t))
    ∧ (∀ mst data, s.chip.takesWrite mst K.TLK_REMOTE_CTRL → s.chip.is F.TLK_REMOTE_CTRL_BUSY = false → bit data 8 = true →
      ∀ dst, dst = data % 128 → ∀ there : Bool, there = (if dst = 64 then s.chip.paired
        else s.chip.isTender && s.chip.tlk.members.any (fun m => m.id = dst)) →
      completes (.remoteGo mst data) s (fun t =>
        t.chip.get F.TLK_REMOTE_CTRL_BUSY = (if there = true then 1 else 0)
          ∧ t.chip.get F.TLK_REMOTE_CTRL_STATUS = (if there = true then 0 else 8)
          ∧ t.chip.get F.TLK_REMOTE_CTRL_DEST = dst ∧ memKept s t))
    ∧ (s.chip.is F.TLK_REMOTE_CTRL_BUSY = true → exec .remoteTimeout s = .next (s.became
        ((s.chip.quiet.set F.TLK_REMOTE_CTRL_BUSY 0).set F.TLK_REMOTE_CTRL_STATUS 9)))

/-- A redundant pair: heartbeats, divergence and the ownership of the outputs (R428, R429, R430, R431, R432). An
accepted heartbeat gives the partner's field, mode and eligibility. At T + HB_WAIT a heartbeat for the field just
begun clears MISSED; without one MISSED counts up to 3, and at 3 BLOCKED shows a partner that still owns. The
partner's 16 signatures are compared once its heartbeat is of the same commit: with none unequal DIVERGED clears,
with one the field counts towards DIVERGE_LIMIT. Outputs leave high impedance where the member owns them and
PAIR_OWN_I is low. PAIR_OWN_I rising on side B before that gives the outputs up; its fall has an eligible member
that does not own them stage both DRIVE bits to 1. RELEASE stages an owner's DRIVE bits to 0. In it the model's own
choices are those of log entry 53. -/
def Obligations.RedundantPairs : Prop :=
  ∀ s : State,
    (∀ l frame kind id d, (s.chip.quiet.tileRx l frame).2 = some (kind, id, d) → l / 2 = portP →
      ∀ c, c = (s.chip.quiet.tileRx l frame).1 →
      (kind = 0x03 → c.paired = true →
      completes (.heartbeat l frame) s (fun t =>
        t.chip.tlk.beat = some (ob d 0 4) ∧ t.chip.tlk.seen = true ∧ t.chip.tlk.releasing = bit (ob d 4 1) 5
          ∧ t.chip.get F.TLK_PAIR_STATUS_PARTNER_FIELD = ob d 0 4 % 65536
          ∧ t.chip.get F.TLK_PAIR_STATUS_PARTNER_MODE = ob d 4 1 % 8
          ∧ t.chip.get F.TLK_PAIR_STATUS_PARTNER_ELIGIBLE = ob d 4 1 / 16 % 2 ∧ memKept s t))
      ∧ (kind = 0x04 → exec (.daymarkLo l frame) s = .next (s.became (c.tlkUp (fun t => { t with sigs := (List.range 8).map (fun i => ob d (4 * i) 4) }))))
      ∧ (kind = 0x05 → c.get F.TLK_PAIR_CTRL_DIVERGE_LIMIT ≠ 0 → c.tlk.beat = some c.tick.field → c.tlk.sigs.length = 8 →
      ∀ theirs, theirs = c.tlk.sigs ++ (List.range 8).map (fun i => ob d (4 * i) 4) →
      ((∀ r < 16, theirs.getD r 0 = c.daymarkSig r) → completes (.daymarkHi l frame) s (fun t =>
        t.chip.tlk.diverged = 0 ∧ t.chip.get F.TLK_PAIR_STATUS_DIVERGED = 0 ∧ memKept s t))
      ∧ ((∃ r < 16, theirs.getD r 0 ≠ c.daymarkSig r) → completes (.daymarkHi l frame) s (fun t =>
        t.chip.tlk.diverged = c.tlk.diverged + 1 ∧ t.chip.w (P.TLK + 0x044 + 4 * 8) = c.w (P.TLK + 0x044 + 4 * 8) + 1
          ∧ (c.tlk.diverged + 1 = c.get F.TLK_PAIR_CTRL_DIVERGE_LIMIT → t.chip.get F.TLK_PAIR_STATUS_DIVERGED = 1) ∧ memKept s t))))
    ∧ (s.chip.paired = true → s.chip.blockOn 4 = true →
      (s.chip.tlk.beat = some s.chip.tick.field → completes .heartbeatCheck s (fun t =>
        t.chip.get F.TLK_PAIR_STATUS_MISSED = 0 ∧ t.chip.get F.TLK_PAIR_STATUS_BLOCKED = 0 ∧ memKept s t))
      ∧ (s.chip.tlk.beat ≠ some s.chip.tick.field → completes .heartbeatCheck s (fun t =>
        t.chip.get F.TLK_PAIR_STATUS_MISSED = min 3 (s.chip.get F.TLK_PAIR_STATUS_MISSED + 1)
          ∧ t.chip.get F.TLK_PAIR_STATUS_BLOCKED = b2n (2 ≤ s.chip.get F.TLK_PAIR_STATUS_MISSED
            && s.chip.is F.TLK_PAIR_STATUS_PARTNER_OWN) ∧ memKept s t)))
    ∧ (s.chip.paired = true →
      (s.chip.is F.TLK_PAIR_STATUS_OWN = true → s.chip.is F.TLK_PAIR_STATUS_PARTNER_OWN = false →
        exec .pairOutputEnable s = .next (s.became (s.chip.quiet.tlkUp (fun t => { t with outputs := true }))))
      ∧ completes (.pairOwnIChange true) s (fun t =>
        t.chip.get F.TLK_PAIR_STATUS_PARTNER_OWN = 1 ∧ memKept s t ∧ t.chip.get F.TLK_PAIR_STATUS_OWN
          = (if s.chip.tlk.outputs = false ∧ s.chip.is F.TLK_NODE_CFG_SIDE = true then 0 else s.chip.get F.TLK_PAIR_STATUS_OWN))
      ∧ completes (.pairOwnIChange false) s (fun t =>
        t.chip.get F.TLK_PAIR_STATUS_PARTNER_OWN = 0 ∧ memKept s t
          ∧ t.chip.get F.TLK_PAIR_STATUS_OWN = s.chip.get F.TLK_PAIR_STATUS_OWN
          ∧ (s.chip.is F.TLK_PAIR_STATUS_PARTNER_OWN = true → s.chip.is F.TLK_PAIR_STATUS_OWN = false →
            s.chip.eligible = true → s.chip.tlk.takeover = false →
            t.chip.tlk.takeover = true ∧ t.chip.get F.SEC_OWNER_DRIVE = 1 ∧ t.chip.get F.APL_OWNER_DRIVE = 1))
      ∧ (∀ mst data, s.chip.takesWrite mst K.TLK_PAIR_CTRL → bit data 1 = true → completes (.pairRelease mst data) s (fun t =>
        t.chip.get F.TLK_PAIR_CTRL_RELEASE = 1 ∧ memKept s t
          ∧ (s.chip.is F.TLK_PAIR_STATUS_OWN = true → t.chip.get F.SEC_OWNER_DRIVE = 0 ∧ t.chip.get F.APL_OWNER_DRIVE = 0
            ∧ t.chip.tlk.release = true))))

/-- Posting and popping messages, doorbells, notices, endpoint resets and hardware locks (R480, R481, R483, R484, R485,
R486, R490, R491, R492). A post to an endpoint that exists and may be the sender's destination, with a free slot,
puts the sender's 64 bytes at the channel's end and shows the slots left; one to a full channel leaves it and shows
FULL. An inbox owner's RX_POP takes the head away. Sender c alone sets bits 0 to 30 of DB[c]. NOTICE_CLR clears
ABORTED and PEER_RESET. A reset of an endpoint, by CTRL.RESET or by a host's EP_RESET, clears every channel into it,
flags its unread messages and advances its epoch modulo 16, and a block reset clears all channels and locks and
keeps the epochs. A read of a free lock acquires it; of a held one it reports the holder; its holder's write of 0,
or the Keeper's of bit 31, frees it. -/
def Obligations.MailboxesDoorbellsAndLocks : Prop :=
  ∀ (mst : Master) (s : State),
    (∀ data, ∀ dst, dst = data % 128 → ∀ far, far = data / 256 % 4 → ∀ from_, from_ = masterBit mst →
      ∀ n, n = (s.chip.chan dst from_).length →
      s.chip.takesWrite mst K.MBX0_TX_POST → s.chip.epExists dst = true → from_ ≠ dst → ¬ (3 ≤ from_ ∧ 3 ≤ dst) → far ≤ 2 →
      (dst ≤ 2 → far = 0) →
      (n < 8 → completes (.txPost mst data) s (fun t =>
        (t.chip.chan dst from_).map MbxMsg.data = (s.chip.chan dst from_).map MbxMsg.data ++ [s.chip.txData from_]
          ∧ storeGet (fun _ => (0 : Word)) t.chip.mbx.results from_ = BitVec.ofNat 32 (dst * 256 + (7 - n) * 65536)
          ∧ memKept s t))
      ∧ (n = 8 → completes (.txPost mst data) s (fun t => t.chip.chan dst from_ = s.chip.chan dst from_
          ∧ storeGet (fun _ => (0 : Word)) t.chip.mbx.results from_ = BitVec.ofNat 32 (7 + dst * 256) ∧ memKept s t)))
    ∧ (∀ ep data m rest, ep < 3 → masterBit mst = ep → s.chip.takesWrite mst (epPage ep + 0x568) → bit data 0 = true →
      s.chip.chan ep (s.chip.get ⟨epPage ep + 0x560, 0, 7, 4⟩) = m :: rest → completes (.rxPop mst ep data) s (fun t =>
        t.chip.chan ep (s.chip.get ⟨epPage ep + 0x560, 0, 7, 4⟩) = rest ∧ memKept s t))
    ∧ (∀ ep ch data, ep < 3 → ch < 68 → s.chip.takesWrite mst (epPage ep + 0x210 + 4 * ch) → data < 2 ^ 32 →
      (masterBit mst = ch → completes (.dbSet mst ep ch data) s (fun t =>
        t.chip.w (dbKey ep ch) = s.chip.w (dbKey ep ch) ||| BitVec.ofNat 32 (data % 2 ^ 31) ∧ memKept s t))
      ∧ (masterBit mst ≠ ch → exec (.dbSet mst ep ch data) s = .next (s.became { s.chip.quiet with resp := ⟨.locked, 0⟩ })))
    ∧ (∀ ep ch data, ep < 3 → ch < 68 → s.chip.takesWrite mst (epPage ep + 0x430 + 4 * ch) → bit data 31 = true →
      completes (.noticeClr mst ep ch data) s (fun t =>
        t.chip.get ⟨chStatus ep ch, 8, 4, 4⟩ = 0 ∧ t.chip.get ⟨chStatus ep ch, 12, 1, 4⟩ = 0 ∧ onlyRegs [chStatus ep ch] s t))
    ∧ (∀ page ep data, ep < 68 →
      ((page = some ep ∧ (mst = .keeper ∨ masterBit mst = ep) ∧ s.chip.takesWrite mst (epPage ep + 0x008) ∧ bit data 31 = true
          ∧ bit data 30 = false)
        ∨ (page = none ∧ (mst = .host0 ∨ mst = .host1) ∧ masterBit mst = ep ∧ s.chip.takesWrite mst K.MBX0_EP_RESET
          ∧ bit data 0 = true)) → completes (.epReset mst page data) s (fun t =>
        (∀ q < 68, t.chip.chan ep q = []
          ∧ (q ≠ ep → t.chip.chan q ep = (s.chip.chan q ep).map (fun m => { m with reset := true })))
          ∧ t.chip.get (epochFld ep) = (s.chip.get (epochFld ep) + 1) % 16 ∧ memKept s t))
    ∧ (s.chip.takesWrite mst (P.MBX + 0x008) → completes (.mbxBlockReset mst) s (fun t =>
        t.chip.mbx = {} ∧ (∀ e < 68, t.chip.get (epochFld e) = s.chip.get (epochFld e)) ∧ memKept s t))
    ∧ (∀ k, k < 64 → s.chip.takesRead (K.MBX0_LOCK + 4 * k) →
      (s.chip.lockHold k = none → completes (.lockRead mst k) s (fun t =>
        t.chip.lockHold k = some ⟨masterBit mst, s.chip.tick.field % 65536⟩
          ∧ t.chip.resp = ⟨.ok, BitVec.ofNat 32 (1 + masterBit mst * 16 + s.chip.tick.field % 65536 * 65536)⟩ ∧ memKept s t))
      ∧ (∀ h, s.chip.lockHold k = some h → completes (.lockRead mst k) s (fun t =>
        t.chip.lockHold k = some h ∧ t.chip.resp.data
          = BitVec.ofNat 32 ((if h.holder = masterBit mst then 3 else 2) + h.holder * 16 + h.field * 65536) ∧ memKept s t)))
    ∧ (∀ k data h, k < 64 → data < 2 ^ 32 → s.chip.takesWrite mst (K.MBX0_LOCK + 4 * k) → s.chip.lockHold k = some h →
      ((data = 0 ∧ h.holder = masterBit mst) ∨ (data = 0x80000000 ∧ mst = .keeper) → completes (.lockRelease mst k data) s (fun t =>
        t.chip.lockHold k = none ∧ memKept s t))
      ∧ (¬ ((data = 0 ∧ h.holder = masterBit mst) ∨ (data = 0x80000000 ∧ mst = .keeper)) →
        exec (.lockRelease mst k data) s = .next (s.became ((s.chip.quiet.count P.MBX 2).taken (K.MBX0_LOCK + 4 * k)))))

/-- The clock's snapshot, rate and step, and the trigger units (R435, R436, R437, R438, R449, R450, R451). A read of
NOW_FRAC answers the fraction and latches the whole clock for its reader. A Keeper write of RATE sets it within ±1
000 ppm and shows whether it was clamped; a write by another master is refused. STEP_GO while armed, with no step
waiting, has the next reference cycle apply the offset; unarmed it is refused and counted. Writing EN from 0 to 1
loads a trigger unit's target from START. A unit whose target the clock has reached fires: FIRED counts on, and a
periodic unit's next target lies whole periods later, ahead of the clock; another unit's EN clears. In it the
model's own choices are those of log entry 7. -/
def Obligations.TimeBaseAndTriggers : Prop :=
  ∀ s : State,
    (∀ mst, s.chip.takesRead K.TIM_NOW_FRAC → exec (.timeSnapshot mst) s = .next (s.became
      { s.chip.quiet.timUp (fun t => { t with snaps := storePut (fun _ => {}) t.snaps (masterBit mst) s.chip.clock }) with
        resp := ⟨.ok, BitVec.ofNat 32 s.chip.clock.frac⟩ }))
    ∧ (∀ data, s.chip.takesWrite .keeper K.TIM_RATE → data < 2 ^ 32 → completes (.rateWrite .keeper data) s (fun t =>
        signed 32 (t.chip.get F.TIM_RATE_RATE) = clampInt (-4294967) 4294967 (signed 32 data)
          ∧ (t.chip.get F.TIM_TIME_STATUS_RATE_CLAMPED = 1 ↔ clampInt (-4294967) 4294967 (signed 32 data) ≠ signed 32 data)
          ∧ onlyRegs [K.TIM_RATE, K.TIM_TIME_STATUS] s t))
    ∧ (∀ mst data, mst ≠ .keeper → s.chip.pageMapped P.TIM = true → s.chip.hlk.downNext = false → exec (.rateWrite mst data) s = .next (s.became
        { s.chip.quiet with resp := ⟨.locked, 0⟩ }))
    ∧ (∀ data, s.chip.takesWrite .keeper K.TIM_STEP_GO → bit data 0 = true →
      (s.chip.is stepArm = true → s.chip.tim.step = none → completes (.stepGo .keeper data) s (fun t =>
        t.chip.tim.step = some (signed 48 (s.chip.get F.TIM_STEP_S_LO_S + s.chip.get F.TIM_STEP_S_HI_S * 2 ^ 32),
            signed 31 (s.chip.get F.TIM_STEP_NS_NS))
          ∧ t.chip.clock = s.chip.clock ∧ t.chip.resp.status = .ok ∧ memKept s t))
      ∧ (s.chip.is stepArm = false → exec (.stepGo .keeper data) s = .next (s.became
          { s.chip.quiet.count P.TIM 1 with resp := ⟨.locked, 0⟩ })))
    ∧ (∀ mst unit data, unit < 16 → (2 ≤ unit ∨ mst = .keeper) → s.chip.takesWrite mst (K.TIM_TRIG_CTRL + 0x20 * unit) → bit data 0 = true →
      s.chip.is (trigFld unit 0 0 1) = false → completes (.triggerEnable mst unit data) s (fun t =>
        t.chip.trigTarget unit = some (s.chip.trigStart unit) ∧ t.chip.is (trigFld unit 0 0 1) = true ∧ memKept s t))
    ∧ (∀ unit readings, unit < 16 → ∀ k, s.chip.trigTarget unit = some k → 0 ≤ clockDiff s.chip.clock k →
      completes (.triggerFire unit readings) s (fun t =>
        t.chip.get (trigFld unit 0x1C 16 16) = (s.chip.get (trigFld unit 0x1C 16 16) + 1) % 65536
          ∧ t.chip.get (trigFld unit 0x1C 0 1) = 1
          ∧ (s.chip.is (trigFld unit 0 1 1) = false ∨ s.chip.trigPeriod unit = 0 → t.chip.trigTarget unit = none ∧ t.chip.is (trigFld unit 0 0 1) = false)
          ∧ (s.chip.is (trigFld unit 0 1 1) = true → s.chip.trigPeriod unit ≠ 0 → ∃ n, 0 < n ∧ t.chip.trigTarget unit
            = some (clockOf k.sec ((k.sub + n * s.chip.trigPeriod unit : Nat) : Int))
            ∧ clockDiff s.chip.clock k < n * s.chip.trigPeriod unit) ∧ memKept s t))

/-- The time ports, PTP messages and time on the tile link (R440, R444, R445, R446, R447, R448). A port that ROLE keeps
up comes UP, and goes down with its held residences dropped. With both ports up and stamps to spare, the transparent
clock forwards what arrives on the port where it is no ordinary clock: a one-step Sync with the residence and the
ingress asymmetry added, a two-step Sync unchanged with them held, its Follow_Up with them added, a Delay_Req with
the residence less the egress asymmetry, other messages unchanged. On the clock's own port an Announce that wins, or
any where it is slave only, makes the module its slave, a slave measures a one-step Sync, and a master answers a
Delay_Req. Losing its Announces sets HOLDOVER. Each interval the master sends Sync and Follow_Up, the slave
Delay_Req, the Tender a Sync down both D ports, a worker a Delay_Req up. Of an accepted TIME frame with stamps to
spare: a Sync on port U is measured, a Delay_Resp for this worker's side taken and for others sent down; a Delay_Req
on a D port is answered by the Tender and sent up by a worker that owns. In it the model's own choices are those of
log entries 61 and 62. -/
def Obligations.TimePortsAndTimeFrames : Prop :=
  ∀ (p : Nat) (s : State),
    (p < 2 → p ∈ s.chip.portsOn → s.chip.is (tpUp p) = false → completes (.timePortUp p) s (fun t =>
      t.chip.is (tpUp p) = true ∧ memKept s t ∧ t.chip.tim = s.chip.quiet.tim))
    ∧ (p < 2 → s.chip.is (tpUp p) = true → completes (.timePortDown p) s (fun t =>
      t.chip.is (tpUp p) = false ∧ t.chip.tim.held = s.chip.tim.held.filter (fun h => decide (h.port ≠ p)) ∧ memKept s t
        ∧ (s.chip.tim.slaveOf = some p → t.chip.tim.slaveOf = none)))
    ∧ (∀ m : PtpMsg, ∀ residence : Nat, p < 2 → p ∈ s.chip.portsOn → s.chip.is (tpUp p) = true →
      (s.chip.get F.TIM_PTP_CTRL_ROLE = 3 → s.chip.is (tpUp (1 - p)) = true → p ≠ s.chip.ocPort →
        ∀ add, add = (residence : Int) + s.chip.portAsym p →
        (m.kind = 0 → m.twoStep = false → exec (.ptpMessage p m residence false) s = .next (s.became
          ((s.chip.quiet.count P.TIM 4).ptpSend (1 - p) (ptpCorrected m add))))
        ∧ (m.kind = 0 → m.twoStep = true → s.chip.tim.held.length < 16 →
          exec (.ptpMessage p m residence false) s = .next (s.became
            (((s.chip.quiet.count P.TIM 4).timUp (fun t => { t with held := t.held ++ [⟨p, m.seq, m.source, add⟩] })).ptpSend
              (1 - p) m)))
        ∧ (m.kind = 1 → exec (.ptpMessage p m residence false) s = .next (s.became
          ((s.chip.quiet.count P.TIM 4).ptpSend (1 - p) (ptpCorrected m ((residence : Int) - s.chip.portAsym (1 - p))))))
        ∧ (∀ mine : HeldSync → Bool, mine = (fun h => h.port = p && h.seq = m.seq && h.source = m.source) → m.kind = 8 →
          ∀ h, s.chip.tim.held.find? mine = some h → exec (.ptpMessage p m residence false) s = .next (s.became
            (((s.chip.quiet.count P.TIM 4).timUp (fun t => { t with held := t.held.filter (fun h => !mine h) })).ptpSend (1 - p)
              (ptpCorrected m h.corr))))
        ∧ (m.kind ≠ 0 → m.kind ≠ 1 → m.kind ≠ 8 → exec (.ptpMessage p m residence false) s = .next (s.became
          ((s.chip.quiet.count P.TIM 4).ptpSend (1 - p) m))))
      ∧ (p = s.chip.ocPort → m.domain = s.chip.get F.TIM_PTP_CTRL_DOMAIN →
        (m.kind = 0xB → (m.better = true ∨ s.chip.is F.TIM_PTP_CTRL_SLAVE_ONLY = true) →
          completes (.ptpMessage p m residence false) s (fun t =>
            t.chip.tim.slaveOf = some p ∧ t.chip.get F.TIM_TIME_STATUS_SOURCE = 1 + p
              ∧ t.chip.get F.TIM_UTC_OFFSET_SECONDS = m.utc % 65536 ∧ memKept s t))
        ∧ (m.kind = 0 → m.twoStep = false → s.chip.tim.slaveOf = some p → completes (.ptpMessage p m residence false) s (fun t =>
          t.chip.tim.ms = some (s.chip.nowQ - m.ts - (m.corr + s.chip.portAsym p))
            ∧ t.chip.get F.TIM_TIME_STATUS_SOURCE = 1 + p ∧ memKept s t))
        ∧ (m.kind = 1 → s.chip.is F.TIM_PTP_CTRL_SLAVE_ONLY = false → s.chip.tim.slaveOf = none →
          completes (.ptpMessage p m residence false) s (fun t =>
            t.chip.tim.wire.getLast?.map (fun e => (e.1, e.2.kind, e.2.seq, e.2.requester, e.2.ts))
              = some (p, 9, m.seq, m.source, s.chip.nowQ) ∧ memKept s t))))
    ∧ (∀ seq source, exec (.followUpTimeout p seq source) s = .next (s.became (s.chip.quiet.timUp (fun t =>
        { t with held := t.held.filter (fun h => !(h.port = p && h.seq = seq && h.source = source)) }))))
    ∧ (s.chip.tim.slaveOf = some p → completes (.announceReceiptTimeout p) s (fun t =>
        t.chip.tim.slaveOf = none ∧ t.chip.get F.TIM_TIME_STATUS_SOURCE = 0 ∧ memKept s t
          ∧ t.chip.get F.TIM_TIME_STATUS_SYNC_STATE = (if s.chip.get F.TIM_TIME_STATUS_SYNC_STATE = 0 then 0 else 3)))
    ∧ (p < 2 → p ∈ s.chip.portsOn → s.chip.is (tpUp p) = true → p = s.chip.ocPort →
      (s.chip.tim.slaveOf = some p → completes (.ptpSyncInterval p) s (fun t =>
        t.chip.tim.wire.map (fun e => (e.1, e.2.kind, e.2.seq)) = [(p, 1, s.chip.tim.nextSeq)]
          ∧ t.chip.tim.nextSeq = (s.chip.tim.nextSeq + 1) % 65536 ∧ memKept s t))
      ∧ (s.chip.tim.slaveOf ≠ some p → s.chip.is F.TIM_PTP_CTRL_SLAVE_ONLY = false → completes (.ptpSyncInterval p) s (fun t =>
        t.chip.tim.wire.map (fun e => (e.1, e.2.kind, e.2.seq)) = [(p, 0, s.chip.tim.nextSeq), (p, 8, s.chip.tim.nextSeq)]
          ∧ t.chip.tim.nextSeq = (s.chip.tim.nextSeq + 1) % 65536 ∧ memKept s t)))
    ∧ (s.chip.blockOn 4 = true → ∀ c, c = s.chip.quiet.nextSeq.2 →
      (s.chip.isTender = true → ∀ d, d = timePayload 0 s.chip.tim.nextSeq s.chip.nowQ 0 0 0 →
        exec (.ptpSyncInterval 2) s = .next (s.became ((c.sendPort portD0 0x02 0 d).sendPort portD1 0x02 0 d)))
      ∧ (s.chip.isTender = false → exec (.ptpSyncInterval 2) s = .next (s.became
        ((c.addReq 2 s.chip.tim.nextSeq).sendPort portU 0x02 s.chip.ownId
          (timePayload 1 s.chip.tim.nextSeq 0 (-(s.chip.portAsym 2)) s.chip.ownId (s.chip.get F.TLK_NODE_CFG_SIDE))))))
    ∧ (∀ l frame (residence : Nat), ∀ kind id d, (s.chip.quiet.tileRx l frame).2 = some (kind, id, d) → kind = 0x02 →
      ∀ c, c = (s.chip.quiet.tileRx l frame).1.count P.TIM 5 →
      (l / 2 = portU → c.isTender = false →
        (leNat (d.take 1) % 16 = 0 → completes (.time l frame residence false) s (fun t =>
          t.chip.tim.ms = some (c.nowQ - timeTs d - (timeCorr d + c.portAsym 2))
            ∧ t.chip.get F.TIM_TIME_STATUS_SOURCE = 3 ∧ memKept s t))
        ∧ (leNat (d.take 1) % 16 = 9 →
          (ob d 22 1 = c.ownId → ob d 23 1 % 2 = c.get F.TLK_NODE_CFG_SIDE → exec (.time l frame residence false) s = .next
            (s.became (c.delayResp 2 (ob d 2 2) (timeTs d) (timeCorr d))))
          ∧ (ob d 22 1 ≠ c.ownId → exec (.time l frame residence false) s = .next (s.became (c.sendDown 0x02 (ob d 22 1) d)))))
      ∧ ((l / 2 = portD0 ∨ l / 2 = portD1) → leNat (d.take 1) % 16 = 1 → c.owns = true →
        ∀ r, r = c.learnRoute (l / 2) id →
        (c.isTender = true → exec (.time l frame residence false) s = .next (s.became (r.sendPort (l / 2) 0x02 (ob d 22 1)
          (timePayload 9 (ob d 2 2) c.nowQ (timeCorr d) (ob d 22 1) (ob d 23 1 % 2)))))
        ∧ (c.isTender = false → exec (.time l frame residence false) s = .next (s.became (r.sendUp 0x02 id
          (withCorr d (timeCorr d + residence - c.portAsym 2)))))))

/-- A check unit, 1 to 20: START, DATA32, DATA8, FINISH and RESYNC (R493, R495, R496). START loads the algorithm's
initial value and sets COUNT to 0. DATA8 feeds one byte, DATA32 four bytes with the least significant first. FINISH
writes RESULT, the value after the final XOR, leaves VALUE and COUNT where the same write does not START again, and
with CMP_EN set shows whether it equals EXPECT. RESYNC clears ALIVE.VALID. In it the model's own choices are those
of log entry 60. -/
def Obligations.CheckUnits : Prop :=
  ∀ (mst : Master) (u data : Nat) (s : State), 0 < u → u < 21 → data < 2 ^ 32 →
    (s.chip.takesWrite mst (mkPage 16 u + 0x104) →
      (bit data 0 = true → completes (.chkStart mst u data) s (fun t =>
        t.chip.chkValue u = (chkAlgo (s.chip.get (F.CHKU_CFG_ALGO.inst u))).2.2.2.1 ∧ t.chip.chkCount u = 0 ∧ memKept s t))
      ∧ (bit data 1 = true → ∀ res, res = (s.chip.chkValue u % 2 ^ (chkAlgo (s.chip.get (F.CHKU_CFG_ALGO.inst u))).1)
          ^^^ (chkAlgo (s.chip.get (F.CHKU_CFG_ALGO.inst u))).2.2.2.2 →
        ∀ expect, expect = (s.chip.get (F.CHKU_EXPECT_LO_EXPECT.inst u) + s.chip.get (F.CHKU_EXPECT_HI_EXPECT.inst u) * 2 ^ 32)
          % 2 ^ (chkAlgo (s.chip.get (F.CHKU_CFG_ALGO.inst u))).1 →
        completes (.chkFinish mst u data) s (fun t =>
          t.chip.get (F.CHKU_RESULT_LO_RESULT.inst u) + t.chip.get (F.CHKU_RESULT_HI_RESULT.inst u) * 2 ^ 32 = res
            ∧ bit (t.chip.w (mkPage 16 u + 0x00C)).toNat 4 = (s.chip.is (F.CHKU_CFG_CMP_EN.inst u) && decide (res = expect))
            ∧ (bit data 0 = false → t.chip.chkValue u = s.chip.chkValue u ∧ t.chip.chkCount u = s.chip.chkCount u)
            ∧ memKept s t))
      ∧ (bit data 2 = true → completes (.chkResync mst u data) s (fun t =>
          t.chip.get (F.CHKU_ALIVE_VALID.inst u) = 0 ∧ memKept s t))
      ∧ (bit data 2 = true → bit data 1 = false → bit data 0 = false → exec (.chkResync mst u data) s = .next (s.became
        ((s.chip.quiet.set (F.CHKU_ALIVE_VALID.inst u) 0).taken (mkPage 16 u + 0x104)))))
    ∧ (s.chip.takesWrite mst (mkPage 16 u + 0x10C) → completes (.chkData8 mst u data) s (fun t =>
        t.chip.chkValue u = chkByte (s.chip.get (F.CHKU_CFG_ALGO.inst u)) (s.chip.chkValue u) (data % 256)
          ∧ t.chip.chkCount u = (s.chip.chkCount u + 1) % 2 ^ 32 ∧ memKept s t))
    ∧ (s.chip.takesWrite mst (mkPage 16 u + 0x108) → completes (.chkData32 mst u data) s (fun t =>
        t.chip.chkValue u = ([data % 256, data / 256 % 256, data / 65536 % 256, data / 16777216 % 256].foldl
            (chkByte (s.chip.get (F.CHKU_CFG_ALGO.inst u))) (s.chip.chkValue u))
          ∧ t.chip.chkCount u = (s.chip.chkCount u + 4) % 2 ^ 32 ∧ memKept s t))

/-- The LPDDR6 controller: command slots, refresh, temperature reports, training windows and requests (R371, R373, R376,
R377, R379, R380, R381, R382, R385). A slot of a powered live channel ages what waits there and does what the
scheduler chooses: a refresh that must issue goes first; else a port, of the highest urgency where it goes by
urgency, whose oldest request is served: a write stores exactly its bytes, a read returns them with its job and
whether its parity failed for good; with nothing waiting a free owed refresh issues. A refresh falling due is held
in a quiet window, must issue at the postponement limit, is postponed where a request waits for its bank, and issues
otherwise. A temperature report sets RATE2X as the device says; a newly hot one has every owed refresh issue. A
granted window that finds a good setting ends with OUTCOME 1, and the last that does not with OUTCOME 2; other
windows follow. TRACK_PERIOD raises a request; RETRY bits collect; INJECT.PARITY is armed. In it the model's own
choices are those of log entry 16. -/
def Obligations.MemoryControllerSlots : Prop :=
  ∀ (ch sub : Nat) (s : State), ch < 8 →
    (ch ∈ s.chip.dram.live → sub < 2 → s.chip.powered 0 = true → ∀ ns once twice, ∀ c : Chip,
      c = { s.chip.quiet with dram := { s.chip.dram with reqs := s.chip.dram.reqs.map (fun r =>
        if (s.chip.location r.addr).ch = ch ∧ (s.chip.location r.addr).sub = sub then { r with age := r.age + ns } else r) } } →
      (c.slotItem ch sub = .idle → c.waitingAt ch sub = []
        ∧ exec (.dramCommandSlot ch sub ns once twice) s = .next (s.became (c.refreshFree ch sub)))
      ∧ (0 < (s.chip.subch ch sub).must → ∀ b rest, (s.chip.subch ch sub).owed = b :: rest →
        completes (.dramCommandSlot ch sub ns once twice) s (fun t =>
          (t.chip.subch ch sub).owed = rest ∧ (t.chip.subch ch sub).must = (s.chip.subch ch sub).must - 1
            ∧ t.chip.dram.reqs = c.dram.reqs ∧ memKept s t))
      ∧ (∀ p urgent why, c.slotItem ch sub = .request p urgent why →
        (why = .urgency → ∀ r ∈ c.waitingAt ch sub, (c.portUrgency (c.waitingAt ch sub) r.port).getD 0
          ≤ (c.portUrgency (c.waitingAt ch sub) p).getD 0 ∨ 8 ≤ r.port)
        ∧ (∀ r, (c.waitingAt ch sub).find? (fun r => r.port = p) = some r →
          (∀ data, r.write = some data → completes (.dramCommandSlot ch sub ns once twice) s (fun t =>
            t.chip.dram.reqs = c.dram.reqs.erase r ∧ memKeptBut r.addr data.length s t
              ∧ (∀ i (h : i < data.length), t.mem.read (r.addr + i) = data[i])))
          ∧ (r.write = none → completes (.dramCommandSlot ch sub ns once twice) s (fun t =>
            t.chip.dram.reqs = c.dram.reqs.erase r ∧ memKept s t
              ∧ t.chip.dram.done = s.chip.dram.done ++ [⟨r.job, r.addr, c.loads s.mem r.addr r.len,
                !(c.stuckLines r.addr r.len).isEmpty || twice || (c.doubleRead r.addr && once)⟩])))))
    ∧ (ch ∈ s.chip.dram.live → sub < 2 → ∀ b, b = (s.chip.subch ch sub).nextBank → ∀ next : SubChannel,
      next = { s.chip.subch ch sub with nextBank := (b + 1) % 16 } → ∀ waits : Bool,
      waits = (s.chip.waitingAt ch sub).any (fun r => decide ((s.chip.location r.addr).cell % 16 = b)) →
      (s.chip.postponeLimit ch ≤ next.owed.length → completes (.refreshDue ch sub false) s (fun t =>
        t.chip.subch ch sub = { next with owed := next.owed ++ [b], must := next.must + 1 } ∧ memKept s t))
      ∧ (next.owed.length < s.chip.postponeLimit ch → waits = true → completes (.refreshDue ch sub false) s (fun t =>
        t.chip.subch ch sub = { next with owed := next.owed ++ [b] }
          ∧ t.chip.w (memPage ch + 0x044 + 4 * 4) = s.chip.w (memPage ch + 0x044 + 4 * 4) + 1 ∧ memKept s t))
      ∧ (next.owed.length < s.chip.postponeLimit ch → waits = false →
        exec (.refreshDue ch sub false) s = .next (s.became (s.chip.quiet.setSubch ch sub next)))
      ∧ (∀ q, s.chip.dram.quiet = some q → q.ch = ch → completes (.refreshDue ch sub true) s (fun t =>
        t.chip.subch ch sub = { next with held := next.held ++ [b] } ∧ memKept s t)))
    ∧ (ch ∈ s.chip.dram.live → ∀ (temp : Int) (hot : Bool), completes (.deviceTempReport ch temp hot) s (fun t =>
        t.chip.is (F.MEMC_CH_STATUS_RATE2X.inst (ch + 1)) = hot ∧ memKept s t
          ∧ (hot = true → s.chip.is (F.MEMC_CH_STATUS_RATE2X.inst (ch + 1)) = false → sub < 2 →
            (t.chip.subch ch sub).must = (s.chip.subch ch sub).owed.length
            ∧ t.chip.w (memPage ch + 0x044 + 4 * 6) = s.chip.w (memPage ch + 0x044 + 4 * 6) + 1)))
    ∧ (∀ q, s.chip.dram.quiet = some q → q.ch = ch → 0 < q.left → ∀ margin found, ∀ ok : Bool,
      ok = (if q.retrain then found else decide (s.chip.act F.MEM0_TRAIN_CTRL_TRACK_MIN ≤ margin)) →
      (ok = true → completes (.quietWindow ch margin found) s (fun t =>
        t.chip.dram.quiet = none ∧ t.chip.get (F.MEMC_TRAIN_RESULT_OUTCOME.inst (ch + 1)) = 1
          ∧ t.chip.get (F.MEMC_TRAIN_RESULT_MARGIN.inst (ch + 1)) = min 255 margin
          ∧ bit (t.chip.get F.MEM0_TRAIN_REQ_TRACK) ch = false ∧ bit (t.chip.get F.MEM0_TRAIN_REQ_RETRAIN) ch = false
          ∧ memKept s t))
      ∧ (ok = false → q.left = 1 → completes (.quietWindow ch margin found) s (fun t =>
        t.chip.dram.quiet = none ∧ t.chip.get (F.MEMC_TRAIN_RESULT_OUTCOME.inst (ch + 1)) = 2
          ∧ (q.retrain = false → bit (t.chip.get F.MEM0_TRAIN_REQ_RETRAIN) ch = true) ∧ memKept s t))
      ∧ (ok = false → 1 < q.left → completes (.quietWindow ch margin found) s (fun t =>
        t.chip.dram.quiet = some { q with left := q.left - 1 } ∧ memKept s t)))
    ∧ (ch ∈ s.chip.dram.live → s.chip.act F.MEM0_TRAIN_CTRL_TRACK_PERIOD ≠ 0 → completes (.trackRequest ch) s (fun t =>
        bit (t.chip.get F.MEM0_TRAIN_REQ_TRACK) ch = true ∧ onlyRegs [K.MEM0_TRAIN_REQ] s t))
    ∧ (∀ mst data, s.chip.takesWrite mst K.MEM0_RETIRE_CTRL → completes (.channelRetry mst data) s (fun t =>
        t.chip.get F.MEM0_RETIRE_CTRL_RETRY = s.chip.get F.MEM0_RETIRE_CTRL_RETRY ||| data % 256
          ∧ onlyRegs [K.MEM0_RETIRE_CTRL] s t))
    ∧ (∀ mst data, bit data 0 = true → s.chip.takesWrite mst (memPage ch + 0x110) → completes (.dramParityInject mst ch data) s (fun t =>
        t.chip.is (F.MEMC_INJECT_PARITY.inst (ch + 1)) = true ∧ onlyRegs [memPage ch + 0x110] s t))

/-- The 2D engine's ring: posting, starting, completing, aborting, and rows held behind the beam (R243, R244, R246,
R251, R252). A write of RING_HEAD that does not overfill the ring posts the slots from the old HEAD up to the new
one and sets HEAD. With the engine powered and nothing running, the command at TAIL is checked: a doomed one ends
with its status, an invalid one with 5, and TAIL moves on modulo 256; a good one stays until its plan commits and
then starts, or ends INVALID where its plane follows no beam. A command none of whose rows is held completes with
status 1, or 8 where a read failed for good: the ring runs nothing and TAIL moves on. ABORT dooms the posted
commands it names, all with ALL, and ends a running one it names with status 3. A command's next row is written once
the beam does not hold it. In it the model's own choices are those of log entries 43 and 46. -/
def Obligations.TwoDimensionalEngineRing : Prop :=
  ∀ (mst : Master) (data : Nat) (s : State),
    (s.chip.takesWrite mst K.BLT_RING_HEAD → ∀ head, head = s.chip.get F.BLT_RING_HEAD_HEAD →
      ∀ used, used = (head + 256 - s.chip.get F.BLT_RING_TAIL_TAIL) % 256 → ∀ new, new = (data % 256 + 256 - head) % 256 →
      used + new < 256 →
      completes (.bltCmdPost mst data) s (fun t =>
        t.chip.get F.BLT_RING_HEAD_HEAD = data % 256
          ∧ t.chip.blt.posted.map Posted.index = s.chip.blt.posted.map Posted.index ++ (List.range new).map (fun i => (head + i) % 256)
          ∧ memKept s t))
    ∧ (s.chip.blt.running = none → s.chip.bltUnpowered = false → ∀ p : Posted, s.chip.blt.posted.head? = some p →
      ∀ ws, ws = p.words.getD (s.chip.bltWords s.mem p.index) →
      (∀ status, p.doom = some status → completes .bltCmdStart s (fun t =>
        t.chip.blt.running = none ∧ t.chip.blt.posted = s.chip.blt.posted.tail
          ∧ t.chip.get F.BLT_RING_TAIL_TAIL = (p.index + 1) % 256
          ∧ t.chip.get F.BLT_LAST_DONE_STATUS = status % 256 ∧ memKeptBut (s.chip.bltAddr p.index + 132) 8 s t))
      ∧ (p.doom = none → p.words = none → ∀ word, s.chip.bltBad ws = some word → completes .bltCmdStart s (fun t =>
        t.chip.blt.running = none ∧ t.chip.blt.posted = s.chip.blt.posted.tail
          ∧ t.chip.get F.BLT_RING_TAIL_TAIL = (p.index + 1) % 256 ∧ t.chip.get F.BLT_LAST_DONE_STATUS = 5
          ∧ t.chip.get F.BLT_INVALID_INFO_WORD = word ∧ memKeptBut (s.chip.bltAddr p.index + 132) 8 s t))
      ∧ (p.doom = none → (s.chip.bltBad ws = none ∨ p.words ≠ none) →
        (s.chip.due p = false → exec .bltCmdStart s = .next (s.became (s.chip.quiet.bltUp (fun b =>
          { b with posted := { p with words := some ws } :: s.chip.blt.posted.tail }))))
        ∧ (s.chip.due p = true → s.chip.beamPlaneBad (bltSpec ws) = false → completes .bltCmdStart s (fun t =>
          (∃ r : BltCmd, t.chip.blt.running = some r ∧ r.index = p.index ∧ r.words = ws ∧ r.rows = 0)
            ∧ t.chip.blt.posted = s.chip.blt.posted.tail ∧ memKept s t))
        ∧ (s.chip.due p = true → s.chip.beamPlaneBad (bltSpec ws) = true → completes .bltCmdStart s (fun t =>
          t.chip.blt.running = none ∧ t.chip.get F.BLT_RING_TAIL_TAIL = (p.index + 1) % 256
            ∧ t.chip.get F.BLT_LAST_DONE_STATUS = 5))))
    ∧ (∀ r, s.chip.blt.running = some r →
      (∀ f, (∀ n < (bltSpec r.words).h, r.rows ≤ n → s.chip.beamHeld { r with rows := n } = none) →
        completes (.bltCmdComplete f) s (fun t =>
          t.chip.blt.running = none ∧ t.chip.get F.BLT_RING_TAIL_TAIL = (r.index + 1) % 256
            ∧ (t.chip.get F.BLT_LAST_DONE_STATUS = 1 ∨ t.chip.get F.BLT_LAST_DONE_STATUS = 8)))
      ∧ (s.chip.beamHeld r = none → (bltSpec r.words).beam = true → r.rows < (bltSpec r.words).h → (bltSpec r.words).w ≠ 0 →
        completes .beamRowRelease s (fun t =>
          ∃ r' : BltCmd, t.chip.blt.running = some r' ∧ r'.index = r.index ∧ r'.rows = r.rows + 1))
      ∧ (s.chip.takesWrite mst K.BLT_ABORT → (bit data 31 = true ∨ data % 256 = r.index) → completes (.bltAbort mst data) s (fun t =>
          t.chip.blt.running = none ∧ t.chip.get F.BLT_RING_TAIL_TAIL = (r.index + 1) % 256
            ∧ t.chip.get F.BLT_LAST_DONE_STATUS = 3)))
    ∧ (s.chip.takesWrite mst K.BLT_ABORT → s.chip.blt.running = none → completes (.bltAbort mst data) s (fun t =>
        t.chip.blt.posted = s.chip.blt.posted.map (fun (p : Posted) =>
          if bit data 31 = true ∨ p.index = data % 256 then { p with doom := some 3 } else p)))

/-- Lens probe reads, promotions, conflict counters, line periods, and the conditioning tables and probe (R199, R207,
R209, R219, R234, R276, R283). A read of an LNS register whose parity is right answers OK, a probe register with the
value computed. A wait at AGE_LIMIT counts a promotion and keeps the longest wait. CONFLICT_CTRL.CLR clears the
eight conflict and wait counters. While the raster runs each line period of a field shows its number, sector and
field in LINE_STATUS and, unless the field is skipped, sends ROW_ADV for an active line; before a line of the
picture a dark field sends its black packets on port A, and another field one packet per lane, storing nothing but
the line's history. SCN.TIMING.MODE is staged by the Keeper and refuses every other master. A TBL_DATA write of an
entry outside the sets in use stores it, one to a set in use answers BUSY and one beyond the table stores nothing; a
read gives the entry, 0 beyond the table; INDEX moves on with AUTO_INC after a write. A PROBE_SEL write clears
VALID. In it the model's own choices are those of log entry 110. -/
def Obligations.FieldStoreScanoutAndConditioning : Prop :=
  ∀ (mst : Master) (data : Nat) (s : State), data < 2 ^ 32 →
    (∀ off f, 0x100 ≤ off → off < 0x800 → off % 4 = 0 → s.chip.takesRead (P.LNS + off) → P.LNS + off ∉ s.chip.regs.badParity →
      completes (.lnsProbe mst ⟨off, f⟩) s (fun t => t.chip.resp.status = .ok ∧ memKept s t
        ∧ t.chip.resp.data = BitVec.ofNat 32 (if 0x208 ≤ off ∧ off < 0x21C then (s.chip.lensProbeWord s.mem off f).toNat
            else s.chip.storedWord (P.LNS + off))))
    ∧ (∀ master waited, master < 8 → s.chip.blockOn 7 = true → completes (.agePromotion master waited) s (fun t =>
        t.chip.get (F.FST_WAIT_MAX_CYCLES.ix master) = max (s.chip.get (F.FST_WAIT_MAX_CYCLES.ix master)) (min 65535 waited) % 65536
          ∧ t.chip.w (P.FST + 0x044 + 4 * 4) = s.chip.w (P.FST + 0x044 + 4 * 4)
              + (if s.chip.act F.FST_AGE_LIMIT_CYCLES ≠ 0 ∧ s.chip.act F.FST_AGE_LIMIT_CYCLES ≤ waited then 1 else 0)
          ∧ memKept s t))
    ∧ (s.chip.takesWrite mst K.FST_CONFLICT_CTRL → bit data 0 = true → completes (.conflictClear mst data) s (fun t =>
        (∀ i < 8, t.chip.get (F.FST_CONFLICT_CYCLES.ix i) = 0 ∧ t.chip.get (F.FST_WAIT_MAX_CYCLES.ix i) = 0) ∧ memKept s t))
    ∧ (∀ tm, s.chip.timingOf s.chip.modeId = some tm → s.chip.is ⟨P.SCN + 0x00C, 3, 1, 4⟩ = true → s.chip.scan.next < tm.total →
      ∀ y, y = s.chip.scan.next + 1 - tm.blank → ∀ io,
      completes (.scanoutLine io) s (fun t =>
        t.chip.scan.next = s.chip.scan.next + 1 ∧ t.chip.get F.SCN_LINE_STATUS_LINE = s.chip.scan.next % 2 ^ 14
          ∧ t.chip.get F.SCN_LINE_STATUS_SECTOR = s.chip.tick.sector % 8
          ∧ t.chip.lanes.commands = (if tm.blank ≤ s.chip.scan.next ∧ s.chip.scan.skip = false
              then [s.chip.rowAdv (s.chip.scan.next - tm.blank)] else [])
          ∧ (s.chip.scan.skip = true → t.chip.lanes.packets = s.chip.lanes.packets ∧ memKept s t)
          ∧ (s.chip.scan.skip = false → tm.blank ≤ s.chip.scan.next + 1 → y < tm.height →
            (s.chip.dark = true → memKept s t ∧ t.chip.lanes.packets = s.chip.linePackets 1 y (List.replicate (3 * tm.width)
              (if s.chip.on F.PCN_PACK_CTRL_DEPTH = true then s.chip.act F.SER0_BLACK_CODE8 else s.chip.act F.SER0_BLACK_CODE10)))
            ∧ (s.chip.dark = false → t.chip.lanes.packets.length = tm.lanes
              ∧ memKeptBut (s.chip.oh4Base + y * (tm.width * 3 / 2)) (tm.width * 3 / 2) s t))))
    ∧ (s.chip.takesWrite mst K.SCN_TIMING → completes (.timingModeWrite mst data) s (fun t =>
        mst = .keeper ∧ t.chip.get F.SCN_TIMING_MODE = data % 256 ∧ t.chip.act F.SCN_TIMING_MODE = s.chip.act F.SCN_TIMING_MODE
          ∧ K.SCN_TIMING ∈ t.chip.regs.dirty ∧ memKept s t))
    ∧ (mst ≠ .keeper → s.chip.pageMapped P.SCN = true → s.chip.hlk.downNext = false →
        exec (.timingModeWrite mst data) s = .next (s.became { s.chip.quiet with resp := ⟨.locked, 0⟩ }))
    ∧ (s.chip.takesWrite mst K.PCN_TBL_DATA → ∀ tb, tb = s.chip.get F.PCN_TBL_ADDR_TABLE → ∀ i, i = s.chip.get F.PCN_TBL_ADDR_INDEX →
      (pcnTableSize tb ≤ i → completes (.pcnTblDataWrite mst data) s (fun t =>
        t.chip.pcn = s.chip.pcn ∧ t.chip.resp.status = .ok
          ∧ t.chip.get F.PCN_TBL_ADDR_INDEX = (i + b2n (s.chip.is F.PCN_TBL_ADDR_AUTO_INC)) % 8192 ∧ memKept s t))
      ∧ (i < pcnTableSize tb → s.chip.pcnTableBusy tb = false → completes (.pcnTblDataWrite mst data) s (fun t =>
        t.chip.pcnEntry tb i = data % pcnTableMask tb ∧ t.chip.resp.status = .ok
          ∧ t.chip.get F.PCN_TBL_ADDR_INDEX = (i + b2n (s.chip.is F.PCN_TBL_ADDR_AUTO_INC)) % 8192 ∧ memKept s t))
      ∧ (i < pcnTableSize tb → s.chip.pcnTableBusy tb = true → completes (.pcnTblDataWrite mst data) s (fun t =>
        t.chip.pcn = s.chip.pcn ∧ t.chip.resp.status = .busy
          ∧ t.chip.get F.PCN_TBL_ADDR_INDEX = (i + b2n (s.chip.is F.PCN_TBL_ADDR_AUTO_INC)) % 8192 ∧ memKept s t)))
    ∧ (s.chip.takesRead K.PCN_TBL_DATA → K.PCN_TBL_DATA ∉ s.chip.regs.badParity →
      completes (.pcnTblDataRead mst) s (fun t =>
        t.chip.resp = ⟨.ok, BitVec.ofNat 32
          (if s.chip.get F.PCN_TBL_ADDR_INDEX < pcnTableSize (s.chip.get F.PCN_TBL_ADDR_TABLE)
            then s.chip.pcnEntry (s.chip.get F.PCN_TBL_ADDR_TABLE) (s.chip.get F.PCN_TBL_ADDR_INDEX) else 0)⟩
          ∧ t.chip.pcn = s.chip.pcn ∧ memKept s t))
    ∧ (s.chip.takesWrite mst K.PCN_PROBE_SEL → completes (.pcnProbeSelect mst data) s (fun t =>
        t.chip.get F.PCN_PROBE_B_VALID = 0 ∧ regsKeptBut [K.PCN_PROBE_SEL, K.PCN_PROBE_B] s.chip t.chip ∧ memKept s t))

/-- Panel lanes: driver status frames, return paths, training and eye scans (R299, R300, R301, R302, R303, R305). A good
status frame whose return path is in lock gives its driver's new counts; one that fails its CRC is counted. RETRY
bits collect until the commit. A path that drops lock is no longer judged and recorded; one that regains it shows
lock. A training's lock check notes the lanes whose drivers have not all reported lock and, with ADAPT, moves to
PHASE 2; the settings follow in PHASE 3, unchanged without ADAPT; in PHASE 4 each lane of the raster that failed its
confirmation is masked. EYE_CTRL.START starts a scan of a return path; the end of a scan, here or on the host link,
gives its result; INJECT names its lane. In it the model's own choices are those of log entry 23. -/
def Obligations.PanelLanesReportAndTrain : Prop :=
  ∀ s : State,
    (∀ port frame settled, 1 ≤ port → port ≤ 3 → frame.length = 16 → crc16 (frame.take 14) = leNat (frame.drop 14) →
      leNat (frame.take 1) = 0x61 → s.chip.retLock port (reportPath port (leNat (slice frame 1 1))) = true →
      completes (.driverStatusFrame port frame settled) s (fun t =>
        storeGet (fun _ => ({} : DriverCounts)) t.chip.lanes.drivers (256 * port + leNat (slice frame 1 1))
          = ⟨leNat (slice frame 4 2), leNat (slice frame 6 2), leNat (slice frame 8 2)⟩ ∧ memKept s t))
    ∧ (∀ port frame settled, 1 ≤ port → port ≤ 3 → frame.length = 16 → crc16 (frame.take 14) ≠ leNat (frame.drop 14) →
      exec (.driverStatusFrame port frame settled) s = .next (s.became (s.chip.quiet.lanesUp (fun l =>
        { l with badFrames := modifyAt l.badFrames port (· + 1) }))))
    ∧ (∀ mst port high data, 1 ≤ port → port ≤ 3 → data < 2 ^ 32 →
      ∀ key, key = mkPage 11 port + (if high then 0x164 else 0x160) → s.chip.takesWrite mst key →
      completes (.laneRetry mst port high data) s (fun t =>
        t.chip.w key = s.chip.w key ||| BitVec.ofNat 32 data ∧ onlyRegs [key] s t))
    ∧ (∀ port path, 1 ≤ port → port ≤ 3 → path ≤ 1 → s.chip.retLock port path = true → completes (.returnLost port path) s (fun t =>
        t.chip.retLock port path = false ∧ 2 * port + path ∈ t.chip.lanes.lost ∧ memKept s t))
    ∧ (∀ port path, 1 ≤ port → port ≤ 3 → path ≤ 1 → (port = 3 → path = 0) → completes (.returnRelock port path) s (fun t =>
        t.chip.retLock port path = true ∧ t.chip.lanes = s.chip.lanes ∧ memKept s t))
    ∧ (s.chip.lanes.training = true →
      completes .trainLockCheck s (fun t => memKept s t
        ∧ t.chip.get F.SER0_TRAIN_STATUS_PHASE
          = (if s.chip.on F.SER0_TRAIN_CTRL_ADAPT = true then 2 else s.chip.get F.SER0_TRAIN_STATUS_PHASE)
        ∧ t.chip.lanes.unlocked = (s.chip.trainLanes.filter (fun e => !(s.chip.judgeDrivers e.1 e.2).all (fun g =>
            s.chip.lanes.trainFrames.any (fun f => f.port = e.1 && f.group = g && f.lock)))).map (fun e => 64 * e.1 + e.2))
      ∧ (∀ results, completes (.trainSettingsApply results) s (fun t =>
        t.chip.get F.SER0_TRAIN_STATUS_PHASE = 3 ∧ t.chip.lanes = s.chip.lanes ∧ memKept s t
          ∧ (s.chip.on F.SER0_TRAIN_CTRL_ADAPT = false → ∀ e ∈ s.chip.trainLanes,
            t.chip.get ((F.SERP_TX_SET_POST_USED.inst e.1).ix e.2) = s.chip.act ((F.SERP_TX_SET_POST.inst e.1).ix e.2))))
      ∧ (∀ failed, completes (.trainJudge failed) s (fun t =>
        t.chip.get F.SER0_TRAIN_STATUS_PHASE = 4 ∧ memKept s t
          ∧ (∀ e ∈ s.chip.trainLanes, e.2 < 64 → 64 * e.1 + e.2 ∈ failed → t.chip.laneMasked e.1 e.2 = true))))
    ∧ (∀ mst data, s.chip.takesWrite mst K.SER0_EYE_CTRL → bit data 7 = true → completes (.eyeScanStart mst data) s (fun t =>
        t.chip.is F.SER0_EYE_CTRL_START = true ∧ t.chip.get F.SER0_EYE_CTRL_LANE = data % 128 ∧ onlyRegs [K.SER0_EYE_CTRL] s t))
    ∧ (∀ width height, s.chip.is F.HLK_EYE_CTRL_START = true → completes (.eyeScanDone true width height) s (fun t =>
        t.chip.get F.HLK_EYE_RESULT_WIDTH = width % 256 ∧ t.chip.get F.HLK_EYE_RESULT_HEIGHT = height % 256
          ∧ t.chip.is F.HLK_EYE_RESULT_VALID = true ∧ t.chip.is F.HLK_EYE_CTRL_START = false
          ∧ regsKeptBut [K.HLK_EYE_RESULT, K.HLK_EYE_CTRL] s.chip t.chip ∧ memKept s t))
    ∧ (∀ width height, s.chip.is F.SER0_EYE_CTRL_START = true → completes (.eyeScanDone false width height) s (fun t =>
        t.chip.get F.SER0_EYE_RESULT_WIDTH = width % 256 ∧ t.chip.get F.SER0_EYE_RESULT_HEIGHT = height % 256
          ∧ t.chip.is F.SER0_EYE_RESULT_VALID = true ∧ t.chip.is F.SER0_EYE_CTRL_START = false
          ∧ regsKeptBut [K.SER0_EYE_RESULT, K.SER0_EYE_CTRL] s.chip t.chip ∧ memKept s t))
    ∧ (∀ mst data, s.chip.takesWrite mst K.SER0_INJECT → bit data 7 = true → completes (.serCrcInject mst data) s (fun t =>
        t.chip.is F.SER0_INJECT_CRC = true ∧ t.chip.get F.SER0_INJECT_LANE = data % 128 ∧ onlyRegs [K.SER0_INJECT] s t))

/-- The sector light: scan slots, lit windows, power averages, VLED, DRIVE and retries (R311, R319, R322, R326, R329,
R331). When the raster has come to the next slot's line, the slot starts and shows its number and line; it is dark
while DRIVE is 0, and lights its line where its plan does, nothing holds it dark, and its tests and the VLED reading
pass. The window that follows is counted and lights the channels its plan and line give; a dark slot's lights none,
and a second start in one slot does nothing. An average above 15 W stops and loses its channel; one within it does
nothing. VLED outside its window stops the light until it has been inside for 10 ms, and light resumes at a commit.
A Keeper's write of DRIVE changes no channel before the commit; RETRY bits collect until it. In it the model's own
choices are those of log entries 4 and 98. -/
def Obligations.SectorLightSlots : Prop :=
  ∀ s : State,
    (∀ k, k = s.chip.sec.next → k < 16 → (s.chip.timingOf s.chip.modeId).isSome = true → s.chip.is ⟨P.SCN + 0x00C, 3, 1, 4⟩ = true →
      s.chip.slotDue k = true → ∀ j, j = (k + 16 - s.chip.sec.lag) % 16 → ∀ io,
      completes (.scanSlotStart io) s (fun t =>
        t.chip.sec.next = k + 1 ∧ t.chip.get F.SEC_SLOT_STATUS_SLOT = k ∧ t.chip.get F.SEC_SLOT_STATUS_LINE = j
          ∧ t.chip.sec.line = (if t.chip.get F.SEC_SLOT_STATUS_DARK = 1 then none else some j)
          ∧ (s.chip.sec.drive = false → t.chip.get F.SEC_SLOT_STATUS_DARK = 1)
          ∧ ((s.chip.slotPlan k).state ≠ .dark → s.chip.slotHeldDark k j = false → io.shortCount < 48 → io.stuck = [] →
            s.chip.act F.SEC_VLED_WIN_MIN ≤ io.vledMv → io.vledMv ≤ s.chip.act F.SEC_VLED_WIN_MAX →
            t.chip.get F.SEC_SLOT_STATUS_DARK = 0)
          ∧ t.chip.sec.awaiting = true ∧ memKept s t))
    ∧ (∀ io, s.chip.sec.awaiting = true →
      (∀ j, s.chip.sec.line = some j → completes (.litWindowStart io) s (fun t =>
        t.chip.w (P.SEC + 0x044) = s.chip.w (P.SEC + 0x044) + 1 ∧ t.chip.sec.line = some j
          ∧ t.chip.sec.running = s.chip.windowLit (s.chip.slotPlan (s.chip.get F.SEC_SLOT_STATUS_SLOT)) j io
          ∧ t.chip.sec.awaiting = false ∧ memKept s t))
      ∧ (s.chip.sec.line = none → completes (.litWindowStart io) s (fun t =>
        t.chip.w (P.SEC + 0x044) = s.chip.w (P.SEC + 0x044) ∧ t.chip.sec.running = s.chip.sec.running
          ∧ t.chip.sec.awaiting = false ∧ memKept s t)))
    ∧ (∀ io, s.chip.sec.awaiting = false → exec (.litWindowStart io) s = .next (s.became s.chip.quiet))
    ∧ (∀ ch mw, ch < 96 → 15000 < mw → s.chip.sensePaused = false → s.chip.sec.lost.any (fun e => e.1 = ch && e.2 = 0) = false →
      completes (.channelPowerAverage ch mw) s (fun t =>
        (ch, 0) ∈ t.chip.sec.lost ∧ (∀ x ∈ t.chip.sec.running, x.ch ≠ ch) ∧ bit (t.chip.get (F.SEC_CHAN_LOST_MAP.ix (ch / 32))) (ch % 32) = true
          ∧ t.chip.w (P.SEC + 0x044 + 4 * 7) = s.chip.w (P.SEC + 0x044 + 4 * 7) + 1 ∧ memKept s t))
    ∧ (∀ ch mw, mw ≤ 15000 → exec (.channelPowerAverage ch mw) s = .next (s.became s.chip.quiet))
    ∧ (∀ mv, mv < 65536 → s.chip.sec.vledOut = false → (mv < s.chip.act F.SEC_VLED_WIN_MIN ∨ s.chip.act F.SEC_VLED_WIN_MAX < mv) →
      completes (.vledRangeFault mv) s (fun t =>
        t.chip.sec.vledOut = true ∧ t.chip.sec.line = none ∧ t.chip.get F.SEC_VLED_MEAS_MV = mv
          ∧ t.chip.get F.SEC_VLED_MEAS_IN_WIN = 0 ∧ t.chip.w (P.SEC + 0x044 + 4 * 8) = s.chip.w (P.SEC + 0x044 + 4 * 8) + 1
          ∧ memKept s t))
    ∧ (s.chip.sec.vledOut = true → s.chip.is F.SEC_VLED_MEAS_IN_WIN = true →
        exec .vledResume s = .next (s.became (s.chip.quiet.secUp (fun x => { x with vledReady := true }))))
    ∧ (∀ data, s.chip.takesWrite .keeper K.SEC_OWNER → completes (.secDriveWrite .keeper data) s (fun t =>
        t.chip.get F.SEC_OWNER_DRIVE = data % 2 ∧ onlyRegs [K.SEC_OWNER] s t))
    ∧ (∀ mst data, s.chip.takesWrite mst K.SEC_RETRY → completes (.secRetry mst data) s (fun t =>
        t.chip.w K.SEC_RETRY = s.chip.w K.SEC_RETRY ||| BitVec.ofNat 32 (data % 8) ∧ onlyRegs [K.SEC_RETRY] s t))

/-- The region layer: posting, frames, completing and aborting updates, its rails, unfreezing and waveforms (R338, R343,
R344, R347, R348, R350, R352, R354, R356). A posting that no reason of Table 3 refuses joins the queue with RESULT
0; a refused one shows its reason and is counted; a PLAN posting with room waits for its plan with RESULT 7. At the
end of an update's last frame it leaves its slot, ABORTED where it was stopped, else DONE with its target in the
map. ABORT drops what it names from the queue and the plans, stops what runs and notes one that completed too late.
Rails that reach their windows are READY, and freeze the layer where they do not in time; ten checks in a row that
find one rail outside freeze it. UNFREEZE waits for every rail inside and no lane masked. A frame start judges the
panel temperature, takes up a fall of DRIVE, and with an update in flight, each frame reported and the layer neither
frozen nor absent, moves FRAME_COUNT on. A waveform word is stored unless its bank is in use; INDEX moves on with
AUTO_INC. -/
def Obligations.RegionLayerUpdates : Prop :=
  ∀ (mst : Master) (data : Nat) (s : State), data < 2 ^ 32 →
    (s.chip.takesWrite mst K.APL_REQ_POST → bit data 0 = true → ∀ start, start = s.chip.get F.APL_REQ_CTRL_START →
      ∀ r : Rect, r = ⟨s.chip.get F.APL_REQ_TL_X0, s.chip.get F.APL_REQ_TL_Y0, s.chip.get F.APL_REQ_BR_X1, s.chip.get F.APL_REQ_BR_Y1⟩ →
      ∀ id, id = s.chip.get F.APL_REQ_CTRL_ID → ∀ target, target = s.chip.get F.APL_REQ_CTRL_TARGET →
      (start ≠ 2 → ∀ why, why = s.chip.aplReason r target start id true → completes (.aplReqPost mst data) s (fun t =>
        t.chip.get F.APL_REQ_RESULT_RESULT = why ∧ t.chip.get F.APL_REQ_RESULT_ID = id ∧ memKept s t
          ∧ (why = 0 → t.chip.apl.queue = s.chip.apl.queue ++ [⟨s.chip.apl.nextNum, id, r, target, false, false⟩])
          ∧ (why ≠ 0 → t.chip.apl = s.chip.apl ∧ t.chip.w (P.APL + 0x044 + 4 * 3) = s.chip.w (P.APL + 0x044 + 4 * 3) + 1)))
      ∧ (start = 2 → s.chip.apl.resetting = false → s.chip.apl.plans.length < 32 → completes (.aplReqPost mst data) s (fun t =>
        t.chip.get F.APL_REQ_RESULT_RESULT = 7 ∧ t.chip.get F.APL_REQ_RESULT_ID = id ∧ memKept s t
          ∧ t.chip.apl.plans = s.chip.apl.plans ++ [(⟨s.chip.apl.nextNum, id, r, target, false, false⟩, s.chip.openPlan)])))
    ∧ (∀ slot, ∀ r, s.chip.apl.runs.find? (fun x => x.slot = slot) = some r → r.lastFrame = true → ∀ aborted : Bool,
      aborted = (r.rev.isSome || r.stop || (decide (r.phase = 1) && r.phaseOnly && decide (0 < r.u.target))) →
      completes (.aplUpdateComplete slot) s (fun t =>
        t.chip.apl.runs = s.chip.apl.runs.filter (fun x => decide (x.slot ≠ slot)) ∧ t.chip.get F.APL_LAST_DONE_ID = r.u.id % 256
          ∧ t.chip.get F.APL_LAST_DONE_STATUS = (if aborted = true then 3 else 1)
          ∧ (aborted = false → ⟨r.u.rect, some r.u.target⟩ ∈ t.chip.apl.paints) ∧ memKept s t))
    ∧ (s.chip.takesWrite mst K.APL_ABORT →
      (bit data 31 = false → ∀ id, id = data % 256 → id < 0xE0 →
        ∀ waits : Bool, waits = (s.chip.apl.queue.any (fun u => u.id = id) || s.chip.apl.plans.any (fun e => e.1.id = id)) →
        completes (.aplAbort mst data) s (fun t =>
          t.chip.apl.queue = s.chip.apl.queue.filter (fun u => decide (u.id ≠ id))
            ∧ t.chip.apl.plans = s.chip.apl.plans.filter (fun e => decide (e.1.id ≠ id)) ∧ memKept s t
            ∧ ((∀ r ∈ s.chip.apl.runs, r.u.id = id → r.suspended = false) → t.chip.apl.runs = s.chip.apl.runs.map (fun x =>
                if s.chip.apl.runs.any (fun r => r.u.id = id && r.slot = x.slot) = true then stopRun x else x))
            ∧ ((∀ r ∈ s.chip.apl.runs, r.u.id ≠ id) → waits = true →
              t.chip.get F.APL_LAST_DONE_ID = id ∧ t.chip.get F.APL_LAST_DONE_STATUS = 3)
            ∧ ((∀ r ∈ s.chip.apl.runs, r.u.id ≠ id) → waits = false → (∃ u ∈ s.chip.apl.done, u.id = id) →
              t.chip.get F.APL_LAST_DONE_ID = id ∧ t.chip.get F.APL_LAST_DONE_ABORT_LATE = 1)))
      ∧ (bit data 31 = true → completes (.aplAbort mst data) s (fun t =>
          t.chip.apl.queue = s.chip.apl.queue.filter (fun u => decide (0xE0 ≤ u.id)) ∧ memKept s t)))
    ∧ (s.chip.apl.rails = 1 →
      completes (.aplRailReady true) s (fun t =>
        t.chip.apl.rails = 2 ∧ t.chip.get F.APL_RAIL_STATUS_READY = 1 ∧ t.chip.get F.APL_RAIL_STATUS_OK = 31 ∧ memKept s t)
      ∧ completes (.aplRailReady false) s (fun t =>
        t.chip.apl.rails = 0 ∧ t.chip.apl.frozen = true ∧ t.chip.get F.APL_RAIL_STATUS_FAULT = 1 ∧ memKept s t))
    ∧ (s.chip.apl.rails = 2 → ∀ ok, ∀ bad, bad = railCounts s.chip.apl.railBad ok →
      ((∀ n ∈ bad, n < 10) → exec (.aplRailCheck ok) s = .next (s.became ((s.chip.quiet.set F.APL_RAIL_STATUS_OK ok).aplUp (fun a =>
        { a with railBad := bad }))))
      ∧ ((∃ n ∈ bad, 10 ≤ n) → completes (.aplRailCheck ok) s (fun t =>
        t.chip.apl.rails = 0 ∧ t.chip.apl.frozen = true ∧ t.chip.get F.APL_RAIL_STATUS_FAULT = 1 ∧ memKept s t)))
    ∧ (s.chip.takesWrite mst K.APL_RECOVER → bit data 0 = true →
      (s.chip.get F.APL_RAIL_STATUS_OK = 0x1F → s.chip.laneMask 3 = 0 → exec (.aplUnfreeze mst data) s = .next (s.became
        ((s.chip.quiet.set F.APL_RECOVER_UNFREEZE 1).taken K.APL_RECOVER)))
      ∧ (s.chip.get F.APL_RAIL_STATUS_OK ≠ 0x1F ∨ s.chip.laneMask 3 ≠ 0 →
        exec (.aplUnfreeze mst data) s = .next (s.became (s.chip.quiet.taken K.APL_RECOVER))))
    ∧ (s.chip.takesWrite .keeper K.APL_OWNER → completes (.aplDriveWrite .keeper data) s (fun t =>
        t.chip.get F.APL_OWNER_DRIVE = data % 2 ∧ onlyRegs [K.APL_OWNER] s t))
    ∧ (s.chip.blockOn 13 = true → completes .aplFrameStart s (fun t =>
        t.chip.get F.APL_TEMP_VALID = b2n s.chip.panelTemp.2 ∧ memKept s t
          ∧ t.chip.apl.drive = (s.chip.apl.drive && s.chip.on F.APL_OWNER_DRIVE)
          ∧ (s.chip.apl.drive = true → s.chip.on F.APL_OWNER_DRIVE = false → t.chip.get F.APL_RAIL_STATUS_READY = 0)
          ∧ (s.chip.apl.frozen = false → s.chip.layerPresent = true → (∀ f ∈ s.chip.apl.frames, f.reported ≠ []) →
            (∃ r ∈ s.chip.apl.runs, r.suspended = false ∧ r.due = false) → (s.chip.apl.runs.map (·.slot)).Nodup →
            t.chip.get F.APL_FRAME_COUNT_FRAME = (s.chip.get F.APL_FRAME_COUNT_FRAME + 1) % 65536)))
    ∧ (s.chip.takesWrite mst K.APL_TBL_DATA → ∀ bank, bank = s.chip.get F.APL_TBL_ADDR_TABLE →
      ∀ i, i = s.chip.get F.APL_TBL_ADDR_INDEX → ∀ next, next = (i + b2n (s.chip.is F.APL_TBL_ADDR_AUTO_INC)) % 512 →
      (s.chip.wfBusy bank = false → completes (.aplTblDataWrite mst data) s (fun t => t.chip.resp.status = .ok
        ∧ (i < 480 → t.chip.wfWord bank i = (if i % 4 = 0 then data % 64 else if i % 4 = 3 then 0 else data))
        ∧ (∀ b j, b < 2 → j < 512 → (b ≠ bank ∨ j ≠ i) → t.chip.wfWord b j = s.chip.wfWord b j)
        ∧ t.chip.get F.APL_TBL_ADDR_INDEX = next ∧ memKept s t))
      ∧ (s.chip.wfBusy bank = true → completes (.aplTblDataWrite mst data) s (fun t => t.chip.resp.status = .busy
        ∧ t.chip.apl = s.chip.apl ∧ t.chip.get F.APL_TBL_ADDR_INDEX = next ∧ memKept s t)))

/-- Profiles, policies and firmware images are checked and stored by the Keeper (R465, R466, R468, R469, R470, R471). A
PROFILE, POLICY or image that passes its checks becomes the write in progress; one that fails a check gets that
check's result and stores nothing. What a profile's or an image's content is, and whether a signature verifies, is
open to the model: the statement covers each outcome. FLASH_WRITE_DONE puts what was written in its place, answers
OK and takes up the requests that wait; a failed write is answered 0x18 and leaves the stored object, or loses the
calibration set being written. With none waiting no byte of memory changes. In it the model's own choices are those
of log entries 8, 9 and 37. -/
def Obligations.KeeperStoresObjects : Prop :=
  ∀ (req : KeeperReq) (b : List Byte) (s : State),
    (∀ q, q = req.as 0x30 → s.chip.performs q → objectAt s q 1 54525952 b → completes (.profileStore req) s (fun t => memKept s t
      ∧ ((Config.profileFault b).isSome = true → t.chip.answered 0x30 0x10 ∧ t.chip.kpr = s.chip.kpr)
      ∧ (Config.profileFault b = none →
        (∀ r, s.chip.objectAuth b = some r → t.chip.answered 0x30 (r % 256) ∧ t.chip.kpr = s.chip.kpr)
        ∧ (s.chip.objectAuth b = none →
          if ob b 16 48 ≠ s.chip.panelDigest then t.chip.answered 0x30 0x15 ∧ t.chip.kpr = s.chip.kpr
          else if staleVersion s.chip.kpr.profile b = true then t.chip.answered 0x30 0x14 ∧ t.chip.kpr = s.chip.kpr
          else t.chip.kpr = { s.chip.kpr with busy := some (q, .profile (storedOf s.chip.kpr.profile b []) (bit q.flags 0)) }))))
    ∧ (∀ q, q = req.as 0x31 → s.chip.performs q →
      (bit q.flags 1 = true → q.len = 0 → completes (.policyStore req) s (fun t =>
        t.chip.kpr = { s.chip.kpr with busy := some (q, .policy none (bit q.flags 0)) } ∧ memKept s t))
      ∧ (bit q.flags 1 = false → objectAt s q 2 262144 b →
        ∀ fits, fits = (decide (ob b 16 48 = 0) || s.chip.kpr.profile.any (fun p => p.digest = ob b 16 48)) →
        completes (.policyStore req) s (fun t => memKept s t
          ∧ ((policyFault s.chip.isC8 (objectBody b)).isSome = true → t.chip.answered 0x31 0x10 ∧ t.chip.kpr = s.chip.kpr)
          ∧ (policyFault s.chip.isC8 (objectBody b) = none →
            (∀ r, s.chip.objectAuth b = some r → t.chip.answered 0x31 (r % 256) ∧ t.chip.kpr = s.chip.kpr)
            ∧ (s.chip.objectAuth b = none →
              if fits = false then t.chip.answered 0x31 0x15 ∧ t.chip.kpr = s.chip.kpr
              else if staleVersion s.chip.kpr.override b = true then t.chip.answered 0x31 0x14 ∧ t.chip.kpr = s.chip.kpr
              else t.chip.kpr = { s.chip.kpr with
                busy := some (q, .policy (some (storedOf s.chip.kpr.override b (objectBody b))) (bit q.flags 0)) })))))
    ∧ (∀ q, q = req.as 0x34 → s.chip.performs q → s.chip.memMapped q.addr q.len = true → q.len ≤ 8388608 →
      b = s.chip.quiet.loads s.mem q.addr q.len → completes (.fwStore req) s (fun t => memKept s t
        ∧ (Config.imageHeader b = none → t.chip.answered 0x34 0x10 ∧ t.chip.kpr = s.chip.kpr)
        ∧ (∀ h, Config.imageHeader b = some h →
          if Config.imageSigned b = false then t.chip.answered 0x34 0x12 ∧ t.chip.kpr = s.chip.kpr
          else if h.2 < s.chip.kpr.otp.rollback then t.chip.answered 0x34 0x14 ∧ t.chip.kpr = s.chip.kpr
          else t.chip.kpr = { s.chip.kpr with
            busy := some (q, .image (1 - s.chip.get F.KPR_BOOT_STATUS_IMAGE) ⟨some h, true, Config.sha384 b, Config.sha384 b, []⟩) })))
    ∧ (∀ q w, s.chip.kpr.busy = some (q, w) → w ≠ .run →
      exec (.flashWriteDone true) s = .next (s.stored
        ((((s.chip.quiet.kprUp (fun k => { k with busy := none })).flashStore w).answer q 0 w.reply.1 w.reply.2).keeperNext s.mem))
      ∧ (s.chip.kpr.waiting = [] →
        completes (.flashWriteDone true) s (fun t => t.chip.kpr.busy = none ∧ t.chip.answered (q.op % 256) 0 ∧ memKept s t
          ∧ (∀ o r, w = .profile o r → t.chip.kpr.profile = some o ∧ t.chip.get F.KPR_OBJ_STATUS_STORED = 1)
          ∧ (∀ o r, w = .policy o r → t.chip.kpr.override = o)
          ∧ (∀ a i, w = .image a i → t.chip.kpr.images = modifyAt s.chip.kpr.images a (fun _ => i))
          ∧ (∀ o, w = .cal o → t.chip.cal.stored = some o))
        ∧ completes (.flashWriteDone false) s (fun t => t.chip.kpr = { s.chip.kpr with busy := none }
          ∧ t.chip.answered (q.op % 256) 0x18 ∧ memKept s t ∧ (∀ o, w = .cal o → t.chip.cal.stored = none))))

/-- ROLLBACK_COMMIT: the five outcomes by its target (R472). When the Keeper performs a ROLLBACK_COMMIT: a target above
64 is INVALID; one at or below the counter is DONE with no change; one above the running image's rollback index, or
above the other image's without FORCE, is WOULD_LOCK_OUT; else the counter in OTP and in SEC_STATUS becomes the
target. The Keeper's other state and memory stay as they are. -/
def Obligations.RollbackCommitTargets : Prop :=
  ∀ (req : KeeperReq) (s : State), ∀ q,
    q = req.as 0x35 → s.chip.performs q → ∀ target, target = leNat (slice q.data 0 8) → ∀ run,
    run = s.chip.kpr.images.getD (s.chip.get F.KPR_BOOT_STATUS_IMAGE) {} → ∀ other,
    other = s.chip.kpr.images.getD (1 - s.chip.get F.KPR_BOOT_STATUS_IMAGE) {} →
    ∀ above : FwImage → Bool,
    above = (fun x => x.header.any (fun h => decide (h.2 < target))) →
    (64 < target → completes (.rollbackCommit req) s (fun t => t.chip.answered 0x35 6 ∧ t.chip.kpr = s.chip.kpr ∧ memKept s t))
    ∧ (target ≤ 64 → target ≤ s.chip.kpr.otp.rollback → completes (.rollbackCommit req) s (fun t =>
        t.chip.answered 0x35 0 ∧ t.chip.kpr = s.chip.kpr ∧ memKept s t))
    ∧ (target ≤ 64 → s.chip.kpr.otp.rollback < target → (above run = true ∨ above other = true ∧ bit q.flags 0 = false) →
        completes (.rollbackCommit req) s (fun t => t.chip.answered 0x35 0x1A ∧ t.chip.kpr = s.chip.kpr ∧ memKept s t))
    ∧ (target ≤ 64 → s.chip.kpr.otp.rollback < target → above run = false → (above other = true → bit q.flags 0 = true) →
        completes (.rollbackCommit req) s (fun t => t.chip.answered 0x35 0
          ∧ t.chip.kpr = { s.chip.kpr with otp := { s.chip.kpr.otp with rollback := target } }
          ∧ t.chip.get F.KPR_SEC_STATUS_ROLLBACK = target ∧ memKept s t))

/-- Customer keys are programmed and revoked in OTP, each once (R473, R478). KEY_PROGRAM: with both slots empty the key
is set in slot 0 when the object names slot 0, carries the key as its signer and verifies; with slot 0 set alone it
is set in slot 1 when the object names slot 0 and slot 0's key, not revoked, signed it; with slot 1 set the attempt
is answered 0x19. Another signer is answered 0x11, a signature that fails 0x12, a body that is no key 0x10, and OTP
stays as it was. KEY_REVOKE: an object that the signer's slot, set and not revoked, signed sets the revoke bit of
the other slot; one whose signer's slot is not usable while the other is, is answered 0x1A. OTP changes in nothing
else, and no byte of memory changes. In it the model's own choices are those of log entries 8 and 69. -/
def Obligations.KeeperKeySlots : Prop :=
  ∀ (req : KeeperReq) (b : List Byte) (s : State),
    (∀ q, q = req.as 0x36 → s.chip.performs q → objectAt s q 3 262144 b →
      ((objectBody b).length ≠ 97 → completes (.keyProgram req) s (fun t =>
        t.chip.answered 0x36 0x10 ∧ t.chip.kpr = s.chip.kpr ∧ memKept s t))
      ∧ ((objectBody b).length = 97 → s.chip.kpr.otp.slot0 = none → s.chip.kpr.otp.slot1 = none →
        completes (.keyProgram req) s (fun t => memKept s t
          ∧ if ob b 5 1 = 0 ∧ objectKey b = objectBody b ∧ objectSigned b = true then t.chip.answered 0x36 0
              ∧ t.chip.kpr = { s.chip.kpr with otp := { s.chip.kpr.otp with slot0 := some (Config.sha384 (objectBody b)) } }
            else t.chip.kpr = s.chip.kpr
              ∧ t.chip.answered 0x36 (if ob b 5 1 = 0 ∧ objectKey b = objectBody b then 0x12 else 0x11)))
      ∧ ((objectBody b).length = 97 → s.chip.kpr.otp.slot0.isSome = true → s.chip.kpr.otp.slot1 = none →
        completes (.keyProgram req) s (fun t => memKept s t
          ∧ (ob b 5 1 ≠ 0 → t.chip.answered 0x36 0x11 ∧ t.chip.kpr = s.chip.kpr)
          ∧ (ob b 5 1 = 0 → (∀ r, s.chip.objectAuth b = some r → t.chip.answered 0x36 (r % 256) ∧ t.chip.kpr = s.chip.kpr)
            ∧ (s.chip.objectAuth b = none → t.chip.answered 0x36 0
              ∧ t.chip.kpr = { s.chip.kpr with otp := { s.chip.kpr.otp with slot1 := some (Config.sha384 (objectBody b)) } }))))
      ∧ ((objectBody b).length = 97 → s.chip.kpr.otp.slot1.isSome = true → completes (.keyProgram req) s (fun t =>
        t.chip.answered 0x36 0x19 ∧ t.chip.kpr = s.chip.kpr ∧ memKept s t)))
    ∧ (∀ q, q = req.as 0x37 → s.chip.performs q → objectAt s q 4 262144 b →
      ∀ signer, signer = ob b 5 1 → ∀ usable : Nat → Bool,
        usable = (fun n => (s.chip.slotKey n).isSome && !s.chip.slotRevoked n) →
      (usable signer = false → usable (1 - signer) = true → completes (.keyRevoke req) s (fun t =>
        t.chip.answered 0x37 0x1A ∧ t.chip.kpr = s.chip.kpr ∧ memKept s t))
      ∧ ((usable signer = true ∨ usable (1 - signer) = false) → completes (.keyRevoke req) s (fun t => memKept s t
        ∧ (∀ r, s.chip.objectAuth b = some r → t.chip.answered 0x37 (r % 256) ∧ t.chip.kpr = s.chip.kpr)
        ∧ (s.chip.objectAuth b = none → t.chip.answered 0x37 0 ∧ t.chip.kpr = { s.chip.kpr with otp := { s.chip.kpr.otp with
            revoked := withBit s.chip.kpr.otp.revoked (1 - signer) true } }))))

/-- ATTEST, CERT_GET and CAL_EXPORT write their output to the caller's buffer and nothing else (R465, R474, R514). In a
mapped buffer that is long enough, ATTEST puts the 384 bytes of the report with the caller's nonce, CERT_GET the
certificate and CAL_EXPORT the stored calibration set, each from the buffer's first byte; no other byte of memory
changes and the answer is OK. A buffer that is too short (for CAL_EXPORT one below 65 536) is answered 0x1C and one
that is not memory 0x17, and nothing is written; with no valid set CAL_EXPORT is answered 0x18. Nothing of the
Keeper's own state changes. In it the model's own choices are those of log entry 8. -/
def Obligations.KeeperReports : Prop :=
  ∀ (req : KeeperReq) (s : State),
    (∀ e : Instr × KeeperReq × List Byte, (e = (Instr.attest req, req.as 0x32, s.chip.report (req.as 0x32).data)
        ∨ e = (Instr.certGet req, req.as 0x33, Config.certificate)) → s.chip.performs e.2.1 →
      (s.chip.memMapped req.addr req.len = true → e.2.2.length ≤ req.len → completes e.1 s (fun t =>
        t.chip.answered e.2.1.op 0 ∧ t.chip.kpr = s.chip.kpr ∧ (∀ n, n < e.2.2.length → t.mem.read (req.addr + n) = e.2.2.getD n 0)
          ∧ memKeptBut req.addr e.2.2.length s t))
      ∧ (s.chip.memMapped req.addr req.len = true → req.len < e.2.2.length → completes e.1 s (fun t =>
        t.chip.answered e.2.1.op 0x1C ∧ t.chip.kpr = s.chip.kpr ∧ memKept s t))
      ∧ (s.chip.memMapped req.addr req.len = false → completes e.1 s (fun t =>
        t.chip.answered e.2.1.op 0x17 ∧ t.chip.kpr = s.chip.kpr ∧ memKept s t)))
    ∧ (s.chip.performs (req.as 0x3B) → s.chip.cal.stored = none → completes (.calExport req) s (fun t =>
        t.chip.answered 0x3B 0x18 ∧ t.chip.kpr = s.chip.kpr ∧ memKept s t))
    ∧ (s.chip.performs (req.as 0x3B) → ∀ x, s.chip.cal.stored = some x →
      (s.chip.memMapped req.addr req.len = true → 65536 ≤ req.len → completes (.calExport req) s (fun t =>
        t.chip.answered 0x3B 0 ∧ t.chip.kpr = s.chip.kpr ∧ (∀ n, n < 65536 → t.mem.read (req.addr + n) = x.bytes.getD n 0)
          ∧ memKeptBut req.addr 65536 s t))
      ∧ (s.chip.memMapped req.addr req.len = true → req.len < 65536 → completes (.calExport req) s (fun t =>
        t.chip.answered 0x3B 0x1C ∧ t.chip.kpr = s.chip.kpr ∧ memKept s t))
      ∧ (s.chip.memMapped req.addr req.len = false → completes (.calExport req) s (fun t =>
        t.chip.answered 0x3B 0x17 ∧ t.chip.kpr = s.chip.kpr ∧ memKept s t)))

/-- The debug lock: challenge, response, duration and lapse (R475, R469). DEBUG_CHALLENGE keeps the challenge it gives,
in place of any earlier one; what it is, is a free value. A DEBUG object whose key and signature pass, which answers
the challenge held, names this module and asks for no scope its key may not grant, opens its scopes until its
duration ends, raises INT_RAW bit 9, records that debug was open and uses the challenge up. An object that fails
R469 gets that result, another challenge or module 0x1B, scope 2 under a customer key 0x19, and a body of another
form 0x10; none of them changes a scope or the Keeper's state. The end of the duration closes every scope; a
challenge that lapses is gone. No byte of memory changes. In it the model's own choices are those of log entries 7,
8 and 69. -/
def Obligations.KeeperDebugLock : Prop :=
  ∀ (req : KeeperReq) (b : List Byte) (s : State),
    (∀ q, q = req.as 0x38 → s.chip.performs q → completes (.debugChallenge req) s (fun t =>
      t.chip.kpr = { s.chip.kpr with challenge := some (leBytes 32 s.chip.freeNat) } ∧ t.chip.answered 0x38 0 ∧ memKept s t))
    ∧ (∀ q, q = req.as 0x39 → s.chip.performs q → objectAt s q 5 262144 b → ∀ body, body = objectBody b →
      ∀ scopes, scopes = leNat (slice body 40 4) →
      ∀ refused : State → Nat → Prop, refused = (fun t r => t.chip.answered 0x39 r ∧ t.chip.kpr = s.chip.kpr
        ∧ t.chip.get F.KPR_SEC_STATUS_SCOPES = s.chip.get F.KPR_SEC_STATUS_SCOPES) →
      ((body.length ≠ 48 ∨ 8 ≤ scopes) → completes (.debugResponse req) s (fun t => memKept s t ∧ refused t 0x10))
      ∧ (body.length = 48 → scopes < 8 → completes (.debugResponse req) s (fun t => memKept s t
        ∧ (∀ r, s.chip.objectAuth b = some r → refused t (r % 256))
        ∧ (s.chip.objectAuth b = none →
          (s.chip.kpr.challenge ≠ some (body.take 32) ∨ leNat (slice body 32 8) ≠ s.chip.kpr.otp.uid → refused t 0x1B)
          ∧ (s.chip.kpr.challenge = some (body.take 32) → leNat (slice body 32 8) = s.chip.kpr.otp.uid →
            (bit scopes 2 = true → ob b 5 1 ≠ 0xFF → refused t 0x19)
            ∧ ((bit scopes 2 = true → ob b 5 1 = 0xFF) → t.chip.get F.KPR_SEC_STATUS_SCOPES = scopes
              ∧ t.chip.is F.KPR_SEC_STATUS_DEBUG_SEEN = true ∧ t.chip.answered 0x39 0 ∧ t.chip.is ⟨P.KPR + 0x010, 9, 1, 4⟩ = true
              ∧ t.chip.kpr = { s.chip.kpr with challenge := none, debugEnd := s.chip.clock.sec + leNat (slice body 44 4) }))))))
    ∧ completes .debugExpiry s (fun t => t.chip.get F.KPR_SEC_STATUS_SCOPES = 0 ∧ t.chip.kpr = { s.chip.kpr with debugEnd := 0 }
        ∧ regsKeptBut [K.KPR_SEC_STATUS] s.chip t.chip ∧ memKept s t)
    ∧ exec .challengeLapse s = .next (s.became (s.chip.quiet.kprUp (fun k => { k with challenge := none })))

/-- Brightness requests, the luminance loop and a restart of the Keeper's firmware (R461, R462, R476). BRIGHT_SET
records the level and its ramp in fields, from the level now in force. A luminance update under luminance control,
with the sector light powered, keeps G within 0.5 to 2 times when an enabled photo channel gives a ratio and leaves
it alone when none is enabled, and computes all 96 trims by the formula of R462 with the G it leaves; without
luminance control it does nothing. A restart drops the request in progress, the waiting ones and the challenge,
closes debug, counts itself and keeps profile and OTP; three in 60 s are FATAL. At its end the firmware runs again
and takes up the requests that came meanwhile; neither does anything where there is nothing to restart or to end. In
it the model's own choices are those of log entries 4, 7, 47, 66 and 67. -/
def Obligations.KeeperBrightnessAndRestart : Prop :=
  ∀ (req : KeeperReq) (s : State),
    (∀ q, q = req.as 0x3A → s.chip.performs q → completes (.brightSet req) s (fun t =>
      t.chip.kpr = { s.chip.kpr with
          bright := leNat (slice q.data 0 2), rampFrom := s.chip.rampLevel, rampDone := 0
          rampLen := ceilDiv (leNat (slice q.data 2 2) * s.chip.timing.fieldHz) 1000 }
        ∧ t.chip.get F.KPR_BRIGHT_STATUS_REQUESTED = leNat (slice q.data 0 2) % 65536 ∧ t.chip.answered 0x3A 0 ∧ memKept s t))
    ∧ (∀ readings currents o, s.chip.kpr.active = some o → s.chip.firmware = true → s.chip.polLum = true → s.chip.blockOn 12 = true →
      completes (.luminanceUpdate readings currents) s (fun t =>
        (t.chip.get F.KPR_LUM_STATUS_G = s.chip.get F.KPR_LUM_STATUS_G
            ∨ 2048 ≤ t.chip.get F.KPR_LUM_STATUS_G ∧ t.chip.get F.KPR_LUM_STATUS_G ≤ 8192)
          ∧ (s.chip.act F.SEC_PHOTO_CTRL_EN = 0 → t.chip.get F.KPR_LUM_STATUS_G = s.chip.get F.KPR_LUM_STATUS_G)
          ∧ t.chip.kpr.trims.length = 96
          ∧ (∀ ch, ch < 96 → t.chip.kpr.trims.getD ch (0, 0) = (ch, min s.chip.polTrim
              ((Config.profileTrim o.digest ch * t.chip.get F.KPR_LUM_STATUS_G * s.chip.emphasis ch + 2048) / 4096 * 4096
                / max 1 (ageEff o.digest (s.chip.ageing.getD ch 0)))))
          ∧ regsKeptBut [K.KPR_LUM_STATUS] s.chip t.chip ∧ memKept s t))
    ∧ (∀ readings currents, s.chip.polLum = false →
      exec (.luminanceUpdate readings currents) s = .next (s.became s.chip.quiet))
    ∧ (s.chip.firmware = true → completes .keeperRestart s (fun t =>
        t.chip.kpr.restarting = true ∧ t.chip.kpr.busy = none ∧ t.chip.kpr.waiting = [] ∧ t.chip.kpr.challenge = none
          ∧ t.chip.kpr.debugEnd = 0 ∧ t.chip.get F.KPR_SEC_STATUS_SCOPES = 0
          ∧ t.chip.get F.KPR_WDOG_RESTARTS = (s.chip.get F.KPR_WDOG_RESTARTS + 1) % 2 ^ F.KPR_WDOG_RESTARTS.wd
          ∧ t.chip.kpr.profile = s.chip.kpr.profile ∧ t.chip.kpr.otp = s.chip.kpr.otp ∧ memKept s t
          ∧ (2 ≤ (s.chip.kpr.restarts.filter (fun n => decide (s.chip.clock.sec < n + 60) && decide (n ≤ s.chip.clock.sec))).length →
            t.chip.ladder.fatal.isSome = true)))
    ∧ (s.chip.firmware = false → exec .keeperRestart s = .next (s.became s.chip.quiet))
    ∧ (s.chip.kpr.restarting = true → exec .keeperRestartEnd s = .next (s.stored
        ((s.chip.quiet.kprUp (fun k => { k with restarting := false })).keeperNext s.mem))
      ∧ (s.chip.kpr.waiting = [] → exec .keeperRestartEnd s = .next (s.became
        (s.chip.quiet.kprUp (fun k => { k with restarting := false })))))
    ∧ (s.chip.kpr.restarting = false → exec .keeperRestartEnd s = .next (s.became s.chip.quiet))

/-- CAL_RUN, CAL_COMMIT, CAL_STORE and CAL_MODE (R511, R514, R515, R516). CAL_RUN with FLAGS [0] 1 asks for a FULL run
in Safe, Flat and Lightfield, and elsewhere is answered 0x19; with 0 it starts one background pass, or is answered
by the pass that stands, and is answered 0x19 only where rotation has stopped without pause mode or a FULL run
stands. An accepted run holds its reply. CAL_COMMIT with CONFIRM writes the active values as a user set, one write
older, and else is answered 6. CAL_STORE writes the values of a mapped set of 65 536 bytes that passes the checks;
another is answered 0x10, and one that is not memory 0x17. The flash write puts the set in place, or leaves none
when it fails. CAL_MODE sets the pause and background modes and the two intervals; DATA byte 0 above 3 is answered
6. No byte of memory changes. In it the model's own choices are those of log entry 68. -/
def Obligations.CalibrationRequests : Prop :=
  ∀ (req : KeeperReq) (s : State),
    (∀ q, q = req.as 0x3C → s.chip.performs q →
      (bit q.flags 0 = true → (s.chip.mode = .safe ∨ s.chip.mode = .flat ∨ s.chip.mode = .lightfield) → completes (.calRun req) s (fun t =>
        t.chip.cal = { s.chip.cal with full := some { ep := q.ep, tag := q.tag } }
          ∧ t.chip.kpr = { s.chip.kpr with busy := some (q, .run) } ∧ memKept s t))
      ∧ (bit q.flags 0 = true → s.chip.mode ≠ .safe → s.chip.mode ≠ .flat → s.chip.mode ≠ .lightfield →
        completes (.calRun req) s (fun t => t.chip.answered 0x3C 0x19 ∧ t.chip.cal = s.chip.cal ∧ t.chip.kpr = s.chip.kpr ∧ memKept s t))
      ∧ (bit q.flags 0 = false → (s.chip.get F.CAL_BG_STATUS_PHASE ≠ 3 ∨ s.chip.is pauseMode = true) → s.chip.cal.full = none →
        completes (.calRun req) s (fun t => t.chip.kpr = { s.chip.kpr with busy := some (q, .run) } ∧ memKept s t
          ∧ t.chip.cal = if s.chip.cal.pass.isSome then { s.chip.cal with asked := some { ep := q.ep, tag := q.tag } }
            else { s.chip.cal with asked := some { ep := q.ep, tag := q.tag }, pass := some 0, pausing := s.chip.is pauseMode }))
      ∧ (bit q.flags 0 = false → (s.chip.get F.CAL_BG_STATUS_PHASE = 3 ∧ s.chip.is pauseMode = false ∨ s.chip.cal.full.isSome = true) →
        completes (.calRun req) s (fun t => t.chip.answered 0x3C 0x19 ∧ t.chip.cal = s.chip.cal ∧ t.chip.kpr = s.chip.kpr ∧ memKept s t)))
    ∧ (∀ writes, writes = min 255 ((s.chip.cal.stored.map (·.writes)).getD (s.chip.get F.CAL_SET_INFO_WRITES) + 1) →
      (∀ q, q = req.as 0x3D → s.chip.performs q →
        (bit q.flags 0 = true → completes (.calCommit req) s (fun t => t.chip.cal = s.chip.cal ∧ memKept s t
          ∧ t.chip.kpr = { s.chip.kpr with
            busy := some (q, .cal { origin := 2, writes := writes, uid := s.chip.kpr.otp.uid, vals := s.chip.cal.active }) }))
        ∧ (bit q.flags 0 = false → completes (.calCommit req) s (fun t => t.chip.answered 0x3D 6 ∧ t.chip.kpr = s.chip.kpr ∧ memKept s t)))
      ∧ (∀ q, q = req.as 0x3E → s.chip.performs q → s.chip.memMapped q.addr q.len = true → q.len = 65536 →
        ∀ set, set = readCalSet s.chip.kpr.otp.uid (s.chip.quiet.loads s.mem q.addr q.len) →
        (∀ y : CalSet, set = some y → completes (.calStore req) s (fun t => t.chip.cal = s.chip.cal ∧ memKept s t
          ∧ t.chip.kpr = { s.chip.kpr with
            busy := some (q, .cal { origin := 2, writes := writes, uid := s.chip.kpr.otp.uid, vals := y.vals }) }))
        ∧ (set = none → completes (.calStore req) s (fun t => t.chip.answered 0x3E 0x10 ∧ t.chip.kpr = s.chip.kpr ∧ memKept s t))))
    ∧ (∀ q, q = req.as 0x3E → s.chip.performs q → (q.len ≠ 65536 ∨ s.chip.memMapped q.addr q.len = false) →
      completes (.calStore req) s (fun t => t.chip.kpr = s.chip.kpr ∧ memKept s t
        ∧ t.chip.answered 0x3E (if s.chip.memMapped q.addr q.len then 0x10 else 0x17)))
    ∧ (∀ q, q = req.as 0x3F → s.chip.performs q → ∀ b, b = leNat (slice q.data 0 1) →
      (b < 4 → completes (.calMode req) s (fun t =>
        t.chip.is pauseMode = bit b 0 ∧ t.chip.is bgEn = bit b 1
          ∧ t.chip.get F.CAL_BG_CFG_PASS_INTERVAL = leNat (slice q.data 2 2) % 2 ^ 16
          ∧ t.chip.get F.CAL_BG_CFG_STEP_PERIOD = leNat (slice q.data 4 1) % 2 ^ 8 ∧ t.chip.answered 0x3F 0 ∧ memKept s t))
      ∧ (4 ≤ b → completes (.calMode req) s (fun t => t.chip.answered 0x3F 6 ∧ t.chip.cal = s.chip.cal
        ∧ t.chip.is pauseMode = s.chip.is pauseMode ∧ t.chip.is bgEn = s.chip.is bgEn
        ∧ t.chip.get F.CAL_BG_CFG_PASS_INTERVAL = s.chip.get F.CAL_BG_CFG_PASS_INTERVAL
        ∧ t.chip.get F.CAL_BG_CFG_STEP_PERIOD = s.chip.get F.CAL_BG_CFG_STEP_PERIOD ∧ memKept s t)))
    ∧ (∀ q x, s.chip.kpr.busy = some (q, .cal x) → s.chip.kpr.waiting = [] → ∀ ok, completes (.flashWriteDone ok) s (fun t =>
        t.chip.cal = { s.chip.cal with stored := if ok then some x else none }
          ∧ t.chip.answered (q.op % 256) (if ok then 0 else 0x18) ∧ t.chip.kpr.busy = none ∧ memKept s t))

/-- Background passes and steps, pause mode and the end of a FULL run (R501, R504, R506, R507, R508, R511). A pass
starts when none runs, no FULL run stands, rotation has not stopped (or pause mode is on) and background calibration
is enabled or a run was asked for; else nothing happens. A step starts under the same permission when the converter
is free, and only when both references read within 1 % of nominal; else nothing starts. A plausible result waits for
its boundary and hands over the next channel; an implausible one is latched with its item and limit and changes no
value. The 12 ms of pause mode end the pass, keep the plausible results of converters in service for their boundary,
and sensing resumes. A FULL run's end clears RUNNING and the run, keeps the active values, leaves the tap of a VCOM
error within 10 mV for the ladder and answers the request that asked; the requests that wait follow. Without a step,
pause or run under way the ends change nothing but that CAL_PAUSE starts a pass as CAL_PASS_START does. In it the
model's own choices are those of log entry 4. -/
def Obligations.CalibrationSteps : Prop :=
  ∀ s : State,
    (∀ may, may = (s.chip.is bgEn || s.chip.cal.asked.isSome) →
      ∀ free, free = (s.chip.cal.full.isNone && s.chip.cal.pass.isNone && (s.chip.get F.CAL_BG_STATUS_PHASE ≠ 3 || s.chip.is pauseMode)) →
      (free = true → may = true → completes .calPassStart s (fun t => memKept s t
        ∧ t.chip.cal = { s.chip.cal with pass := some 0, pausing := s.chip.is pauseMode }
        ∧ (s.chip.is pauseMode = true → t.chip.sensePaused = true) ∧ (s.chip.is pauseMode = false → t.chip.regs = s.chip.regs)))
      ∧ ((free = false ∨ may = false) → exec .calPassStart s = .next (s.became s.chip.quiet))
      ∧ (∀ calv cali,
        (s.chip.cal.pass.isSome = true → s.chip.cal.pausing = false → s.chip.get F.CAL_BG_STATUS_PHASE = 0 →
          s.chip.is F.CAL_FULL_STATUS_RUNNING = false → may = true → completes (.calStepStart calv cali) s (fun t =>
          t.chip.get F.CAL_REF_STATUS_CALV = min 65535 calv ∧ t.chip.get F.CAL_REF_STATUS_CALI = min 32767 cali ∧ memKept s t
            ∧ t.chip.cal = s.chip.cal
            ∧ (if 24750 ≤ calv ∧ calv ≤ 25250 ∧ 24750 ≤ cali ∧ cali ≤ 25250 then
                t.chip.is F.CAL_REF_STATUS_REF_OK = true ∧ t.chip.get F.CAL_BG_STATUS_PHASE = 1
              else t.chip.is F.CAL_REF_STATUS_REF_OK = false ∧ t.chip.get F.CAL_BG_STATUS_PHASE = 0)))
        ∧ ((s.chip.cal.pass = none ∨ s.chip.cal.pausing = true ∨ s.chip.get F.CAL_BG_STATUS_PHASE ≠ 0
            ∨ s.chip.is F.CAL_FULL_STATUS_RUNNING = true ∨ may = false) →
          exec (.calStepStart calv cali) s = .next (s.became s.chip.quiet))))
    ∧ (∀ x : ConvIn, ∀ spare, spare = s.chip.get F.CAL_BG_STATUS_SPARE →
      ∀ r, r = (⟨x.comp % 256, x.igain % 65536, x.ioff, x.vgain % 65536, x.voff⟩ : Conv) →
      (s.chip.get F.CAL_BG_STATUS_PHASE = 1 →
        (convLimit (some (s.chip.cal.active.convOf spare)) r = none → completes (.calStepDone x) s (fun t =>
          t.chip.get F.CAL_BG_STATUS_PHASE = 2 ∧ t.chip.cal.handover = some (s.chip.get F.CAL_BG_STATUS_NEXT_CH)
            ∧ (spare, r) ∈ t.chip.cal.conv ∧ t.chip.get F.CAL_PENDING_LED = 1 ∧ t.chip.cal.pass = s.chip.cal.pass.map (· + 1)
            ∧ t.chip.cal.active = s.chip.cal.active ∧ memKept s t))
        ∧ (∀ item limit, convLimit (some (s.chip.cal.active.convOf spare)) r = some (item, limit) → completes (.calStepDone x) s (fun t =>
          t.chip.get F.CAL_PLAUS_INFO_ITEM = item ∧ t.chip.get F.CAL_PLAUS_INFO_LIMIT = limit ∧ t.chip.is F.CAL_PLAUS_INFO_VALID = true
            ∧ t.chip.cal.conv = s.chip.cal.conv ∧ t.chip.cal.active = s.chip.cal.active ∧ memKept s t)))
      ∧ (s.chip.get F.CAL_BG_STATUS_PHASE ≠ 1 → exec (.calStepDone x) s = .next (s.became s.chip.quiet))
      ∧ (s.chip.sensePaused = true → s.chip.is (retiredFld x.conv) = false →
        convLimit (some (s.chip.cal.active.convOf x.conv)) r = none →
        completes (.calPause [x]) s (fun t => (x.conv, r) ∈ t.chip.cal.conv ∧ t.chip.get F.CAL_PENDING_LED = 1)))
    ∧ (∀ xs, (s.chip.sensePaused = true → completes (.calPause xs) s (fun t =>
        t.chip.cal.pass = none ∧ t.chip.cal.pausing = false ∧ t.chip.sensePaused = false
          ∧ t.chip.get F.CAL_BG_STATUS_PASSES = (s.chip.get F.CAL_BG_STATUS_PASSES + 1) % 4096
          ∧ t.chip.cal.active = s.chip.cal.active ∧ memKept s t))
      ∧ (s.chip.sensePaused = false → exec (.calPause xs) s = .next (s.became s.chip.quiet.passStart)))
    ∧ (∀ x : FullIn, s.chip.is F.CAL_FULL_STATUS_RUNNING = true → ∀ asked c, s.chip.quiet.fullEnd x = (asked, c) →
      exec (.calFullRunEnd x) s = .next (s.stored (c.calAnswer s.mem asked))
        ∧ c.is F.CAL_FULL_STATUS_RUNNING = false ∧ c.cal.full = none ∧ c.cal.ended = true
        ∧ c.cal.ladder = (if -100 ≤ x.vcomErr ∧ x.vcomErr ≤ 100 then some x.tap else s.chip.cal.ladder)
        ∧ c.cal.active = s.chip.cal.active ∧ c.cal.stored = s.chip.cal.stored
        ∧ asked.isSome = s.chip.cal.full.isSome
        ∧ (∀ a, asked = some a → ∀ b, s.chip.cal.full = some b → a.ep = b.ep ∧ a.tag = b.tag ∧ c.get F.CAL_FULL_STATUS_FAILURES = min 255 a.fails))
    ∧ (∀ x : FullIn, s.chip.is F.CAL_FULL_STATUS_RUNNING = false → exec (.calFullRunEnd x) s = .next (s.became s.chip.quiet))

/-- Mooring: the triggers, the dark steps, the record and the end in Off (R529, R530, R531, R533, R534, R357, R68). VIN
below 5.712 V, or below 9.0 V and fallen by 2 V/ms, in any mode but Off and Mooring enters Mooring with CAUSE 0x0A,
stops the light and starts a record of its kind; any other reading, and any in Off or Mooring, changes only VIN's
registers. MOORING_TEST with GO does the same as a TEST trigger. The steps then power down Ray and Scene with the
blocks of the Keeper region other than PWR and KPR, the Panel region but for the layer, and the layer, which a
capacitor at 16 V cuts at once. The record goes into the ready slot under the save gate, or is counted as lost. The
end leaves the module Off with its flash, OTP and error log kept, and holds it there until the hold-off expires,
when it boots if VIN is valid and PWR_EN is high. Outside Mooring no step changes anything. In it the model's own
choices are those of log entries 4, 74, 81, 92 and 106. -/
def Obligations.MooringSequence : Prop :=
  ∀ s : State,
    (∀ mv slope, s.chip.blockOn 20 = true → ∀ fails, fails = decide (mv < 5712 ∨ mv < 9000 ∧ slope ≤ (-2000 : Int)) →
      (fails = true → s.chip.mode ≠ .off → s.chip.mode ≠ .mooring → completes (.mooringTrigger mv slope) s (fun t =>
        t.chip.mode = .mooring ∧ t.chip.get F.KPR_MODE_STATUS_MODE = 7 ∧ t.chip.get F.KPR_MODE_STATUS_CAUSE = 0xA
          ∧ t.chip.sec.moored = (s.chip.blockOn 12 || s.chip.sec.moored) ∧ (s.chip.blockOn 12 = true → t.chip.sec.line = none)
          ∧ t.chip.get F.PWR_VIN_MV = min 65535 mv
          ∧ t.chip.w (P.PWR + 0x044) = s.chip.w (P.PWR + 0x044) + 1
          ∧ t.chip.pwr.mooring.map (fun r => (r.record.kind, r.record.field, r.save)) = some (2, s.chip.tick.field, none) ∧ memKept s t))
      ∧ ((fails = false ∨ s.chip.mode = .off ∨ s.chip.mode = .mooring) → completes (.mooringTrigger mv slope) s (fun t =>
        t.chip.mode = s.chip.mode ∧ t.chip.pwr = s.chip.pwr ∧ t.chip.get F.PWR_VIN_MV = min 65535 mv
          ∧ regsKeptBut [K.PWR_VIN, K.PWR_VIN_MIN] s.chip t.chip ∧ memKept s t)))
    ∧ (∀ mst data, s.chip.takesWrite mst K.PWR_MOORING_TEST →
      (bit data 0 = true → s.chip.mode ≠ .off → s.chip.mode ≠ .mooring → completes (.mooringTestGo mst data) s (fun t =>
        t.chip.mode = .mooring ∧ t.chip.pwr.mooring.map (·.record.kind) = some 5 ∧ t.chip.resp.status = .ok ∧ memKept s t))
      ∧ ((bit data 0 = false ∨ s.chip.mode = .mooring) →
        exec (.mooringTestGo mst data) s = .next (s.became (s.chip.quiet.taken K.PWR_MOORING_TEST))))
    ∧ (s.chip.mode = .mooring →
      completes .mooringBlank s (fun t => t.chip.mode = .mooring
        ∧ ∀ b, b < 21 → 1 ≤ b → t.chip.blockOn b = (decide (9 ≤ b ∧ b ≤ 14 ∨ b = 20) && s.chip.blockOn b))
      ∧ completes .mooringLanesIdle s (fun t => t.chip.mode = .mooring ∧ memKept s t
        ∧ ∀ b, b < 21 → 1 ≤ b → t.chip.blockOn b =
          (s.chip.blockOn b && decide (b < 9 ∨ 13 ≤ b ∨ b = 11 ∧ s.chip.blockOn 13 = true)))
      ∧ completes .mooringLayerStepEnd s (fun t => t.chip.mode = .mooring ∧ memKept s t
        ∧ ∀ b, b < 21 → 1 ≤ b → t.chip.blockOn b = (s.chip.blockOn b && decide (b ≠ 11 ∧ b ≠ 13)))
      ∧ (∀ mv, mv ≤ 16000 → s.chip.blockOn 13 = true → s.chip.blockOn 20 = true → completes (.layerCut mv) s (fun t =>
        t.chip.blockOn 13 = false ∧ t.chip.get F.PWR_CAP_V_MV = mv ∧ memKept s t
          ∧ (∀ r, t.chip.pwr.mooring = some r → r.record.layerCut = true)
          ∧ t.chip.pwr.mooring.isSome = s.chip.pwr.mooring.isSome))
      ∧ (∀ mv, (16000 < mv ∨ s.chip.blockOn 13 = false) → exec (.layerCut mv) s = .next (s.became s.chip.quiet))
      ∧ (∀ energy, ∀ r, s.chip.pwr.mooring = some r →
        ∀ ready, ready = (s.chip.is F.PWR_RECORD_STATUS_READY && r.save.getD (s.chip.is F.THM_GATES_SAVE_OK)) →
        (r.write = true → ready = true → completes (.mooringRecord energy) s (fun t =>
          (s.chip.get F.PWR_RECORD_STATUS_NEXT, s.chip.recordFill r.record energy) ∈ t.chip.pwr.slots
            ∧ t.chip.get F.PWR_RECORD_STATUS_READY = 0
            ∧ t.chip.get F.PWR_RECORD_STATUS_NEXT = (s.chip.get F.PWR_RECORD_STATUS_NEXT + 1) % 8
            ∧ t.chip.pwr.mooring = some { r with write := false } ∧ memKept s t))
        ∧ (r.write = true → ready = false → exec (.mooringRecord energy) s = .next (s.became
          ((s.chip.quiet.count P.PWR 5).pwrUp (fun p => { p with mooring := some { r with write := false } }))))
        ∧ (r.write = false → exec (.mooringRecord energy) s = .next (s.became s.chip.quiet)))
      ∧ completes .mooringEnd s (fun t => t.chip.mode = .off ∧ t.chip.blocksOn = [] ∧ t.chip.log.entries = s.chip.log.entries
        ∧ t.chip.pwr.slots = s.chip.pwr.slots ∧ t.chip.kpr.otp = s.chip.kpr.otp ∧ t.chip.kpr.profile = s.chip.kpr.profile
        ∧ t.chip.cal.stored = s.chip.cal.stored ∧ t.chip.pwr.holdoff = true))
    ∧ (s.chip.mode ≠ .mooring → ∀ n, ∀ i ∈ [Instr.mooringBlank, .mooringLanesIdle, .mooringLayerStepEnd, .mooringEnd, .layerCut n, .mooringRecord n],
      exec i s = .next (s.became s.chip.quiet))
    ∧ completes .offHoldoffExpiry s (fun t => t.chip.pwr.holdoff = false
      ∧ t.chip.mode = (if s.chip.mode = .off ∧ s.chip.modes.vinValid = true ∧ s.chip.modes.pwrEn = true then .boot else s.chip.mode))

/-- The hold-up capacitor: measuring, topping up, overvoltage and the bleed in Off (R525, R526, R528). A measurement of
2.000 mC gives the capacitance in µF from the droop (the largest for none); below 500 µF the capacitor is ABSENT,
above 4 030 µF OVERSIZE, else OK, and MEASURE is over; with none in progress nothing happens. A top-up below 35.5 V,
in state OK with CHARGE_EN and the charging gate open and no Mooring, charges to 36.0 V and measures again from the
charge delivered; else nothing happens. At 38.0 V the charger stops, STATE is OVERVOLT and the reserve is not
assured; below that nothing happens. In Off, while the capacitor bleeds, a sample never raises its voltage, and the
bleed ends below 5 V; with the bleed over a sample changes nothing. In it the model's own choices are those of log
entries 4, 75 and 96. -/
def Obligations.HoldUpCapacitor : Prop :=
  ∀ s : State,
    (∀ droop mv, s.chip.get F.PWR_CAP_STATUS_STATE = 1 → ∀ uf, uf = (if droop = 0 then 65535 else 2000000 / droop) →
      completes (.capMeasure droop mv) s (fun t =>
        t.chip.get F.PWR_CAP_C_UF = min 65535 uf ∧ t.chip.get F.PWR_CAP_V_MV = min 65535 mv ∧ t.chip.is F.PWR_CAP_CTRL_MEASURE = false
          ∧ t.chip.get F.PWR_CAP_STATUS_STATE = (if uf < 500 then 3 else if 4030 < uf then 4 else 2) ∧ memKept s t))
    ∧ (∀ droop mv, s.chip.get F.PWR_CAP_STATUS_STATE ≠ 1 → exec (.capMeasure droop mv) s = .next (s.became s.chip.quiet))
    ∧ (∀ may, may = (s.chip.get F.PWR_CAP_STATUS_STATE = 2 && s.chip.is F.PWR_CAP_CTRL_CHARGE_EN && s.chip.is F.THM_GATES_CHARGE_OK
        && s.chip.mode ≠ .mooring) → ∀ mv uc,
      (mv < 35500 → may = true → ∀ uf, uf = uc * 1000 / (36000 - mv) → completes (.capTopup mv uc) s (fun t =>
        t.chip.get F.PWR_CAP_C_UF = min 65535 uf ∧ t.chip.get F.PWR_CAP_V_MV = 36000
          ∧ t.chip.w (P.PWR + 0x044 + 4 * 2) = s.chip.w (P.PWR + 0x044 + 4 * 2) + 1
          ∧ t.chip.get F.PWR_CAP_STATUS_STATE = (if uf < 500 then 3 else if 4030 < uf then 4 else 2) ∧ memKept s t))
      ∧ ((35500 ≤ mv ∨ may = false) → exec (.capTopup mv uc) s = .next (s.became s.chip.quiet)))
    ∧ (∀ mv, 38000 ≤ mv → s.chip.blockOn 20 = true → completes (.capOvervolt mv) s (fun t =>
        t.chip.get F.PWR_CAP_STATUS_STATE = 5 ∧ t.chip.is F.PWR_CAP_STATUS_CHARGING = false
          ∧ t.chip.is F.PWR_CAP_STATUS_RESERVE_OK = false ∧ t.chip.get F.PWR_CAP_V_MV = min 65535 mv ∧ memKept s t))
    ∧ (∀ mv, (mv < 38000 ∨ s.chip.blockOn 20 = false) → exec (.capOvervolt mv) s = .next (s.became s.chip.quiet))
    ∧ (∀ mv, s.chip.mode = .off →
      (s.chip.pwr.bleed = true → ∀ v, v = min mv (s.chip.get F.PWR_CAP_V_MV) → completes (.reserveCompute mv) s (fun t =>
        t.chip.get F.PWR_CAP_V_MV = v ∧ t.chip.pwr = { s.chip.pwr with bleed := decide (5000 ≤ v) }
          ∧ regsKeptBut [K.PWR_CAP_V] s.chip t.chip ∧ memKept s t))
      ∧ (s.chip.pwr.bleed = false → exec (.reserveCompute mv) s = .next (s.became s.chip.quiet)))

/-- The Mooring reserve: 85 % of the energy above 12 V, assured at 900 mJ in state OK (R527). Outside Off, with PWR
powered, a reserve computation takes the capacitor's voltage V and its measured C. RESERVE_OK, which the region
layer's and the mode changes' gate reads, is 1 exactly when STATE is OK (2) and 0.85 × ½ × C × (V² − (12 V)²) is at
least 900 mJ, so never in state ABSENT, OVERSIZE or OVERVOLT or before the first measurement. RESERVE shows it in
mJ, rounded. No register but those of the capacitor and PWR's INT_RAW changes. -/
def Obligations.MooringReserve : Prop :=
  ∀ (mv : Nat) (s : State), s.chip.mode ≠ .off → s.chip.blockOn 20 = true → mv < 65536 →
    ∀ e, e = 425 * s.chip.get F.PWR_CAP_C_UF * (mv * mv - 144000000) →
    completes (.reserveCompute mv) s (fun t =>
      t.chip.get F.PWR_CAP_V_MV = mv ∧ t.chip.get F.PWR_CAP_STATUS_STATE = s.chip.get F.PWR_CAP_STATUS_STATE
        ∧ (t.chip.is F.PWR_CAP_STATUS_RESERVE_OK = true ↔ s.chip.get F.PWR_CAP_STATUS_STATE = 2 ∧ 900000000000000 ≤ e)
        ∧ t.chip.reserveOk = t.chip.is F.PWR_CAP_STATUS_RESERVE_OK
        ∧ t.chip.get F.PWR_RESERVE_MJ = min 65535 ((e / 1000 + 500000000) / 1000000000)
        ∧ regsKeptBut [K.PWR_CAP_V, K.PWR_CAP_STATUS, K.PWR_RESERVE, P.PWR + 0x010] s.chip t.chip ∧ memKept s t)

/-- Thermal samples, the limits, throttle steps and the panel temperature (R539, R540, R541, R542, R543). A sample gives
every sensor its temperature, and 150 °C to a broken one; AT_100 and AT_105 say which zones stand at 100 °C and, by
their valid sensors, at 105 °C; a zone newly at 105 °C is FATAL, and one whose valid sensors reach 115 °C starts
Mooring, else the mode stays. A sample is counted, and clears BROKEN_RETRY, which waits for it. A zone still at 100
°C throttles its region one step more, up to 4; a zone below, or without a region, changes nothing. The panel
temperature is the mean of the last eight samples, and is valid when all eight lie from -40 to 125 °C. Without its
block's power a sample changes nothing. In it the model's own choices are those of log entries 4, 65, 76 and 107. -/
def Obligations.HeatAndThrottling : Prop :=
  ∀ s : State,
    (∀ temps counts, (s.chip.blockOn 19 = true → completes (.thermalSample temps counts) s (fun t =>
        (∀ k, k < 40 → t.chip.sensorTemp k = if t.chip.sensorBroken k then 1200 else temps.getD k 0)
          ∧ (∀ z, z < 6 →
            bit (t.chip.get F.THM_LIMITS_AT_105) z = decide (840 ≤ t.chip.zoneValid z)
              ∧ bit (t.chip.get F.THM_LIMITS_AT_100) z = decide (800 ≤ maxTemp ((zoneSensors z).map t.chip.sensorTemp))
              ∧ (840 ≤ t.chip.zoneValid z → bit (s.chip.get F.THM_LIMITS_AT_105) z = false → t.chip.ladder.fatal.isSome = true)
              ∧ (920 ≤ t.chip.zoneValid z → s.chip.mode ≠ .off → t.chip.mode = .mooring))
          ∧ ((∀ z, z < 6 → t.chip.zoneValid z < 920) → t.chip.mode = s.chip.mode)
          ∧ t.chip.w (P.THM + 0x044) = s.chip.w (P.THM + 0x044) + 1
          ∧ t.chip.is F.THM_BROKEN_RETRY_RETRY = false ∧ memKept s t))
      ∧ (s.chip.blockOn 19 = false → exec (.thermalSample temps counts) s = .next (s.became s.chip.quiet)))
    ∧ (∀ mst data, s.chip.takesWrite mst K.THM_BROKEN_RETRY →
      (bit data 0 = true → completes (.brokenRetry mst data) s (fun t =>
        t.chip.is F.THM_BROKEN_RETRY_RETRY = true ∧ t.chip.resp.status = .ok ∧ onlyRegs [K.THM_BROKEN_RETRY] s t))
      ∧ (bit data 0 = false → exec (.brokenRetry mst data) s = .next (s.became (s.chip.quiet.taken K.THM_BROKEN_RETRY))))
    ∧ (∀ z, z < 6 → bit (s.chip.get F.THM_LIMITS_AT_100) z = true → ∀ r, zoneRegion z = some r →
      (s.chip.throttleNow r < 4 → completes (.thermalStepRepeat z) s (fun t =>
        t.chip.throttleNow r = s.chip.throttleNow r + 1 ∧ t.chip.get (hwStep r) = s.chip.throttleNow r + 1
          ∧ t.chip.kpr = { s.chip.kpr with trigger := some 6, taken := s.chip.kpr.taken ++ [r] }
          ∧ regsKeptBut [K.THM_HW_STEP, P.THM + 0x044 + 4 * 4] s.chip t.chip ∧ memKept s t))
      ∧ (4 ≤ s.chip.throttleNow r → exec (.thermalStepRepeat z) s = .next (s.became s.chip.quiet)))
    ∧ (∀ z, (bit (s.chip.get F.THM_LIMITS_AT_100) z = false ∨ 6 ≤ z ∨ zoneRegion z = none) →
      exec (.thermalStepRepeat z) s = .next (s.became s.chip.quiet))
    ∧ (∀ x, (s.chip.blockOn 20 = true → ∀ l, l = (x :: s.chip.pwr.panel).take 8 → completes (.panelTempSample x) s (fun t =>
        t.chip.pwr.panel = l ∧ memKept s t
          ∧ (if l.length = 8 ∧ ∀ y ∈ l, -320 ≤ y ∧ y ≤ 1000 then
              t.chip.panelTemp = ((l.foldl (· + ·) 0 + 4) / 8, true)
            else t.chip.panelTemp.2 = false)))
      ∧ (s.chip.blockOn 20 = false → exec (.panelTempSample x) s = .next (s.became s.chip.quiet)))

/-- Rail faults, the next record slot, the VIN record and loss of the reference clock (R521, R534, R537, R545, R563). A
rail outside its window is marked, its voltage latched and the fault counted; rails 6 (VR) and 7 (VSR) are FATAL,
any other rail starts Mooring; in Mooring a rail of an unpowered region says nothing. Erasing the next slot, with
READY 0, the flash gate open and start-up step 3 done, drops its record and makes it READY; else it waits.
VIN_MIN.CLR restarts the lowest VIN from the last reading. A lost REFCLK is FATAL, once; when it returns
synchronisation starts over at ACQUIRING. In it the model's own choices are those of log entry 4. -/
def Obligations.RailsRecordsAndTheClock : Prop :=
  ∀ s : State,
    (∀ cell mv, ∀ r, (List.range 4).find? (fun r => (railsOfRegion r).contains cell) = some r →
      (s.chip.blockOn 20 = true → (s.chip.mode ≠ .mooring ∨ (blocksOfRegion r).any s.chip.blockOn = true) →
        ((cell = 6 ∨ cell = 7) → completes (.railFault cell mv) s (fun t =>
          bit (t.chip.get F.PWR_RAIL_FAULT_MAP) cell = true ∧ t.chip.get ⟨K.PWR_RAIL + 4 * cell, 0, 16, 4⟩ = min 65535 mv
            ∧ t.chip.ladder.fatal.isSome = true ∧ t.chip.mode = s.chip.mode
            ∧ t.chip.w (P.PWR + 0x044 + 4) = s.chip.w (P.PWR + 0x044 + 4) + 1 ∧ memKept s t))
        ∧ (cell ≠ 6 → cell ≠ 7 → s.chip.mode ≠ .off → completes (.railFault cell mv) s (fun t =>
          bit (t.chip.get F.PWR_RAIL_FAULT_MAP) cell = true ∧ t.chip.get ⟨K.PWR_RAIL + 4 * cell, 0, 16, 4⟩ = min 65535 mv
            ∧ t.chip.mode = .mooring ∧ t.chip.w (P.PWR + 0x044 + 4) = s.chip.w (P.PWR + 0x044 + 4) + 1
            ∧ (s.chip.mode ≠ .mooring → t.chip.pwr.mooring.map (fun m => (m.record.kind, bit m.record.rails cell)) = some (3, true))
            ∧ memKept s t)))
      ∧ ((s.chip.blockOn 20 = false ∨ s.chip.mode = .mooring ∧ (blocksOfRegion r).any s.chip.blockOn = false) →
        exec (.railFault cell mv) s = .next (s.became s.chip.quiet)))
    ∧ (∀ may, may = (s.chip.blockOn 20 && decide (3 ≤ s.chip.get F.KPR_BOOT_STATUS_STEP) && !s.chip.is F.PWR_RECORD_STATUS_READY
        && s.chip.is F.THM_GATES_FLASH_OK && decide (s.chip.mode ≠ .mooring)) →
      (may = true → completes .recordSlotErase s (fun t =>
        t.chip.is F.PWR_RECORD_STATUS_READY = true ∧ memKept s t
          ∧ t.chip.pwr.slots = s.chip.pwr.slots.filter (fun e => decide (e.1 ≠ s.chip.get F.PWR_RECORD_STATUS_NEXT))))
      ∧ (may = false → exec .recordSlotErase s = .next (s.became s.chip.quiet)))
    ∧ (∀ mst data, s.chip.takesWrite mst K.PWR_VIN_MIN →
      (bit data 31 = true → completes (.vinMinClr mst data) s (fun t =>
        t.chip.get F.PWR_VIN_MIN_MV = s.chip.get F.PWR_VIN_MV ∧ onlyRegs [K.PWR_VIN_MIN] s t))
      ∧ (bit data 31 = false → exec (.vinMinClr mst data) s = .next (s.became (s.chip.quiet.taken K.PWR_VIN_MIN))))
    ∧ (s.chip.tim.lost = false → s.chip.mode ≠ .off → completes .refclkLost s (fun t =>
        t.chip.tim = { s.chip.quiet.tim with lost := true } ∧ t.chip.ladder.fatal.isSome = true
          ∧ (s.chip.blockOn 1 = true → t.chip.get F.HLK_LANE_STATUS_RX_LOCK = 0)
          ∧ (s.chip.blockOn 11 = true → ∀ e ∈ [(1, 0), (1, 1), (2, 0), (2, 1), (3, 0)], t.chip.retLock e.1 e.2 = false) ∧ memKept s t))
    ∧ ((s.chip.tim.lost = true ∨ s.chip.mode = .off) → exec .refclkLost s = .next (s.became s.chip.quiet))
    ∧ (s.chip.tim.lost = true →
      completes .refclkReturn s (fun t => t.chip.tim.lost = false ∧ t.chip.get F.TIM_TIME_STATUS_SYNC_STATE = 1 ∧ memKept s t))
    ∧ (s.chip.tim.lost = false → exec .refclkReturn s = .next (s.became s.chip.quiet))

/-- A step takes the command at the front of the queue and runs it on the state with the queue's rest (R1, R10). For
every command c, queue rest and state s: the step of s with c at the front of its queue is exec of c on s with the
rest as its queue. The queue itself is the model's, no part of the spec. -/
def Obligations.StepRunsTheFrontCommand : Prop :=
  ∀ (c : Instr) (rest : List Instr) (s : State),
    step { s with pending := c :: rest } = exec c { s with pending := rest }

/-- With no command waiting a step passes one cycle of the time base (log entry 2) (R435). The model's own choice, log
entry 2: on an empty queue the block answers a next state. Where TIM is powered and REFCLK runs, the clock has moved
on by 10 ns and 10 × RATE × 2⁻³² ns, a step of the clock that waits is then applied, and nothing else has changed;
where TIM is unpowered or REFCLK is lost, nothing has. -/
def Obligations.IdleStepPassesAReferenceCycle : Prop :=
  ∀ s : State, s.pending = [] →
    (s.chip.tim.lost = false → s.chip.blockOn 17 = true → ∀ c, c = { s.chip.quiet with
        clock := clockOf s.chip.clock.sec ((s.chip.clock.sub : Int) + 10 * 2 ^ 32 + 10 * s.chip.rate) } →
      (s.chip.tim.step = none → step s = .next (s.became c))
      ∧ (∀ sec ns, s.chip.tim.step = some (sec, ns) → step s = .next (s.became (c.applyStep sec ns))))
    ∧ (s.chip.tim.lost = true ∨ s.chip.blockOn 17 = false → step s = .next (s.became s.chip.quiet))

/-- What reset leaves: register values the spec states, Boot, no command waiting (R161, R305, R333, R408, R545). Right
after reset a register reads the reset value its table gives it; a few from each region's tables are named here
(ET_THRESH 4 080, FAIL_FIELDS 4, OWNER.DRIVE 1, REPLAY_LIMIT 8, VIN_MIN 0xFFFF, CHARGE_EN 1, CAP_STATUS 0). That the
state after reset is the one in which the Keeper region has just been powered is the model's choice (log entry 1). -/
def Obligations.ResetValuesOfTheSpec : Prop :=
  State.reset.pending = [] ∧ State.reset.chip.mode = .boot
    ∧ State.reset.chip.get F.RAY_SYN_CTRL_ET_THRESH = 4080 ∧ State.reset.chip.get F.SER0_FAIL_CTRL_FAIL_FIELDS = 4
    ∧ State.reset.chip.is F.SEC_OWNER_DRIVE = true ∧ State.reset.chip.get F.HLK_RETRY_CFG_REPLAY_LIMIT = 8
    ∧ State.reset.chip.get F.PWR_VIN_MIN_MV = 0xFFFF ∧ State.reset.chip.is F.PWR_CAP_CTRL_CHARGE_EN = true
    ∧ State.reset.chip.get F.PWR_CAP_STATUS_STATE = 0

/-- The state after reset keeps the canonical form of memory (R52). Right after reset memory lists nothing, so it is in
its canonical form, and no store waits outside memory. What memory reads as then is the model's choice (log entry
5). -/
def Obligations.ResetIsCanonical : Prop :=
  State.reset.wf ∧ State.reset.mem.cells = []

/-- Every step of every command keeps memory in its canonical form (R52). In every state in the canonical form, whatever
command stands at the front of the queue or if none does, a step that answers a next state answers one in the
canonical form: addresses strictly rising, no byte listed that equals what an unlisted address reads as, and no
store pending outside memory. -/
def Obligations.EveryStepKeepsTheCanonicalForm : Prop :=
  ∀ s t : State, s.wf → step s = .next t → t.wf

/-- No command stops the machine, and none touches the queue (R1). Every command, with every operand, in every state
answers a next state whose queue is the one it started from: no command ends in a fault or a refusal. A step with an
empty queue answers a next state too. -/
def Obligations.EveryCommandAnswersANextState : Prop :=
  (∀ (i : Instr) (s : State), ∃ t, exec i s = .next t ∧ t.pending = s.pending ∧ t.chip.out = [])
    ∧ (∀ s : State, ∃ t, step s = .next t ∧ t.pending = s.pending.tail)

/-- After a step memory reads as the step itself read it, through bytes stored and ranges changed (R52). A step's reads
look through the stores it has made, newest first: a byte store gives its byte at its address, and a change of a
whole range its value where it reaches. Once the stores are in memory, every address reads just so, and an address
that no store names or covers reads as before. In it the model's own choices are those of log entry 11. -/
def Obligations.MemoryHoldsWhatAStepStored : Prop :=
  ∀ (m : Memory) (ops : List MemOp), m.wf →
    (∀ a, (m.applyAll ops).read a = loadThrough m ops a)
    ∧ (∀ a, (∀ op ∈ ops, match op with
        | .byte b _ => b ≠ a
        | .fill f => ∀ v, f.over a v = v) → (m.applyAll ops).read a = m.read a)

/-- The table gives no command bits, so no word spells one (log entry 3) (R59). The rows of the command table carry no
bits: commands come over buses, links and pins. The model's reading, log entry 3: no word of any length spells a
command, and placing a word leaves the state as it is. -/
def Obligations.NoTableWordSpellsACommand : Prop :=
  ∀ (nbits w : Nat) (s : State), decodeTableWord nbits w = none ∧ s.withFetchWord nbits w = s
end

