-- ==== Sys2Proof/Laws/Store.lean ====
section
/-!
SUPPORT. Laws/Store.lean: the laws of a store: a get after a put, and every operation keeps the canonical form.
-/

namespace Sys2Proof.Machine

theorem storeGet_storeDrop_same {β : Type} (d : Nat → β) (m : List (Nat × β)) (k : Nat) :
    storeGet d (storeDrop (fun i => i = k) m) k = d k := by
  induction m with
  | nil => rfl
  | cons e t ih =>
    obtain ⟨j, w⟩ := e
    by_cases h : j = k
    · simpa [storeDrop, h] using ih
    · simpa [storeDrop, h, storeGet] using ih

theorem storeGet_storeDrop_other {β : Type} (d : Nat → β) (p : Nat → Bool) (m : List (Nat × β)) (j : Nat)
    (h : p j = false) : storeGet d (storeDrop p m) j = storeGet d m j := by
  induction m with
  | nil => rfl
  | cons e t ih =>
    obtain ⟨i, w⟩ := e
    by_cases hi : p i
    · have hne : i ≠ j := fun e => by simp [e, h] at hi
      simpa [storeDrop, hi, storeGet, hne] using ih
    · by_cases hij : i = j
      · subst hij
        simp [storeDrop, h, storeGet]
      · simpa [storeDrop, hi, storeGet, hij] using ih

@[simp] theorem storeGet_storePut_same {β : Type} [DecidableEq β] (d : Nat → β) (m : List (Nat × β)) (k : Nat) (v : β) :
    storeGet d (storePut d m k v) k = v := by
  induction m with
  | nil => by_cases hv : v = d k <;> simp [storePut, storeGet, hv]
  | cons e t ih =>
    obtain ⟨j, w⟩ := e
    simp only [storePut]
    split
    · rename_i hkj
      split
      · rename_i hv
        simp only [storeGet]
        rw [if_neg (by omega), storeGet_storeDrop_same, hv]
      · simp [storeGet]
    · split
      · rename_i _ hkj
        subst hkj
        split
        · rename_i hv
          rw [storeGet_storeDrop_same, hv]
        · simp [storeGet]
      · rename_i _ hkj
        simp only [storeGet]
        rw [if_neg (by omega)]
        exact ih

theorem storeGet_storePut_other {β : Type} [DecidableEq β] (d : Nat → β) (m : List (Nat × β)) (k j : Nat) (v : β)
    (hne : j ≠ k) : storeGet d (storePut d m k v) j = storeGet d m j := by
  induction m with
  | nil => by_cases hv : v = d k <;> simp [storePut, storeGet, hv, hne.symm]
  | cons e t ih =>
    obtain ⟨i, w⟩ := e
    simp only [storePut]
    split
    · split
      · simp only [storeGet, storeGet_storeDrop_other d (fun i => i = k) t j (by simp [hne])]
      · simp [storeGet, hne.symm]
    · split
      · rename_i _ hki
        subst hki
        split
        · rw [storeGet_storeDrop_other d (fun i => i = k) t j (by simp [hne])]
          simp [storeGet, hne.symm]
        · simp [storeGet, hne.symm]
      · simp only [storeGet, ih]

theorem storePut_mem {β : Type} [DecidableEq β] (d : Nat → β) (m : List (Nat × β)) (k : Nat) (v : β) (e : Nat × β)
    (h : e ∈ storePut d m k v) : e ∈ m ∨ (e = (k, v) ∧ v ≠ d k) := by
  induction m with
  | nil =>
    simp only [storePut] at h
    split at h
    · simp at h
    · rename_i hv
      simp only [List.mem_singleton] at h
      exact .inr ⟨h, hv⟩
  | cons a t ih =>
    obtain ⟨j, w⟩ := a
    simp only [storePut] at h
    split at h
    · split at h
      · rcases List.mem_cons.1 h with h | h
        · exact .inl (h ▸ List.mem_cons_self)
        · exact .inl (List.mem_cons_of_mem _ (List.mem_of_mem_filter h))
      · rename_i hv
        rcases List.mem_cons.1 h with h | h
        · exact .inr ⟨h, hv⟩
        · exact .inl h
    · split at h
      · split at h
        · exact .inl (List.mem_cons_of_mem _ (List.mem_of_mem_filter h))
        · rename_i hv
          rcases List.mem_cons.1 h with h | h
          · exact .inr ⟨h, hv⟩
          · exact .inl (List.mem_cons_of_mem _ h)
      · rcases List.mem_cons.1 h with h | h
        · exact .inl (h ▸ List.mem_cons_self)
        · rcases ih h with h | h
          · exact .inl (List.mem_cons_of_mem _ h)
          · exact .inr h

theorem storeWf_storePut {β : Type} [DecidableEq β] (d : Nat → β) (m : List (Nat × β)) (k : Nat) (v : β)
    (h : storeWf d m) : storeWf d (storePut d m k v) := by
  refine ⟨?_, ?_⟩
  · have hs := h.1
    clear h
    induction m with
    | nil => by_cases hv : v = d k <;> simp [storePut, hv]
    | cons a t ih =>
      obtain ⟨j, w⟩ := a
      have hc := List.pairwise_cons.1 hs
      simp only [storePut]
      split
      · rename_i hkj
        split
        · exact List.pairwise_cons.2 ⟨fun b hb => hc.1 b (List.mem_of_mem_filter hb), hc.2.filter _⟩
        · refine List.pairwise_cons.2 ⟨?_, hs⟩
          intro b hb
          rcases List.mem_cons.1 hb with rfl | hb
          · exact hkj
          · exact lt_trans hkj (hc.1 b hb)
      · split
        · rename_i _ hkj
          subst hkj
          split
          · exact hc.2.filter _
          · exact List.pairwise_cons.2 ⟨hc.1, hc.2⟩
        · rename_i h1 h2
          refine List.pairwise_cons.2 ⟨?_, ih hc.2⟩
          intro b hb
          rcases storePut_mem d t k v b hb with hb | ⟨rfl, _⟩
          · exact hc.1 b hb
          · simp only; omega
  · intro e he
    rcases storePut_mem d m k v e he with he | ⟨rfl, hv⟩
    · exact h.2 e he
    · exact hv

theorem storeWf_storeDrop {β : Type} (d : Nat → β) (p : Nat → Bool) (m : List (Nat × β)) (h : storeWf d m) :
    storeWf d (storeDrop p m) :=
  ⟨h.1.filter _, fun e he => h.2 e (List.mem_of_mem_filter he)⟩

theorem storeWf_storeAll {β : Type} [DecidableEq β] (d : Nat → β) (m ws : List (Nat × β)) (h : storeWf d m) :
    storeWf d (storeAll d m ws) := by
  unfold storeAll
  induction ws generalizing m with
  | nil => exact h
  | cons e t ih => exact ih _ (storeWf_storePut d m e.1 e.2 h)

end Sys2Proof.Machine
end

