-- ==== Sys2Proof/Laws/Registers.lean ====
section
/-!
SUPPORT. Laws/Registers.lean: the register file. What a word or a field reads as after a word or a field is set, and what
setting one leaves unchanged.
-/

namespace Sys2Proof.Machine

/-! ### Words -/

@[simp] theorem Chip.w_setw_same (c : Chip) (k : Nat) (v : Word) : (c.setw k v).w k = v :=
  storeGet_storePut_same _ _ _ _

theorem Chip.w_setw_other (c : Chip) (k j : Nat) (v : Word) (h : j ≠ k) : (c.setw k v).w j = c.w j :=
  storeGet_storePut_other _ _ _ _ _ h

@[simp] theorem Chip.aw_setw (c : Chip) (k j : Nat) (v : Word) : (c.setw k v).aw j = c.aw j := rfl
@[simp] theorem Chip.lw_setw (c : Chip) (k j : Nat) (v : Word) : (c.setw k v).lw j = c.lw j := rfl

@[simp] theorem Chip.aw_setAct_same (c : Chip) (k : Nat) (v : Word) : (c.setAct k v).aw k = v :=
  storeGet_storePut_same _ _ _ _

theorem Chip.aw_setAct_other (c : Chip) (k j : Nat) (v : Word) (h : j ≠ k) : (c.setAct k v).aw j = c.aw j :=
  storeGet_storePut_other _ _ _ _ _ h

@[simp] theorem Chip.w_setAct (c : Chip) (k j : Nat) (v : Word) : (c.setAct k v).w j = c.w j := rfl
@[simp] theorem Chip.lw_setAct (c : Chip) (k j : Nat) (v : Word) : (c.setAct k v).lw j = c.lw j := rfl

@[simp] theorem Chip.lw_setLocked_same (c : Chip) (k : Nat) (v : Word) : (c.setLocked k v).lw k = v :=
  storeGet_storePut_same _ _ _ _

theorem Chip.lw_setLocked_other (c : Chip) (k j : Nat) (v : Word) (h : j ≠ k) : (c.setLocked k v).lw j = c.lw j :=
  storeGet_storePut_other _ _ _ _ _ h

@[simp] theorem Chip.w_setLocked (c : Chip) (k j : Nat) (v : Word) : (c.setLocked k v).w j = c.w j := rfl
@[simp] theorem Chip.aw_setLocked (c : Chip) (k j : Nat) (v : Word) : (c.setLocked k v).aw j = c.aw j := rfl

/-! ### Fields -/

/-- A field that lies in its word reads back what was put, cut to its width. -/
theorem fldGet_fldPut (w : Word) (f : Fld) (v : Nat) (h : f.lo + f.wd ≤ 32) : fldGet (fldPut w f v) f = v % 2 ^ f.wd := by
  have hw := w.isLt
  generalize hn : w.toNat = n at hw
  have hlo : 0 < 2 ^ f.lo := Nat.two_pow_pos _
  have hwd : 0 < 2 ^ f.wd := Nat.two_pow_pos _
  have hp : 2 ^ f.lo * 2 ^ f.wd * 2 ^ (32 - f.lo - f.wd) = 2 ^ 32 := by
    rw [← pow_add, ← pow_add]; congr 1; omega
  -- n = top * (2^lo * 2^wd) + x * 2^lo + low
  have h1 : n = n / 2 ^ f.lo * 2 ^ f.lo + n % 2 ^ f.lo := by rw [Nat.mul_comm]; exact (Nat.div_add_mod _ _).symm
  have h2 : n / 2 ^ f.lo = n / 2 ^ f.lo / 2 ^ f.wd * 2 ^ f.wd + n / 2 ^ f.lo % 2 ^ f.wd := by
    rw [Nat.mul_comm]; exact (Nat.div_add_mod _ _).symm
  set top := n / 2 ^ f.lo / 2 ^ f.wd with htop
  set x := n / 2 ^ f.lo % 2 ^ f.wd with hx
  set low := n % 2 ^ f.lo with hlow
  have hlowlt : low < 2 ^ f.lo := Nat.mod_lt _ hlo
  have hn2 : n = (top * 2 ^ f.wd + x) * 2 ^ f.lo + low := by rw [← h2]; exact h1
  have hvlt : v % 2 ^ f.wd < 2 ^ f.wd := Nat.mod_lt _ hwd
  have hnew : n - x * 2 ^ f.lo + v % 2 ^ f.wd * 2 ^ f.lo = (top * 2 ^ f.wd + v % 2 ^ f.wd) * 2 ^ f.lo + low := by
    rw [hn2, Nat.add_mul, Nat.add_mul]
    omega
  have htoplt : top < 2 ^ (32 - f.lo - f.wd) := by
    rw [htop, Nat.div_div_eq_div_mul]
    apply Nat.div_lt_of_lt_mul
    rw [hp]; exact hw
  have hlt : (top * 2 ^ f.wd + v % 2 ^ f.wd) * 2 ^ f.lo + low < 2 ^ 32 := by
    calc (top * 2 ^ f.wd + v % 2 ^ f.wd) * 2 ^ f.lo + low
        < (top * 2 ^ f.wd + v % 2 ^ f.wd) * 2 ^ f.lo + 2 ^ f.lo := by omega
      _ = (top * 2 ^ f.wd + (v % 2 ^ f.wd + 1)) * 2 ^ f.lo := by ring
      _ ≤ (top * 2 ^ f.wd + 2 ^ f.wd) * 2 ^ f.lo := by gcongr; omega
      _ = (top + 1) * (2 ^ f.lo * 2 ^ f.wd) := by ring
      _ ≤ 2 ^ (32 - f.lo - f.wd) * (2 ^ f.lo * 2 ^ f.wd) := by gcongr; omega
      _ = 2 ^ 32 := by rw [← hp]; ring
  unfold fldGet fldPut
  simp only [fldGet, BitVec.toNat_ofNat, hn]
  rw [show n / 2 ^ f.lo % 2 ^ f.wd = x from rfl, hnew, Nat.mod_eq_of_lt hlt]
  rw [show (top * 2 ^ f.wd + v % 2 ^ f.wd) * 2 ^ f.lo + low = low + (top * 2 ^ f.wd + v % 2 ^ f.wd) * 2 ^ f.lo by ring,
    Nat.add_mul_div_right _ _ hlo, Nat.div_eq_of_lt hlowlt, Nat.zero_add, Nat.mul_comm top,
    Nat.mul_add_mod, Nat.mod_mod]

/-- A field that shares no bit with the one put reads as before. -/
theorem fldGet_fldPut_apart (w : Word) (f g : Fld) (v : Nat) (h : f.lo + f.wd ≤ 32)
    (hd : g.lo + g.wd ≤ f.lo ∨ f.lo + f.wd ≤ g.lo) : fldGet (fldPut w f v) g = fldGet w g := by
  have hw := w.isLt
  generalize hn : w.toNat = n at hw
  have hlo : 0 < 2 ^ f.lo := Nat.two_pow_pos _
  have hwd : 0 < 2 ^ f.wd := Nat.two_pow_pos _
  have hp : 2 ^ f.lo * 2 ^ f.wd * 2 ^ (32 - f.lo - f.wd) = 2 ^ 32 := by
    rw [← pow_add, ← pow_add]; congr 1; omega
  have h1 : n = n / 2 ^ f.lo * 2 ^ f.lo + n % 2 ^ f.lo := by rw [Nat.mul_comm]; exact (Nat.div_add_mod _ _).symm
  have h2 : n / 2 ^ f.lo = n / 2 ^ f.lo / 2 ^ f.wd * 2 ^ f.wd + n / 2 ^ f.lo % 2 ^ f.wd := by
    rw [Nat.mul_comm]; exact (Nat.div_add_mod _ _).symm
  set top := n / 2 ^ f.lo / 2 ^ f.wd with htop
  set x := n / 2 ^ f.lo % 2 ^ f.wd with hx
  set low := n % 2 ^ f.lo with hlow
  have hlowlt : low < 2 ^ f.lo := Nat.mod_lt _ hlo
  have hn2 : n = (top * 2 ^ f.wd + x) * 2 ^ f.lo + low := by rw [← h2]; exact h1
  have hxlt : x < 2 ^ f.wd := Nat.mod_lt _ hwd
  have hvlt : v % 2 ^ f.wd < 2 ^ f.wd := Nat.mod_lt _ hwd
  have hnew : n - x * 2 ^ f.lo + v % 2 ^ f.wd * 2 ^ f.lo = (top * 2 ^ f.wd + v % 2 ^ f.wd) * 2 ^ f.lo + low := by
    rw [hn2, Nat.add_mul, Nat.add_mul]
    omega
  have htoplt : top < 2 ^ (32 - f.lo - f.wd) := by
    rw [htop, Nat.div_div_eq_div_mul]
    apply Nat.div_lt_of_lt_mul
    rw [hp]; exact hw
  have hlt : (top * 2 ^ f.wd + v % 2 ^ f.wd) * 2 ^ f.lo + low < 2 ^ 32 := by
    calc (top * 2 ^ f.wd + v % 2 ^ f.wd) * 2 ^ f.lo + low
        < (top * 2 ^ f.wd + v % 2 ^ f.wd) * 2 ^ f.lo + 2 ^ f.lo := by omega
      _ = (top * 2 ^ f.wd + (v % 2 ^ f.wd + 1)) * 2 ^ f.lo := by ring
      _ ≤ (top * 2 ^ f.wd + 2 ^ f.wd) * 2 ^ f.lo := by gcongr; omega
      _ = (top + 1) * (2 ^ f.lo * 2 ^ f.wd) := by ring
      _ ≤ 2 ^ (32 - f.lo - f.wd) * (2 ^ f.lo * 2 ^ f.wd) := by gcongr; omega
      _ = 2 ^ 32 := by rw [← hp]; ring
  unfold fldGet fldPut
  simp only [fldGet, BitVec.toNat_ofNat, hn]
  rw [show n / 2 ^ f.lo % 2 ^ f.wd = x from rfl, hnew, Nat.mod_eq_of_lt hlt]
  -- both numbers agree below bit f.lo and from bit f.lo + f.wd on
  have key : ∀ y z : Nat, y < 2 ^ f.wd → z < 2 ^ f.wd →
      ((top * 2 ^ f.wd + y) * 2 ^ f.lo + low) / 2 ^ g.lo % 2 ^ g.wd
        = ((top * 2 ^ f.wd + z) * 2 ^ f.lo + low) / 2 ^ g.lo % 2 ^ g.wd := by
    intro y z hy hz
    rcases hd with hd | hd
    · have hdiv : ∀ q : Nat, (q * 2 ^ f.lo + low) / 2 ^ g.lo % 2 ^ g.wd = low % 2 ^ (g.lo + g.wd) / 2 ^ g.lo := by
        intro q
        have e : f.lo = g.lo + g.wd + (f.lo - g.lo - g.wd) := by omega
        rw [← Nat.mod_mul_right_div_self, ← pow_add]
        congr 1
        rw [show q * 2 ^ f.lo = q * 2 ^ (f.lo - g.lo - g.wd) * 2 ^ (g.lo + g.wd) by
          rw [Nat.mul_assoc, ← pow_add]; congr 2; omega]
        rw [Nat.add_comm, Nat.add_mul_mod_self_right]
      rw [hdiv, hdiv]
    · have hq : ∀ y : Nat, y < 2 ^ f.wd → ((top * 2 ^ f.wd + y) * 2 ^ f.lo + low) / 2 ^ g.lo
          = top / 2 ^ (g.lo - f.lo - f.wd) := by
        intro y hy
        rw [show 2 ^ g.lo = 2 ^ f.lo * 2 ^ f.wd * 2 ^ (g.lo - f.lo - f.wd) by
          rw [← pow_add, ← pow_add]; congr 1; omega]
        rw [← Nat.div_div_eq_div_mul, ← Nat.div_div_eq_div_mul]
        congr 1
        rw [Nat.add_comm, Nat.add_mul_div_right _ _ hlo, Nat.div_eq_of_lt hlowlt, Nat.zero_add, Nat.add_comm,
          Nat.add_mul_div_right _ _ hwd, Nat.div_eq_of_lt hy, Nat.zero_add]
      rw [hq y hy, hq z hz]
  rw [key _ x hvlt hxlt, ← hn2]

theorem Chip.get_set_same (c : Chip) (f : Fld) (v : Nat) (h : f.lo + f.wd ≤ 32) : (c.set f v).get f = v % 2 ^ f.wd := by
  simp [Chip.get, Chip.set, fldGet_fldPut _ _ _ h]

/-- A field of another register is not moved. -/
theorem Chip.get_set_key (c : Chip) (f g : Fld) (v : Nat) (h : g.key ≠ f.key) : (c.set f v).get g = c.get g := by
  simp [Chip.get, Chip.set, Chip.w_setw_other _ _ _ _ h]

/-- A field that shares no bit with the one set is not moved. -/
theorem Chip.get_set_apart (c : Chip) (f g : Fld) (v : Nat) (h : f.lo + f.wd ≤ 32)
    (hd : g.lo + g.wd ≤ f.lo ∨ f.lo + f.wd ≤ g.lo) : (c.set f v).get g = c.get g := by
  by_cases hk : g.key = f.key
  · simp [Chip.get, Chip.set, hk, fldGet_fldPut_apart _ _ _ _ h hd]
  · exact c.get_set_key f g v hk

theorem Chip.w_set_other (c : Chip) (f : Fld) (v k : Nat) (h : k ≠ f.key) : (c.set f v).w k = c.w k :=
  Chip.w_setw_other _ _ _ _ h

@[simp] theorem Chip.aw_set (c : Chip) (f : Fld) (v k : Nat) : (c.set f v).aw k = c.aw k := rfl
@[simp] theorem Chip.act_set (c : Chip) (f g : Fld) (v : Nat) : (c.set f v).act g = c.act g := rfl

/-! ### Event counters (R58) -/

theorem Chip.w_count_same (c : Chip) (page i n : Nat) :
    (c.count page i n).w (page + 0x44 + 4 * i) = c.w (page + 0x44 + 4 * i) + BitVec.ofNat 32 n := by
  simp [Chip.count]

theorem Chip.w_count_other (c : Chip) (page i n k : Nat) (h : k ≠ page + 0x44 + 4 * i) : (c.count page i n).w k = c.w k :=
  Chip.w_setw_other _ _ _ _ h

end Sys2Proof.Machine
end

