-- ==== Sys2Proof/Laws/Exec.lean ====
section
/-!
SUPPORT. Laws/Exec.lean: one equation per command: what its meaning runs.
-/

namespace Sys2Proof.Machine

theorem exec_planLock (s : State) :
    exec (.planLock) s = s.run (fun _ c => c.planLock) := rfl
theorem exec_commit (io : CommitIn) (s : State) :
    exec (.commit io) s = s.run (fun m c => c.commit m io) := rfl
theorem exec_synthesisDeadline (s : State) :
    exec (.synthesisDeadline) s = s.run (fun m c => c.deadline m) := rfl
theorem exec_tickHoldover (s : State) :
    exec (.tickHoldover) s = s.run (fun _ c => c.tickHoldover) := rfl
theorem exec_tickSourceRelock (error : Int) (s : State) :
    exec (.tickSourceRelock error) s = s.run (fun _ c => c.tickRelock error) := rfl
theorem exec_registerWrite (mst : Master) (addr : Nat) (data : Nat) (acc : Access) (s : State) :
    exec (.registerWrite mst addr data acc) s
      = s.run (fun m c => ((c.busWrite m mst addr data acc.bytes).serialised c mst addr acc.same).busEnd) := rfl
theorem exec_budgetMaxClr (mst : Master) (page : Nat) (data : Nat) (s : State) :
    exec (.budgetMaxClr mst page data) s = s.run (fun m c => c.regWrite mst (page + 0x030) data m) := rfl
theorem exec_errInfoClear (mst : Master) (page : Nat) (data : Nat) (s : State) :
    exec (.errInfoClear mst page data) s = s.run (fun m c => c.regWrite mst (page + 0x020) data m) := rfl
theorem exec_errCountClear (mst : Master) (page : Nat) (data : Nat) (s : State) :
    exec (.errCountClear mst page data) s = s.run (fun m c => c.regWrite mst (page + 0x02C) data m) := rfl
theorem exec_blockResetRequest (mst : Master) (page : Nat) (data : Nat) (s : State) :
    exec (.blockResetRequest mst page data) s = s.run (fun m c => c.regWrite mst (page + 0x008) data m) := rfl
theorem exec_counterClear (mst : Master) (page : Nat) (data : Nat) (s : State) :
    exec (.counterClear mst page data) s = s.run (fun m c => c.regWrite mst (page + 0x008) data m) := rfl
theorem exec_intRawClear (mst : Master) (page : Nat) (data : Nat) (s : State) :
    exec (.intRawClear mst page data) s = s.run (fun m c => c.regWrite mst (page + 0x010) data m) := rfl
theorem exec_intForce (mst : Master) (page : Nat) (data : Nat) (s : State) :
    exec (.intForce mst page data) s = s.run (fun m c => c.regWrite mst (page + 0x01C) data m) := rfl
theorem exec_rollupEventClear (mst : Master) (region : Option Nat) (data : Nat) (s : State) :
    exec (.rollupEventClear mst region data) s = s.run (fun m c => c.rollupClear mst region data m) := rfl
theorem exec_pageLockSet (mst : Master) (page : Nat) (data : Nat) (s : State) :
    exec (.pageLockSet mst page data) s = s.run (fun m c => c.regWrite mst (page + 0x038) data m) := rfl
theorem exec_pageUnlock (mst : Master) (page : Nat) (data : Nat) (s : State) :
    exec (.pageUnlock mst page data) s = s.run (fun m c => c.regWrite mst (page + 0x038) data m) := rfl
theorem exec_parityInject (mst : Master) (page : Nat) (data : Nat) (s : State) :
    exec (.parityInject mst page data) s = s.run (fun m c => c.regWrite mst (page + 0x03C) data m) := rfl
theorem exec_registerParityError (page : Nat) (off : Nat) (s : State) :
    exec (.registerParityError page off) s = s.run (fun _ c => c.registerParity page off) := rfl
theorem exec_eventPacket (host : Nat) (s : State) :
    exec (.eventPacket host) s = s.run (fun _ c => c.eventPacket host) := rfl
theorem exec_eventPacketMerge (host : Nat) (s : State) :
    exec (.eventPacketMerge host) s = s.run (fun _ c => c.eventMerge host) := rfl
theorem exec_vinValid (mv : Nat) (s : State) :
    exec (.vinValid mv) s = s.run (fun _ c => c.vinValid mv) := rfl
theorem exec_pwrEnRise (s : State) :
    exec (.pwrEnRise) s = s.run (fun _ c => c.pwrEnRise) := rfl
theorem exec_pwrEnFall (s : State) :
    exec (.pwrEnFall) s = s.run (fun _ c => c.pwrEnFall) := rfl
theorem exec_wakeNLow (s : State) :
    exec (.wakeNLow) s = s.run (fun _ c => c.wakeLow) := rfl
theorem exec_bootRomStart (id : Nat) (paired : Bool) (side : Bool) (errA : Bool) (errB : Bool) (s : State) :
    exec (.bootRomStart id paired side errA errB) s = s.run (fun m c => c.bootRomStart m id paired side errA errB) := rfl
theorem exec_calSetLoad (s : State) :
    exec (.calSetLoad) s = s.run (fun _ c => c.calSetLoad) := rfl
theorem exec_regionPowerUp (region : Nat) (rails : Nat) (s : State) :
    exec (.regionPowerUp region rails) s = s.run (fun _ c => c.regionPower region rails) := rfl
theorem exec_panelEepromRead (tries : List (Option (List Byte))) (s : State) :
    exec (.panelEepromRead tries) s = s.run (fun _ c => c.eepromRead tries) := rfl
theorem exec_startupProfileLoad (s : State) :
    exec (.startupProfileLoad) s = s.run (fun _ c => c.profileLoad) := rfl
theorem exec_startupComplete (s : State) :
    exec (.startupComplete) s = s.run (fun _ c => c.startupComplete) := rfl
theorem exec_modeSet (ep : Nat) (message : List Byte) (s : State) :
    exec (.modeSet ep message) s = s.run (fun _ c => c.modeMessage ep message) := rfl
theorem exec_modeTransition (s : State) :
    exec (.modeTransition) s = s.run (fun _ c => c.modeTransition) := rfl
theorem exec_darkTrainingSlot (s : State) :
    exec (.darkTrainingSlot) s = s.run (fun _ c => c.darkSlot) := rfl
theorem exec_newModeFirstTick (s : State) :
    exec (.newModeFirstTick) s = s.run (fun _ c => c.newModeTick) := rfl
theorem exec_darkSequenceEnd (s : State) :
    exec (.darkSequenceEnd) s = s.run (fun _ c => c.darkEnd) := rfl
theorem exec_orderlyRecord (s : State) :
    exec (.orderlyRecord) s = s.run (fun _ c => c.orderlyRecord) := rfl
theorem exec_fatalSafeEntry (s : State) :
    exec (.fatalSafeEntry) s = s.run (fun _ c => c.fatalEntry) := rfl
theorem exec_scene (ctx : Nat) (start : Bool) (data : List Byte) (s : State) :
    exec (.scene ctx start data) s = s.run (fun m c => c.request 5 (scenePacketOf ctx start data) m) := rfl
theorem exec_cdcGroupDecode (layer : Nat) (group : Nat) (pipe : Nat) (once : Bool) (twice : Bool) (s : State) :
    exec (.cdcGroupDecode layer group pipe once twice) s = s.run (fun m c => (c.groupDecode m layer group pipe once twice).serveAsked m) := rfl
theorem exec_cdcJobPost (mst : Master) (data : Nat) (s : State) :
    exec (.cdcJobPost mst data) s = s.run (fun m c => c.regWrite mst K.CDC_JOB_HEAD data m) := rfl
theorem exec_cdcJobStart (s : State) :
    exec (.cdcJobStart) s = s.run (fun m c => c.jobStart m) := rfl
theorem exec_cdcJobComplete (parity : ReadFault) (s : State) :
    exec (.cdcJobComplete parity) s = s.run (fun m c => c.jobComplete m parity) := rfl
theorem exec_cdcJobAbort (mst : Master) (data : Nat) (s : State) :
    exec (.cdcJobAbort mst data) s = s.run (fun m c => c.regWrite mst K.CDC_JOB_ABORT data m) := rfl
theorem exec_cdcFlush (mst : Master) (data : Nat) (s : State) :
    exec (.cdcFlush mst data) s = s.run (fun m c => c.regWrite mst K.CDC_FLUSH data m) := rfl
theorem exec_tileDispatch (ctxParity : Bool) (gridRetry : List Nat) (s : State) :
    exec (.tileDispatch ctxParity gridRetry) s = s.run (fun m c => c.tileDispatch m ctxParity gridRetry) := rfl
theorem exec_texelCacheMiss (cluster : Nat) (layer : Nat) (bx : Nat) (bty : Nat) (s : State) :
    exec (.texelCacheMiss cluster layer bx bty) s = s.run (fun m c => c.texelMiss m ⟨cluster, layer, bx, bty⟩) := rfl
theorem exec_tileFinish (cluster : Nat) (tile : Nat) (s : State) :
    exec (.tileFinish cluster tile) s = s.run (fun m c => c.tileFinish m cluster tile) := rfl
theorem exec_tileParityRestart (cluster : Nat) (tile : Nat) (level : Nat) (layer : Nat) (bx : Nat) (bty : Nat) (s : State) :
    exec (.tileParityRestart cluster tile level layer bx bty) s = s.run (fun m c => c.tileParity m cluster tile level ⟨cluster, layer, bx, bty⟩) := rfl
theorem exec_clusterReturn (mst : Master) (data : Nat) (s : State) :
    exec (.clusterReturn mst data) s = s.run (fun m c => c.regWrite mst K.RAY_CLUSTER_OUT data m) := rfl
theorem exec_lnsProbe (mst : Master) (off : Reading Nat) (s : State) :
    exec (.lnsProbe mst off) s = s.run (fun m c => c.regRead mst (P.LNS + off.src) m off.fault) := rfl
theorem exec_agePromotion (master : Nat) (waited : Nat) (s : State) :
    exec (.agePromotion master waited) s = s.run (fun _ c => c.agePromotion master waited) := rfl
theorem exec_conflictClear (mst : Master) (data : Nat) (s : State) :
    exec (.conflictClear mst data) s = s.run (fun m c => c.regWrite mst K.FST_CONFLICT_CTRL data m) := rfl
theorem exec_scanoutLine (io : LineIn) (s : State) :
    exec (.scanoutLine io) s = s.run (fun m c => c.scanoutLine m io) := rfl
theorem exec_timingModeWrite (mst : Master) (data : Nat) (s : State) :
    exec (.timingModeWrite mst data) s = s.run (fun m c => c.regWrite mst K.SCN_TIMING data m) := rfl
theorem exec_bltCmdPost (mst : Master) (data : Nat) (s : State) :
    exec (.bltCmdPost mst data) s = s.run (fun m c => c.regWrite mst K.BLT_RING_HEAD data m) := rfl
theorem exec_bltCmdStart (s : State) :
    exec (.bltCmdStart) s = s.run (fun m c => c.bltStart m) := rfl
theorem exec_bltCmdComplete (parity : ReadFault) (s : State) :
    exec (.bltCmdComplete parity) s = s.run (fun m c => c.bltComplete m parity) := rfl
theorem exec_bltAbort (mst : Master) (data : Nat) (s : State) :
    exec (.bltAbort mst data) s = s.run (fun m c => c.regWrite mst K.BLT_ABORT data m) := rfl
theorem exec_beamRowRelease (s : State) :
    exec (.beamRowRelease) s = s.run (fun m c => c.beamRelease m) := rfl
theorem exec_pcnTblDataWrite (mst : Master) (data : Nat) (s : State) :
    exec (.pcnTblDataWrite mst data) s = s.run (fun m c => c.regWrite mst K.PCN_TBL_DATA data m) := rfl
theorem exec_pcnTblDataRead (mst : Master) (s : State) :
    exec (.pcnTblDataRead mst) s = s.run (fun m c => c.regRead mst K.PCN_TBL_DATA m) := rfl
theorem exec_pcnProbeSelect (mst : Master) (data : Nat) (s : State) :
    exec (.pcnProbeSelect mst data) s = s.run (fun m c => c.regWrite mst K.PCN_PROBE_SEL data m) := rfl
theorem exec_driverStatusFrame (port : Nat) (frame : List Byte) (settled : Bool) (s : State) :
    exec (.driverStatusFrame port frame settled) s = s.run (fun _ c => c.driverFrame port frame settled) := rfl
theorem exec_laneRetry (mst : Master) (port : Nat) (high : Bool) (data : Nat) (s : State) :
    exec (.laneRetry mst port high data) s = s.run (fun m c => c.regWrite mst (mkPage 11 port + (if high then 0x164 else 0x160)) data m) := rfl
theorem exec_returnLost (port : Nat) (path : Nat) (s : State) :
    exec (.returnLost port path) s = s.run (fun _ c => c.returnLost port path) := rfl
theorem exec_returnRelock (port : Nat) (path : Nat) (s : State) :
    exec (.returnRelock port path) s = s.run (fun _ c => c.returnRelock port path) := rfl
theorem exec_trainLockCheck (s : State) :
    exec (.trainLockCheck) s = s.run (fun _ c => c.trainLockCheck) := rfl
theorem exec_trainSettingsApply (results : List (Nat × List (Nat × Nat))) (s : State) :
    exec (.trainSettingsApply results) s = s.run (fun _ c => c.trainApply results) := rfl
theorem exec_trainJudge (failed : List Nat) (s : State) :
    exec (.trainJudge failed) s = s.run (fun _ c => c.trainJudge failed) := rfl
theorem exec_eyeScanStart (mst : Master) (data : Nat) (s : State) :
    exec (.eyeScanStart mst data) s = s.run (fun m c => c.regWrite mst K.SER0_EYE_CTRL data m) := rfl
theorem exec_eyeScanDone (host : Bool) (width : Nat) (height : Nat) (s : State) :
    exec (.eyeScanDone host width height) s = s.run (fun _ c => if host then c.linkEyeDone width height else c.eyeDone width height) := rfl
theorem exec_serCrcInject (mst : Master) (data : Nat) (s : State) :
    exec (.serCrcInject mst data) s = s.run (fun m c => c.regWrite mst K.SER0_INJECT data m) := rfl
theorem exec_scanSlotStart (io : SlotIn) (s : State) :
    exec (.scanSlotStart io) s = s.run (fun _ c => c.slotStart io) := rfl
theorem exec_litWindowStart (io : WindowIn) (s : State) :
    exec (.litWindowStart io) s = s.run (fun _ c => c.windowStart io) := rfl
theorem exec_channelPowerAverage (ch : Nat) (mw : Nat) (s : State) :
    exec (.channelPowerAverage ch mw) s = s.run (fun _ c => c.powerAverage ch mw) := rfl
theorem exec_vledRangeFault (mv : Nat) (s : State) :
    exec (.vledRangeFault mv) s = s.run (fun _ c => c.vledReading mv) := rfl
theorem exec_vledResume (s : State) :
    exec (.vledResume) s = s.run (fun _ c => c.vledResume) := rfl
theorem exec_secDriveWrite (mst : Master) (data : Nat) (s : State) :
    exec (.secDriveWrite mst data) s = s.run (fun m c => c.regWrite mst K.SEC_OWNER data m) := rfl
theorem exec_secRetry (mst : Master) (data : Nat) (s : State) :
    exec (.secRetry mst data) s = s.run (fun m c => c.regWrite mst K.SEC_RETRY data m) := rfl
theorem exec_aplFrameStart (s : State) :
    exec (.aplFrameStart) s = s.run (fun _ c => c.layerFrameStart) := rfl
theorem exec_aplReqPost (mst : Master) (data : Nat) (s : State) :
    exec (.aplReqPost mst data) s = s.run (fun m c => c.regWrite mst K.APL_REQ_POST data m) := rfl
theorem exec_aplUpdateComplete (slot : Nat) (s : State) :
    exec (.aplUpdateComplete slot) s = s.run (fun _ c => c.aplComplete slot) := rfl
theorem exec_aplAbort (mst : Master) (data : Nat) (s : State) :
    exec (.aplAbort mst data) s = s.run (fun m c => c.regWrite mst K.APL_ABORT data m) := rfl
theorem exec_aplRailReady (reached : Bool) (s : State) :
    exec (.aplRailReady reached) s = s.run (fun _ c => c.aplRailReady reached) := rfl
theorem exec_aplRailCheck (within : Nat) (s : State) :
    exec (.aplRailCheck within) s = s.run (fun _ c => c.aplRailCheck within) := rfl
theorem exec_aplUnfreeze (mst : Master) (data : Nat) (s : State) :
    exec (.aplUnfreeze mst data) s = s.run (fun m c => c.regWrite mst K.APL_RECOVER data m) := rfl
theorem exec_aplDriveWrite (mst : Master) (data : Nat) (s : State) :
    exec (.aplDriveWrite mst data) s = s.run (fun m c => c.regWrite mst K.APL_OWNER data m) := rfl
theorem exec_aplTblDataWrite (mst : Master) (data : Nat) (s : State) :
    exec (.aplTblDataWrite mst data) s = s.run (fun m c => c.regWrite mst K.APL_TBL_DATA data m) := rfl
theorem exec_dramCommandSlot (ch : Nat) (sub : Nat) (ns : Nat) (once : Bool) (twice : Bool) (s : State) :
    exec (.dramCommandSlot ch sub ns once twice) s = s.run (fun m c => c.commandSlot m ch sub ns once twice) := rfl
theorem exec_refreshDue (ch : Nat) (sub : Nat) (inWindow : Bool) (s : State) :
    exec (.refreshDue ch sub inWindow) s = s.run (fun _ c => c.refreshDue ch sub inWindow) := rfl
theorem exec_deviceTempReport (ch : Nat) (temp : Int) (hot : Bool) (s : State) :
    exec (.deviceTempReport ch temp hot) s = s.run (fun _ c => c.tempReport ch temp hot) := rfl
theorem exec_quietWindow (ch : Nat) (margin : Nat) (found : Bool) (s : State) :
    exec (.quietWindow ch margin found) s = s.run (fun _ c => c.quietRun ch margin found) := rfl
theorem exec_trackRequest (ch : Nat) (s : State) :
    exec (.trackRequest ch) s = s.run (fun _ c => c.trackRequest ch) := rfl
theorem exec_channelRetry (mst : Master) (data : Nat) (s : State) :
    exec (.channelRetry mst data) s = s.run (fun m c => c.regWrite mst K.MEM0_RETIRE_CTRL data m) := rfl
theorem exec_dramParityInject (mst : Master) (ch : Nat) (data : Nat) (s : State) :
    exec (.dramParityInject mst ch data) s = s.run (fun m c => c.regWrite mst (memPage ch + 0x110) data m) := rfl
theorem exec_linkDetect (s : State) :
    exec (.linkDetect) s = s.run (fun _ c => c.linkDetect) := rfl
theorem exec_linkDetectTimeout (s : State) :
    exec (.linkDetectTimeout) s = s.run (fun _ c => c.linkDetectTimeout) := rfl
theorem exec_linkTrainEntry (lanes : Nat) (s : State) :
    exec (.linkTrainEntry lanes) s = s.run (fun _ c => c.linkTrainEntry lanes) := rfl
theorem exec_ts (flit : List Byte) (s : State) :
    exec (.ts flit) s = s.run (fun _ c => c.linkTs flit) := rfl
theorem exec_linkRateSwitch (pass : Nat) (peaks : List Nat) (s : State) :
    exec (.linkRateSwitch pass peaks) s = s.run (fun _ c => c.linkRateSwitch pass peaks) := rfl
theorem exec_linkTrainTimeout (s : State) :
    exec (.linkTrainTimeout) s = s.run (fun _ c => c.linkTrainTimeout) := rfl
theorem exec_init (flit : List Byte) (s : State) :
    exec (.init flit) s = s.run (fun _ c => c.linkInit flit) := rfl
theorem exec_linkRecoverTimeout (s : State) :
    exec (.linkRecoverTimeout) s = s.run (fun _ c => c.linkRecoverTimeout) := rfl
theorem exec_dataFlit (flit : List Byte) (s : State) :
    exec (.dataFlit flit) s = s.run (fun m c => c.dataFlit flit m) := rfl
theorem exec_nak (flit : List Byte) (s : State) :
    exec (.nak flit) s = s.run (fun _ c => c.linkNakRx flit) := rfl
theorem exec_ackTimeout (s : State) :
    exec (.ackTimeout) s = s.run (fun _ c => c.linkAckTimeout) := rfl
theorem exec_regRd (packet : Packet) (s : State) :
    exec (.regRd packet) s = s.run (fun m c => c.request 1 packet m) := rfl
theorem exec_regWr (packet : Packet) (s : State) :
    exec (.regWr packet) s = s.run (fun m c => c.request 2 packet m) := rfl
theorem exec_dmaWr (packet : Packet) (s : State) :
    exec (.dmaWr packet) s = s.run (fun m c => c.request 3 packet m) := rfl
theorem exec_dmaWrComplete (job : Nat) (s : State) :
    exec (.dmaWrComplete job) s = s.run (fun _ c => c.dmaWrComplete job) := rfl
theorem exec_dmaRd (packet : Packet) (s : State) :
    exec (.dmaRd packet) s = s.run (fun m c => c.request 4 packet m) := rfl
theorem exec_dmaRdComplete (job : Reading Nat) (s : State) :
    exec (.dmaRdComplete job) s = s.run (fun m c => c.dmaRdComplete m job.src job.fault) := rfl
theorem exec_mbxPost (packet : Packet) (s : State) :
    exec (.mbxPost packet) s = s.run (fun m c => c.request 6 packet m) := rfl
theorem exec_tick (packet : Packet) (s : State) :
    exec (.tick packet) s = s.run (fun m c => c.request 7 packet m) := rfl
theorem exec_timeReq (packet : Packet) (s : State) :
    exec (.timeReq packet) s = s.run (fun m c => c.request 8 packet m) := rfl
theorem exec_lpAck (flit : List Byte) (s : State) :
    exec (.lpAck flit) s = s.run (fun _ c => c.linkLpAck flit) := rfl
theorem exec_lpAckWaitExpiry (s : State) :
    exec (.lpAckWaitExpiry) s = s.run (fun _ c => c.linkLp true) := rfl
theorem exec_lpExit (byHost : Bool) (s : State) :
    exec (.lpExit byHost) s = s.run (fun _ c => c.lpExit byHost) := rfl
theorem exec_linkRetrain (mst : Master) (data : Nat) (s : State) :
    exec (.linkRetrain mst data) s = s.run (fun m c => c.regWrite mst K.HLK_LINK_CTRL data m) := rfl
theorem exec_linkEnableWrite (mst : Master) (data : Nat) (s : State) :
    exec (.linkEnableWrite mst data) s = s.run (fun m c => c.regWrite mst K.HLK_LINK_CTRL data m) := rfl
theorem exec_linkCrcInject (mst : Master) (data : Nat) (s : State) :
    exec (.linkCrcInject mst data) s = s.run (fun m c => c.regWrite mst K.HLK_INJECT data m) := rfl
theorem exec_join (link : Nat) (frame : List Byte) (s : State) :
    exec (.join link frame) s = s.run (fun _ c => c.tileJoin link frame) := rfl
theorem exec_joinResult (link : Nat) (frame : List Byte) (s : State) :
    exec (.joinResult link frame) s = s.run (fun _ c => c.tileJoinResult link frame) := rfl
theorem exec_joinRetry (s : State) :
    exec (.joinRetry) s = s.run (fun _ c => c.joinRetry) := rfl
theorem exec_barrier (link : Nat) (frame : List Byte) (s : State) :
    exec (.barrier link frame) s = s.run (fun _ c => c.tileBarrier link frame) := rfl
theorem exec_barrierSend (s : State) :
    exec (.barrierSend) s = s.run (fun _ c => c.barrierSend) := rfl
theorem exec_summary (link : Nat) (frame : List Byte) (s : State) :
    exec (.summary link frame) s = s.run (fun _ c => c.tileSummary link frame) := rfl
theorem exec_summaryWaitExpiry (s : State) :
    exec (.summaryWaitExpiry) s = s.run (fun _ c => c.summaryExpiry) := rfl
theorem exec_mbxA (link : Nat) (frame : List Byte) (s : State) :
    exec (.mbxA link frame) s = s.run (fun _ c => c.tileMbxA link frame) := rfl
theorem exec_mbxB (link : Nat) (frame : List Byte) (s : State) :
    exec (.mbxB link frame) s = s.run (fun _ c => c.tileMbxB link frame) := rfl
theorem exec_mbxCpl (link : Nat) (frame : List Byte) (s : State) :
    exec (.mbxCpl link frame) s = s.run (fun _ c => c.tileMbxCpl link frame) := rfl
theorem exec_mbxRemoteResend (ep : Nat) (slot : Nat) (s : State) :
    exec (.mbxRemoteResend ep slot) s = s.run (fun _ c => c.mbxResend ep slot) := rfl
theorem exec_tlRegRd (link : Nat) (frame : Reading (List Byte)) (s : State) :
    exec (.tlRegRd link frame) s = s.run (fun m c => c.tileRegRd link frame.src frame.fault m) := rfl
theorem exec_tlRegWr (link : Nat) (frame : List Byte) (s : State) :
    exec (.tlRegWr link frame) s = s.run (fun m c => c.tileRegWr link frame m) := rfl
theorem exec_regCpl (link : Nat) (frame : List Byte) (s : State) :
    exec (.regCpl link frame) s = s.run (fun _ c => c.tileRegCpl link frame) := rfl
theorem exec_mirror (link : Nat) (frame : List Byte) (s : State) :
    exec (.mirror link frame) s = s.run (fun _ c => c.tileMirror link frame) := rfl
theorem exec_heartbeat (link : Nat) (frame : List Byte) (s : State) :
    exec (.heartbeat link frame) s = s.run (fun _ c => c.tileHeartbeat link frame) := rfl
theorem exec_daymarkLo (link : Nat) (frame : List Byte) (s : State) :
    exec (.daymarkLo link frame) s = s.run (fun _ c => c.tileDaymarkLo link frame) := rfl
theorem exec_daymarkHi (link : Nat) (frame : List Byte) (s : State) :
    exec (.daymarkHi link frame) s = s.run (fun _ c => c.tileDaymarkHi link frame) := rfl
theorem exec_tlNak (link : Nat) (frame : List Byte) (s : State) :
    exec (.tlNak link frame) s = s.run (fun _ c => c.tileNakRx link frame) := rfl
theorem exec_tlReplayTimeout (link : Nat) (s : State) :
    exec (.tlReplayTimeout link) s = s.run (fun _ c => c.tileReplayTimeout link) := rfl
theorem exec_portDown (link : Nat) (s : State) :
    exec (.portDown link) s = s.run (fun _ c => c.tilePortDown link) := rfl
theorem exec_heartbeatCheck (s : State) :
    exec (.heartbeatCheck) s = s.run (fun _ c => c.heartbeatCheck) := rfl
theorem exec_pairOutputEnable (s : State) :
    exec (.pairOutputEnable) s = s.run (fun _ c => c.pairEnable) := rfl
theorem exec_pairOwnIChange (high : Bool) (s : State) :
    exec (.pairOwnIChange high) s = s.run (fun _ c => c.pairOwnChange high) := rfl
theorem exec_pairRelease (mst : Master) (data : Nat) (s : State) :
    exec (.pairRelease mst data) s = s.run (fun m c => c.regWrite mst K.TLK_PAIR_CTRL data m) := rfl
theorem exec_remoteGo (mst : Master) (data : Nat) (s : State) :
    exec (.remoteGo mst data) s = s.run (fun m c => c.regWrite mst K.TLK_REMOTE_CTRL data m) := rfl
theorem exec_remoteTimeout (s : State) :
    exec (.remoteTimeout) s = s.run (fun _ c => c.remoteTimeout) := rfl
theorem exec_time (link : Nat) (frame : List Byte) (residence : Nat) (full : Bool) (s : State) :
    exec (.time link frame residence full) s = s.run (fun _ c => c.tileTime link frame residence full) := rfl
theorem exec_timeSnapshot (mst : Master) (s : State) :
    exec (.timeSnapshot mst) s = s.run (fun m c => c.regRead mst K.TIM_NOW_FRAC m) := rfl
theorem exec_rateWrite (mst : Master) (data : Nat) (s : State) :
    exec (.rateWrite mst data) s = s.run (fun m c => c.regWrite mst K.TIM_RATE data m) := rfl
theorem exec_stepGo (mst : Master) (data : Nat) (s : State) :
    exec (.stepGo mst data) s = s.run (fun m c => c.regWrite mst K.TIM_STEP_GO data m) := rfl
theorem exec_triggerFire (unit : Nat) (readings : List Nat) (s : State) :
    exec (.triggerFire unit readings) s = s.run (fun _ c => c.triggerFire unit readings) := rfl
theorem exec_triggerEnable (mst : Master) (unit : Nat) (data : Nat) (s : State) :
    exec (.triggerEnable mst unit data) s = s.run (fun m c => c.regWrite mst (K.TIM_TRIG_CTRL + 0x20 * unit) data m) := rfl
theorem exec_ptpMessage (port : Nat) (message : PtpMsg) (residence : Nat) (full : Bool) (s : State) :
    exec (.ptpMessage port message residence full) s = s.run (fun _ c => c.ptpMessage port message residence full) := rfl
theorem exec_followUpTimeout (port : Nat) (seq : Nat) (source : Nat) (s : State) :
    exec (.followUpTimeout port seq source) s = s.run (fun _ c => c.followUpTimeout port seq source) := rfl
theorem exec_timePortDown (port : Nat) (s : State) :
    exec (.timePortDown port) s = s.run (fun _ c => c.timePortDown port) := rfl
theorem exec_luminanceUpdate (readings : List Nat) (currents : List Nat) (s : State) :
    exec (.luminanceUpdate readings currents) s = s.run (fun _ c => c.luminance readings currents) := rfl
theorem exec_profileStore (req : KeeperReq) (s : State) :
    exec (.profileStore req) s = s.run (fun m c => c.keeperOp m (req.as 0x30)) := rfl
theorem exec_policyStore (req : KeeperReq) (s : State) :
    exec (.policyStore req) s = s.run (fun m c => c.keeperOp m (req.as 0x31)) := rfl
theorem exec_attest (req : KeeperReq) (s : State) :
    exec (.attest req) s = s.run (fun m c => c.keeperOp m (req.as 0x32)) := rfl
theorem exec_certGet (req : KeeperReq) (s : State) :
    exec (.certGet req) s = s.run (fun m c => c.keeperOp m (req.as 0x33)) := rfl
theorem exec_fwStore (req : KeeperReq) (s : State) :
    exec (.fwStore req) s = s.run (fun m c => c.keeperOp m (req.as 0x34)) := rfl
theorem exec_rollbackCommit (req : KeeperReq) (s : State) :
    exec (.rollbackCommit req) s = s.run (fun m c => c.keeperOp m (req.as 0x35)) := rfl
theorem exec_keyProgram (req : KeeperReq) (s : State) :
    exec (.keyProgram req) s = s.run (fun m c => c.keeperOp m (req.as 0x36)) := rfl
theorem exec_keyRevoke (req : KeeperReq) (s : State) :
    exec (.keyRevoke req) s = s.run (fun m c => c.keeperOp m (req.as 0x37)) := rfl
theorem exec_debugChallenge (req : KeeperReq) (s : State) :
    exec (.debugChallenge req) s = s.run (fun m c => c.keeperOp m (req.as 0x38)) := rfl
theorem exec_debugResponse (req : KeeperReq) (s : State) :
    exec (.debugResponse req) s = s.run (fun m c => c.keeperOp m (req.as 0x39)) := rfl
theorem exec_debugExpiry (s : State) :
    exec (.debugExpiry) s = s.run (fun _ c => c.debugExpiry) := rfl
theorem exec_challengeLapse (s : State) :
    exec (.challengeLapse) s = s.run (fun _ c => c.challengeLapse) := rfl
theorem exec_brightSet (req : KeeperReq) (s : State) :
    exec (.brightSet req) s = s.run (fun m c => c.keeperOp m (req.as 0x3A)) := rfl
theorem exec_keeperRestart (s : State) :
    exec (.keeperRestart) s = s.run (fun _ c => c.keeperRestart) := rfl
theorem exec_txPost (mst : Master) (data : Nat) (s : State) :
    exec (.txPost mst data) s = s.run (fun m c => c.regWrite mst K.MBX0_TX_POST data m) := rfl
theorem exec_rxPop (mst : Master) (ep : Nat) (data : Nat) (s : State) :
    exec (.rxPop mst ep data) s = s.run (fun m c => c.regWrite mst (epPage ep + 0x568) data m) := rfl
theorem exec_dbSet (mst : Master) (ep : Nat) (ch : Nat) (data : Nat) (s : State) :
    exec (.dbSet mst ep ch data) s = s.run (fun m c => c.regWrite mst (epPage ep + 0x210 + 4 * ch) data m) := rfl
theorem exec_noticeClr (mst : Master) (ep : Nat) (ch : Nat) (data : Nat) (s : State) :
    exec (.noticeClr mst ep ch data) s = s.run (fun m c => c.regWrite mst (epPage ep + 0x430 + 4 * ch) data m) := rfl
theorem exec_epReset (mst : Master) (ep : Option Nat) (data : Nat) (s : State) :
    exec (.epReset mst ep data) s = s.run (fun m c => c.endpointReset mst ep data m) := rfl
theorem exec_mbxBlockReset (mst : Master) (s : State) :
    exec (.mbxBlockReset mst) s = s.run (fun m c => c.regWrite mst (mkPage 15 0 + 0x008) 0x80000000 m) := rfl
theorem exec_lockRead (mst : Master) (lock : Nat) (s : State) :
    exec (.lockRead mst lock) s = s.run (fun m c => c.regRead mst (K.MBX0_LOCK + 4 * lock) m) := rfl
theorem exec_lockRelease (mst : Master) (lock : Nat) (data : Nat) (s : State) :
    exec (.lockRelease mst lock data) s = s.run (fun m c => c.regWrite mst (K.MBX0_LOCK + 4 * lock) data m) := rfl
theorem exec_chkStart (mst : Master) (unit : Nat) (data : Nat) (s : State) :
    exec (.chkStart mst unit data) s = s.run (fun m c => c.regWrite mst (mkPage 16 unit + 0x104) data m) := rfl
theorem exec_chkData32 (mst : Master) (unit : Nat) (data : Nat) (s : State) :
    exec (.chkData32 mst unit data) s = s.run (fun m c => c.regWrite mst (mkPage 16 unit + 0x108) data m) := rfl
theorem exec_chkData8 (mst : Master) (unit : Nat) (data : Nat) (s : State) :
    exec (.chkData8 mst unit data) s = s.run (fun m c => c.regWrite mst (mkPage 16 unit + 0x10C) data m) := rfl
theorem exec_chkFinish (mst : Master) (unit : Nat) (data : Nat) (s : State) :
    exec (.chkFinish mst unit data) s = s.run (fun m c => c.regWrite mst (mkPage 16 unit + 0x104) data m) := rfl
theorem exec_chkResync (mst : Master) (unit : Nat) (data : Nat) (s : State) :
    exec (.chkResync mst unit data) s = s.run (fun m c => c.regWrite mst (mkPage 16 unit + 0x104) data m) := rfl
theorem exec_calPassStart (s : State) :
    exec (.calPassStart) s = s.run (fun _ c => c.passStart) := rfl
theorem exec_calStepStart (calv : Nat) (cali : Nat) (s : State) :
    exec (.calStepStart calv cali) s = s.run (fun _ c => c.stepStart calv cali) := rfl
theorem exec_calStepDone (result : ConvIn) (s : State) :
    exec (.calStepDone result) s = s.run (fun _ c => c.stepDone result) := rfl
theorem exec_calPause (results : List ConvIn) (s : State) :
    exec (.calPause results) s = s.run (fun _ c => c.calPause results) := rfl
theorem exec_calFullRunEnd (result : FullIn) (s : State) :
    exec (.calFullRunEnd result) s = s.run (fun m c => c.fullRunEnd m result) := rfl
theorem exec_calExport (req : KeeperReq) (s : State) :
    exec (.calExport req) s = s.run (fun m c => c.keeperOp m (req.as 0x3B)) := rfl
theorem exec_calRun (req : KeeperReq) (s : State) :
    exec (.calRun req) s = s.run (fun m c => c.keeperOp m (req.as 0x3C)) := rfl
theorem exec_calCommit (req : KeeperReq) (s : State) :
    exec (.calCommit req) s = s.run (fun m c => c.keeperOp m (req.as 0x3D)) := rfl
theorem exec_calStore (req : KeeperReq) (s : State) :
    exec (.calStore req) s = s.run (fun m c => c.keeperOp m (req.as 0x3E)) := rfl
theorem exec_calMode (req : KeeperReq) (s : State) :
    exec (.calMode req) s = s.run (fun m c => c.keeperOp m (req.as 0x3F)) := rfl
theorem exec_mooringTrigger (mv : Nat) (slope : Int) (s : State) :
    exec (.mooringTrigger mv slope) s = s.run (fun _ c => c.supplyTrigger mv slope) := rfl
theorem exec_mooringTestGo (mst : Master) (data : Nat) (s : State) :
    exec (.mooringTestGo mst data) s = s.run (fun m c => c.regWrite mst K.PWR_MOORING_TEST data m) := rfl
theorem exec_mooringBlank (s : State) :
    exec (.mooringBlank) s = s.run (fun _ c => c.mooringBlank) := rfl
theorem exec_mooringLanesIdle (s : State) :
    exec (.mooringLanesIdle) s = s.run (fun _ c => c.mooringLanesIdle) := rfl
theorem exec_mooringLayerStepEnd (s : State) :
    exec (.mooringLayerStepEnd) s = s.run (fun _ c => c.layerStepEnd) := rfl
theorem exec_layerCut (mv : Nat) (s : State) :
    exec (.layerCut mv) s = s.run (fun _ c => c.layerCut mv) := rfl
theorem exec_mooringRecord (energy : Nat) (s : State) :
    exec (.mooringRecord energy) s = s.run (fun _ c => c.mooringRecord energy) := rfl
theorem exec_mooringEnd (s : State) :
    exec (.mooringEnd) s = s.run (fun _ c => c.mooringEnd) := rfl
theorem exec_offHoldoffExpiry (s : State) :
    exec (.offHoldoffExpiry) s = s.run (fun _ c => c.holdoffExpiry) := rfl
theorem exec_railFault (cell : Nat) (mv : Nat) (s : State) :
    exec (.railFault cell mv) s = s.run (fun _ c => c.railFault cell mv) := rfl
theorem exec_capMeasure (droop : Nat) (mv : Nat) (s : State) :
    exec (.capMeasure droop mv) s = s.run (fun _ c => c.capMeasure droop mv) := rfl
theorem exec_capTopup (mv : Nat) (charge : Nat) (s : State) :
    exec (.capTopup mv charge) s = s.run (fun _ c => c.capTopup mv charge) := rfl
theorem exec_capOvervolt (mv : Nat) (s : State) :
    exec (.capOvervolt mv) s = s.run (fun _ c => c.capOvervolt mv) := rfl
theorem exec_reserveCompute (mv : Nat) (s : State) :
    exec (.reserveCompute mv) s = s.run (fun _ c => c.reserveSample mv) := rfl
theorem exec_recordSlotErase (s : State) :
    exec (.recordSlotErase) s = s.run (fun _ c => c.slotErase) := rfl
theorem exec_thermalSample (temps : List Int) (counts : List Nat) (s : State) :
    exec (.thermalSample temps counts) s = s.run (fun _ c => c.thermalSample temps counts) := rfl
theorem exec_thermalStepRepeat (zone : Nat) (s : State) :
    exec (.thermalStepRepeat zone) s = s.run (fun _ c => c.thermalRepeat zone) := rfl
theorem exec_brokenRetry (mst : Master) (data : Nat) (s : State) :
    exec (.brokenRetry mst data) s = s.run (fun m c => c.regWrite mst K.THM_BROKEN_RETRY data m) := rfl
theorem exec_panelTempSample (temp : Int) (s : State) :
    exec (.panelTempSample temp) s = s.run (fun _ c => c.panelSample temp) := rfl
theorem exec_vinMinClr (mst : Master) (data : Nat) (s : State) :
    exec (.vinMinClr mst data) s = s.run (fun m c => c.regWrite mst K.PWR_VIN_MIN data m) := rfl
theorem exec_refclkLost (s : State) :
    exec (.refclkLost) s = s.run (fun _ c => c.refclkLost) := rfl
theorem exec_refclkReturn (s : State) :
    exec (.refclkReturn) s = s.run (fun _ c => c.refclkReturn) := rfl
theorem exec_tilePortUp (link : Nat) (s : State) :
    exec (.tilePortUp link) s = s.run (fun _ c => c.tilePortUp link) := rfl
theorem exec_laneLockLoss (host : Bool) (lane : Nat) (s : State) :
    exec (.laneLockLoss host lane) s = s.run (fun _ c => if host then c.linkLaneLost lane else c.tileLaneLost lane) := rfl
theorem exec_nullFlit (flit : List Byte) (s : State) :
    exec (.nullFlit flit) s = s.run (fun _ c => c.linkNull flit) := rfl
theorem exec_idle (link : Nat) (frame : List Byte) (s : State) :
    exec (.idle link frame) s = s.run (fun _ c => c.tileIdle link frame) := rfl
theorem exec_timePortUp (port : Nat) (s : State) :
    exec (.timePortUp port) s = s.run (fun _ c => c.timePortUp port) := rfl
theorem exec_announceReceiptTimeout (port : Nat) (s : State) :
    exec (.announceReceiptTimeout port) s = s.run (fun _ c => c.announceTimeout port) := rfl
theorem exec_ptpSyncInterval (port : Nat) (s : State) :
    exec (.ptpSyncInterval port) s = s.run (fun _ c => c.ptpInterval port) := rfl
theorem exec_flashWriteDone (ok : Bool) (s : State) :
    exec (.flashWriteDone ok) s = s.run (fun m c => c.flashDone m ok) := rfl
theorem exec_startupLaneTraining (results : List (Nat × List (Nat × Nat))) (failed : List Nat) (s : State) :
    exec (.startupLaneTraining results failed) s = s.run (fun _ c => c.startTraining results failed) := rfl
theorem exec_keeperRestartEnd (s : State) :
    exec (.keeperRestartEnd) s = s.run (fun m c => c.keeperRestartEnd m) := rfl

/-- Every command is a change of the module and its memory, run. -/
theorem exec_run (i : Instr) : ∃ f : Memory → Chip → Chip, ∀ s, exec i s = s.run f := by
  cases i with
  | planLock => exact ⟨_, exec_planLock⟩
  | commit io => exact ⟨_, exec_commit io⟩
  | synthesisDeadline => exact ⟨_, exec_synthesisDeadline⟩
  | tickHoldover => exact ⟨_, exec_tickHoldover⟩
  | tickSourceRelock error => exact ⟨_, exec_tickSourceRelock error⟩
  | registerWrite mst addr data acc => exact ⟨_, exec_registerWrite mst addr data acc⟩
  | budgetMaxClr mst page data => exact ⟨_, exec_budgetMaxClr mst page data⟩
  | errInfoClear mst page data => exact ⟨_, exec_errInfoClear mst page data⟩
  | errCountClear mst page data => exact ⟨_, exec_errCountClear mst page data⟩
  | blockResetRequest mst page data => exact ⟨_, exec_blockResetRequest mst page data⟩
  | counterClear mst page data => exact ⟨_, exec_counterClear mst page data⟩
  | intRawClear mst page data => exact ⟨_, exec_intRawClear mst page data⟩
  | intForce mst page data => exact ⟨_, exec_intForce mst page data⟩
  | rollupEventClear mst region data => exact ⟨_, exec_rollupEventClear mst region data⟩
  | pageLockSet mst page data => exact ⟨_, exec_pageLockSet mst page data⟩
  | pageUnlock mst page data => exact ⟨_, exec_pageUnlock mst page data⟩
  | parityInject mst page data => exact ⟨_, exec_parityInject mst page data⟩
  | registerParityError page off => exact ⟨_, exec_registerParityError page off⟩
  | eventPacket host => exact ⟨_, exec_eventPacket host⟩
  | eventPacketMerge host => exact ⟨_, exec_eventPacketMerge host⟩
  | vinValid mv => exact ⟨_, exec_vinValid mv⟩
  | pwrEnRise => exact ⟨_, exec_pwrEnRise⟩
  | pwrEnFall => exact ⟨_, exec_pwrEnFall⟩
  | wakeNLow => exact ⟨_, exec_wakeNLow⟩
  | bootRomStart id paired side errA errB => exact ⟨_, exec_bootRomStart id paired side errA errB⟩
  | calSetLoad => exact ⟨_, exec_calSetLoad⟩
  | regionPowerUp region rails => exact ⟨_, exec_regionPowerUp region rails⟩
  | panelEepromRead tries => exact ⟨_, exec_panelEepromRead tries⟩
  | startupProfileLoad => exact ⟨_, exec_startupProfileLoad⟩
  | startupComplete => exact ⟨_, exec_startupComplete⟩
  | modeSet ep message => exact ⟨_, exec_modeSet ep message⟩
  | modeTransition => exact ⟨_, exec_modeTransition⟩
  | darkTrainingSlot => exact ⟨_, exec_darkTrainingSlot⟩
  | newModeFirstTick => exact ⟨_, exec_newModeFirstTick⟩
  | darkSequenceEnd => exact ⟨_, exec_darkSequenceEnd⟩
  | orderlyRecord => exact ⟨_, exec_orderlyRecord⟩
  | fatalSafeEntry => exact ⟨_, exec_fatalSafeEntry⟩
  | scene ctx start data => exact ⟨_, exec_scene ctx start data⟩
  | cdcGroupDecode layer group pipe once twice => exact ⟨_, exec_cdcGroupDecode layer group pipe once twice⟩
  | cdcJobPost mst data => exact ⟨_, exec_cdcJobPost mst data⟩
  | cdcJobStart => exact ⟨_, exec_cdcJobStart⟩
  | cdcJobComplete parity => exact ⟨_, exec_cdcJobComplete parity⟩
  | cdcJobAbort mst data => exact ⟨_, exec_cdcJobAbort mst data⟩
  | cdcFlush mst data => exact ⟨_, exec_cdcFlush mst data⟩
  | tileDispatch ctxParity gridRetry => exact ⟨_, exec_tileDispatch ctxParity gridRetry⟩
  | texelCacheMiss cluster layer bx bty => exact ⟨_, exec_texelCacheMiss cluster layer bx bty⟩
  | tileFinish cluster tile => exact ⟨_, exec_tileFinish cluster tile⟩
  | tileParityRestart cluster tile level layer bx bty => exact ⟨_, exec_tileParityRestart cluster tile level layer bx bty⟩
  | clusterReturn mst data => exact ⟨_, exec_clusterReturn mst data⟩
  | lnsProbe mst off => exact ⟨_, exec_lnsProbe mst off⟩
  | agePromotion master waited => exact ⟨_, exec_agePromotion master waited⟩
  | conflictClear mst data => exact ⟨_, exec_conflictClear mst data⟩
  | scanoutLine io => exact ⟨_, exec_scanoutLine io⟩
  | timingModeWrite mst data => exact ⟨_, exec_timingModeWrite mst data⟩
  | bltCmdPost mst data => exact ⟨_, exec_bltCmdPost mst data⟩
  | bltCmdStart => exact ⟨_, exec_bltCmdStart⟩
  | bltCmdComplete parity => exact ⟨_, exec_bltCmdComplete parity⟩
  | bltAbort mst data => exact ⟨_, exec_bltAbort mst data⟩
  | beamRowRelease => exact ⟨_, exec_beamRowRelease⟩
  | pcnTblDataWrite mst data => exact ⟨_, exec_pcnTblDataWrite mst data⟩
  | pcnTblDataRead mst => exact ⟨_, exec_pcnTblDataRead mst⟩
  | pcnProbeSelect mst data => exact ⟨_, exec_pcnProbeSelect mst data⟩
  | driverStatusFrame port frame settled => exact ⟨_, exec_driverStatusFrame port frame settled⟩
  | laneRetry mst port high data => exact ⟨_, exec_laneRetry mst port high data⟩
  | returnLost port path => exact ⟨_, exec_returnLost port path⟩
  | returnRelock port path => exact ⟨_, exec_returnRelock port path⟩
  | trainLockCheck => exact ⟨_, exec_trainLockCheck⟩
  | trainSettingsApply results => exact ⟨_, exec_trainSettingsApply results⟩
  | trainJudge failed => exact ⟨_, exec_trainJudge failed⟩
  | eyeScanStart mst data => exact ⟨_, exec_eyeScanStart mst data⟩
  | eyeScanDone host width height => exact ⟨_, exec_eyeScanDone host width height⟩
  | serCrcInject mst data => exact ⟨_, exec_serCrcInject mst data⟩
  | scanSlotStart io => exact ⟨_, exec_scanSlotStart io⟩
  | litWindowStart io => exact ⟨_, exec_litWindowStart io⟩
  | channelPowerAverage ch mw => exact ⟨_, exec_channelPowerAverage ch mw⟩
  | vledRangeFault mv => exact ⟨_, exec_vledRangeFault mv⟩
  | vledResume => exact ⟨_, exec_vledResume⟩
  | secDriveWrite mst data => exact ⟨_, exec_secDriveWrite mst data⟩
  | secRetry mst data => exact ⟨_, exec_secRetry mst data⟩
  | aplFrameStart => exact ⟨_, exec_aplFrameStart⟩
  | aplReqPost mst data => exact ⟨_, exec_aplReqPost mst data⟩
  | aplUpdateComplete slot => exact ⟨_, exec_aplUpdateComplete slot⟩
  | aplAbort mst data => exact ⟨_, exec_aplAbort mst data⟩
  | aplRailReady reached => exact ⟨_, exec_aplRailReady reached⟩
  | aplRailCheck within => exact ⟨_, exec_aplRailCheck within⟩
  | aplUnfreeze mst data => exact ⟨_, exec_aplUnfreeze mst data⟩
  | aplDriveWrite mst data => exact ⟨_, exec_aplDriveWrite mst data⟩
  | aplTblDataWrite mst data => exact ⟨_, exec_aplTblDataWrite mst data⟩
  | dramCommandSlot ch sub ns once twice => exact ⟨_, exec_dramCommandSlot ch sub ns once twice⟩
  | refreshDue ch sub inWindow => exact ⟨_, exec_refreshDue ch sub inWindow⟩
  | deviceTempReport ch temp hot => exact ⟨_, exec_deviceTempReport ch temp hot⟩
  | quietWindow ch margin found => exact ⟨_, exec_quietWindow ch margin found⟩
  | trackRequest ch => exact ⟨_, exec_trackRequest ch⟩
  | channelRetry mst data => exact ⟨_, exec_channelRetry mst data⟩
  | dramParityInject mst ch data => exact ⟨_, exec_dramParityInject mst ch data⟩
  | linkDetect => exact ⟨_, exec_linkDetect⟩
  | linkDetectTimeout => exact ⟨_, exec_linkDetectTimeout⟩
  | linkTrainEntry lanes => exact ⟨_, exec_linkTrainEntry lanes⟩
  | ts flit => exact ⟨_, exec_ts flit⟩
  | linkRateSwitch pass peaks => exact ⟨_, exec_linkRateSwitch pass peaks⟩
  | linkTrainTimeout => exact ⟨_, exec_linkTrainTimeout⟩
  | init flit => exact ⟨_, exec_init flit⟩
  | linkRecoverTimeout => exact ⟨_, exec_linkRecoverTimeout⟩
  | dataFlit flit => exact ⟨_, exec_dataFlit flit⟩
  | nak flit => exact ⟨_, exec_nak flit⟩
  | ackTimeout => exact ⟨_, exec_ackTimeout⟩
  | regRd packet => exact ⟨_, exec_regRd packet⟩
  | regWr packet => exact ⟨_, exec_regWr packet⟩
  | dmaWr packet => exact ⟨_, exec_dmaWr packet⟩
  | dmaWrComplete job => exact ⟨_, exec_dmaWrComplete job⟩
  | dmaRd packet => exact ⟨_, exec_dmaRd packet⟩
  | dmaRdComplete job => exact ⟨_, exec_dmaRdComplete job⟩
  | mbxPost packet => exact ⟨_, exec_mbxPost packet⟩
  | tick packet => exact ⟨_, exec_tick packet⟩
  | timeReq packet => exact ⟨_, exec_timeReq packet⟩
  | lpAck flit => exact ⟨_, exec_lpAck flit⟩
  | lpAckWaitExpiry => exact ⟨_, exec_lpAckWaitExpiry⟩
  | lpExit byHost => exact ⟨_, exec_lpExit byHost⟩
  | linkRetrain mst data => exact ⟨_, exec_linkRetrain mst data⟩
  | linkEnableWrite mst data => exact ⟨_, exec_linkEnableWrite mst data⟩
  | linkCrcInject mst data => exact ⟨_, exec_linkCrcInject mst data⟩
  | join link frame => exact ⟨_, exec_join link frame⟩
  | joinResult link frame => exact ⟨_, exec_joinResult link frame⟩
  | joinRetry => exact ⟨_, exec_joinRetry⟩
  | barrier link frame => exact ⟨_, exec_barrier link frame⟩
  | barrierSend => exact ⟨_, exec_barrierSend⟩
  | summary link frame => exact ⟨_, exec_summary link frame⟩
  | summaryWaitExpiry => exact ⟨_, exec_summaryWaitExpiry⟩
  | mbxA link frame => exact ⟨_, exec_mbxA link frame⟩
  | mbxB link frame => exact ⟨_, exec_mbxB link frame⟩
  | mbxCpl link frame => exact ⟨_, exec_mbxCpl link frame⟩
  | mbxRemoteResend ep slot => exact ⟨_, exec_mbxRemoteResend ep slot⟩
  | tlRegRd link frame => exact ⟨_, exec_tlRegRd link frame⟩
  | tlRegWr link frame => exact ⟨_, exec_tlRegWr link frame⟩
  | regCpl link frame => exact ⟨_, exec_regCpl link frame⟩
  | mirror link frame => exact ⟨_, exec_mirror link frame⟩
  | heartbeat link frame => exact ⟨_, exec_heartbeat link frame⟩
  | daymarkLo link frame => exact ⟨_, exec_daymarkLo link frame⟩
  | daymarkHi link frame => exact ⟨_, exec_daymarkHi link frame⟩
  | tlNak link frame => exact ⟨_, exec_tlNak link frame⟩
  | tlReplayTimeout link => exact ⟨_, exec_tlReplayTimeout link⟩
  | portDown link => exact ⟨_, exec_portDown link⟩
  | heartbeatCheck => exact ⟨_, exec_heartbeatCheck⟩
  | pairOutputEnable => exact ⟨_, exec_pairOutputEnable⟩
  | pairOwnIChange high => exact ⟨_, exec_pairOwnIChange high⟩
  | pairRelease mst data => exact ⟨_, exec_pairRelease mst data⟩
  | remoteGo mst data => exact ⟨_, exec_remoteGo mst data⟩
  | remoteTimeout => exact ⟨_, exec_remoteTimeout⟩
  | time link frame residence full => exact ⟨_, exec_time link frame residence full⟩
  | timeSnapshot mst => exact ⟨_, exec_timeSnapshot mst⟩
  | rateWrite mst data => exact ⟨_, exec_rateWrite mst data⟩
  | stepGo mst data => exact ⟨_, exec_stepGo mst data⟩
  | triggerFire unit readings => exact ⟨_, exec_triggerFire unit readings⟩
  | triggerEnable mst unit data => exact ⟨_, exec_triggerEnable mst unit data⟩
  | ptpMessage port message residence full => exact ⟨_, exec_ptpMessage port message residence full⟩
  | followUpTimeout port seq source => exact ⟨_, exec_followUpTimeout port seq source⟩
  | timePortDown port => exact ⟨_, exec_timePortDown port⟩
  | luminanceUpdate readings currents => exact ⟨_, exec_luminanceUpdate readings currents⟩
  | profileStore req => exact ⟨_, exec_profileStore req⟩
  | policyStore req => exact ⟨_, exec_policyStore req⟩
  | attest req => exact ⟨_, exec_attest req⟩
  | certGet req => exact ⟨_, exec_certGet req⟩
  | fwStore req => exact ⟨_, exec_fwStore req⟩
  | rollbackCommit req => exact ⟨_, exec_rollbackCommit req⟩
  | keyProgram req => exact ⟨_, exec_keyProgram req⟩
  | keyRevoke req => exact ⟨_, exec_keyRevoke req⟩
  | debugChallenge req => exact ⟨_, exec_debugChallenge req⟩
  | debugResponse req => exact ⟨_, exec_debugResponse req⟩
  | debugExpiry => exact ⟨_, exec_debugExpiry⟩
  | challengeLapse => exact ⟨_, exec_challengeLapse⟩
  | brightSet req => exact ⟨_, exec_brightSet req⟩
  | keeperRestart => exact ⟨_, exec_keeperRestart⟩
  | txPost mst data => exact ⟨_, exec_txPost mst data⟩
  | rxPop mst ep data => exact ⟨_, exec_rxPop mst ep data⟩
  | dbSet mst ep ch data => exact ⟨_, exec_dbSet mst ep ch data⟩
  | noticeClr mst ep ch data => exact ⟨_, exec_noticeClr mst ep ch data⟩
  | epReset mst ep data => exact ⟨_, exec_epReset mst ep data⟩
  | mbxBlockReset mst => exact ⟨_, exec_mbxBlockReset mst⟩
  | lockRead mst lock => exact ⟨_, exec_lockRead mst lock⟩
  | lockRelease mst lock data => exact ⟨_, exec_lockRelease mst lock data⟩
  | chkStart mst unit data => exact ⟨_, exec_chkStart mst unit data⟩
  | chkData32 mst unit data => exact ⟨_, exec_chkData32 mst unit data⟩
  | chkData8 mst unit data => exact ⟨_, exec_chkData8 mst unit data⟩
  | chkFinish mst unit data => exact ⟨_, exec_chkFinish mst unit data⟩
  | chkResync mst unit data => exact ⟨_, exec_chkResync mst unit data⟩
  | calPassStart => exact ⟨_, exec_calPassStart⟩
  | calStepStart calv cali => exact ⟨_, exec_calStepStart calv cali⟩
  | calStepDone result => exact ⟨_, exec_calStepDone result⟩
  | calPause results => exact ⟨_, exec_calPause results⟩
  | calFullRunEnd result => exact ⟨_, exec_calFullRunEnd result⟩
  | calExport req => exact ⟨_, exec_calExport req⟩
  | calRun req => exact ⟨_, exec_calRun req⟩
  | calCommit req => exact ⟨_, exec_calCommit req⟩
  | calStore req => exact ⟨_, exec_calStore req⟩
  | calMode req => exact ⟨_, exec_calMode req⟩
  | mooringTrigger mv slope => exact ⟨_, exec_mooringTrigger mv slope⟩
  | mooringTestGo mst data => exact ⟨_, exec_mooringTestGo mst data⟩
  | mooringBlank => exact ⟨_, exec_mooringBlank⟩
  | mooringLanesIdle => exact ⟨_, exec_mooringLanesIdle⟩
  | mooringLayerStepEnd => exact ⟨_, exec_mooringLayerStepEnd⟩
  | layerCut mv => exact ⟨_, exec_layerCut mv⟩
  | mooringRecord energy => exact ⟨_, exec_mooringRecord energy⟩
  | mooringEnd => exact ⟨_, exec_mooringEnd⟩
  | offHoldoffExpiry => exact ⟨_, exec_offHoldoffExpiry⟩
  | railFault cell mv => exact ⟨_, exec_railFault cell mv⟩
  | capMeasure droop mv => exact ⟨_, exec_capMeasure droop mv⟩
  | capTopup mv charge => exact ⟨_, exec_capTopup mv charge⟩
  | capOvervolt mv => exact ⟨_, exec_capOvervolt mv⟩
  | reserveCompute mv => exact ⟨_, exec_reserveCompute mv⟩
  | recordSlotErase => exact ⟨_, exec_recordSlotErase⟩
  | thermalSample temps counts => exact ⟨_, exec_thermalSample temps counts⟩
  | thermalStepRepeat zone => exact ⟨_, exec_thermalStepRepeat zone⟩
  | brokenRetry mst data => exact ⟨_, exec_brokenRetry mst data⟩
  | panelTempSample temp => exact ⟨_, exec_panelTempSample temp⟩
  | vinMinClr mst data => exact ⟨_, exec_vinMinClr mst data⟩
  | refclkLost => exact ⟨_, exec_refclkLost⟩
  | refclkReturn => exact ⟨_, exec_refclkReturn⟩
  | tilePortUp link => exact ⟨_, exec_tilePortUp link⟩
  | laneLockLoss host lane => exact ⟨_, exec_laneLockLoss host lane⟩
  | nullFlit flit => exact ⟨_, exec_nullFlit flit⟩
  | idle link frame => exact ⟨_, exec_idle link frame⟩
  | timePortUp port => exact ⟨_, exec_timePortUp port⟩
  | announceReceiptTimeout port => exact ⟨_, exec_announceReceiptTimeout port⟩
  | ptpSyncInterval port => exact ⟨_, exec_ptpSyncInterval port⟩
  | flashWriteDone ok => exact ⟨_, exec_flashWriteDone ok⟩
  | startupLaneTraining results failed => exact ⟨_, exec_startupLaneTraining results failed⟩
  | keeperRestartEnd => exact ⟨_, exec_keeperRestartEnd⟩

end Sys2Proof.Machine
end

