-- ==== Sys2Proof/Laws/Memory.lean ====
section
/-!
SUPPORT. Laws/Memory.lean: device memory. Every store keeps the canonical form, and a byte store is what its address
reads as afterwards and moves no other address.
-/

namespace Sys2Proof.Machine

theorem Memory.wf_apply (m : Memory) (op : MemOp) (h : m.wf) : (m.apply op).wf := by
  cases op with
  | byte a b => exact storeWf_storePut _ _ _ _ h
  | fill f =>
    refine ⟨?_, fun e he => ?_⟩
    · exact List.Pairwise.filter _ (List.pairwise_map.2 (h.1.imp (fun hab => hab)))
    · exact of_decide_eq_true (List.mem_filter.1 he).2

theorem Memory.wf_applyAll (m : Memory) (ops : List MemOp) (h : m.wf) : (m.applyAll ops).wf := by
  unfold Memory.applyAll
  generalize ops.reverse = l
  induction l generalizing m with
  | nil => exact h
  | cons op t ih => exact ih _ (Memory.wf_apply m op h)

theorem Memory.read_byte_same (m : Memory) (a : Nat) (b : Byte) : (m.apply (.byte a b)).read a = b :=
  storeGet_storePut_same _ _ _ _

theorem Memory.read_byte_other (m : Memory) (a k : Nat) (b : Byte) (h : k ≠ a) :
    (m.apply (.byte a b)).read k = m.read k :=
  storeGet_storePut_other _ _ _ _ _ h

@[simp] theorem Memory.applyAll_nil (m : Memory) : m.applyAll [] = m := rfl

theorem Memory.applyAll_cons (m : Memory) (op : MemOp) (t : List MemOp) :
    m.applyAll (op :: t) = (m.applyAll t).apply op := by
  simp [Memory.applyAll, List.foldl_append]

/-- The bytes stored from `a` upwards, newest first. -/
theorem Chip.stores_out (c : Chip) (a : Nat) (l : List Byte) :
    (c.stores a l).out = (l.zipIdx.map (fun e => MemOp.byte (a + e.2) e.1)).reverse ++ c.out := by
  induction l generalizing c a with
  | nil => rfl
  | cons b t ih =>
    rw [Chip.stores, ih]
    have e : t.zipIdx 1 = (t.zipIdx 0).map (fun x => (x.1, x.2 + 1)) := List.zipIdx_succ
    simp [Chip.store, e, Function.comp_def, Nat.add_assoc, Nat.add_comm 1]

end Sys2Proof.Machine
end

