-- ==== Sys2Proof/Laws/Run.lean ====
section
/-!
SUPPORT. Laws/Run.lean: every command is a `run`, so every command answers a next state, keeps the queue and leaves
memory in its canonical form.
-/

namespace Sys2Proof.Machine

/-- The state that a run answers. -/
def State.after (s : State) (f : Memory → Chip → Chip) : State :=
  { s with chip := { f s.mem s.chip.quiet with out := [] }, mem := s.mem.applyAll (f s.mem s.chip.quiet).out }

theorem State.run_eq (s : State) (f : Memory → Chip → Chip) : s.run f = .next (s.after f) := rfl

@[simp] theorem State.after_chip (s : State) (f : Memory → Chip → Chip) :
    (s.after f).chip = { f s.mem s.chip.quiet with out := [] } := rfl
@[simp] theorem State.after_mem (s : State) (f : Memory → Chip → Chip) :
    (s.after f).mem = s.mem.applyAll (f s.mem s.chip.quiet).out := rfl
@[simp] theorem State.after_pending (s : State) (f : Memory → Chip → Chip) : (s.after f).pending = s.pending := rfl

theorem step_run (s : State) : ∃ (f : Memory → Chip → Chip) (u : State),
    step s = u.run f ∧ u.chip = s.chip ∧ u.mem = s.mem ∧ u.pending = s.pending.tail := by
  unfold step
  cases h : s.pending with
  | nil => exact ⟨_, s, rfl, rfl, rfl, by simp [h]⟩
  | cons i rest =>
    obtain ⟨f, hf⟩ := exec_run i
    exact ⟨f, _, hf _, rfl, rfl, rfl⟩

/-- A command that stores nothing: the module changes, and nothing else. -/
theorem State.run_pure (s : State) (f : Memory → Chip → Chip) (d : Chip) (h : f s.mem s.chip.quiet = d) (hd : d.out = []) :
    s.run f = .next (s.became d) := by
  have e : ({ d with out := [] } : Chip) = d := by
    cases d
    simp only at hd
    subst hd
    rfl
  simp [State.run, State.became, h, hd, e]

/-- Any command: the module changes, and the stores it made are in memory. -/
theorem State.run_stored (s : State) (f : Memory → Chip → Chip) (d : Chip) (h : f s.mem s.chip.quiet = d) :
    s.run f = .next (s.stored d) := by
  simp [State.run, State.stored, h]

/-! ### The quiet module: the fields that `quiet` leaves -/

@[simp] theorem Chip.quiet_variant (c : Chip) : c.quiet.variant = c.variant := rfl
@[simp] theorem Chip.quiet_regs (c : Chip) : c.quiet.regs = c.regs := rfl
@[simp] theorem Chip.quiet_resp (c : Chip) : c.quiet.resp = c.resp := rfl
@[simp] theorem Chip.quiet_log (c : Chip) : c.quiet.log = c.log := rfl
@[simp] theorem Chip.quiet_host0 (c : Chip) : c.quiet.host0 = c.host0 := rfl
@[simp] theorem Chip.quiet_host1 (c : Chip) : c.quiet.host1 = c.host1 := rfl
@[simp] theorem Chip.quiet_mode (c : Chip) : c.quiet.mode = c.mode := rfl
@[simp] theorem Chip.quiet_blocksOn (c : Chip) : c.quiet.blocksOn = c.blocksOn := rfl
@[simp] theorem Chip.quiet_tick (c : Chip) : c.quiet.tick = c.tick := rfl
@[simp] theorem Chip.quiet_clock (c : Chip) : c.quiet.clock = c.clock := rfl
@[simp] theorem Chip.quiet_ring (c : Chip) : c.quiet.ring = c.ring := rfl
@[simp] theorem Chip.quiet_cdc (c : Chip) : c.quiet.cdc = c.cdc := rfl
@[simp] theorem Chip.quiet_ray (c : Chip) : c.quiet.ray = c.ray := rfl
@[simp] theorem Chip.quiet_lens (c : Chip) : c.quiet.lens = c.lens := rfl
@[simp] theorem Chip.quiet_fst (c : Chip) : c.quiet.fst = c.fst := rfl
@[simp] theorem Chip.quiet_pcn (c : Chip) : c.quiet.pcn = c.pcn := rfl
@[simp] theorem Chip.quiet_blt (c : Chip) : c.quiet.blt = c.blt := rfl
@[simp] theorem Chip.quiet_scan (c : Chip) : c.quiet.scan = c.scan := rfl
@[simp] theorem Chip.quiet_lanes (c : Chip) : c.quiet.lanes = c.lanes := rfl
@[simp] theorem Chip.quiet_sec (c : Chip) : c.quiet.sec = c.sec := rfl
@[simp] theorem Chip.quiet_dram (c : Chip) : c.quiet.dram = c.dram := rfl
@[simp] theorem Chip.quiet_apl (c : Chip) : c.quiet.apl = c.apl := rfl
@[simp] theorem Chip.quiet_modes (c : Chip) : c.quiet.modes = c.modes := rfl
@[simp] theorem Chip.quiet_mbx (c : Chip) : c.quiet.mbx = c.mbx := rfl
@[simp] theorem Chip.quiet_cal (c : Chip) : c.quiet.cal = c.cal := rfl
@[simp] theorem Chip.quiet_pwr (c : Chip) : c.quiet.pwr = c.pwr := rfl
@[simp] theorem Chip.quiet_thm (c : Chip) : c.quiet.thm = c.thm := rfl
@[simp] theorem Chip.quiet_kpr (c : Chip) : c.quiet.kpr = c.kpr := rfl
@[simp] theorem Chip.quiet_chk (c : Chip) : c.quiet.chk = c.chk := rfl
@[simp] theorem Chip.quiet_fresh (c : Chip) : c.quiet.fresh = c.fresh := rfl
@[simp] theorem Chip.quiet_badMem (c : Chip) : c.quiet.badMem = c.badMem := rfl
@[simp] theorem Chip.quiet_hlk (c : Chip) : c.quiet.hlk = { c.hlk with wire := [] } := rfl
@[simp] theorem Chip.quiet_tlk (c : Chip) : c.quiet.tlk = { c.tlk with wire := [] } := rfl
@[simp] theorem Chip.quiet_tim (c : Chip) : c.quiet.tim = { c.tim with wire := [] } := rfl
@[simp] theorem Chip.quiet_out (c : Chip) : c.quiet.out = [] := rfl
@[simp] theorem Chip.quiet_w (c : Chip) (k : Nat) : c.quiet.w k = c.w k := rfl
@[simp] theorem Chip.quiet_aw (c : Chip) (k : Nat) : c.quiet.aw k = c.aw k := rfl
@[simp] theorem Chip.quiet_lw (c : Chip) (k : Nat) : c.quiet.lw k = c.lw k := rfl
@[simp] theorem Chip.quiet_get (c : Chip) (f : Fld) : c.quiet.get f = c.get f := rfl
@[simp] theorem Chip.quiet_is (c : Chip) (f : Fld) : c.quiet.is f = c.is f := rfl
@[simp] theorem Chip.quiet_act (c : Chip) (f : Fld) : c.quiet.act f = c.act f := rfl
@[simp] theorem Chip.quiet_on (c : Chip) (f : Fld) : c.quiet.on f = c.on f := rfl
@[simp] theorem Chip.quiet_blockOn (c : Chip) (b : Nat) : c.quiet.blockOn b = c.blockOn b := rfl

end Sys2Proof.Machine
end

