-- ==== Sys2Proof/Laws/Bus.lean ====
section
/-!
SUPPORT. Laws/Bus.lean: what a register access comes to once the register takes it.
-/

namespace Sys2Proof.Machine

theorem Chip.target_reg (c : Chip) (key : Nat) (h : key < 0x10000000) (hp : c.pageMapped (pageOf key) = true) :
    c.target (regAddr key) = .reg key := by
  have e : regAddr key - controlBase = key := by simp [regAddr]
  have h1 : controlBase ≤ regAddr key := by simp [regAddr]
  have h2 : regAddr key < controlEnd := by simp [regAddr, controlBase, controlEnd]; omega
  simp [Chip.target, h1, h2, e, hp]

theorem regAddr_aligned (key : Nat) (h : key % 4 = 0) : regAddr key % 4 = 0 := by
  simp [regAddr, controlBase]; omega

/-- A write that the register takes does what its meaning says, and is answered OK. -/
theorem Chip.regWrite_taken (c d : Chip) (m : Memory) (mst : Master) (key data : Nat) (h : c.takesWrite mst key)
    (hr : c.writeMeaning m mst key (data % 2 ^ 32) = (.ok, d)) (hd : d.hlk.downNext = false) :
    c.regWrite mst key data m = d.taken key := by
  obtain ⟨h1, h2, h3, h4, h5, h6, h7, h8, h9, h10⟩ := h
  have ht := c.target_reg key h1 h4
  have ha := regAddr_aligned key h2
  have hoff : ¬ 0x800 ≤ offOf key := by omega
  unfold Chip.regWrite Chip.busWrite
  simp only [ht, ha]
  unfold Chip.writeReg
  simp only [hoff, h5, h6, h7, h10, hr]
  simp [h8, Chip.afterWrite, Chip.respond, Chip.busEnd, hd, Chip.taken]

/-- A write that the register takes and that its meaning answers otherwise changes what the meaning changed. -/
theorem Chip.regWrite_refused (c d : Chip) (m : Memory) (mst : Master) (key data : Nat) (st : Status)
    (h : c.takesWrite mst key) (hr : c.writeMeaning m mst key (data % 2 ^ 32) = (st, d)) (hs : st ≠ .ok)
    (hd : d.hlk.downNext = false) : c.regWrite mst key data m = { d with resp := ⟨st, 0⟩ } := by
  obtain ⟨h1, h2, h3, h4, h5, h6, h7, h8, h9, h10⟩ := h
  have ht := c.target_reg key h1 h4
  have ha := regAddr_aligned key h2
  have hoff : ¬ 0x800 ≤ offOf key := by omega
  unfold Chip.regWrite Chip.busWrite
  simp only [ht, ha]
  unfold Chip.writeReg
  simp only [hoff, h5, h6, h7, h10, hr]
  simp [hs, Chip.respond, Chip.busEnd, hd]

theorem Chip.takesWrite_quiet (c : Chip) (m : Master) (key : Nat) (h : c.takesWrite m key) : c.quiet.takesWrite m key := h

/-- A read of a register that can be read. -/
theorem Chip.regRead_taken (c : Chip) (m : Memory) (mst : Master) (key : Nat) (h : c.takesRead key) :
    c.regRead mst key m = c.readReg m mst key := by
  obtain ⟨h1, h2, h3⟩ := h
  have ht := c.target_reg key h1 h3
  have ha := regAddr_aligned key h2
  unfold Chip.regRead Chip.busRead
  simp [ht, ha]

/-- A header register's meaning. -/
theorem Chip.writeMeaning_header (c : Chip) (m : Memory) (mst : Master) (page off data : Nat) (hp : page % 4096 = 0)
    (ho : off < 0x100) : c.writeMeaning m mst (page + off) data
      = (c.headerWrite mst page off data).getD (.ok, c.plainWrite (page + off) data) := by
  have e1 : offOf (page + off) = off := by simp [offOf]; omega
  have e2 : pageOf (page + off) = page := by simp [pageOf]; omega
  unfold Chip.writeMeaning
  rw [e1, e2, if_pos ho]
  cases c.headerWrite mst page off data <;> rfl

end Sys2Proof.Machine
end

