-- ==== Sys2Proof/Laws/State.lean ====
section
/-!
SUPPORT. Laws/State.lean: one lemma per field and per update of the register file, of memory, of the free values and of
the parts of the module's own state: the field is not moved by it.
-/

namespace Sys2Proof.Machine

@[simp] theorem Chip.setw_variant (c : Chip) (k : Nat) (v : Word) : (c.setw k v).variant = c.variant := rfl
@[simp] theorem Chip.setw_ladder (c : Chip) (k : Nat) (v : Word) : (c.setw k v).ladder = c.ladder := rfl
@[simp] theorem Chip.setw_resp (c : Chip) (k : Nat) (v : Word) : (c.setw k v).resp = c.resp := rfl
@[simp] theorem Chip.setw_log (c : Chip) (k : Nat) (v : Word) : (c.setw k v).log = c.log := rfl
@[simp] theorem Chip.setw_host0 (c : Chip) (k : Nat) (v : Word) : (c.setw k v).host0 = c.host0 := rfl
@[simp] theorem Chip.setw_host1 (c : Chip) (k : Nat) (v : Word) : (c.setw k v).host1 = c.host1 := rfl
@[simp] theorem Chip.setw_mode (c : Chip) (k : Nat) (v : Word) : (c.setw k v).mode = c.mode := rfl
@[simp] theorem Chip.setw_blocksOn (c : Chip) (k : Nat) (v : Word) : (c.setw k v).blocksOn = c.blocksOn := rfl
@[simp] theorem Chip.setw_tick (c : Chip) (k : Nat) (v : Word) : (c.setw k v).tick = c.tick := rfl
@[simp] theorem Chip.setw_clock (c : Chip) (k : Nat) (v : Word) : (c.setw k v).clock = c.clock := rfl
@[simp] theorem Chip.setw_ring (c : Chip) (k : Nat) (v : Word) : (c.setw k v).ring = c.ring := rfl
@[simp] theorem Chip.setw_cdc (c : Chip) (k : Nat) (v : Word) : (c.setw k v).cdc = c.cdc := rfl
@[simp] theorem Chip.setw_ray (c : Chip) (k : Nat) (v : Word) : (c.setw k v).ray = c.ray := rfl
@[simp] theorem Chip.setw_lens (c : Chip) (k : Nat) (v : Word) : (c.setw k v).lens = c.lens := rfl
@[simp] theorem Chip.setw_fst (c : Chip) (k : Nat) (v : Word) : (c.setw k v).fst = c.fst := rfl
@[simp] theorem Chip.setw_pcn (c : Chip) (k : Nat) (v : Word) : (c.setw k v).pcn = c.pcn := rfl
@[simp] theorem Chip.setw_blt (c : Chip) (k : Nat) (v : Word) : (c.setw k v).blt = c.blt := rfl
@[simp] theorem Chip.setw_scan (c : Chip) (k : Nat) (v : Word) : (c.setw k v).scan = c.scan := rfl
@[simp] theorem Chip.setw_lanes (c : Chip) (k : Nat) (v : Word) : (c.setw k v).lanes = c.lanes := rfl
@[simp] theorem Chip.setw_sec (c : Chip) (k : Nat) (v : Word) : (c.setw k v).sec = c.sec := rfl
@[simp] theorem Chip.setw_dram (c : Chip) (k : Nat) (v : Word) : (c.setw k v).dram = c.dram := rfl
@[simp] theorem Chip.setw_apl (c : Chip) (k : Nat) (v : Word) : (c.setw k v).apl = c.apl := rfl
@[simp] theorem Chip.setw_hlk (c : Chip) (k : Nat) (v : Word) : (c.setw k v).hlk = c.hlk := rfl
@[simp] theorem Chip.setw_modes (c : Chip) (k : Nat) (v : Word) : (c.setw k v).modes = c.modes := rfl
@[simp] theorem Chip.setw_tlk (c : Chip) (k : Nat) (v : Word) : (c.setw k v).tlk = c.tlk := rfl
@[simp] theorem Chip.setw_mbx (c : Chip) (k : Nat) (v : Word) : (c.setw k v).mbx = c.mbx := rfl
@[simp] theorem Chip.setw_tim (c : Chip) (k : Nat) (v : Word) : (c.setw k v).tim = c.tim := rfl
@[simp] theorem Chip.setw_cal (c : Chip) (k : Nat) (v : Word) : (c.setw k v).cal = c.cal := rfl
@[simp] theorem Chip.setw_pwr (c : Chip) (k : Nat) (v : Word) : (c.setw k v).pwr = c.pwr := rfl
@[simp] theorem Chip.setw_thm (c : Chip) (k : Nat) (v : Word) : (c.setw k v).thm = c.thm := rfl
@[simp] theorem Chip.setw_kpr (c : Chip) (k : Nat) (v : Word) : (c.setw k v).kpr = c.kpr := rfl
@[simp] theorem Chip.setw_chk (c : Chip) (k : Nat) (v : Word) : (c.setw k v).chk = c.chk := rfl
@[simp] theorem Chip.setw_fresh (c : Chip) (k : Nat) (v : Word) : (c.setw k v).fresh = c.fresh := rfl
@[simp] theorem Chip.setw_out (c : Chip) (k : Nat) (v : Word) : (c.setw k v).out = c.out := rfl
@[simp] theorem Chip.setw_badMem (c : Chip) (k : Nat) (v : Word) : (c.setw k v).badMem = c.badMem := rfl
@[simp] theorem Chip.setw_regs_locked (c : Chip) (k : Nat) (v : Word) : (c.setw k v).regs.locked = c.regs.locked := rfl
@[simp] theorem Chip.setw_regs_active (c : Chip) (k : Nat) (v : Word) : (c.setw k v).regs.active = c.regs.active := rfl
@[simp] theorem Chip.setw_regs_dirty (c : Chip) (k : Nat) (v : Word) : (c.setw k v).regs.dirty = c.regs.dirty := rfl
@[simp] theorem Chip.setw_regs_waiting (c : Chip) (k : Nat) (v : Word) : (c.setw k v).regs.waiting = c.regs.waiting := rfl
@[simp] theorem Chip.setw_regs_badParity (c : Chip) (k : Nat) (v : Word) : (c.setw k v).regs.badParity = c.regs.badParity := rfl
@[simp] theorem Chip.setw_regs_inReset (c : Chip) (k : Nat) (v : Word) : (c.setw k v).regs.inReset = c.regs.inReset := rfl
@[simp] theorem Chip.setw_regs_rejectNow (c : Chip) (k : Nat) (v : Word) : (c.setw k v).regs.rejectNow = c.regs.rejectNow := rfl
@[simp] theorem Chip.setw_regs_rejected (c : Chip) (k : Nat) (v : Word) : (c.setw k v).regs.rejected = c.regs.rejected := rfl
@[simp] theorem Chip.aw_setw' (c : Chip) (k : Nat) (v : Word) (j : Nat) : (c.setw k v).aw j = c.aw j := rfl
@[simp] theorem Chip.lw_setw' (c : Chip) (k : Nat) (v : Word) (j : Nat) : (c.setw k v).lw j = c.lw j := rfl
@[simp] theorem Chip.act_setw' (c : Chip) (k : Nat) (v : Word) (g : Fld) : (c.setw k v).act g = c.act g := rfl
@[simp] theorem Chip.setw_blockOn (c : Chip) (k : Nat) (v : Word) (x : Nat) : (c.setw k v).blockOn x = c.blockOn x := rfl

@[simp] theorem Chip.setAct_variant (c : Chip) (k : Nat) (v : Word) : (c.setAct k v).variant = c.variant := rfl
@[simp] theorem Chip.setAct_ladder (c : Chip) (k : Nat) (v : Word) : (c.setAct k v).ladder = c.ladder := rfl
@[simp] theorem Chip.setAct_resp (c : Chip) (k : Nat) (v : Word) : (c.setAct k v).resp = c.resp := rfl
@[simp] theorem Chip.setAct_log (c : Chip) (k : Nat) (v : Word) : (c.setAct k v).log = c.log := rfl
@[simp] theorem Chip.setAct_host0 (c : Chip) (k : Nat) (v : Word) : (c.setAct k v).host0 = c.host0 := rfl
@[simp] theorem Chip.setAct_host1 (c : Chip) (k : Nat) (v : Word) : (c.setAct k v).host1 = c.host1 := rfl
@[simp] theorem Chip.setAct_mode (c : Chip) (k : Nat) (v : Word) : (c.setAct k v).mode = c.mode := rfl
@[simp] theorem Chip.setAct_blocksOn (c : Chip) (k : Nat) (v : Word) : (c.setAct k v).blocksOn = c.blocksOn := rfl
@[simp] theorem Chip.setAct_tick (c : Chip) (k : Nat) (v : Word) : (c.setAct k v).tick = c.tick := rfl
@[simp] theorem Chip.setAct_clock (c : Chip) (k : Nat) (v : Word) : (c.setAct k v).clock = c.clock := rfl
@[simp] theorem Chip.setAct_ring (c : Chip) (k : Nat) (v : Word) : (c.setAct k v).ring = c.ring := rfl
@[simp] theorem Chip.setAct_cdc (c : Chip) (k : Nat) (v : Word) : (c.setAct k v).cdc = c.cdc := rfl
@[simp] theorem Chip.setAct_ray (c : Chip) (k : Nat) (v : Word) : (c.setAct k v).ray = c.ray := rfl
@[simp] theorem Chip.setAct_lens (c : Chip) (k : Nat) (v : Word) : (c.setAct k v).lens = c.lens := rfl
@[simp] theorem Chip.setAct_fst (c : Chip) (k : Nat) (v : Word) : (c.setAct k v).fst = c.fst := rfl
@[simp] theorem Chip.setAct_pcn (c : Chip) (k : Nat) (v : Word) : (c.setAct k v).pcn = c.pcn := rfl
@[simp] theorem Chip.setAct_blt (c : Chip) (k : Nat) (v : Word) : (c.setAct k v).blt = c.blt := rfl
@[simp] theorem Chip.setAct_scan (c : Chip) (k : Nat) (v : Word) : (c.setAct k v).scan = c.scan := rfl
@[simp] theorem Chip.setAct_lanes (c : Chip) (k : Nat) (v : Word) : (c.setAct k v).lanes = c.lanes := rfl
@[simp] theorem Chip.setAct_sec (c : Chip) (k : Nat) (v : Word) : (c.setAct k v).sec = c.sec := rfl
@[simp] theorem Chip.setAct_dram (c : Chip) (k : Nat) (v : Word) : (c.setAct k v).dram = c.dram := rfl
@[simp] theorem Chip.setAct_apl (c : Chip) (k : Nat) (v : Word) : (c.setAct k v).apl = c.apl := rfl
@[simp] theorem Chip.setAct_hlk (c : Chip) (k : Nat) (v : Word) : (c.setAct k v).hlk = c.hlk := rfl
@[simp] theorem Chip.setAct_modes (c : Chip) (k : Nat) (v : Word) : (c.setAct k v).modes = c.modes := rfl
@[simp] theorem Chip.setAct_tlk (c : Chip) (k : Nat) (v : Word) : (c.setAct k v).tlk = c.tlk := rfl
@[simp] theorem Chip.setAct_mbx (c : Chip) (k : Nat) (v : Word) : (c.setAct k v).mbx = c.mbx := rfl
@[simp] theorem Chip.setAct_tim (c : Chip) (k : Nat) (v : Word) : (c.setAct k v).tim = c.tim := rfl
@[simp] theorem Chip.setAct_cal (c : Chip) (k : Nat) (v : Word) : (c.setAct k v).cal = c.cal := rfl
@[simp] theorem Chip.setAct_pwr (c : Chip) (k : Nat) (v : Word) : (c.setAct k v).pwr = c.pwr := rfl
@[simp] theorem Chip.setAct_thm (c : Chip) (k : Nat) (v : Word) : (c.setAct k v).thm = c.thm := rfl
@[simp] theorem Chip.setAct_kpr (c : Chip) (k : Nat) (v : Word) : (c.setAct k v).kpr = c.kpr := rfl
@[simp] theorem Chip.setAct_chk (c : Chip) (k : Nat) (v : Word) : (c.setAct k v).chk = c.chk := rfl
@[simp] theorem Chip.setAct_fresh (c : Chip) (k : Nat) (v : Word) : (c.setAct k v).fresh = c.fresh := rfl
@[simp] theorem Chip.setAct_out (c : Chip) (k : Nat) (v : Word) : (c.setAct k v).out = c.out := rfl
@[simp] theorem Chip.setAct_badMem (c : Chip) (k : Nat) (v : Word) : (c.setAct k v).badMem = c.badMem := rfl
@[simp] theorem Chip.setAct_blockOn (c : Chip) (k : Nat) (v : Word) (x : Nat) : (c.setAct k v).blockOn x = c.blockOn x := rfl

@[simp] theorem Chip.setLocked_variant (c : Chip) (k : Nat) (v : Word) : (c.setLocked k v).variant = c.variant := rfl
@[simp] theorem Chip.setLocked_ladder (c : Chip) (k : Nat) (v : Word) : (c.setLocked k v).ladder = c.ladder := rfl
@[simp] theorem Chip.setLocked_resp (c : Chip) (k : Nat) (v : Word) : (c.setLocked k v).resp = c.resp := rfl
@[simp] theorem Chip.setLocked_log (c : Chip) (k : Nat) (v : Word) : (c.setLocked k v).log = c.log := rfl
@[simp] theorem Chip.setLocked_host0 (c : Chip) (k : Nat) (v : Word) : (c.setLocked k v).host0 = c.host0 := rfl
@[simp] theorem Chip.setLocked_host1 (c : Chip) (k : Nat) (v : Word) : (c.setLocked k v).host1 = c.host1 := rfl
@[simp] theorem Chip.setLocked_mode (c : Chip) (k : Nat) (v : Word) : (c.setLocked k v).mode = c.mode := rfl
@[simp] theorem Chip.setLocked_blocksOn (c : Chip) (k : Nat) (v : Word) : (c.setLocked k v).blocksOn = c.blocksOn := rfl
@[simp] theorem Chip.setLocked_tick (c : Chip) (k : Nat) (v : Word) : (c.setLocked k v).tick = c.tick := rfl
@[simp] theorem Chip.setLocked_clock (c : Chip) (k : Nat) (v : Word) : (c.setLocked k v).clock = c.clock := rfl
@[simp] theorem Chip.setLocked_ring (c : Chip) (k : Nat) (v : Word) : (c.setLocked k v).ring = c.ring := rfl
@[simp] theorem Chip.setLocked_cdc (c : Chip) (k : Nat) (v : Word) : (c.setLocked k v).cdc = c.cdc := rfl
@[simp] theorem Chip.setLocked_ray (c : Chip) (k : Nat) (v : Word) : (c.setLocked k v).ray = c.ray := rfl
@[simp] theorem Chip.setLocked_lens (c : Chip) (k : Nat) (v : Word) : (c.setLocked k v).lens = c.lens := rfl
@[simp] theorem Chip.setLocked_fst (c : Chip) (k : Nat) (v : Word) : (c.setLocked k v).fst = c.fst := rfl
@[simp] theorem Chip.setLocked_pcn (c : Chip) (k : Nat) (v : Word) : (c.setLocked k v).pcn = c.pcn := rfl
@[simp] theorem Chip.setLocked_blt (c : Chip) (k : Nat) (v : Word) : (c.setLocked k v).blt = c.blt := rfl
@[simp] theorem Chip.setLocked_scan (c : Chip) (k : Nat) (v : Word) : (c.setLocked k v).scan = c.scan := rfl
@[simp] theorem Chip.setLocked_lanes (c : Chip) (k : Nat) (v : Word) : (c.setLocked k v).lanes = c.lanes := rfl
@[simp] theorem Chip.setLocked_sec (c : Chip) (k : Nat) (v : Word) : (c.setLocked k v).sec = c.sec := rfl
@[simp] theorem Chip.setLocked_dram (c : Chip) (k : Nat) (v : Word) : (c.setLocked k v).dram = c.dram := rfl
@[simp] theorem Chip.setLocked_apl (c : Chip) (k : Nat) (v : Word) : (c.setLocked k v).apl = c.apl := rfl
@[simp] theorem Chip.setLocked_hlk (c : Chip) (k : Nat) (v : Word) : (c.setLocked k v).hlk = c.hlk := rfl
@[simp] theorem Chip.setLocked_modes (c : Chip) (k : Nat) (v : Word) : (c.setLocked k v).modes = c.modes := rfl
@[simp] theorem Chip.setLocked_tlk (c : Chip) (k : Nat) (v : Word) : (c.setLocked k v).tlk = c.tlk := rfl
@[simp] theorem Chip.setLocked_mbx (c : Chip) (k : Nat) (v : Word) : (c.setLocked k v).mbx = c.mbx := rfl
@[simp] theorem Chip.setLocked_tim (c : Chip) (k : Nat) (v : Word) : (c.setLocked k v).tim = c.tim := rfl
@[simp] theorem Chip.setLocked_cal (c : Chip) (k : Nat) (v : Word) : (c.setLocked k v).cal = c.cal := rfl
@[simp] theorem Chip.setLocked_pwr (c : Chip) (k : Nat) (v : Word) : (c.setLocked k v).pwr = c.pwr := rfl
@[simp] theorem Chip.setLocked_thm (c : Chip) (k : Nat) (v : Word) : (c.setLocked k v).thm = c.thm := rfl
@[simp] theorem Chip.setLocked_kpr (c : Chip) (k : Nat) (v : Word) : (c.setLocked k v).kpr = c.kpr := rfl
@[simp] theorem Chip.setLocked_chk (c : Chip) (k : Nat) (v : Word) : (c.setLocked k v).chk = c.chk := rfl
@[simp] theorem Chip.setLocked_fresh (c : Chip) (k : Nat) (v : Word) : (c.setLocked k v).fresh = c.fresh := rfl
@[simp] theorem Chip.setLocked_out (c : Chip) (k : Nat) (v : Word) : (c.setLocked k v).out = c.out := rfl
@[simp] theorem Chip.setLocked_badMem (c : Chip) (k : Nat) (v : Word) : (c.setLocked k v).badMem = c.badMem := rfl
@[simp] theorem Chip.setLocked_blockOn (c : Chip) (k : Nat) (v : Word) (x : Nat) : (c.setLocked k v).blockOn x = c.blockOn x := rfl

@[simp] theorem Chip.set_variant (c : Chip) (f : Fld) (v : Nat) : (c.set f v).variant = c.variant := rfl
@[simp] theorem Chip.set_ladder (c : Chip) (f : Fld) (v : Nat) : (c.set f v).ladder = c.ladder := rfl
@[simp] theorem Chip.set_resp (c : Chip) (f : Fld) (v : Nat) : (c.set f v).resp = c.resp := rfl
@[simp] theorem Chip.set_log (c : Chip) (f : Fld) (v : Nat) : (c.set f v).log = c.log := rfl
@[simp] theorem Chip.set_host0 (c : Chip) (f : Fld) (v : Nat) : (c.set f v).host0 = c.host0 := rfl
@[simp] theorem Chip.set_host1 (c : Chip) (f : Fld) (v : Nat) : (c.set f v).host1 = c.host1 := rfl
@[simp] theorem Chip.set_mode (c : Chip) (f : Fld) (v : Nat) : (c.set f v).mode = c.mode := rfl
@[simp] theorem Chip.set_blocksOn (c : Chip) (f : Fld) (v : Nat) : (c.set f v).blocksOn = c.blocksOn := rfl
@[simp] theorem Chip.set_tick (c : Chip) (f : Fld) (v : Nat) : (c.set f v).tick = c.tick := rfl
@[simp] theorem Chip.set_clock (c : Chip) (f : Fld) (v : Nat) : (c.set f v).clock = c.clock := rfl
@[simp] theorem Chip.set_ring (c : Chip) (f : Fld) (v : Nat) : (c.set f v).ring = c.ring := rfl
@[simp] theorem Chip.set_cdc (c : Chip) (f : Fld) (v : Nat) : (c.set f v).cdc = c.cdc := rfl
@[simp] theorem Chip.set_ray (c : Chip) (f : Fld) (v : Nat) : (c.set f v).ray = c.ray := rfl
@[simp] theorem Chip.set_lens (c : Chip) (f : Fld) (v : Nat) : (c.set f v).lens = c.lens := rfl
@[simp] theorem Chip.set_fst (c : Chip) (f : Fld) (v : Nat) : (c.set f v).fst = c.fst := rfl
@[simp] theorem Chip.set_pcn (c : Chip) (f : Fld) (v : Nat) : (c.set f v).pcn = c.pcn := rfl
@[simp] theorem Chip.set_blt (c : Chip) (f : Fld) (v : Nat) : (c.set f v).blt = c.blt := rfl
@[simp] theorem Chip.set_scan (c : Chip) (f : Fld) (v : Nat) : (c.set f v).scan = c.scan := rfl
@[simp] theorem Chip.set_lanes (c : Chip) (f : Fld) (v : Nat) : (c.set f v).lanes = c.lanes := rfl
@[simp] theorem Chip.set_sec (c : Chip) (f : Fld) (v : Nat) : (c.set f v).sec = c.sec := rfl
@[simp] theorem Chip.set_dram (c : Chip) (f : Fld) (v : Nat) : (c.set f v).dram = c.dram := rfl
@[simp] theorem Chip.set_apl (c : Chip) (f : Fld) (v : Nat) : (c.set f v).apl = c.apl := rfl
@[simp] theorem Chip.set_hlk (c : Chip) (f : Fld) (v : Nat) : (c.set f v).hlk = c.hlk := rfl
@[simp] theorem Chip.set_modes (c : Chip) (f : Fld) (v : Nat) : (c.set f v).modes = c.modes := rfl
@[simp] theorem Chip.set_tlk (c : Chip) (f : Fld) (v : Nat) : (c.set f v).tlk = c.tlk := rfl
@[simp] theorem Chip.set_mbx (c : Chip) (f : Fld) (v : Nat) : (c.set f v).mbx = c.mbx := rfl
@[simp] theorem Chip.set_tim (c : Chip) (f : Fld) (v : Nat) : (c.set f v).tim = c.tim := rfl
@[simp] theorem Chip.set_cal (c : Chip) (f : Fld) (v : Nat) : (c.set f v).cal = c.cal := rfl
@[simp] theorem Chip.set_pwr (c : Chip) (f : Fld) (v : Nat) : (c.set f v).pwr = c.pwr := rfl
@[simp] theorem Chip.set_thm (c : Chip) (f : Fld) (v : Nat) : (c.set f v).thm = c.thm := rfl
@[simp] theorem Chip.set_kpr (c : Chip) (f : Fld) (v : Nat) : (c.set f v).kpr = c.kpr := rfl
@[simp] theorem Chip.set_chk (c : Chip) (f : Fld) (v : Nat) : (c.set f v).chk = c.chk := rfl
@[simp] theorem Chip.set_fresh (c : Chip) (f : Fld) (v : Nat) : (c.set f v).fresh = c.fresh := rfl
@[simp] theorem Chip.set_out (c : Chip) (f : Fld) (v : Nat) : (c.set f v).out = c.out := rfl
@[simp] theorem Chip.set_badMem (c : Chip) (f : Fld) (v : Nat) : (c.set f v).badMem = c.badMem := rfl
@[simp] theorem Chip.set_regs_locked (c : Chip) (f : Fld) (v : Nat) : (c.set f v).regs.locked = c.regs.locked := rfl
@[simp] theorem Chip.set_regs_active (c : Chip) (f : Fld) (v : Nat) : (c.set f v).regs.active = c.regs.active := rfl
@[simp] theorem Chip.set_regs_dirty (c : Chip) (f : Fld) (v : Nat) : (c.set f v).regs.dirty = c.regs.dirty := rfl
@[simp] theorem Chip.set_regs_waiting (c : Chip) (f : Fld) (v : Nat) : (c.set f v).regs.waiting = c.regs.waiting := rfl
@[simp] theorem Chip.set_regs_badParity (c : Chip) (f : Fld) (v : Nat) : (c.set f v).regs.badParity = c.regs.badParity := rfl
@[simp] theorem Chip.set_regs_inReset (c : Chip) (f : Fld) (v : Nat) : (c.set f v).regs.inReset = c.regs.inReset := rfl
@[simp] theorem Chip.set_regs_rejectNow (c : Chip) (f : Fld) (v : Nat) : (c.set f v).regs.rejectNow = c.regs.rejectNow := rfl
@[simp] theorem Chip.set_regs_rejected (c : Chip) (f : Fld) (v : Nat) : (c.set f v).regs.rejected = c.regs.rejected := rfl
@[simp] theorem Chip.aw_set' (c : Chip) (f : Fld) (v : Nat) (j : Nat) : (c.set f v).aw j = c.aw j := rfl
@[simp] theorem Chip.lw_set' (c : Chip) (f : Fld) (v : Nat) (j : Nat) : (c.set f v).lw j = c.lw j := rfl
@[simp] theorem Chip.act_set' (c : Chip) (f : Fld) (v : Nat) (g : Fld) : (c.set f v).act g = c.act g := rfl
@[simp] theorem Chip.set_blockOn (c : Chip) (f : Fld) (v : Nat) (x : Nat) : (c.set f v).blockOn x = c.blockOn x := rfl

@[simp] theorem Chip.setZ_variant (c : Chip) (f : Fld) (v : Int) : (c.setZ f v).variant = c.variant := rfl
@[simp] theorem Chip.setZ_ladder (c : Chip) (f : Fld) (v : Int) : (c.setZ f v).ladder = c.ladder := rfl
@[simp] theorem Chip.setZ_resp (c : Chip) (f : Fld) (v : Int) : (c.setZ f v).resp = c.resp := rfl
@[simp] theorem Chip.setZ_log (c : Chip) (f : Fld) (v : Int) : (c.setZ f v).log = c.log := rfl
@[simp] theorem Chip.setZ_host0 (c : Chip) (f : Fld) (v : Int) : (c.setZ f v).host0 = c.host0 := rfl
@[simp] theorem Chip.setZ_host1 (c : Chip) (f : Fld) (v : Int) : (c.setZ f v).host1 = c.host1 := rfl
@[simp] theorem Chip.setZ_mode (c : Chip) (f : Fld) (v : Int) : (c.setZ f v).mode = c.mode := rfl
@[simp] theorem Chip.setZ_blocksOn (c : Chip) (f : Fld) (v : Int) : (c.setZ f v).blocksOn = c.blocksOn := rfl
@[simp] theorem Chip.setZ_tick (c : Chip) (f : Fld) (v : Int) : (c.setZ f v).tick = c.tick := rfl
@[simp] theorem Chip.setZ_clock (c : Chip) (f : Fld) (v : Int) : (c.setZ f v).clock = c.clock := rfl
@[simp] theorem Chip.setZ_ring (c : Chip) (f : Fld) (v : Int) : (c.setZ f v).ring = c.ring := rfl
@[simp] theorem Chip.setZ_cdc (c : Chip) (f : Fld) (v : Int) : (c.setZ f v).cdc = c.cdc := rfl
@[simp] theorem Chip.setZ_ray (c : Chip) (f : Fld) (v : Int) : (c.setZ f v).ray = c.ray := rfl
@[simp] theorem Chip.setZ_lens (c : Chip) (f : Fld) (v : Int) : (c.setZ f v).lens = c.lens := rfl
@[simp] theorem Chip.setZ_fst (c : Chip) (f : Fld) (v : Int) : (c.setZ f v).fst = c.fst := rfl
@[simp] theorem Chip.setZ_pcn (c : Chip) (f : Fld) (v : Int) : (c.setZ f v).pcn = c.pcn := rfl
@[simp] theorem Chip.setZ_blt (c : Chip) (f : Fld) (v : Int) : (c.setZ f v).blt = c.blt := rfl
@[simp] theorem Chip.setZ_scan (c : Chip) (f : Fld) (v : Int) : (c.setZ f v).scan = c.scan := rfl
@[simp] theorem Chip.setZ_lanes (c : Chip) (f : Fld) (v : Int) : (c.setZ f v).lanes = c.lanes := rfl
@[simp] theorem Chip.setZ_sec (c : Chip) (f : Fld) (v : Int) : (c.setZ f v).sec = c.sec := rfl
@[simp] theorem Chip.setZ_dram (c : Chip) (f : Fld) (v : Int) : (c.setZ f v).dram = c.dram := rfl
@[simp] theorem Chip.setZ_apl (c : Chip) (f : Fld) (v : Int) : (c.setZ f v).apl = c.apl := rfl
@[simp] theorem Chip.setZ_hlk (c : Chip) (f : Fld) (v : Int) : (c.setZ f v).hlk = c.hlk := rfl
@[simp] theorem Chip.setZ_modes (c : Chip) (f : Fld) (v : Int) : (c.setZ f v).modes = c.modes := rfl
@[simp] theorem Chip.setZ_tlk (c : Chip) (f : Fld) (v : Int) : (c.setZ f v).tlk = c.tlk := rfl
@[simp] theorem Chip.setZ_mbx (c : Chip) (f : Fld) (v : Int) : (c.setZ f v).mbx = c.mbx := rfl
@[simp] theorem Chip.setZ_tim (c : Chip) (f : Fld) (v : Int) : (c.setZ f v).tim = c.tim := rfl
@[simp] theorem Chip.setZ_cal (c : Chip) (f : Fld) (v : Int) : (c.setZ f v).cal = c.cal := rfl
@[simp] theorem Chip.setZ_pwr (c : Chip) (f : Fld) (v : Int) : (c.setZ f v).pwr = c.pwr := rfl
@[simp] theorem Chip.setZ_thm (c : Chip) (f : Fld) (v : Int) : (c.setZ f v).thm = c.thm := rfl
@[simp] theorem Chip.setZ_kpr (c : Chip) (f : Fld) (v : Int) : (c.setZ f v).kpr = c.kpr := rfl
@[simp] theorem Chip.setZ_chk (c : Chip) (f : Fld) (v : Int) : (c.setZ f v).chk = c.chk := rfl
@[simp] theorem Chip.setZ_fresh (c : Chip) (f : Fld) (v : Int) : (c.setZ f v).fresh = c.fresh := rfl
@[simp] theorem Chip.setZ_out (c : Chip) (f : Fld) (v : Int) : (c.setZ f v).out = c.out := rfl
@[simp] theorem Chip.setZ_badMem (c : Chip) (f : Fld) (v : Int) : (c.setZ f v).badMem = c.badMem := rfl
@[simp] theorem Chip.setZ_regs_locked (c : Chip) (f : Fld) (v : Int) : (c.setZ f v).regs.locked = c.regs.locked := rfl
@[simp] theorem Chip.setZ_regs_active (c : Chip) (f : Fld) (v : Int) : (c.setZ f v).regs.active = c.regs.active := rfl
@[simp] theorem Chip.setZ_regs_dirty (c : Chip) (f : Fld) (v : Int) : (c.setZ f v).regs.dirty = c.regs.dirty := rfl
@[simp] theorem Chip.setZ_regs_waiting (c : Chip) (f : Fld) (v : Int) : (c.setZ f v).regs.waiting = c.regs.waiting := rfl
@[simp] theorem Chip.setZ_regs_badParity (c : Chip) (f : Fld) (v : Int) : (c.setZ f v).regs.badParity = c.regs.badParity := rfl
@[simp] theorem Chip.setZ_regs_inReset (c : Chip) (f : Fld) (v : Int) : (c.setZ f v).regs.inReset = c.regs.inReset := rfl
@[simp] theorem Chip.setZ_regs_rejectNow (c : Chip) (f : Fld) (v : Int) : (c.setZ f v).regs.rejectNow = c.regs.rejectNow := rfl
@[simp] theorem Chip.setZ_regs_rejected (c : Chip) (f : Fld) (v : Int) : (c.setZ f v).regs.rejected = c.regs.rejected := rfl
@[simp] theorem Chip.aw_setZ' (c : Chip) (f : Fld) (v : Int) (j : Nat) : (c.setZ f v).aw j = c.aw j := rfl
@[simp] theorem Chip.lw_setZ' (c : Chip) (f : Fld) (v : Int) (j : Nat) : (c.setZ f v).lw j = c.lw j := rfl
@[simp] theorem Chip.act_setZ' (c : Chip) (f : Fld) (v : Int) (g : Fld) : (c.setZ f v).act g = c.act g := rfl
@[simp] theorem Chip.setZ_blockOn (c : Chip) (f : Fld) (v : Int) (x : Nat) : (c.setZ f v).blockOn x = c.blockOn x := rfl

@[simp] theorem Chip.setB_variant (c : Chip) (f : Fld) (b : Bool) : (c.setB f b).variant = c.variant := rfl
@[simp] theorem Chip.setB_ladder (c : Chip) (f : Fld) (b : Bool) : (c.setB f b).ladder = c.ladder := rfl
@[simp] theorem Chip.setB_resp (c : Chip) (f : Fld) (b : Bool) : (c.setB f b).resp = c.resp := rfl
@[simp] theorem Chip.setB_log (c : Chip) (f : Fld) (b : Bool) : (c.setB f b).log = c.log := rfl
@[simp] theorem Chip.setB_host0 (c : Chip) (f : Fld) (b : Bool) : (c.setB f b).host0 = c.host0 := rfl
@[simp] theorem Chip.setB_host1 (c : Chip) (f : Fld) (b : Bool) : (c.setB f b).host1 = c.host1 := rfl
@[simp] theorem Chip.setB_mode (c : Chip) (f : Fld) (b : Bool) : (c.setB f b).mode = c.mode := rfl
@[simp] theorem Chip.setB_blocksOn (c : Chip) (f : Fld) (b : Bool) : (c.setB f b).blocksOn = c.blocksOn := rfl
@[simp] theorem Chip.setB_tick (c : Chip) (f : Fld) (b : Bool) : (c.setB f b).tick = c.tick := rfl
@[simp] theorem Chip.setB_clock (c : Chip) (f : Fld) (b : Bool) : (c.setB f b).clock = c.clock := rfl
@[simp] theorem Chip.setB_ring (c : Chip) (f : Fld) (b : Bool) : (c.setB f b).ring = c.ring := rfl
@[simp] theorem Chip.setB_cdc (c : Chip) (f : Fld) (b : Bool) : (c.setB f b).cdc = c.cdc := rfl
@[simp] theorem Chip.setB_ray (c : Chip) (f : Fld) (b : Bool) : (c.setB f b).ray = c.ray := rfl
@[simp] theorem Chip.setB_lens (c : Chip) (f : Fld) (b : Bool) : (c.setB f b).lens = c.lens := rfl
@[simp] theorem Chip.setB_fst (c : Chip) (f : Fld) (b : Bool) : (c.setB f b).fst = c.fst := rfl
@[simp] theorem Chip.setB_pcn (c : Chip) (f : Fld) (b : Bool) : (c.setB f b).pcn = c.pcn := rfl
@[simp] theorem Chip.setB_blt (c : Chip) (f : Fld) (b : Bool) : (c.setB f b).blt = c.blt := rfl
@[simp] theorem Chip.setB_scan (c : Chip) (f : Fld) (b : Bool) : (c.setB f b).scan = c.scan := rfl
@[simp] theorem Chip.setB_lanes (c : Chip) (f : Fld) (b : Bool) : (c.setB f b).lanes = c.lanes := rfl
@[simp] theorem Chip.setB_sec (c : Chip) (f : Fld) (b : Bool) : (c.setB f b).sec = c.sec := rfl
@[simp] theorem Chip.setB_dram (c : Chip) (f : Fld) (b : Bool) : (c.setB f b).dram = c.dram := rfl
@[simp] theorem Chip.setB_apl (c : Chip) (f : Fld) (b : Bool) : (c.setB f b).apl = c.apl := rfl
@[simp] theorem Chip.setB_hlk (c : Chip) (f : Fld) (b : Bool) : (c.setB f b).hlk = c.hlk := rfl
@[simp] theorem Chip.setB_modes (c : Chip) (f : Fld) (b : Bool) : (c.setB f b).modes = c.modes := rfl
@[simp] theorem Chip.setB_tlk (c : Chip) (f : Fld) (b : Bool) : (c.setB f b).tlk = c.tlk := rfl
@[simp] theorem Chip.setB_mbx (c : Chip) (f : Fld) (b : Bool) : (c.setB f b).mbx = c.mbx := rfl
@[simp] theorem Chip.setB_tim (c : Chip) (f : Fld) (b : Bool) : (c.setB f b).tim = c.tim := rfl
@[simp] theorem Chip.setB_cal (c : Chip) (f : Fld) (b : Bool) : (c.setB f b).cal = c.cal := rfl
@[simp] theorem Chip.setB_pwr (c : Chip) (f : Fld) (b : Bool) : (c.setB f b).pwr = c.pwr := rfl
@[simp] theorem Chip.setB_thm (c : Chip) (f : Fld) (b : Bool) : (c.setB f b).thm = c.thm := rfl
@[simp] theorem Chip.setB_kpr (c : Chip) (f : Fld) (b : Bool) : (c.setB f b).kpr = c.kpr := rfl
@[simp] theorem Chip.setB_chk (c : Chip) (f : Fld) (b : Bool) : (c.setB f b).chk = c.chk := rfl
@[simp] theorem Chip.setB_fresh (c : Chip) (f : Fld) (b : Bool) : (c.setB f b).fresh = c.fresh := rfl
@[simp] theorem Chip.setB_out (c : Chip) (f : Fld) (b : Bool) : (c.setB f b).out = c.out := rfl
@[simp] theorem Chip.setB_badMem (c : Chip) (f : Fld) (b : Bool) : (c.setB f b).badMem = c.badMem := rfl
@[simp] theorem Chip.setB_regs_locked (c : Chip) (f : Fld) (b : Bool) : (c.setB f b).regs.locked = c.regs.locked := rfl
@[simp] theorem Chip.setB_regs_active (c : Chip) (f : Fld) (b : Bool) : (c.setB f b).regs.active = c.regs.active := rfl
@[simp] theorem Chip.setB_regs_dirty (c : Chip) (f : Fld) (b : Bool) : (c.setB f b).regs.dirty = c.regs.dirty := rfl
@[simp] theorem Chip.setB_regs_waiting (c : Chip) (f : Fld) (b : Bool) : (c.setB f b).regs.waiting = c.regs.waiting := rfl
@[simp] theorem Chip.setB_regs_badParity (c : Chip) (f : Fld) (b : Bool) : (c.setB f b).regs.badParity = c.regs.badParity := rfl
@[simp] theorem Chip.setB_regs_inReset (c : Chip) (f : Fld) (b : Bool) : (c.setB f b).regs.inReset = c.regs.inReset := rfl
@[simp] theorem Chip.setB_regs_rejectNow (c : Chip) (f : Fld) (b : Bool) : (c.setB f b).regs.rejectNow = c.regs.rejectNow := rfl
@[simp] theorem Chip.setB_regs_rejected (c : Chip) (f : Fld) (b : Bool) : (c.setB f b).regs.rejected = c.regs.rejected := rfl
@[simp] theorem Chip.aw_setB' (c : Chip) (f : Fld) (b : Bool) (j : Nat) : (c.setB f b).aw j = c.aw j := rfl
@[simp] theorem Chip.lw_setB' (c : Chip) (f : Fld) (b : Bool) (j : Nat) : (c.setB f b).lw j = c.lw j := rfl
@[simp] theorem Chip.act_setB' (c : Chip) (f : Fld) (b : Bool) (g : Fld) : (c.setB f b).act g = c.act g := rfl
@[simp] theorem Chip.setB_blockOn (c : Chip) (f : Fld) (b : Bool) (x : Nat) : (c.setB f b).blockOn x = c.blockOn x := rfl

@[simp] theorem Chip.incSat_variant (c : Chip) (f : Fld) (n : Nat) : (c.incSat f n).variant = c.variant := rfl
@[simp] theorem Chip.incSat_ladder (c : Chip) (f : Fld) (n : Nat) : (c.incSat f n).ladder = c.ladder := rfl
@[simp] theorem Chip.incSat_resp (c : Chip) (f : Fld) (n : Nat) : (c.incSat f n).resp = c.resp := rfl
@[simp] theorem Chip.incSat_log (c : Chip) (f : Fld) (n : Nat) : (c.incSat f n).log = c.log := rfl
@[simp] theorem Chip.incSat_host0 (c : Chip) (f : Fld) (n : Nat) : (c.incSat f n).host0 = c.host0 := rfl
@[simp] theorem Chip.incSat_host1 (c : Chip) (f : Fld) (n : Nat) : (c.incSat f n).host1 = c.host1 := rfl
@[simp] theorem Chip.incSat_mode (c : Chip) (f : Fld) (n : Nat) : (c.incSat f n).mode = c.mode := rfl
@[simp] theorem Chip.incSat_blocksOn (c : Chip) (f : Fld) (n : Nat) : (c.incSat f n).blocksOn = c.blocksOn := rfl
@[simp] theorem Chip.incSat_tick (c : Chip) (f : Fld) (n : Nat) : (c.incSat f n).tick = c.tick := rfl
@[simp] theorem Chip.incSat_clock (c : Chip) (f : Fld) (n : Nat) : (c.incSat f n).clock = c.clock := rfl
@[simp] theorem Chip.incSat_ring (c : Chip) (f : Fld) (n : Nat) : (c.incSat f n).ring = c.ring := rfl
@[simp] theorem Chip.incSat_cdc (c : Chip) (f : Fld) (n : Nat) : (c.incSat f n).cdc = c.cdc := rfl
@[simp] theorem Chip.incSat_ray (c : Chip) (f : Fld) (n : Nat) : (c.incSat f n).ray = c.ray := rfl
@[simp] theorem Chip.incSat_lens (c : Chip) (f : Fld) (n : Nat) : (c.incSat f n).lens = c.lens := rfl
@[simp] theorem Chip.incSat_fst (c : Chip) (f : Fld) (n : Nat) : (c.incSat f n).fst = c.fst := rfl
@[simp] theorem Chip.incSat_pcn (c : Chip) (f : Fld) (n : Nat) : (c.incSat f n).pcn = c.pcn := rfl
@[simp] theorem Chip.incSat_blt (c : Chip) (f : Fld) (n : Nat) : (c.incSat f n).blt = c.blt := rfl
@[simp] theorem Chip.incSat_scan (c : Chip) (f : Fld) (n : Nat) : (c.incSat f n).scan = c.scan := rfl
@[simp] theorem Chip.incSat_lanes (c : Chip) (f : Fld) (n : Nat) : (c.incSat f n).lanes = c.lanes := rfl
@[simp] theorem Chip.incSat_sec (c : Chip) (f : Fld) (n : Nat) : (c.incSat f n).sec = c.sec := rfl
@[simp] theorem Chip.incSat_dram (c : Chip) (f : Fld) (n : Nat) : (c.incSat f n).dram = c.dram := rfl
@[simp] theorem Chip.incSat_apl (c : Chip) (f : Fld) (n : Nat) : (c.incSat f n).apl = c.apl := rfl
@[simp] theorem Chip.incSat_hlk (c : Chip) (f : Fld) (n : Nat) : (c.incSat f n).hlk = c.hlk := rfl
@[simp] theorem Chip.incSat_modes (c : Chip) (f : Fld) (n : Nat) : (c.incSat f n).modes = c.modes := rfl
@[simp] theorem Chip.incSat_tlk (c : Chip) (f : Fld) (n : Nat) : (c.incSat f n).tlk = c.tlk := rfl
@[simp] theorem Chip.incSat_mbx (c : Chip) (f : Fld) (n : Nat) : (c.incSat f n).mbx = c.mbx := rfl
@[simp] theorem Chip.incSat_tim (c : Chip) (f : Fld) (n : Nat) : (c.incSat f n).tim = c.tim := rfl
@[simp] theorem Chip.incSat_cal (c : Chip) (f : Fld) (n : Nat) : (c.incSat f n).cal = c.cal := rfl
@[simp] theorem Chip.incSat_pwr (c : Chip) (f : Fld) (n : Nat) : (c.incSat f n).pwr = c.pwr := rfl
@[simp] theorem Chip.incSat_thm (c : Chip) (f : Fld) (n : Nat) : (c.incSat f n).thm = c.thm := rfl
@[simp] theorem Chip.incSat_kpr (c : Chip) (f : Fld) (n : Nat) : (c.incSat f n).kpr = c.kpr := rfl
@[simp] theorem Chip.incSat_chk (c : Chip) (f : Fld) (n : Nat) : (c.incSat f n).chk = c.chk := rfl
@[simp] theorem Chip.incSat_fresh (c : Chip) (f : Fld) (n : Nat) : (c.incSat f n).fresh = c.fresh := rfl
@[simp] theorem Chip.incSat_out (c : Chip) (f : Fld) (n : Nat) : (c.incSat f n).out = c.out := rfl
@[simp] theorem Chip.incSat_badMem (c : Chip) (f : Fld) (n : Nat) : (c.incSat f n).badMem = c.badMem := rfl
@[simp] theorem Chip.incSat_regs_locked (c : Chip) (f : Fld) (n : Nat) : (c.incSat f n).regs.locked = c.regs.locked := rfl
@[simp] theorem Chip.incSat_regs_active (c : Chip) (f : Fld) (n : Nat) : (c.incSat f n).regs.active = c.regs.active := rfl
@[simp] theorem Chip.incSat_regs_dirty (c : Chip) (f : Fld) (n : Nat) : (c.incSat f n).regs.dirty = c.regs.dirty := rfl
@[simp] theorem Chip.incSat_regs_waiting (c : Chip) (f : Fld) (n : Nat) : (c.incSat f n).regs.waiting = c.regs.waiting := rfl
@[simp] theorem Chip.incSat_regs_badParity (c : Chip) (f : Fld) (n : Nat) : (c.incSat f n).regs.badParity = c.regs.badParity := rfl
@[simp] theorem Chip.incSat_regs_inReset (c : Chip) (f : Fld) (n : Nat) : (c.incSat f n).regs.inReset = c.regs.inReset := rfl
@[simp] theorem Chip.incSat_regs_rejectNow (c : Chip) (f : Fld) (n : Nat) : (c.incSat f n).regs.rejectNow = c.regs.rejectNow := rfl
@[simp] theorem Chip.incSat_regs_rejected (c : Chip) (f : Fld) (n : Nat) : (c.incSat f n).regs.rejected = c.regs.rejected := rfl
@[simp] theorem Chip.aw_incSat' (c : Chip) (f : Fld) (n : Nat) (j : Nat) : (c.incSat f n).aw j = c.aw j := rfl
@[simp] theorem Chip.lw_incSat' (c : Chip) (f : Fld) (n : Nat) (j : Nat) : (c.incSat f n).lw j = c.lw j := rfl
@[simp] theorem Chip.act_incSat' (c : Chip) (f : Fld) (n : Nat) (g : Fld) : (c.incSat f n).act g = c.act g := rfl
@[simp] theorem Chip.incSat_blockOn (c : Chip) (f : Fld) (n : Nat) (x : Nat) : (c.incSat f n).blockOn x = c.blockOn x := rfl

@[simp] theorem Chip.incWrap_variant (c : Chip) (f : Fld) (n : Nat) : (c.incWrap f n).variant = c.variant := rfl
@[simp] theorem Chip.incWrap_ladder (c : Chip) (f : Fld) (n : Nat) : (c.incWrap f n).ladder = c.ladder := rfl
@[simp] theorem Chip.incWrap_resp (c : Chip) (f : Fld) (n : Nat) : (c.incWrap f n).resp = c.resp := rfl
@[simp] theorem Chip.incWrap_log (c : Chip) (f : Fld) (n : Nat) : (c.incWrap f n).log = c.log := rfl
@[simp] theorem Chip.incWrap_host0 (c : Chip) (f : Fld) (n : Nat) : (c.incWrap f n).host0 = c.host0 := rfl
@[simp] theorem Chip.incWrap_host1 (c : Chip) (f : Fld) (n : Nat) : (c.incWrap f n).host1 = c.host1 := rfl
@[simp] theorem Chip.incWrap_mode (c : Chip) (f : Fld) (n : Nat) : (c.incWrap f n).mode = c.mode := rfl
@[simp] theorem Chip.incWrap_blocksOn (c : Chip) (f : Fld) (n : Nat) : (c.incWrap f n).blocksOn = c.blocksOn := rfl
@[simp] theorem Chip.incWrap_tick (c : Chip) (f : Fld) (n : Nat) : (c.incWrap f n).tick = c.tick := rfl
@[simp] theorem Chip.incWrap_clock (c : Chip) (f : Fld) (n : Nat) : (c.incWrap f n).clock = c.clock := rfl
@[simp] theorem Chip.incWrap_ring (c : Chip) (f : Fld) (n : Nat) : (c.incWrap f n).ring = c.ring := rfl
@[simp] theorem Chip.incWrap_cdc (c : Chip) (f : Fld) (n : Nat) : (c.incWrap f n).cdc = c.cdc := rfl
@[simp] theorem Chip.incWrap_ray (c : Chip) (f : Fld) (n : Nat) : (c.incWrap f n).ray = c.ray := rfl
@[simp] theorem Chip.incWrap_lens (c : Chip) (f : Fld) (n : Nat) : (c.incWrap f n).lens = c.lens := rfl
@[simp] theorem Chip.incWrap_fst (c : Chip) (f : Fld) (n : Nat) : (c.incWrap f n).fst = c.fst := rfl
@[simp] theorem Chip.incWrap_pcn (c : Chip) (f : Fld) (n : Nat) : (c.incWrap f n).pcn = c.pcn := rfl
@[simp] theorem Chip.incWrap_blt (c : Chip) (f : Fld) (n : Nat) : (c.incWrap f n).blt = c.blt := rfl
@[simp] theorem Chip.incWrap_scan (c : Chip) (f : Fld) (n : Nat) : (c.incWrap f n).scan = c.scan := rfl
@[simp] theorem Chip.incWrap_lanes (c : Chip) (f : Fld) (n : Nat) : (c.incWrap f n).lanes = c.lanes := rfl
@[simp] theorem Chip.incWrap_sec (c : Chip) (f : Fld) (n : Nat) : (c.incWrap f n).sec = c.sec := rfl
@[simp] theorem Chip.incWrap_dram (c : Chip) (f : Fld) (n : Nat) : (c.incWrap f n).dram = c.dram := rfl
@[simp] theorem Chip.incWrap_apl (c : Chip) (f : Fld) (n : Nat) : (c.incWrap f n).apl = c.apl := rfl
@[simp] theorem Chip.incWrap_hlk (c : Chip) (f : Fld) (n : Nat) : (c.incWrap f n).hlk = c.hlk := rfl
@[simp] theorem Chip.incWrap_modes (c : Chip) (f : Fld) (n : Nat) : (c.incWrap f n).modes = c.modes := rfl
@[simp] theorem Chip.incWrap_tlk (c : Chip) (f : Fld) (n : Nat) : (c.incWrap f n).tlk = c.tlk := rfl
@[simp] theorem Chip.incWrap_mbx (c : Chip) (f : Fld) (n : Nat) : (c.incWrap f n).mbx = c.mbx := rfl
@[simp] theorem Chip.incWrap_tim (c : Chip) (f : Fld) (n : Nat) : (c.incWrap f n).tim = c.tim := rfl
@[simp] theorem Chip.incWrap_cal (c : Chip) (f : Fld) (n : Nat) : (c.incWrap f n).cal = c.cal := rfl
@[simp] theorem Chip.incWrap_pwr (c : Chip) (f : Fld) (n : Nat) : (c.incWrap f n).pwr = c.pwr := rfl
@[simp] theorem Chip.incWrap_thm (c : Chip) (f : Fld) (n : Nat) : (c.incWrap f n).thm = c.thm := rfl
@[simp] theorem Chip.incWrap_kpr (c : Chip) (f : Fld) (n : Nat) : (c.incWrap f n).kpr = c.kpr := rfl
@[simp] theorem Chip.incWrap_chk (c : Chip) (f : Fld) (n : Nat) : (c.incWrap f n).chk = c.chk := rfl
@[simp] theorem Chip.incWrap_fresh (c : Chip) (f : Fld) (n : Nat) : (c.incWrap f n).fresh = c.fresh := rfl
@[simp] theorem Chip.incWrap_out (c : Chip) (f : Fld) (n : Nat) : (c.incWrap f n).out = c.out := rfl
@[simp] theorem Chip.incWrap_badMem (c : Chip) (f : Fld) (n : Nat) : (c.incWrap f n).badMem = c.badMem := rfl
@[simp] theorem Chip.incWrap_regs_locked (c : Chip) (f : Fld) (n : Nat) : (c.incWrap f n).regs.locked = c.regs.locked := rfl
@[simp] theorem Chip.incWrap_regs_active (c : Chip) (f : Fld) (n : Nat) : (c.incWrap f n).regs.active = c.regs.active := rfl
@[simp] theorem Chip.incWrap_regs_dirty (c : Chip) (f : Fld) (n : Nat) : (c.incWrap f n).regs.dirty = c.regs.dirty := rfl
@[simp] theorem Chip.incWrap_regs_waiting (c : Chip) (f : Fld) (n : Nat) : (c.incWrap f n).regs.waiting = c.regs.waiting := rfl
@[simp] theorem Chip.incWrap_regs_badParity (c : Chip) (f : Fld) (n : Nat) : (c.incWrap f n).regs.badParity = c.regs.badParity := rfl
@[simp] theorem Chip.incWrap_regs_inReset (c : Chip) (f : Fld) (n : Nat) : (c.incWrap f n).regs.inReset = c.regs.inReset := rfl
@[simp] theorem Chip.incWrap_regs_rejectNow (c : Chip) (f : Fld) (n : Nat) : (c.incWrap f n).regs.rejectNow = c.regs.rejectNow := rfl
@[simp] theorem Chip.incWrap_regs_rejected (c : Chip) (f : Fld) (n : Nat) : (c.incWrap f n).regs.rejected = c.regs.rejected := rfl
@[simp] theorem Chip.aw_incWrap' (c : Chip) (f : Fld) (n : Nat) (j : Nat) : (c.incWrap f n).aw j = c.aw j := rfl
@[simp] theorem Chip.lw_incWrap' (c : Chip) (f : Fld) (n : Nat) (j : Nat) : (c.incWrap f n).lw j = c.lw j := rfl
@[simp] theorem Chip.act_incWrap' (c : Chip) (f : Fld) (n : Nat) (g : Fld) : (c.incWrap f n).act g = c.act g := rfl
@[simp] theorem Chip.incWrap_blockOn (c : Chip) (f : Fld) (n : Nat) (x : Nat) : (c.incWrap f n).blockOn x = c.blockOn x := rfl

@[simp] theorem Chip.count_variant (c : Chip) (p i n : Nat) : (c.count p i n).variant = c.variant := rfl
@[simp] theorem Chip.count_ladder (c : Chip) (p i n : Nat) : (c.count p i n).ladder = c.ladder := rfl
@[simp] theorem Chip.count_resp (c : Chip) (p i n : Nat) : (c.count p i n).resp = c.resp := rfl
@[simp] theorem Chip.count_log (c : Chip) (p i n : Nat) : (c.count p i n).log = c.log := rfl
@[simp] theorem Chip.count_host0 (c : Chip) (p i n : Nat) : (c.count p i n).host0 = c.host0 := rfl
@[simp] theorem Chip.count_host1 (c : Chip) (p i n : Nat) : (c.count p i n).host1 = c.host1 := rfl
@[simp] theorem Chip.count_mode (c : Chip) (p i n : Nat) : (c.count p i n).mode = c.mode := rfl
@[simp] theorem Chip.count_blocksOn (c : Chip) (p i n : Nat) : (c.count p i n).blocksOn = c.blocksOn := rfl
@[simp] theorem Chip.count_tick (c : Chip) (p i n : Nat) : (c.count p i n).tick = c.tick := rfl
@[simp] theorem Chip.count_clock (c : Chip) (p i n : Nat) : (c.count p i n).clock = c.clock := rfl
@[simp] theorem Chip.count_ring (c : Chip) (p i n : Nat) : (c.count p i n).ring = c.ring := rfl
@[simp] theorem Chip.count_cdc (c : Chip) (p i n : Nat) : (c.count p i n).cdc = c.cdc := rfl
@[simp] theorem Chip.count_ray (c : Chip) (p i n : Nat) : (c.count p i n).ray = c.ray := rfl
@[simp] theorem Chip.count_lens (c : Chip) (p i n : Nat) : (c.count p i n).lens = c.lens := rfl
@[simp] theorem Chip.count_fst (c : Chip) (p i n : Nat) : (c.count p i n).fst = c.fst := rfl
@[simp] theorem Chip.count_pcn (c : Chip) (p i n : Nat) : (c.count p i n).pcn = c.pcn := rfl
@[simp] theorem Chip.count_blt (c : Chip) (p i n : Nat) : (c.count p i n).blt = c.blt := rfl
@[simp] theorem Chip.count_scan (c : Chip) (p i n : Nat) : (c.count p i n).scan = c.scan := rfl
@[simp] theorem Chip.count_lanes (c : Chip) (p i n : Nat) : (c.count p i n).lanes = c.lanes := rfl
@[simp] theorem Chip.count_sec (c : Chip) (p i n : Nat) : (c.count p i n).sec = c.sec := rfl
@[simp] theorem Chip.count_dram (c : Chip) (p i n : Nat) : (c.count p i n).dram = c.dram := rfl
@[simp] theorem Chip.count_apl (c : Chip) (p i n : Nat) : (c.count p i n).apl = c.apl := rfl
@[simp] theorem Chip.count_hlk (c : Chip) (p i n : Nat) : (c.count p i n).hlk = c.hlk := rfl
@[simp] theorem Chip.count_modes (c : Chip) (p i n : Nat) : (c.count p i n).modes = c.modes := rfl
@[simp] theorem Chip.count_tlk (c : Chip) (p i n : Nat) : (c.count p i n).tlk = c.tlk := rfl
@[simp] theorem Chip.count_mbx (c : Chip) (p i n : Nat) : (c.count p i n).mbx = c.mbx := rfl
@[simp] theorem Chip.count_tim (c : Chip) (p i n : Nat) : (c.count p i n).tim = c.tim := rfl
@[simp] theorem Chip.count_cal (c : Chip) (p i n : Nat) : (c.count p i n).cal = c.cal := rfl
@[simp] theorem Chip.count_pwr (c : Chip) (p i n : Nat) : (c.count p i n).pwr = c.pwr := rfl
@[simp] theorem Chip.count_thm (c : Chip) (p i n : Nat) : (c.count p i n).thm = c.thm := rfl
@[simp] theorem Chip.count_kpr (c : Chip) (p i n : Nat) : (c.count p i n).kpr = c.kpr := rfl
@[simp] theorem Chip.count_chk (c : Chip) (p i n : Nat) : (c.count p i n).chk = c.chk := rfl
@[simp] theorem Chip.count_fresh (c : Chip) (p i n : Nat) : (c.count p i n).fresh = c.fresh := rfl
@[simp] theorem Chip.count_out (c : Chip) (p i n : Nat) : (c.count p i n).out = c.out := rfl
@[simp] theorem Chip.count_badMem (c : Chip) (p i n : Nat) : (c.count p i n).badMem = c.badMem := rfl
@[simp] theorem Chip.count_regs_locked (c : Chip) (p i n : Nat) : (c.count p i n).regs.locked = c.regs.locked := rfl
@[simp] theorem Chip.count_regs_active (c : Chip) (p i n : Nat) : (c.count p i n).regs.active = c.regs.active := rfl
@[simp] theorem Chip.count_regs_dirty (c : Chip) (p i n : Nat) : (c.count p i n).regs.dirty = c.regs.dirty := rfl
@[simp] theorem Chip.count_regs_waiting (c : Chip) (p i n : Nat) : (c.count p i n).regs.waiting = c.regs.waiting := rfl
@[simp] theorem Chip.count_regs_badParity (c : Chip) (p i n : Nat) : (c.count p i n).regs.badParity = c.regs.badParity := rfl
@[simp] theorem Chip.count_regs_inReset (c : Chip) (p i n : Nat) : (c.count p i n).regs.inReset = c.regs.inReset := rfl
@[simp] theorem Chip.count_regs_rejectNow (c : Chip) (p i n : Nat) : (c.count p i n).regs.rejectNow = c.regs.rejectNow := rfl
@[simp] theorem Chip.count_regs_rejected (c : Chip) (p i n : Nat) : (c.count p i n).regs.rejected = c.regs.rejected := rfl
@[simp] theorem Chip.aw_count' (c : Chip) (p i n : Nat) (j : Nat) : (c.count p i n).aw j = c.aw j := rfl
@[simp] theorem Chip.lw_count' (c : Chip) (p i n : Nat) (j : Nat) : (c.count p i n).lw j = c.lw j := rfl
@[simp] theorem Chip.act_count' (c : Chip) (p i n : Nat) (g : Fld) : (c.count p i n).act g = c.act g := rfl
@[simp] theorem Chip.count_blockOn (c : Chip) (p i n : Nat) (x : Nat) : (c.count p i n).blockOn x = c.blockOn x := rfl

@[simp] theorem Chip.statusBit_variant (c : Chip) (p i : Nat) (b : Bool) : (c.statusBit p i b).variant = c.variant := rfl
@[simp] theorem Chip.statusBit_ladder (c : Chip) (p i : Nat) (b : Bool) : (c.statusBit p i b).ladder = c.ladder := rfl
@[simp] theorem Chip.statusBit_resp (c : Chip) (p i : Nat) (b : Bool) : (c.statusBit p i b).resp = c.resp := rfl
@[simp] theorem Chip.statusBit_log (c : Chip) (p i : Nat) (b : Bool) : (c.statusBit p i b).log = c.log := rfl
@[simp] theorem Chip.statusBit_host0 (c : Chip) (p i : Nat) (b : Bool) : (c.statusBit p i b).host0 = c.host0 := rfl
@[simp] theorem Chip.statusBit_host1 (c : Chip) (p i : Nat) (b : Bool) : (c.statusBit p i b).host1 = c.host1 := rfl
@[simp] theorem Chip.statusBit_mode (c : Chip) (p i : Nat) (b : Bool) : (c.statusBit p i b).mode = c.mode := rfl
@[simp] theorem Chip.statusBit_blocksOn (c : Chip) (p i : Nat) (b : Bool) : (c.statusBit p i b).blocksOn = c.blocksOn := rfl
@[simp] theorem Chip.statusBit_tick (c : Chip) (p i : Nat) (b : Bool) : (c.statusBit p i b).tick = c.tick := rfl
@[simp] theorem Chip.statusBit_clock (c : Chip) (p i : Nat) (b : Bool) : (c.statusBit p i b).clock = c.clock := rfl
@[simp] theorem Chip.statusBit_ring (c : Chip) (p i : Nat) (b : Bool) : (c.statusBit p i b).ring = c.ring := rfl
@[simp] theorem Chip.statusBit_cdc (c : Chip) (p i : Nat) (b : Bool) : (c.statusBit p i b).cdc = c.cdc := rfl
@[simp] theorem Chip.statusBit_ray (c : Chip) (p i : Nat) (b : Bool) : (c.statusBit p i b).ray = c.ray := rfl
@[simp] theorem Chip.statusBit_lens (c : Chip) (p i : Nat) (b : Bool) : (c.statusBit p i b).lens = c.lens := rfl
@[simp] theorem Chip.statusBit_fst (c : Chip) (p i : Nat) (b : Bool) : (c.statusBit p i b).fst = c.fst := rfl
@[simp] theorem Chip.statusBit_pcn (c : Chip) (p i : Nat) (b : Bool) : (c.statusBit p i b).pcn = c.pcn := rfl
@[simp] theorem Chip.statusBit_blt (c : Chip) (p i : Nat) (b : Bool) : (c.statusBit p i b).blt = c.blt := rfl
@[simp] theorem Chip.statusBit_scan (c : Chip) (p i : Nat) (b : Bool) : (c.statusBit p i b).scan = c.scan := rfl
@[simp] theorem Chip.statusBit_lanes (c : Chip) (p i : Nat) (b : Bool) : (c.statusBit p i b).lanes = c.lanes := rfl
@[simp] theorem Chip.statusBit_sec (c : Chip) (p i : Nat) (b : Bool) : (c.statusBit p i b).sec = c.sec := rfl
@[simp] theorem Chip.statusBit_dram (c : Chip) (p i : Nat) (b : Bool) : (c.statusBit p i b).dram = c.dram := rfl
@[simp] theorem Chip.statusBit_apl (c : Chip) (p i : Nat) (b : Bool) : (c.statusBit p i b).apl = c.apl := rfl
@[simp] theorem Chip.statusBit_hlk (c : Chip) (p i : Nat) (b : Bool) : (c.statusBit p i b).hlk = c.hlk := rfl
@[simp] theorem Chip.statusBit_modes (c : Chip) (p i : Nat) (b : Bool) : (c.statusBit p i b).modes = c.modes := rfl
@[simp] theorem Chip.statusBit_tlk (c : Chip) (p i : Nat) (b : Bool) : (c.statusBit p i b).tlk = c.tlk := rfl
@[simp] theorem Chip.statusBit_mbx (c : Chip) (p i : Nat) (b : Bool) : (c.statusBit p i b).mbx = c.mbx := rfl
@[simp] theorem Chip.statusBit_tim (c : Chip) (p i : Nat) (b : Bool) : (c.statusBit p i b).tim = c.tim := rfl
@[simp] theorem Chip.statusBit_cal (c : Chip) (p i : Nat) (b : Bool) : (c.statusBit p i b).cal = c.cal := rfl
@[simp] theorem Chip.statusBit_pwr (c : Chip) (p i : Nat) (b : Bool) : (c.statusBit p i b).pwr = c.pwr := rfl
@[simp] theorem Chip.statusBit_thm (c : Chip) (p i : Nat) (b : Bool) : (c.statusBit p i b).thm = c.thm := rfl
@[simp] theorem Chip.statusBit_kpr (c : Chip) (p i : Nat) (b : Bool) : (c.statusBit p i b).kpr = c.kpr := rfl
@[simp] theorem Chip.statusBit_chk (c : Chip) (p i : Nat) (b : Bool) : (c.statusBit p i b).chk = c.chk := rfl
@[simp] theorem Chip.statusBit_fresh (c : Chip) (p i : Nat) (b : Bool) : (c.statusBit p i b).fresh = c.fresh := rfl
@[simp] theorem Chip.statusBit_out (c : Chip) (p i : Nat) (b : Bool) : (c.statusBit p i b).out = c.out := rfl
@[simp] theorem Chip.statusBit_badMem (c : Chip) (p i : Nat) (b : Bool) : (c.statusBit p i b).badMem = c.badMem := rfl
@[simp] theorem Chip.statusBit_regs_locked (c : Chip) (p i : Nat) (b : Bool) : (c.statusBit p i b).regs.locked = c.regs.locked := rfl
@[simp] theorem Chip.statusBit_regs_active (c : Chip) (p i : Nat) (b : Bool) : (c.statusBit p i b).regs.active = c.regs.active := rfl
@[simp] theorem Chip.statusBit_regs_dirty (c : Chip) (p i : Nat) (b : Bool) : (c.statusBit p i b).regs.dirty = c.regs.dirty := rfl
@[simp] theorem Chip.statusBit_regs_waiting (c : Chip) (p i : Nat) (b : Bool) : (c.statusBit p i b).regs.waiting = c.regs.waiting := rfl
@[simp] theorem Chip.statusBit_regs_badParity (c : Chip) (p i : Nat) (b : Bool) : (c.statusBit p i b).regs.badParity = c.regs.badParity := rfl
@[simp] theorem Chip.statusBit_regs_inReset (c : Chip) (p i : Nat) (b : Bool) : (c.statusBit p i b).regs.inReset = c.regs.inReset := rfl
@[simp] theorem Chip.statusBit_regs_rejectNow (c : Chip) (p i : Nat) (b : Bool) : (c.statusBit p i b).regs.rejectNow = c.regs.rejectNow := rfl
@[simp] theorem Chip.statusBit_regs_rejected (c : Chip) (p i : Nat) (b : Bool) : (c.statusBit p i b).regs.rejected = c.regs.rejected := rfl
@[simp] theorem Chip.aw_statusBit' (c : Chip) (p i : Nat) (b : Bool) (j : Nat) : (c.statusBit p i b).aw j = c.aw j := rfl
@[simp] theorem Chip.lw_statusBit' (c : Chip) (p i : Nat) (b : Bool) (j : Nat) : (c.statusBit p i b).lw j = c.lw j := rfl
@[simp] theorem Chip.act_statusBit' (c : Chip) (p i : Nat) (b : Bool) (g : Fld) : (c.statusBit p i b).act g = c.act g := rfl
@[simp] theorem Chip.statusBit_blockOn (c : Chip) (p i : Nat) (b : Bool) (x : Nat) : (c.statusBit p i b).blockOn x = c.blockOn x := rfl

@[simp] theorem Chip.stage_variant (c : Chip) (f : Fld) (v : Nat) : (c.stage f v).variant = c.variant := rfl
@[simp] theorem Chip.stage_ladder (c : Chip) (f : Fld) (v : Nat) : (c.stage f v).ladder = c.ladder := rfl
@[simp] theorem Chip.stage_resp (c : Chip) (f : Fld) (v : Nat) : (c.stage f v).resp = c.resp := rfl
@[simp] theorem Chip.stage_log (c : Chip) (f : Fld) (v : Nat) : (c.stage f v).log = c.log := rfl
@[simp] theorem Chip.stage_host0 (c : Chip) (f : Fld) (v : Nat) : (c.stage f v).host0 = c.host0 := rfl
@[simp] theorem Chip.stage_host1 (c : Chip) (f : Fld) (v : Nat) : (c.stage f v).host1 = c.host1 := rfl
@[simp] theorem Chip.stage_mode (c : Chip) (f : Fld) (v : Nat) : (c.stage f v).mode = c.mode := rfl
@[simp] theorem Chip.stage_blocksOn (c : Chip) (f : Fld) (v : Nat) : (c.stage f v).blocksOn = c.blocksOn := rfl
@[simp] theorem Chip.stage_tick (c : Chip) (f : Fld) (v : Nat) : (c.stage f v).tick = c.tick := rfl
@[simp] theorem Chip.stage_clock (c : Chip) (f : Fld) (v : Nat) : (c.stage f v).clock = c.clock := rfl
@[simp] theorem Chip.stage_ring (c : Chip) (f : Fld) (v : Nat) : (c.stage f v).ring = c.ring := rfl
@[simp] theorem Chip.stage_cdc (c : Chip) (f : Fld) (v : Nat) : (c.stage f v).cdc = c.cdc := rfl
@[simp] theorem Chip.stage_ray (c : Chip) (f : Fld) (v : Nat) : (c.stage f v).ray = c.ray := rfl
@[simp] theorem Chip.stage_lens (c : Chip) (f : Fld) (v : Nat) : (c.stage f v).lens = c.lens := rfl
@[simp] theorem Chip.stage_fst (c : Chip) (f : Fld) (v : Nat) : (c.stage f v).fst = c.fst := rfl
@[simp] theorem Chip.stage_pcn (c : Chip) (f : Fld) (v : Nat) : (c.stage f v).pcn = c.pcn := rfl
@[simp] theorem Chip.stage_blt (c : Chip) (f : Fld) (v : Nat) : (c.stage f v).blt = c.blt := rfl
@[simp] theorem Chip.stage_scan (c : Chip) (f : Fld) (v : Nat) : (c.stage f v).scan = c.scan := rfl
@[simp] theorem Chip.stage_lanes (c : Chip) (f : Fld) (v : Nat) : (c.stage f v).lanes = c.lanes := rfl
@[simp] theorem Chip.stage_sec (c : Chip) (f : Fld) (v : Nat) : (c.stage f v).sec = c.sec := rfl
@[simp] theorem Chip.stage_dram (c : Chip) (f : Fld) (v : Nat) : (c.stage f v).dram = c.dram := rfl
@[simp] theorem Chip.stage_apl (c : Chip) (f : Fld) (v : Nat) : (c.stage f v).apl = c.apl := rfl
@[simp] theorem Chip.stage_hlk (c : Chip) (f : Fld) (v : Nat) : (c.stage f v).hlk = c.hlk := rfl
@[simp] theorem Chip.stage_modes (c : Chip) (f : Fld) (v : Nat) : (c.stage f v).modes = c.modes := rfl
@[simp] theorem Chip.stage_tlk (c : Chip) (f : Fld) (v : Nat) : (c.stage f v).tlk = c.tlk := rfl
@[simp] theorem Chip.stage_mbx (c : Chip) (f : Fld) (v : Nat) : (c.stage f v).mbx = c.mbx := rfl
@[simp] theorem Chip.stage_tim (c : Chip) (f : Fld) (v : Nat) : (c.stage f v).tim = c.tim := rfl
@[simp] theorem Chip.stage_cal (c : Chip) (f : Fld) (v : Nat) : (c.stage f v).cal = c.cal := rfl
@[simp] theorem Chip.stage_pwr (c : Chip) (f : Fld) (v : Nat) : (c.stage f v).pwr = c.pwr := rfl
@[simp] theorem Chip.stage_thm (c : Chip) (f : Fld) (v : Nat) : (c.stage f v).thm = c.thm := rfl
@[simp] theorem Chip.stage_kpr (c : Chip) (f : Fld) (v : Nat) : (c.stage f v).kpr = c.kpr := rfl
@[simp] theorem Chip.stage_chk (c : Chip) (f : Fld) (v : Nat) : (c.stage f v).chk = c.chk := rfl
@[simp] theorem Chip.stage_fresh (c : Chip) (f : Fld) (v : Nat) : (c.stage f v).fresh = c.fresh := rfl
@[simp] theorem Chip.stage_out (c : Chip) (f : Fld) (v : Nat) : (c.stage f v).out = c.out := rfl
@[simp] theorem Chip.stage_badMem (c : Chip) (f : Fld) (v : Nat) : (c.stage f v).badMem = c.badMem := rfl
@[simp] theorem Chip.stage_blockOn (c : Chip) (f : Fld) (v : Nat) (x : Nat) : (c.stage f v).blockOn x = c.blockOn x := rfl

@[simp] theorem Chip.drew_variant (c : Chip) : (c.drew).variant = c.variant := rfl
@[simp] theorem Chip.drew_regs (c : Chip) : (c.drew).regs = c.regs := rfl
@[simp] theorem Chip.drew_ladder (c : Chip) : (c.drew).ladder = c.ladder := rfl
@[simp] theorem Chip.drew_resp (c : Chip) : (c.drew).resp = c.resp := rfl
@[simp] theorem Chip.drew_log (c : Chip) : (c.drew).log = c.log := rfl
@[simp] theorem Chip.drew_host0 (c : Chip) : (c.drew).host0 = c.host0 := rfl
@[simp] theorem Chip.drew_host1 (c : Chip) : (c.drew).host1 = c.host1 := rfl
@[simp] theorem Chip.drew_mode (c : Chip) : (c.drew).mode = c.mode := rfl
@[simp] theorem Chip.drew_blocksOn (c : Chip) : (c.drew).blocksOn = c.blocksOn := rfl
@[simp] theorem Chip.drew_tick (c : Chip) : (c.drew).tick = c.tick := rfl
@[simp] theorem Chip.drew_clock (c : Chip) : (c.drew).clock = c.clock := rfl
@[simp] theorem Chip.drew_ring (c : Chip) : (c.drew).ring = c.ring := rfl
@[simp] theorem Chip.drew_cdc (c : Chip) : (c.drew).cdc = c.cdc := rfl
@[simp] theorem Chip.drew_ray (c : Chip) : (c.drew).ray = c.ray := rfl
@[simp] theorem Chip.drew_lens (c : Chip) : (c.drew).lens = c.lens := rfl
@[simp] theorem Chip.drew_fst (c : Chip) : (c.drew).fst = c.fst := rfl
@[simp] theorem Chip.drew_pcn (c : Chip) : (c.drew).pcn = c.pcn := rfl
@[simp] theorem Chip.drew_blt (c : Chip) : (c.drew).blt = c.blt := rfl
@[simp] theorem Chip.drew_scan (c : Chip) : (c.drew).scan = c.scan := rfl
@[simp] theorem Chip.drew_lanes (c : Chip) : (c.drew).lanes = c.lanes := rfl
@[simp] theorem Chip.drew_sec (c : Chip) : (c.drew).sec = c.sec := rfl
@[simp] theorem Chip.drew_dram (c : Chip) : (c.drew).dram = c.dram := rfl
@[simp] theorem Chip.drew_apl (c : Chip) : (c.drew).apl = c.apl := rfl
@[simp] theorem Chip.drew_hlk (c : Chip) : (c.drew).hlk = c.hlk := rfl
@[simp] theorem Chip.drew_modes (c : Chip) : (c.drew).modes = c.modes := rfl
@[simp] theorem Chip.drew_tlk (c : Chip) : (c.drew).tlk = c.tlk := rfl
@[simp] theorem Chip.drew_mbx (c : Chip) : (c.drew).mbx = c.mbx := rfl
@[simp] theorem Chip.drew_tim (c : Chip) : (c.drew).tim = c.tim := rfl
@[simp] theorem Chip.drew_cal (c : Chip) : (c.drew).cal = c.cal := rfl
@[simp] theorem Chip.drew_pwr (c : Chip) : (c.drew).pwr = c.pwr := rfl
@[simp] theorem Chip.drew_thm (c : Chip) : (c.drew).thm = c.thm := rfl
@[simp] theorem Chip.drew_kpr (c : Chip) : (c.drew).kpr = c.kpr := rfl
@[simp] theorem Chip.drew_chk (c : Chip) : (c.drew).chk = c.chk := rfl
@[simp] theorem Chip.drew_out (c : Chip) : (c.drew).out = c.out := rfl
@[simp] theorem Chip.drew_badMem (c : Chip) : (c.drew).badMem = c.badMem := rfl
@[simp] theorem Chip.drew_blockOn (c : Chip) (x : Nat) : (c.drew).blockOn x = c.blockOn x := rfl

@[simp] theorem Chip.store_variant (c : Chip) (a : Nat) (b : Byte) : (c.store a b).variant = c.variant := rfl
@[simp] theorem Chip.store_regs (c : Chip) (a : Nat) (b : Byte) : (c.store a b).regs = c.regs := rfl
@[simp] theorem Chip.store_ladder (c : Chip) (a : Nat) (b : Byte) : (c.store a b).ladder = c.ladder := rfl
@[simp] theorem Chip.store_resp (c : Chip) (a : Nat) (b : Byte) : (c.store a b).resp = c.resp := rfl
@[simp] theorem Chip.store_log (c : Chip) (a : Nat) (b : Byte) : (c.store a b).log = c.log := rfl
@[simp] theorem Chip.store_host0 (c : Chip) (a : Nat) (b : Byte) : (c.store a b).host0 = c.host0 := rfl
@[simp] theorem Chip.store_host1 (c : Chip) (a : Nat) (b : Byte) : (c.store a b).host1 = c.host1 := rfl
@[simp] theorem Chip.store_mode (c : Chip) (a : Nat) (b : Byte) : (c.store a b).mode = c.mode := rfl
@[simp] theorem Chip.store_blocksOn (c : Chip) (a : Nat) (b : Byte) : (c.store a b).blocksOn = c.blocksOn := rfl
@[simp] theorem Chip.store_tick (c : Chip) (a : Nat) (b : Byte) : (c.store a b).tick = c.tick := rfl
@[simp] theorem Chip.store_clock (c : Chip) (a : Nat) (b : Byte) : (c.store a b).clock = c.clock := rfl
@[simp] theorem Chip.store_ring (c : Chip) (a : Nat) (b : Byte) : (c.store a b).ring = c.ring := rfl
@[simp] theorem Chip.store_cdc (c : Chip) (a : Nat) (b : Byte) : (c.store a b).cdc = c.cdc := rfl
@[simp] theorem Chip.store_ray (c : Chip) (a : Nat) (b : Byte) : (c.store a b).ray = c.ray := rfl
@[simp] theorem Chip.store_lens (c : Chip) (a : Nat) (b : Byte) : (c.store a b).lens = c.lens := rfl
@[simp] theorem Chip.store_fst (c : Chip) (a : Nat) (b : Byte) : (c.store a b).fst = c.fst := rfl
@[simp] theorem Chip.store_pcn (c : Chip) (a : Nat) (b : Byte) : (c.store a b).pcn = c.pcn := rfl
@[simp] theorem Chip.store_blt (c : Chip) (a : Nat) (b : Byte) : (c.store a b).blt = c.blt := rfl
@[simp] theorem Chip.store_scan (c : Chip) (a : Nat) (b : Byte) : (c.store a b).scan = c.scan := rfl
@[simp] theorem Chip.store_lanes (c : Chip) (a : Nat) (b : Byte) : (c.store a b).lanes = c.lanes := rfl
@[simp] theorem Chip.store_sec (c : Chip) (a : Nat) (b : Byte) : (c.store a b).sec = c.sec := rfl
@[simp] theorem Chip.store_dram (c : Chip) (a : Nat) (b : Byte) : (c.store a b).dram = c.dram := rfl
@[simp] theorem Chip.store_apl (c : Chip) (a : Nat) (b : Byte) : (c.store a b).apl = c.apl := rfl
@[simp] theorem Chip.store_hlk (c : Chip) (a : Nat) (b : Byte) : (c.store a b).hlk = c.hlk := rfl
@[simp] theorem Chip.store_modes (c : Chip) (a : Nat) (b : Byte) : (c.store a b).modes = c.modes := rfl
@[simp] theorem Chip.store_tlk (c : Chip) (a : Nat) (b : Byte) : (c.store a b).tlk = c.tlk := rfl
@[simp] theorem Chip.store_mbx (c : Chip) (a : Nat) (b : Byte) : (c.store a b).mbx = c.mbx := rfl
@[simp] theorem Chip.store_tim (c : Chip) (a : Nat) (b : Byte) : (c.store a b).tim = c.tim := rfl
@[simp] theorem Chip.store_cal (c : Chip) (a : Nat) (b : Byte) : (c.store a b).cal = c.cal := rfl
@[simp] theorem Chip.store_pwr (c : Chip) (a : Nat) (b : Byte) : (c.store a b).pwr = c.pwr := rfl
@[simp] theorem Chip.store_thm (c : Chip) (a : Nat) (b : Byte) : (c.store a b).thm = c.thm := rfl
@[simp] theorem Chip.store_kpr (c : Chip) (a : Nat) (b : Byte) : (c.store a b).kpr = c.kpr := rfl
@[simp] theorem Chip.store_chk (c : Chip) (a : Nat) (b : Byte) : (c.store a b).chk = c.chk := rfl
@[simp] theorem Chip.store_fresh (c : Chip) (a : Nat) (b : Byte) : (c.store a b).fresh = c.fresh := rfl
@[simp] theorem Chip.store_blockOn (c : Chip) (a : Nat) (b : Byte) (x : Nat) : (c.store a b).blockOn x = c.blockOn x := rfl

@[simp] theorem Chip.fillMem_variant (c : Chip) (f : MemFill) : (c.fillMem f).variant = c.variant := rfl
@[simp] theorem Chip.fillMem_regs (c : Chip) (f : MemFill) : (c.fillMem f).regs = c.regs := rfl
@[simp] theorem Chip.fillMem_ladder (c : Chip) (f : MemFill) : (c.fillMem f).ladder = c.ladder := rfl
@[simp] theorem Chip.fillMem_resp (c : Chip) (f : MemFill) : (c.fillMem f).resp = c.resp := rfl
@[simp] theorem Chip.fillMem_log (c : Chip) (f : MemFill) : (c.fillMem f).log = c.log := rfl
@[simp] theorem Chip.fillMem_host0 (c : Chip) (f : MemFill) : (c.fillMem f).host0 = c.host0 := rfl
@[simp] theorem Chip.fillMem_host1 (c : Chip) (f : MemFill) : (c.fillMem f).host1 = c.host1 := rfl
@[simp] theorem Chip.fillMem_mode (c : Chip) (f : MemFill) : (c.fillMem f).mode = c.mode := rfl
@[simp] theorem Chip.fillMem_blocksOn (c : Chip) (f : MemFill) : (c.fillMem f).blocksOn = c.blocksOn := rfl
@[simp] theorem Chip.fillMem_tick (c : Chip) (f : MemFill) : (c.fillMem f).tick = c.tick := rfl
@[simp] theorem Chip.fillMem_clock (c : Chip) (f : MemFill) : (c.fillMem f).clock = c.clock := rfl
@[simp] theorem Chip.fillMem_ring (c : Chip) (f : MemFill) : (c.fillMem f).ring = c.ring := rfl
@[simp] theorem Chip.fillMem_cdc (c : Chip) (f : MemFill) : (c.fillMem f).cdc = c.cdc := rfl
@[simp] theorem Chip.fillMem_ray (c : Chip) (f : MemFill) : (c.fillMem f).ray = c.ray := rfl
@[simp] theorem Chip.fillMem_lens (c : Chip) (f : MemFill) : (c.fillMem f).lens = c.lens := rfl
@[simp] theorem Chip.fillMem_fst (c : Chip) (f : MemFill) : (c.fillMem f).fst = c.fst := rfl
@[simp] theorem Chip.fillMem_pcn (c : Chip) (f : MemFill) : (c.fillMem f).pcn = c.pcn := rfl
@[simp] theorem Chip.fillMem_blt (c : Chip) (f : MemFill) : (c.fillMem f).blt = c.blt := rfl
@[simp] theorem Chip.fillMem_scan (c : Chip) (f : MemFill) : (c.fillMem f).scan = c.scan := rfl
@[simp] theorem Chip.fillMem_lanes (c : Chip) (f : MemFill) : (c.fillMem f).lanes = c.lanes := rfl
@[simp] theorem Chip.fillMem_sec (c : Chip) (f : MemFill) : (c.fillMem f).sec = c.sec := rfl
@[simp] theorem Chip.fillMem_dram (c : Chip) (f : MemFill) : (c.fillMem f).dram = c.dram := rfl
@[simp] theorem Chip.fillMem_apl (c : Chip) (f : MemFill) : (c.fillMem f).apl = c.apl := rfl
@[simp] theorem Chip.fillMem_hlk (c : Chip) (f : MemFill) : (c.fillMem f).hlk = c.hlk := rfl
@[simp] theorem Chip.fillMem_modes (c : Chip) (f : MemFill) : (c.fillMem f).modes = c.modes := rfl
@[simp] theorem Chip.fillMem_tlk (c : Chip) (f : MemFill) : (c.fillMem f).tlk = c.tlk := rfl
@[simp] theorem Chip.fillMem_mbx (c : Chip) (f : MemFill) : (c.fillMem f).mbx = c.mbx := rfl
@[simp] theorem Chip.fillMem_tim (c : Chip) (f : MemFill) : (c.fillMem f).tim = c.tim := rfl
@[simp] theorem Chip.fillMem_cal (c : Chip) (f : MemFill) : (c.fillMem f).cal = c.cal := rfl
@[simp] theorem Chip.fillMem_pwr (c : Chip) (f : MemFill) : (c.fillMem f).pwr = c.pwr := rfl
@[simp] theorem Chip.fillMem_thm (c : Chip) (f : MemFill) : (c.fillMem f).thm = c.thm := rfl
@[simp] theorem Chip.fillMem_kpr (c : Chip) (f : MemFill) : (c.fillMem f).kpr = c.kpr := rfl
@[simp] theorem Chip.fillMem_chk (c : Chip) (f : MemFill) : (c.fillMem f).chk = c.chk := rfl
@[simp] theorem Chip.fillMem_fresh (c : Chip) (f : MemFill) : (c.fillMem f).fresh = c.fresh := rfl
@[simp] theorem Chip.fillMem_blockOn (c : Chip) (f : MemFill) (x : Nat) : (c.fillMem f).blockOn x = c.blockOn x := rfl

@[simp] theorem Chip.aplUp_apl (c : Chip) (f : Apl → Apl) : (c.aplUp f).apl = f c.apl := rfl
@[simp] theorem Chip.aplUp_variant (c : Chip) (f : Apl → Apl) : (c.aplUp f).variant = c.variant := rfl
@[simp] theorem Chip.aplUp_regs (c : Chip) (f : Apl → Apl) : (c.aplUp f).regs = c.regs := rfl
@[simp] theorem Chip.aplUp_ladder (c : Chip) (f : Apl → Apl) : (c.aplUp f).ladder = c.ladder := rfl
@[simp] theorem Chip.aplUp_resp (c : Chip) (f : Apl → Apl) : (c.aplUp f).resp = c.resp := rfl
@[simp] theorem Chip.aplUp_log (c : Chip) (f : Apl → Apl) : (c.aplUp f).log = c.log := rfl
@[simp] theorem Chip.aplUp_host0 (c : Chip) (f : Apl → Apl) : (c.aplUp f).host0 = c.host0 := rfl
@[simp] theorem Chip.aplUp_host1 (c : Chip) (f : Apl → Apl) : (c.aplUp f).host1 = c.host1 := rfl
@[simp] theorem Chip.aplUp_mode (c : Chip) (f : Apl → Apl) : (c.aplUp f).mode = c.mode := rfl
@[simp] theorem Chip.aplUp_blocksOn (c : Chip) (f : Apl → Apl) : (c.aplUp f).blocksOn = c.blocksOn := rfl
@[simp] theorem Chip.aplUp_tick (c : Chip) (f : Apl → Apl) : (c.aplUp f).tick = c.tick := rfl
@[simp] theorem Chip.aplUp_clock (c : Chip) (f : Apl → Apl) : (c.aplUp f).clock = c.clock := rfl
@[simp] theorem Chip.aplUp_ring (c : Chip) (f : Apl → Apl) : (c.aplUp f).ring = c.ring := rfl
@[simp] theorem Chip.aplUp_cdc (c : Chip) (f : Apl → Apl) : (c.aplUp f).cdc = c.cdc := rfl
@[simp] theorem Chip.aplUp_ray (c : Chip) (f : Apl → Apl) : (c.aplUp f).ray = c.ray := rfl
@[simp] theorem Chip.aplUp_lens (c : Chip) (f : Apl → Apl) : (c.aplUp f).lens = c.lens := rfl
@[simp] theorem Chip.aplUp_fst (c : Chip) (f : Apl → Apl) : (c.aplUp f).fst = c.fst := rfl
@[simp] theorem Chip.aplUp_pcn (c : Chip) (f : Apl → Apl) : (c.aplUp f).pcn = c.pcn := rfl
@[simp] theorem Chip.aplUp_blt (c : Chip) (f : Apl → Apl) : (c.aplUp f).blt = c.blt := rfl
@[simp] theorem Chip.aplUp_scan (c : Chip) (f : Apl → Apl) : (c.aplUp f).scan = c.scan := rfl
@[simp] theorem Chip.aplUp_lanes (c : Chip) (f : Apl → Apl) : (c.aplUp f).lanes = c.lanes := rfl
@[simp] theorem Chip.aplUp_sec (c : Chip) (f : Apl → Apl) : (c.aplUp f).sec = c.sec := rfl
@[simp] theorem Chip.aplUp_dram (c : Chip) (f : Apl → Apl) : (c.aplUp f).dram = c.dram := rfl
@[simp] theorem Chip.aplUp_hlk (c : Chip) (f : Apl → Apl) : (c.aplUp f).hlk = c.hlk := rfl
@[simp] theorem Chip.aplUp_modes (c : Chip) (f : Apl → Apl) : (c.aplUp f).modes = c.modes := rfl
@[simp] theorem Chip.aplUp_tlk (c : Chip) (f : Apl → Apl) : (c.aplUp f).tlk = c.tlk := rfl
@[simp] theorem Chip.aplUp_mbx (c : Chip) (f : Apl → Apl) : (c.aplUp f).mbx = c.mbx := rfl
@[simp] theorem Chip.aplUp_tim (c : Chip) (f : Apl → Apl) : (c.aplUp f).tim = c.tim := rfl
@[simp] theorem Chip.aplUp_cal (c : Chip) (f : Apl → Apl) : (c.aplUp f).cal = c.cal := rfl
@[simp] theorem Chip.aplUp_pwr (c : Chip) (f : Apl → Apl) : (c.aplUp f).pwr = c.pwr := rfl
@[simp] theorem Chip.aplUp_thm (c : Chip) (f : Apl → Apl) : (c.aplUp f).thm = c.thm := rfl
@[simp] theorem Chip.aplUp_kpr (c : Chip) (f : Apl → Apl) : (c.aplUp f).kpr = c.kpr := rfl
@[simp] theorem Chip.aplUp_chk (c : Chip) (f : Apl → Apl) : (c.aplUp f).chk = c.chk := rfl
@[simp] theorem Chip.aplUp_fresh (c : Chip) (f : Apl → Apl) : (c.aplUp f).fresh = c.fresh := rfl
@[simp] theorem Chip.aplUp_out (c : Chip) (f : Apl → Apl) : (c.aplUp f).out = c.out := rfl
@[simp] theorem Chip.aplUp_badMem (c : Chip) (f : Apl → Apl) : (c.aplUp f).badMem = c.badMem := rfl
@[simp] theorem Chip.aplUp_w (c : Chip) (f : Apl → Apl) (x : Nat) : (c.aplUp f).w x = c.w x := rfl
@[simp] theorem Chip.aplUp_aw (c : Chip) (f : Apl → Apl) (x : Nat) : (c.aplUp f).aw x = c.aw x := rfl
@[simp] theorem Chip.aplUp_lw (c : Chip) (f : Apl → Apl) (x : Nat) : (c.aplUp f).lw x = c.lw x := rfl
@[simp] theorem Chip.aplUp_get (c : Chip) (f : Apl → Apl) (x : Fld) : (c.aplUp f).get x = c.get x := rfl
@[simp] theorem Chip.aplUp_is (c : Chip) (f : Apl → Apl) (x : Fld) : (c.aplUp f).is x = c.is x := rfl
@[simp] theorem Chip.aplUp_act (c : Chip) (f : Apl → Apl) (x : Fld) : (c.aplUp f).act x = c.act x := rfl
@[simp] theorem Chip.aplUp_on (c : Chip) (f : Apl → Apl) (x : Fld) : (c.aplUp f).on x = c.on x := rfl
@[simp] theorem Chip.aplUp_lck (c : Chip) (f : Apl → Apl) (x : Fld) : (c.aplUp f).lck x = c.lck x := rfl
@[simp] theorem Chip.aplUp_blockOn (c : Chip) (f : Apl → Apl) (x : Nat) : (c.aplUp f).blockOn x = c.blockOn x := rfl

@[simp] theorem Chip.calUp_cal (c : Chip) (f : Cal → Cal) : (c.calUp f).cal = f c.cal := rfl
@[simp] theorem Chip.calUp_variant (c : Chip) (f : Cal → Cal) : (c.calUp f).variant = c.variant := rfl
@[simp] theorem Chip.calUp_regs (c : Chip) (f : Cal → Cal) : (c.calUp f).regs = c.regs := rfl
@[simp] theorem Chip.calUp_ladder (c : Chip) (f : Cal → Cal) : (c.calUp f).ladder = c.ladder := rfl
@[simp] theorem Chip.calUp_resp (c : Chip) (f : Cal → Cal) : (c.calUp f).resp = c.resp := rfl
@[simp] theorem Chip.calUp_log (c : Chip) (f : Cal → Cal) : (c.calUp f).log = c.log := rfl
@[simp] theorem Chip.calUp_host0 (c : Chip) (f : Cal → Cal) : (c.calUp f).host0 = c.host0 := rfl
@[simp] theorem Chip.calUp_host1 (c : Chip) (f : Cal → Cal) : (c.calUp f).host1 = c.host1 := rfl
@[simp] theorem Chip.calUp_mode (c : Chip) (f : Cal → Cal) : (c.calUp f).mode = c.mode := rfl
@[simp] theorem Chip.calUp_blocksOn (c : Chip) (f : Cal → Cal) : (c.calUp f).blocksOn = c.blocksOn := rfl
@[simp] theorem Chip.calUp_tick (c : Chip) (f : Cal → Cal) : (c.calUp f).tick = c.tick := rfl
@[simp] theorem Chip.calUp_clock (c : Chip) (f : Cal → Cal) : (c.calUp f).clock = c.clock := rfl
@[simp] theorem Chip.calUp_ring (c : Chip) (f : Cal → Cal) : (c.calUp f).ring = c.ring := rfl
@[simp] theorem Chip.calUp_cdc (c : Chip) (f : Cal → Cal) : (c.calUp f).cdc = c.cdc := rfl
@[simp] theorem Chip.calUp_ray (c : Chip) (f : Cal → Cal) : (c.calUp f).ray = c.ray := rfl
@[simp] theorem Chip.calUp_lens (c : Chip) (f : Cal → Cal) : (c.calUp f).lens = c.lens := rfl
@[simp] theorem Chip.calUp_fst (c : Chip) (f : Cal → Cal) : (c.calUp f).fst = c.fst := rfl
@[simp] theorem Chip.calUp_pcn (c : Chip) (f : Cal → Cal) : (c.calUp f).pcn = c.pcn := rfl
@[simp] theorem Chip.calUp_blt (c : Chip) (f : Cal → Cal) : (c.calUp f).blt = c.blt := rfl
@[simp] theorem Chip.calUp_scan (c : Chip) (f : Cal → Cal) : (c.calUp f).scan = c.scan := rfl
@[simp] theorem Chip.calUp_lanes (c : Chip) (f : Cal → Cal) : (c.calUp f).lanes = c.lanes := rfl
@[simp] theorem Chip.calUp_sec (c : Chip) (f : Cal → Cal) : (c.calUp f).sec = c.sec := rfl
@[simp] theorem Chip.calUp_dram (c : Chip) (f : Cal → Cal) : (c.calUp f).dram = c.dram := rfl
@[simp] theorem Chip.calUp_apl (c : Chip) (f : Cal → Cal) : (c.calUp f).apl = c.apl := rfl
@[simp] theorem Chip.calUp_hlk (c : Chip) (f : Cal → Cal) : (c.calUp f).hlk = c.hlk := rfl
@[simp] theorem Chip.calUp_modes (c : Chip) (f : Cal → Cal) : (c.calUp f).modes = c.modes := rfl
@[simp] theorem Chip.calUp_tlk (c : Chip) (f : Cal → Cal) : (c.calUp f).tlk = c.tlk := rfl
@[simp] theorem Chip.calUp_mbx (c : Chip) (f : Cal → Cal) : (c.calUp f).mbx = c.mbx := rfl
@[simp] theorem Chip.calUp_tim (c : Chip) (f : Cal → Cal) : (c.calUp f).tim = c.tim := rfl
@[simp] theorem Chip.calUp_pwr (c : Chip) (f : Cal → Cal) : (c.calUp f).pwr = c.pwr := rfl
@[simp] theorem Chip.calUp_thm (c : Chip) (f : Cal → Cal) : (c.calUp f).thm = c.thm := rfl
@[simp] theorem Chip.calUp_kpr (c : Chip) (f : Cal → Cal) : (c.calUp f).kpr = c.kpr := rfl
@[simp] theorem Chip.calUp_chk (c : Chip) (f : Cal → Cal) : (c.calUp f).chk = c.chk := rfl
@[simp] theorem Chip.calUp_fresh (c : Chip) (f : Cal → Cal) : (c.calUp f).fresh = c.fresh := rfl
@[simp] theorem Chip.calUp_out (c : Chip) (f : Cal → Cal) : (c.calUp f).out = c.out := rfl
@[simp] theorem Chip.calUp_badMem (c : Chip) (f : Cal → Cal) : (c.calUp f).badMem = c.badMem := rfl
@[simp] theorem Chip.calUp_w (c : Chip) (f : Cal → Cal) (x : Nat) : (c.calUp f).w x = c.w x := rfl
@[simp] theorem Chip.calUp_aw (c : Chip) (f : Cal → Cal) (x : Nat) : (c.calUp f).aw x = c.aw x := rfl
@[simp] theorem Chip.calUp_lw (c : Chip) (f : Cal → Cal) (x : Nat) : (c.calUp f).lw x = c.lw x := rfl
@[simp] theorem Chip.calUp_get (c : Chip) (f : Cal → Cal) (x : Fld) : (c.calUp f).get x = c.get x := rfl
@[simp] theorem Chip.calUp_is (c : Chip) (f : Cal → Cal) (x : Fld) : (c.calUp f).is x = c.is x := rfl
@[simp] theorem Chip.calUp_act (c : Chip) (f : Cal → Cal) (x : Fld) : (c.calUp f).act x = c.act x := rfl
@[simp] theorem Chip.calUp_on (c : Chip) (f : Cal → Cal) (x : Fld) : (c.calUp f).on x = c.on x := rfl
@[simp] theorem Chip.calUp_lck (c : Chip) (f : Cal → Cal) (x : Fld) : (c.calUp f).lck x = c.lck x := rfl
@[simp] theorem Chip.calUp_blockOn (c : Chip) (f : Cal → Cal) (x : Nat) : (c.calUp f).blockOn x = c.blockOn x := rfl

@[simp] theorem Chip.hlkUp_hlk (c : Chip) (f : Hlk → Hlk) : (c.hlkUp f).hlk = f c.hlk := rfl
@[simp] theorem Chip.hlkUp_variant (c : Chip) (f : Hlk → Hlk) : (c.hlkUp f).variant = c.variant := rfl
@[simp] theorem Chip.hlkUp_regs (c : Chip) (f : Hlk → Hlk) : (c.hlkUp f).regs = c.regs := rfl
@[simp] theorem Chip.hlkUp_ladder (c : Chip) (f : Hlk → Hlk) : (c.hlkUp f).ladder = c.ladder := rfl
@[simp] theorem Chip.hlkUp_resp (c : Chip) (f : Hlk → Hlk) : (c.hlkUp f).resp = c.resp := rfl
@[simp] theorem Chip.hlkUp_log (c : Chip) (f : Hlk → Hlk) : (c.hlkUp f).log = c.log := rfl
@[simp] theorem Chip.hlkUp_host0 (c : Chip) (f : Hlk → Hlk) : (c.hlkUp f).host0 = c.host0 := rfl
@[simp] theorem Chip.hlkUp_host1 (c : Chip) (f : Hlk → Hlk) : (c.hlkUp f).host1 = c.host1 := rfl
@[simp] theorem Chip.hlkUp_mode (c : Chip) (f : Hlk → Hlk) : (c.hlkUp f).mode = c.mode := rfl
@[simp] theorem Chip.hlkUp_blocksOn (c : Chip) (f : Hlk → Hlk) : (c.hlkUp f).blocksOn = c.blocksOn := rfl
@[simp] theorem Chip.hlkUp_tick (c : Chip) (f : Hlk → Hlk) : (c.hlkUp f).tick = c.tick := rfl
@[simp] theorem Chip.hlkUp_clock (c : Chip) (f : Hlk → Hlk) : (c.hlkUp f).clock = c.clock := rfl
@[simp] theorem Chip.hlkUp_ring (c : Chip) (f : Hlk → Hlk) : (c.hlkUp f).ring = c.ring := rfl
@[simp] theorem Chip.hlkUp_cdc (c : Chip) (f : Hlk → Hlk) : (c.hlkUp f).cdc = c.cdc := rfl
@[simp] theorem Chip.hlkUp_ray (c : Chip) (f : Hlk → Hlk) : (c.hlkUp f).ray = c.ray := rfl
@[simp] theorem Chip.hlkUp_lens (c : Chip) (f : Hlk → Hlk) : (c.hlkUp f).lens = c.lens := rfl
@[simp] theorem Chip.hlkUp_fst (c : Chip) (f : Hlk → Hlk) : (c.hlkUp f).fst = c.fst := rfl
@[simp] theorem Chip.hlkUp_pcn (c : Chip) (f : Hlk → Hlk) : (c.hlkUp f).pcn = c.pcn := rfl
@[simp] theorem Chip.hlkUp_blt (c : Chip) (f : Hlk → Hlk) : (c.hlkUp f).blt = c.blt := rfl
@[simp] theorem Chip.hlkUp_scan (c : Chip) (f : Hlk → Hlk) : (c.hlkUp f).scan = c.scan := rfl
@[simp] theorem Chip.hlkUp_lanes (c : Chip) (f : Hlk → Hlk) : (c.hlkUp f).lanes = c.lanes := rfl
@[simp] theorem Chip.hlkUp_sec (c : Chip) (f : Hlk → Hlk) : (c.hlkUp f).sec = c.sec := rfl
@[simp] theorem Chip.hlkUp_dram (c : Chip) (f : Hlk → Hlk) : (c.hlkUp f).dram = c.dram := rfl
@[simp] theorem Chip.hlkUp_apl (c : Chip) (f : Hlk → Hlk) : (c.hlkUp f).apl = c.apl := rfl
@[simp] theorem Chip.hlkUp_modes (c : Chip) (f : Hlk → Hlk) : (c.hlkUp f).modes = c.modes := rfl
@[simp] theorem Chip.hlkUp_tlk (c : Chip) (f : Hlk → Hlk) : (c.hlkUp f).tlk = c.tlk := rfl
@[simp] theorem Chip.hlkUp_mbx (c : Chip) (f : Hlk → Hlk) : (c.hlkUp f).mbx = c.mbx := rfl
@[simp] theorem Chip.hlkUp_tim (c : Chip) (f : Hlk → Hlk) : (c.hlkUp f).tim = c.tim := rfl
@[simp] theorem Chip.hlkUp_cal (c : Chip) (f : Hlk → Hlk) : (c.hlkUp f).cal = c.cal := rfl
@[simp] theorem Chip.hlkUp_pwr (c : Chip) (f : Hlk → Hlk) : (c.hlkUp f).pwr = c.pwr := rfl
@[simp] theorem Chip.hlkUp_thm (c : Chip) (f : Hlk → Hlk) : (c.hlkUp f).thm = c.thm := rfl
@[simp] theorem Chip.hlkUp_kpr (c : Chip) (f : Hlk → Hlk) : (c.hlkUp f).kpr = c.kpr := rfl
@[simp] theorem Chip.hlkUp_chk (c : Chip) (f : Hlk → Hlk) : (c.hlkUp f).chk = c.chk := rfl
@[simp] theorem Chip.hlkUp_fresh (c : Chip) (f : Hlk → Hlk) : (c.hlkUp f).fresh = c.fresh := rfl
@[simp] theorem Chip.hlkUp_out (c : Chip) (f : Hlk → Hlk) : (c.hlkUp f).out = c.out := rfl
@[simp] theorem Chip.hlkUp_badMem (c : Chip) (f : Hlk → Hlk) : (c.hlkUp f).badMem = c.badMem := rfl
@[simp] theorem Chip.hlkUp_w (c : Chip) (f : Hlk → Hlk) (x : Nat) : (c.hlkUp f).w x = c.w x := rfl
@[simp] theorem Chip.hlkUp_aw (c : Chip) (f : Hlk → Hlk) (x : Nat) : (c.hlkUp f).aw x = c.aw x := rfl
@[simp] theorem Chip.hlkUp_lw (c : Chip) (f : Hlk → Hlk) (x : Nat) : (c.hlkUp f).lw x = c.lw x := rfl
@[simp] theorem Chip.hlkUp_get (c : Chip) (f : Hlk → Hlk) (x : Fld) : (c.hlkUp f).get x = c.get x := rfl
@[simp] theorem Chip.hlkUp_is (c : Chip) (f : Hlk → Hlk) (x : Fld) : (c.hlkUp f).is x = c.is x := rfl
@[simp] theorem Chip.hlkUp_act (c : Chip) (f : Hlk → Hlk) (x : Fld) : (c.hlkUp f).act x = c.act x := rfl
@[simp] theorem Chip.hlkUp_on (c : Chip) (f : Hlk → Hlk) (x : Fld) : (c.hlkUp f).on x = c.on x := rfl
@[simp] theorem Chip.hlkUp_lck (c : Chip) (f : Hlk → Hlk) (x : Fld) : (c.hlkUp f).lck x = c.lck x := rfl
@[simp] theorem Chip.hlkUp_blockOn (c : Chip) (f : Hlk → Hlk) (x : Nat) : (c.hlkUp f).blockOn x = c.blockOn x := rfl

@[simp] theorem Chip.mbxUp_mbx (c : Chip) (f : Mbx → Mbx) : (c.mbxUp f).mbx = f c.mbx := rfl
@[simp] theorem Chip.mbxUp_variant (c : Chip) (f : Mbx → Mbx) : (c.mbxUp f).variant = c.variant := rfl
@[simp] theorem Chip.mbxUp_regs (c : Chip) (f : Mbx → Mbx) : (c.mbxUp f).regs = c.regs := rfl
@[simp] theorem Chip.mbxUp_ladder (c : Chip) (f : Mbx → Mbx) : (c.mbxUp f).ladder = c.ladder := rfl
@[simp] theorem Chip.mbxUp_resp (c : Chip) (f : Mbx → Mbx) : (c.mbxUp f).resp = c.resp := rfl
@[simp] theorem Chip.mbxUp_log (c : Chip) (f : Mbx → Mbx) : (c.mbxUp f).log = c.log := rfl
@[simp] theorem Chip.mbxUp_host0 (c : Chip) (f : Mbx → Mbx) : (c.mbxUp f).host0 = c.host0 := rfl
@[simp] theorem Chip.mbxUp_host1 (c : Chip) (f : Mbx → Mbx) : (c.mbxUp f).host1 = c.host1 := rfl
@[simp] theorem Chip.mbxUp_mode (c : Chip) (f : Mbx → Mbx) : (c.mbxUp f).mode = c.mode := rfl
@[simp] theorem Chip.mbxUp_blocksOn (c : Chip) (f : Mbx → Mbx) : (c.mbxUp f).blocksOn = c.blocksOn := rfl
@[simp] theorem Chip.mbxUp_tick (c : Chip) (f : Mbx → Mbx) : (c.mbxUp f).tick = c.tick := rfl
@[simp] theorem Chip.mbxUp_clock (c : Chip) (f : Mbx → Mbx) : (c.mbxUp f).clock = c.clock := rfl
@[simp] theorem Chip.mbxUp_ring (c : Chip) (f : Mbx → Mbx) : (c.mbxUp f).ring = c.ring := rfl
@[simp] theorem Chip.mbxUp_cdc (c : Chip) (f : Mbx → Mbx) : (c.mbxUp f).cdc = c.cdc := rfl
@[simp] theorem Chip.mbxUp_ray (c : Chip) (f : Mbx → Mbx) : (c.mbxUp f).ray = c.ray := rfl
@[simp] theorem Chip.mbxUp_lens (c : Chip) (f : Mbx → Mbx) : (c.mbxUp f).lens = c.lens := rfl
@[simp] theorem Chip.mbxUp_fst (c : Chip) (f : Mbx → Mbx) : (c.mbxUp f).fst = c.fst := rfl
@[simp] theorem Chip.mbxUp_pcn (c : Chip) (f : Mbx → Mbx) : (c.mbxUp f).pcn = c.pcn := rfl
@[simp] theorem Chip.mbxUp_blt (c : Chip) (f : Mbx → Mbx) : (c.mbxUp f).blt = c.blt := rfl
@[simp] theorem Chip.mbxUp_scan (c : Chip) (f : Mbx → Mbx) : (c.mbxUp f).scan = c.scan := rfl
@[simp] theorem Chip.mbxUp_lanes (c : Chip) (f : Mbx → Mbx) : (c.mbxUp f).lanes = c.lanes := rfl
@[simp] theorem Chip.mbxUp_sec (c : Chip) (f : Mbx → Mbx) : (c.mbxUp f).sec = c.sec := rfl
@[simp] theorem Chip.mbxUp_dram (c : Chip) (f : Mbx → Mbx) : (c.mbxUp f).dram = c.dram := rfl
@[simp] theorem Chip.mbxUp_apl (c : Chip) (f : Mbx → Mbx) : (c.mbxUp f).apl = c.apl := rfl
@[simp] theorem Chip.mbxUp_hlk (c : Chip) (f : Mbx → Mbx) : (c.mbxUp f).hlk = c.hlk := rfl
@[simp] theorem Chip.mbxUp_modes (c : Chip) (f : Mbx → Mbx) : (c.mbxUp f).modes = c.modes := rfl
@[simp] theorem Chip.mbxUp_tlk (c : Chip) (f : Mbx → Mbx) : (c.mbxUp f).tlk = c.tlk := rfl
@[simp] theorem Chip.mbxUp_tim (c : Chip) (f : Mbx → Mbx) : (c.mbxUp f).tim = c.tim := rfl
@[simp] theorem Chip.mbxUp_cal (c : Chip) (f : Mbx → Mbx) : (c.mbxUp f).cal = c.cal := rfl
@[simp] theorem Chip.mbxUp_pwr (c : Chip) (f : Mbx → Mbx) : (c.mbxUp f).pwr = c.pwr := rfl
@[simp] theorem Chip.mbxUp_thm (c : Chip) (f : Mbx → Mbx) : (c.mbxUp f).thm = c.thm := rfl
@[simp] theorem Chip.mbxUp_kpr (c : Chip) (f : Mbx → Mbx) : (c.mbxUp f).kpr = c.kpr := rfl
@[simp] theorem Chip.mbxUp_chk (c : Chip) (f : Mbx → Mbx) : (c.mbxUp f).chk = c.chk := rfl
@[simp] theorem Chip.mbxUp_fresh (c : Chip) (f : Mbx → Mbx) : (c.mbxUp f).fresh = c.fresh := rfl
@[simp] theorem Chip.mbxUp_out (c : Chip) (f : Mbx → Mbx) : (c.mbxUp f).out = c.out := rfl
@[simp] theorem Chip.mbxUp_badMem (c : Chip) (f : Mbx → Mbx) : (c.mbxUp f).badMem = c.badMem := rfl
@[simp] theorem Chip.mbxUp_w (c : Chip) (f : Mbx → Mbx) (x : Nat) : (c.mbxUp f).w x = c.w x := rfl
@[simp] theorem Chip.mbxUp_aw (c : Chip) (f : Mbx → Mbx) (x : Nat) : (c.mbxUp f).aw x = c.aw x := rfl
@[simp] theorem Chip.mbxUp_lw (c : Chip) (f : Mbx → Mbx) (x : Nat) : (c.mbxUp f).lw x = c.lw x := rfl
@[simp] theorem Chip.mbxUp_get (c : Chip) (f : Mbx → Mbx) (x : Fld) : (c.mbxUp f).get x = c.get x := rfl
@[simp] theorem Chip.mbxUp_is (c : Chip) (f : Mbx → Mbx) (x : Fld) : (c.mbxUp f).is x = c.is x := rfl
@[simp] theorem Chip.mbxUp_act (c : Chip) (f : Mbx → Mbx) (x : Fld) : (c.mbxUp f).act x = c.act x := rfl
@[simp] theorem Chip.mbxUp_on (c : Chip) (f : Mbx → Mbx) (x : Fld) : (c.mbxUp f).on x = c.on x := rfl
@[simp] theorem Chip.mbxUp_lck (c : Chip) (f : Mbx → Mbx) (x : Fld) : (c.mbxUp f).lck x = c.lck x := rfl
@[simp] theorem Chip.mbxUp_blockOn (c : Chip) (f : Mbx → Mbx) (x : Nat) : (c.mbxUp f).blockOn x = c.blockOn x := rfl

@[simp] theorem Chip.ringUp_ring (c : Chip) (f : Ring → Ring) : (c.ringUp f).ring = f c.ring := rfl
@[simp] theorem Chip.ringUp_variant (c : Chip) (f : Ring → Ring) : (c.ringUp f).variant = c.variant := rfl
@[simp] theorem Chip.ringUp_regs (c : Chip) (f : Ring → Ring) : (c.ringUp f).regs = c.regs := rfl
@[simp] theorem Chip.ringUp_ladder (c : Chip) (f : Ring → Ring) : (c.ringUp f).ladder = c.ladder := rfl
@[simp] theorem Chip.ringUp_resp (c : Chip) (f : Ring → Ring) : (c.ringUp f).resp = c.resp := rfl
@[simp] theorem Chip.ringUp_log (c : Chip) (f : Ring → Ring) : (c.ringUp f).log = c.log := rfl
@[simp] theorem Chip.ringUp_host0 (c : Chip) (f : Ring → Ring) : (c.ringUp f).host0 = c.host0 := rfl
@[simp] theorem Chip.ringUp_host1 (c : Chip) (f : Ring → Ring) : (c.ringUp f).host1 = c.host1 := rfl
@[simp] theorem Chip.ringUp_mode (c : Chip) (f : Ring → Ring) : (c.ringUp f).mode = c.mode := rfl
@[simp] theorem Chip.ringUp_blocksOn (c : Chip) (f : Ring → Ring) : (c.ringUp f).blocksOn = c.blocksOn := rfl
@[simp] theorem Chip.ringUp_tick (c : Chip) (f : Ring → Ring) : (c.ringUp f).tick = c.tick := rfl
@[simp] theorem Chip.ringUp_clock (c : Chip) (f : Ring → Ring) : (c.ringUp f).clock = c.clock := rfl
@[simp] theorem Chip.ringUp_cdc (c : Chip) (f : Ring → Ring) : (c.ringUp f).cdc = c.cdc := rfl
@[simp] theorem Chip.ringUp_ray (c : Chip) (f : Ring → Ring) : (c.ringUp f).ray = c.ray := rfl
@[simp] theorem Chip.ringUp_lens (c : Chip) (f : Ring → Ring) : (c.ringUp f).lens = c.lens := rfl
@[simp] theorem Chip.ringUp_fst (c : Chip) (f : Ring → Ring) : (c.ringUp f).fst = c.fst := rfl
@[simp] theorem Chip.ringUp_pcn (c : Chip) (f : Ring → Ring) : (c.ringUp f).pcn = c.pcn := rfl
@[simp] theorem Chip.ringUp_blt (c : Chip) (f : Ring → Ring) : (c.ringUp f).blt = c.blt := rfl
@[simp] theorem Chip.ringUp_scan (c : Chip) (f : Ring → Ring) : (c.ringUp f).scan = c.scan := rfl
@[simp] theorem Chip.ringUp_lanes (c : Chip) (f : Ring → Ring) : (c.ringUp f).lanes = c.lanes := rfl
@[simp] theorem Chip.ringUp_sec (c : Chip) (f : Ring → Ring) : (c.ringUp f).sec = c.sec := rfl
@[simp] theorem Chip.ringUp_dram (c : Chip) (f : Ring → Ring) : (c.ringUp f).dram = c.dram := rfl
@[simp] theorem Chip.ringUp_apl (c : Chip) (f : Ring → Ring) : (c.ringUp f).apl = c.apl := rfl
@[simp] theorem Chip.ringUp_hlk (c : Chip) (f : Ring → Ring) : (c.ringUp f).hlk = c.hlk := rfl
@[simp] theorem Chip.ringUp_modes (c : Chip) (f : Ring → Ring) : (c.ringUp f).modes = c.modes := rfl
@[simp] theorem Chip.ringUp_tlk (c : Chip) (f : Ring → Ring) : (c.ringUp f).tlk = c.tlk := rfl
@[simp] theorem Chip.ringUp_mbx (c : Chip) (f : Ring → Ring) : (c.ringUp f).mbx = c.mbx := rfl
@[simp] theorem Chip.ringUp_tim (c : Chip) (f : Ring → Ring) : (c.ringUp f).tim = c.tim := rfl
@[simp] theorem Chip.ringUp_cal (c : Chip) (f : Ring → Ring) : (c.ringUp f).cal = c.cal := rfl
@[simp] theorem Chip.ringUp_pwr (c : Chip) (f : Ring → Ring) : (c.ringUp f).pwr = c.pwr := rfl
@[simp] theorem Chip.ringUp_thm (c : Chip) (f : Ring → Ring) : (c.ringUp f).thm = c.thm := rfl
@[simp] theorem Chip.ringUp_kpr (c : Chip) (f : Ring → Ring) : (c.ringUp f).kpr = c.kpr := rfl
@[simp] theorem Chip.ringUp_chk (c : Chip) (f : Ring → Ring) : (c.ringUp f).chk = c.chk := rfl
@[simp] theorem Chip.ringUp_fresh (c : Chip) (f : Ring → Ring) : (c.ringUp f).fresh = c.fresh := rfl
@[simp] theorem Chip.ringUp_out (c : Chip) (f : Ring → Ring) : (c.ringUp f).out = c.out := rfl
@[simp] theorem Chip.ringUp_badMem (c : Chip) (f : Ring → Ring) : (c.ringUp f).badMem = c.badMem := rfl
@[simp] theorem Chip.ringUp_w (c : Chip) (f : Ring → Ring) (x : Nat) : (c.ringUp f).w x = c.w x := rfl
@[simp] theorem Chip.ringUp_aw (c : Chip) (f : Ring → Ring) (x : Nat) : (c.ringUp f).aw x = c.aw x := rfl
@[simp] theorem Chip.ringUp_lw (c : Chip) (f : Ring → Ring) (x : Nat) : (c.ringUp f).lw x = c.lw x := rfl
@[simp] theorem Chip.ringUp_get (c : Chip) (f : Ring → Ring) (x : Fld) : (c.ringUp f).get x = c.get x := rfl
@[simp] theorem Chip.ringUp_is (c : Chip) (f : Ring → Ring) (x : Fld) : (c.ringUp f).is x = c.is x := rfl
@[simp] theorem Chip.ringUp_act (c : Chip) (f : Ring → Ring) (x : Fld) : (c.ringUp f).act x = c.act x := rfl
@[simp] theorem Chip.ringUp_on (c : Chip) (f : Ring → Ring) (x : Fld) : (c.ringUp f).on x = c.on x := rfl
@[simp] theorem Chip.ringUp_lck (c : Chip) (f : Ring → Ring) (x : Fld) : (c.ringUp f).lck x = c.lck x := rfl
@[simp] theorem Chip.ringUp_blockOn (c : Chip) (f : Ring → Ring) (x : Nat) : (c.ringUp f).blockOn x = c.blockOn x := rfl

@[simp] theorem Chip.modesUp_modes (c : Chip) (f : Modes → Modes) : (c.modesUp f).modes = f c.modes := rfl
@[simp] theorem Chip.modesUp_variant (c : Chip) (f : Modes → Modes) : (c.modesUp f).variant = c.variant := rfl
@[simp] theorem Chip.modesUp_regs (c : Chip) (f : Modes → Modes) : (c.modesUp f).regs = c.regs := rfl
@[simp] theorem Chip.modesUp_ladder (c : Chip) (f : Modes → Modes) : (c.modesUp f).ladder = c.ladder := rfl
@[simp] theorem Chip.modesUp_resp (c : Chip) (f : Modes → Modes) : (c.modesUp f).resp = c.resp := rfl
@[simp] theorem Chip.modesUp_log (c : Chip) (f : Modes → Modes) : (c.modesUp f).log = c.log := rfl
@[simp] theorem Chip.modesUp_host0 (c : Chip) (f : Modes → Modes) : (c.modesUp f).host0 = c.host0 := rfl
@[simp] theorem Chip.modesUp_host1 (c : Chip) (f : Modes → Modes) : (c.modesUp f).host1 = c.host1 := rfl
@[simp] theorem Chip.modesUp_mode (c : Chip) (f : Modes → Modes) : (c.modesUp f).mode = c.mode := rfl
@[simp] theorem Chip.modesUp_blocksOn (c : Chip) (f : Modes → Modes) : (c.modesUp f).blocksOn = c.blocksOn := rfl
@[simp] theorem Chip.modesUp_tick (c : Chip) (f : Modes → Modes) : (c.modesUp f).tick = c.tick := rfl
@[simp] theorem Chip.modesUp_clock (c : Chip) (f : Modes → Modes) : (c.modesUp f).clock = c.clock := rfl
@[simp] theorem Chip.modesUp_ring (c : Chip) (f : Modes → Modes) : (c.modesUp f).ring = c.ring := rfl
@[simp] theorem Chip.modesUp_cdc (c : Chip) (f : Modes → Modes) : (c.modesUp f).cdc = c.cdc := rfl
@[simp] theorem Chip.modesUp_ray (c : Chip) (f : Modes → Modes) : (c.modesUp f).ray = c.ray := rfl
@[simp] theorem Chip.modesUp_lens (c : Chip) (f : Modes → Modes) : (c.modesUp f).lens = c.lens := rfl
@[simp] theorem Chip.modesUp_fst (c : Chip) (f : Modes → Modes) : (c.modesUp f).fst = c.fst := rfl
@[simp] theorem Chip.modesUp_pcn (c : Chip) (f : Modes → Modes) : (c.modesUp f).pcn = c.pcn := rfl
@[simp] theorem Chip.modesUp_blt (c : Chip) (f : Modes → Modes) : (c.modesUp f).blt = c.blt := rfl
@[simp] theorem Chip.modesUp_scan (c : Chip) (f : Modes → Modes) : (c.modesUp f).scan = c.scan := rfl
@[simp] theorem Chip.modesUp_lanes (c : Chip) (f : Modes → Modes) : (c.modesUp f).lanes = c.lanes := rfl
@[simp] theorem Chip.modesUp_sec (c : Chip) (f : Modes → Modes) : (c.modesUp f).sec = c.sec := rfl
@[simp] theorem Chip.modesUp_dram (c : Chip) (f : Modes → Modes) : (c.modesUp f).dram = c.dram := rfl
@[simp] theorem Chip.modesUp_apl (c : Chip) (f : Modes → Modes) : (c.modesUp f).apl = c.apl := rfl
@[simp] theorem Chip.modesUp_hlk (c : Chip) (f : Modes → Modes) : (c.modesUp f).hlk = c.hlk := rfl
@[simp] theorem Chip.modesUp_tlk (c : Chip) (f : Modes → Modes) : (c.modesUp f).tlk = c.tlk := rfl
@[simp] theorem Chip.modesUp_mbx (c : Chip) (f : Modes → Modes) : (c.modesUp f).mbx = c.mbx := rfl
@[simp] theorem Chip.modesUp_tim (c : Chip) (f : Modes → Modes) : (c.modesUp f).tim = c.tim := rfl
@[simp] theorem Chip.modesUp_cal (c : Chip) (f : Modes → Modes) : (c.modesUp f).cal = c.cal := rfl
@[simp] theorem Chip.modesUp_pwr (c : Chip) (f : Modes → Modes) : (c.modesUp f).pwr = c.pwr := rfl
@[simp] theorem Chip.modesUp_thm (c : Chip) (f : Modes → Modes) : (c.modesUp f).thm = c.thm := rfl
@[simp] theorem Chip.modesUp_kpr (c : Chip) (f : Modes → Modes) : (c.modesUp f).kpr = c.kpr := rfl
@[simp] theorem Chip.modesUp_chk (c : Chip) (f : Modes → Modes) : (c.modesUp f).chk = c.chk := rfl
@[simp] theorem Chip.modesUp_fresh (c : Chip) (f : Modes → Modes) : (c.modesUp f).fresh = c.fresh := rfl
@[simp] theorem Chip.modesUp_out (c : Chip) (f : Modes → Modes) : (c.modesUp f).out = c.out := rfl
@[simp] theorem Chip.modesUp_badMem (c : Chip) (f : Modes → Modes) : (c.modesUp f).badMem = c.badMem := rfl
@[simp] theorem Chip.modesUp_w (c : Chip) (f : Modes → Modes) (x : Nat) : (c.modesUp f).w x = c.w x := rfl
@[simp] theorem Chip.modesUp_aw (c : Chip) (f : Modes → Modes) (x : Nat) : (c.modesUp f).aw x = c.aw x := rfl
@[simp] theorem Chip.modesUp_lw (c : Chip) (f : Modes → Modes) (x : Nat) : (c.modesUp f).lw x = c.lw x := rfl
@[simp] theorem Chip.modesUp_get (c : Chip) (f : Modes → Modes) (x : Fld) : (c.modesUp f).get x = c.get x := rfl
@[simp] theorem Chip.modesUp_is (c : Chip) (f : Modes → Modes) (x : Fld) : (c.modesUp f).is x = c.is x := rfl
@[simp] theorem Chip.modesUp_act (c : Chip) (f : Modes → Modes) (x : Fld) : (c.modesUp f).act x = c.act x := rfl
@[simp] theorem Chip.modesUp_on (c : Chip) (f : Modes → Modes) (x : Fld) : (c.modesUp f).on x = c.on x := rfl
@[simp] theorem Chip.modesUp_lck (c : Chip) (f : Modes → Modes) (x : Fld) : (c.modesUp f).lck x = c.lck x := rfl
@[simp] theorem Chip.modesUp_blockOn (c : Chip) (f : Modes → Modes) (x : Nat) : (c.modesUp f).blockOn x = c.blockOn x := rfl

@[simp] theorem Chip.pwrUp_pwr (c : Chip) (f : Pwr → Pwr) : (c.pwrUp f).pwr = f c.pwr := rfl
@[simp] theorem Chip.pwrUp_variant (c : Chip) (f : Pwr → Pwr) : (c.pwrUp f).variant = c.variant := rfl
@[simp] theorem Chip.pwrUp_regs (c : Chip) (f : Pwr → Pwr) : (c.pwrUp f).regs = c.regs := rfl
@[simp] theorem Chip.pwrUp_ladder (c : Chip) (f : Pwr → Pwr) : (c.pwrUp f).ladder = c.ladder := rfl
@[simp] theorem Chip.pwrUp_resp (c : Chip) (f : Pwr → Pwr) : (c.pwrUp f).resp = c.resp := rfl
@[simp] theorem Chip.pwrUp_log (c : Chip) (f : Pwr → Pwr) : (c.pwrUp f).log = c.log := rfl
@[simp] theorem Chip.pwrUp_host0 (c : Chip) (f : Pwr → Pwr) : (c.pwrUp f).host0 = c.host0 := rfl
@[simp] theorem Chip.pwrUp_host1 (c : Chip) (f : Pwr → Pwr) : (c.pwrUp f).host1 = c.host1 := rfl
@[simp] theorem Chip.pwrUp_mode (c : Chip) (f : Pwr → Pwr) : (c.pwrUp f).mode = c.mode := rfl
@[simp] theorem Chip.pwrUp_blocksOn (c : Chip) (f : Pwr → Pwr) : (c.pwrUp f).blocksOn = c.blocksOn := rfl
@[simp] theorem Chip.pwrUp_tick (c : Chip) (f : Pwr → Pwr) : (c.pwrUp f).tick = c.tick := rfl
@[simp] theorem Chip.pwrUp_clock (c : Chip) (f : Pwr → Pwr) : (c.pwrUp f).clock = c.clock := rfl
@[simp] theorem Chip.pwrUp_ring (c : Chip) (f : Pwr → Pwr) : (c.pwrUp f).ring = c.ring := rfl
@[simp] theorem Chip.pwrUp_cdc (c : Chip) (f : Pwr → Pwr) : (c.pwrUp f).cdc = c.cdc := rfl
@[simp] theorem Chip.pwrUp_ray (c : Chip) (f : Pwr → Pwr) : (c.pwrUp f).ray = c.ray := rfl
@[simp] theorem Chip.pwrUp_lens (c : Chip) (f : Pwr → Pwr) : (c.pwrUp f).lens = c.lens := rfl
@[simp] theorem Chip.pwrUp_fst (c : Chip) (f : Pwr → Pwr) : (c.pwrUp f).fst = c.fst := rfl
@[simp] theorem Chip.pwrUp_pcn (c : Chip) (f : Pwr → Pwr) : (c.pwrUp f).pcn = c.pcn := rfl
@[simp] theorem Chip.pwrUp_blt (c : Chip) (f : Pwr → Pwr) : (c.pwrUp f).blt = c.blt := rfl
@[simp] theorem Chip.pwrUp_scan (c : Chip) (f : Pwr → Pwr) : (c.pwrUp f).scan = c.scan := rfl
@[simp] theorem Chip.pwrUp_lanes (c : Chip) (f : Pwr → Pwr) : (c.pwrUp f).lanes = c.lanes := rfl
@[simp] theorem Chip.pwrUp_sec (c : Chip) (f : Pwr → Pwr) : (c.pwrUp f).sec = c.sec := rfl
@[simp] theorem Chip.pwrUp_dram (c : Chip) (f : Pwr → Pwr) : (c.pwrUp f).dram = c.dram := rfl
@[simp] theorem Chip.pwrUp_apl (c : Chip) (f : Pwr → Pwr) : (c.pwrUp f).apl = c.apl := rfl
@[simp] theorem Chip.pwrUp_hlk (c : Chip) (f : Pwr → Pwr) : (c.pwrUp f).hlk = c.hlk := rfl
@[simp] theorem Chip.pwrUp_modes (c : Chip) (f : Pwr → Pwr) : (c.pwrUp f).modes = c.modes := rfl
@[simp] theorem Chip.pwrUp_tlk (c : Chip) (f : Pwr → Pwr) : (c.pwrUp f).tlk = c.tlk := rfl
@[simp] theorem Chip.pwrUp_mbx (c : Chip) (f : Pwr → Pwr) : (c.pwrUp f).mbx = c.mbx := rfl
@[simp] theorem Chip.pwrUp_tim (c : Chip) (f : Pwr → Pwr) : (c.pwrUp f).tim = c.tim := rfl
@[simp] theorem Chip.pwrUp_cal (c : Chip) (f : Pwr → Pwr) : (c.pwrUp f).cal = c.cal := rfl
@[simp] theorem Chip.pwrUp_thm (c : Chip) (f : Pwr → Pwr) : (c.pwrUp f).thm = c.thm := rfl
@[simp] theorem Chip.pwrUp_kpr (c : Chip) (f : Pwr → Pwr) : (c.pwrUp f).kpr = c.kpr := rfl
@[simp] theorem Chip.pwrUp_chk (c : Chip) (f : Pwr → Pwr) : (c.pwrUp f).chk = c.chk := rfl
@[simp] theorem Chip.pwrUp_fresh (c : Chip) (f : Pwr → Pwr) : (c.pwrUp f).fresh = c.fresh := rfl
@[simp] theorem Chip.pwrUp_out (c : Chip) (f : Pwr → Pwr) : (c.pwrUp f).out = c.out := rfl
@[simp] theorem Chip.pwrUp_badMem (c : Chip) (f : Pwr → Pwr) : (c.pwrUp f).badMem = c.badMem := rfl
@[simp] theorem Chip.pwrUp_w (c : Chip) (f : Pwr → Pwr) (x : Nat) : (c.pwrUp f).w x = c.w x := rfl
@[simp] theorem Chip.pwrUp_aw (c : Chip) (f : Pwr → Pwr) (x : Nat) : (c.pwrUp f).aw x = c.aw x := rfl
@[simp] theorem Chip.pwrUp_lw (c : Chip) (f : Pwr → Pwr) (x : Nat) : (c.pwrUp f).lw x = c.lw x := rfl
@[simp] theorem Chip.pwrUp_get (c : Chip) (f : Pwr → Pwr) (x : Fld) : (c.pwrUp f).get x = c.get x := rfl
@[simp] theorem Chip.pwrUp_is (c : Chip) (f : Pwr → Pwr) (x : Fld) : (c.pwrUp f).is x = c.is x := rfl
@[simp] theorem Chip.pwrUp_act (c : Chip) (f : Pwr → Pwr) (x : Fld) : (c.pwrUp f).act x = c.act x := rfl
@[simp] theorem Chip.pwrUp_on (c : Chip) (f : Pwr → Pwr) (x : Fld) : (c.pwrUp f).on x = c.on x := rfl
@[simp] theorem Chip.pwrUp_lck (c : Chip) (f : Pwr → Pwr) (x : Fld) : (c.pwrUp f).lck x = c.lck x := rfl
@[simp] theorem Chip.pwrUp_blockOn (c : Chip) (f : Pwr → Pwr) (x : Nat) : (c.pwrUp f).blockOn x = c.blockOn x := rfl

@[simp] theorem Chip.thmUp_thm (c : Chip) (f : Thm → Thm) : (c.thmUp f).thm = f c.thm := rfl
@[simp] theorem Chip.thmUp_variant (c : Chip) (f : Thm → Thm) : (c.thmUp f).variant = c.variant := rfl
@[simp] theorem Chip.thmUp_regs (c : Chip) (f : Thm → Thm) : (c.thmUp f).regs = c.regs := rfl
@[simp] theorem Chip.thmUp_ladder (c : Chip) (f : Thm → Thm) : (c.thmUp f).ladder = c.ladder := rfl
@[simp] theorem Chip.thmUp_resp (c : Chip) (f : Thm → Thm) : (c.thmUp f).resp = c.resp := rfl
@[simp] theorem Chip.thmUp_log (c : Chip) (f : Thm → Thm) : (c.thmUp f).log = c.log := rfl
@[simp] theorem Chip.thmUp_host0 (c : Chip) (f : Thm → Thm) : (c.thmUp f).host0 = c.host0 := rfl
@[simp] theorem Chip.thmUp_host1 (c : Chip) (f : Thm → Thm) : (c.thmUp f).host1 = c.host1 := rfl
@[simp] theorem Chip.thmUp_mode (c : Chip) (f : Thm → Thm) : (c.thmUp f).mode = c.mode := rfl
@[simp] theorem Chip.thmUp_blocksOn (c : Chip) (f : Thm → Thm) : (c.thmUp f).blocksOn = c.blocksOn := rfl
@[simp] theorem Chip.thmUp_tick (c : Chip) (f : Thm → Thm) : (c.thmUp f).tick = c.tick := rfl
@[simp] theorem Chip.thmUp_clock (c : Chip) (f : Thm → Thm) : (c.thmUp f).clock = c.clock := rfl
@[simp] theorem Chip.thmUp_ring (c : Chip) (f : Thm → Thm) : (c.thmUp f).ring = c.ring := rfl
@[simp] theorem Chip.thmUp_cdc (c : Chip) (f : Thm → Thm) : (c.thmUp f).cdc = c.cdc := rfl
@[simp] theorem Chip.thmUp_ray (c : Chip) (f : Thm → Thm) : (c.thmUp f).ray = c.ray := rfl
@[simp] theorem Chip.thmUp_lens (c : Chip) (f : Thm → Thm) : (c.thmUp f).lens = c.lens := rfl
@[simp] theorem Chip.thmUp_fst (c : Chip) (f : Thm → Thm) : (c.thmUp f).fst = c.fst := rfl
@[simp] theorem Chip.thmUp_pcn (c : Chip) (f : Thm → Thm) : (c.thmUp f).pcn = c.pcn := rfl
@[simp] theorem Chip.thmUp_blt (c : Chip) (f : Thm → Thm) : (c.thmUp f).blt = c.blt := rfl
@[simp] theorem Chip.thmUp_scan (c : Chip) (f : Thm → Thm) : (c.thmUp f).scan = c.scan := rfl
@[simp] theorem Chip.thmUp_lanes (c : Chip) (f : Thm → Thm) : (c.thmUp f).lanes = c.lanes := rfl
@[simp] theorem Chip.thmUp_sec (c : Chip) (f : Thm → Thm) : (c.thmUp f).sec = c.sec := rfl
@[simp] theorem Chip.thmUp_dram (c : Chip) (f : Thm → Thm) : (c.thmUp f).dram = c.dram := rfl
@[simp] theorem Chip.thmUp_apl (c : Chip) (f : Thm → Thm) : (c.thmUp f).apl = c.apl := rfl
@[simp] theorem Chip.thmUp_hlk (c : Chip) (f : Thm → Thm) : (c.thmUp f).hlk = c.hlk := rfl
@[simp] theorem Chip.thmUp_modes (c : Chip) (f : Thm → Thm) : (c.thmUp f).modes = c.modes := rfl
@[simp] theorem Chip.thmUp_tlk (c : Chip) (f : Thm → Thm) : (c.thmUp f).tlk = c.tlk := rfl
@[simp] theorem Chip.thmUp_mbx (c : Chip) (f : Thm → Thm) : (c.thmUp f).mbx = c.mbx := rfl
@[simp] theorem Chip.thmUp_tim (c : Chip) (f : Thm → Thm) : (c.thmUp f).tim = c.tim := rfl
@[simp] theorem Chip.thmUp_cal (c : Chip) (f : Thm → Thm) : (c.thmUp f).cal = c.cal := rfl
@[simp] theorem Chip.thmUp_pwr (c : Chip) (f : Thm → Thm) : (c.thmUp f).pwr = c.pwr := rfl
@[simp] theorem Chip.thmUp_kpr (c : Chip) (f : Thm → Thm) : (c.thmUp f).kpr = c.kpr := rfl
@[simp] theorem Chip.thmUp_chk (c : Chip) (f : Thm → Thm) : (c.thmUp f).chk = c.chk := rfl
@[simp] theorem Chip.thmUp_fresh (c : Chip) (f : Thm → Thm) : (c.thmUp f).fresh = c.fresh := rfl
@[simp] theorem Chip.thmUp_out (c : Chip) (f : Thm → Thm) : (c.thmUp f).out = c.out := rfl
@[simp] theorem Chip.thmUp_badMem (c : Chip) (f : Thm → Thm) : (c.thmUp f).badMem = c.badMem := rfl
@[simp] theorem Chip.thmUp_w (c : Chip) (f : Thm → Thm) (x : Nat) : (c.thmUp f).w x = c.w x := rfl
@[simp] theorem Chip.thmUp_aw (c : Chip) (f : Thm → Thm) (x : Nat) : (c.thmUp f).aw x = c.aw x := rfl
@[simp] theorem Chip.thmUp_lw (c : Chip) (f : Thm → Thm) (x : Nat) : (c.thmUp f).lw x = c.lw x := rfl
@[simp] theorem Chip.thmUp_get (c : Chip) (f : Thm → Thm) (x : Fld) : (c.thmUp f).get x = c.get x := rfl
@[simp] theorem Chip.thmUp_is (c : Chip) (f : Thm → Thm) (x : Fld) : (c.thmUp f).is x = c.is x := rfl
@[simp] theorem Chip.thmUp_act (c : Chip) (f : Thm → Thm) (x : Fld) : (c.thmUp f).act x = c.act x := rfl
@[simp] theorem Chip.thmUp_on (c : Chip) (f : Thm → Thm) (x : Fld) : (c.thmUp f).on x = c.on x := rfl
@[simp] theorem Chip.thmUp_lck (c : Chip) (f : Thm → Thm) (x : Fld) : (c.thmUp f).lck x = c.lck x := rfl
@[simp] theorem Chip.thmUp_blockOn (c : Chip) (f : Thm → Thm) (x : Nat) : (c.thmUp f).blockOn x = c.blockOn x := rfl

@[simp] theorem Chip.kprUp_kpr (c : Chip) (f : Kpr → Kpr) : (c.kprUp f).kpr = f c.kpr := rfl
@[simp] theorem Chip.kprUp_variant (c : Chip) (f : Kpr → Kpr) : (c.kprUp f).variant = c.variant := rfl
@[simp] theorem Chip.kprUp_regs (c : Chip) (f : Kpr → Kpr) : (c.kprUp f).regs = c.regs := rfl
@[simp] theorem Chip.kprUp_ladder (c : Chip) (f : Kpr → Kpr) : (c.kprUp f).ladder = c.ladder := rfl
@[simp] theorem Chip.kprUp_resp (c : Chip) (f : Kpr → Kpr) : (c.kprUp f).resp = c.resp := rfl
@[simp] theorem Chip.kprUp_log (c : Chip) (f : Kpr → Kpr) : (c.kprUp f).log = c.log := rfl
@[simp] theorem Chip.kprUp_host0 (c : Chip) (f : Kpr → Kpr) : (c.kprUp f).host0 = c.host0 := rfl
@[simp] theorem Chip.kprUp_host1 (c : Chip) (f : Kpr → Kpr) : (c.kprUp f).host1 = c.host1 := rfl
@[simp] theorem Chip.kprUp_mode (c : Chip) (f : Kpr → Kpr) : (c.kprUp f).mode = c.mode := rfl
@[simp] theorem Chip.kprUp_blocksOn (c : Chip) (f : Kpr → Kpr) : (c.kprUp f).blocksOn = c.blocksOn := rfl
@[simp] theorem Chip.kprUp_tick (c : Chip) (f : Kpr → Kpr) : (c.kprUp f).tick = c.tick := rfl
@[simp] theorem Chip.kprUp_clock (c : Chip) (f : Kpr → Kpr) : (c.kprUp f).clock = c.clock := rfl
@[simp] theorem Chip.kprUp_ring (c : Chip) (f : Kpr → Kpr) : (c.kprUp f).ring = c.ring := rfl
@[simp] theorem Chip.kprUp_cdc (c : Chip) (f : Kpr → Kpr) : (c.kprUp f).cdc = c.cdc := rfl
@[simp] theorem Chip.kprUp_ray (c : Chip) (f : Kpr → Kpr) : (c.kprUp f).ray = c.ray := rfl
@[simp] theorem Chip.kprUp_lens (c : Chip) (f : Kpr → Kpr) : (c.kprUp f).lens = c.lens := rfl
@[simp] theorem Chip.kprUp_fst (c : Chip) (f : Kpr → Kpr) : (c.kprUp f).fst = c.fst := rfl
@[simp] theorem Chip.kprUp_pcn (c : Chip) (f : Kpr → Kpr) : (c.kprUp f).pcn = c.pcn := rfl
@[simp] theorem Chip.kprUp_blt (c : Chip) (f : Kpr → Kpr) : (c.kprUp f).blt = c.blt := rfl
@[simp] theorem Chip.kprUp_scan (c : Chip) (f : Kpr → Kpr) : (c.kprUp f).scan = c.scan := rfl
@[simp] theorem Chip.kprUp_lanes (c : Chip) (f : Kpr → Kpr) : (c.kprUp f).lanes = c.lanes := rfl
@[simp] theorem Chip.kprUp_sec (c : Chip) (f : Kpr → Kpr) : (c.kprUp f).sec = c.sec := rfl
@[simp] theorem Chip.kprUp_dram (c : Chip) (f : Kpr → Kpr) : (c.kprUp f).dram = c.dram := rfl
@[simp] theorem Chip.kprUp_apl (c : Chip) (f : Kpr → Kpr) : (c.kprUp f).apl = c.apl := rfl
@[simp] theorem Chip.kprUp_hlk (c : Chip) (f : Kpr → Kpr) : (c.kprUp f).hlk = c.hlk := rfl
@[simp] theorem Chip.kprUp_modes (c : Chip) (f : Kpr → Kpr) : (c.kprUp f).modes = c.modes := rfl
@[simp] theorem Chip.kprUp_tlk (c : Chip) (f : Kpr → Kpr) : (c.kprUp f).tlk = c.tlk := rfl
@[simp] theorem Chip.kprUp_mbx (c : Chip) (f : Kpr → Kpr) : (c.kprUp f).mbx = c.mbx := rfl
@[simp] theorem Chip.kprUp_tim (c : Chip) (f : Kpr → Kpr) : (c.kprUp f).tim = c.tim := rfl
@[simp] theorem Chip.kprUp_cal (c : Chip) (f : Kpr → Kpr) : (c.kprUp f).cal = c.cal := rfl
@[simp] theorem Chip.kprUp_pwr (c : Chip) (f : Kpr → Kpr) : (c.kprUp f).pwr = c.pwr := rfl
@[simp] theorem Chip.kprUp_thm (c : Chip) (f : Kpr → Kpr) : (c.kprUp f).thm = c.thm := rfl
@[simp] theorem Chip.kprUp_chk (c : Chip) (f : Kpr → Kpr) : (c.kprUp f).chk = c.chk := rfl
@[simp] theorem Chip.kprUp_fresh (c : Chip) (f : Kpr → Kpr) : (c.kprUp f).fresh = c.fresh := rfl
@[simp] theorem Chip.kprUp_out (c : Chip) (f : Kpr → Kpr) : (c.kprUp f).out = c.out := rfl
@[simp] theorem Chip.kprUp_badMem (c : Chip) (f : Kpr → Kpr) : (c.kprUp f).badMem = c.badMem := rfl
@[simp] theorem Chip.kprUp_w (c : Chip) (f : Kpr → Kpr) (x : Nat) : (c.kprUp f).w x = c.w x := rfl
@[simp] theorem Chip.kprUp_aw (c : Chip) (f : Kpr → Kpr) (x : Nat) : (c.kprUp f).aw x = c.aw x := rfl
@[simp] theorem Chip.kprUp_lw (c : Chip) (f : Kpr → Kpr) (x : Nat) : (c.kprUp f).lw x = c.lw x := rfl
@[simp] theorem Chip.kprUp_get (c : Chip) (f : Kpr → Kpr) (x : Fld) : (c.kprUp f).get x = c.get x := rfl
@[simp] theorem Chip.kprUp_is (c : Chip) (f : Kpr → Kpr) (x : Fld) : (c.kprUp f).is x = c.is x := rfl
@[simp] theorem Chip.kprUp_act (c : Chip) (f : Kpr → Kpr) (x : Fld) : (c.kprUp f).act x = c.act x := rfl
@[simp] theorem Chip.kprUp_on (c : Chip) (f : Kpr → Kpr) (x : Fld) : (c.kprUp f).on x = c.on x := rfl
@[simp] theorem Chip.kprUp_lck (c : Chip) (f : Kpr → Kpr) (x : Fld) : (c.kprUp f).lck x = c.lck x := rfl
@[simp] theorem Chip.kprUp_blockOn (c : Chip) (f : Kpr → Kpr) (x : Nat) : (c.kprUp f).blockOn x = c.blockOn x := rfl

@[simp] theorem Chip.tlkUp_tlk (c : Chip) (f : Tlk → Tlk) : (c.tlkUp f).tlk = f c.tlk := rfl
@[simp] theorem Chip.tlkUp_variant (c : Chip) (f : Tlk → Tlk) : (c.tlkUp f).variant = c.variant := rfl
@[simp] theorem Chip.tlkUp_regs (c : Chip) (f : Tlk → Tlk) : (c.tlkUp f).regs = c.regs := rfl
@[simp] theorem Chip.tlkUp_ladder (c : Chip) (f : Tlk → Tlk) : (c.tlkUp f).ladder = c.ladder := rfl
@[simp] theorem Chip.tlkUp_resp (c : Chip) (f : Tlk → Tlk) : (c.tlkUp f).resp = c.resp := rfl
@[simp] theorem Chip.tlkUp_log (c : Chip) (f : Tlk → Tlk) : (c.tlkUp f).log = c.log := rfl
@[simp] theorem Chip.tlkUp_host0 (c : Chip) (f : Tlk → Tlk) : (c.tlkUp f).host0 = c.host0 := rfl
@[simp] theorem Chip.tlkUp_host1 (c : Chip) (f : Tlk → Tlk) : (c.tlkUp f).host1 = c.host1 := rfl
@[simp] theorem Chip.tlkUp_mode (c : Chip) (f : Tlk → Tlk) : (c.tlkUp f).mode = c.mode := rfl
@[simp] theorem Chip.tlkUp_blocksOn (c : Chip) (f : Tlk → Tlk) : (c.tlkUp f).blocksOn = c.blocksOn := rfl
@[simp] theorem Chip.tlkUp_tick (c : Chip) (f : Tlk → Tlk) : (c.tlkUp f).tick = c.tick := rfl
@[simp] theorem Chip.tlkUp_clock (c : Chip) (f : Tlk → Tlk) : (c.tlkUp f).clock = c.clock := rfl
@[simp] theorem Chip.tlkUp_ring (c : Chip) (f : Tlk → Tlk) : (c.tlkUp f).ring = c.ring := rfl
@[simp] theorem Chip.tlkUp_cdc (c : Chip) (f : Tlk → Tlk) : (c.tlkUp f).cdc = c.cdc := rfl
@[simp] theorem Chip.tlkUp_ray (c : Chip) (f : Tlk → Tlk) : (c.tlkUp f).ray = c.ray := rfl
@[simp] theorem Chip.tlkUp_lens (c : Chip) (f : Tlk → Tlk) : (c.tlkUp f).lens = c.lens := rfl
@[simp] theorem Chip.tlkUp_fst (c : Chip) (f : Tlk → Tlk) : (c.tlkUp f).fst = c.fst := rfl
@[simp] theorem Chip.tlkUp_pcn (c : Chip) (f : Tlk → Tlk) : (c.tlkUp f).pcn = c.pcn := rfl
@[simp] theorem Chip.tlkUp_blt (c : Chip) (f : Tlk → Tlk) : (c.tlkUp f).blt = c.blt := rfl
@[simp] theorem Chip.tlkUp_scan (c : Chip) (f : Tlk → Tlk) : (c.tlkUp f).scan = c.scan := rfl
@[simp] theorem Chip.tlkUp_lanes (c : Chip) (f : Tlk → Tlk) : (c.tlkUp f).lanes = c.lanes := rfl
@[simp] theorem Chip.tlkUp_sec (c : Chip) (f : Tlk → Tlk) : (c.tlkUp f).sec = c.sec := rfl
@[simp] theorem Chip.tlkUp_dram (c : Chip) (f : Tlk → Tlk) : (c.tlkUp f).dram = c.dram := rfl
@[simp] theorem Chip.tlkUp_apl (c : Chip) (f : Tlk → Tlk) : (c.tlkUp f).apl = c.apl := rfl
@[simp] theorem Chip.tlkUp_hlk (c : Chip) (f : Tlk → Tlk) : (c.tlkUp f).hlk = c.hlk := rfl
@[simp] theorem Chip.tlkUp_modes (c : Chip) (f : Tlk → Tlk) : (c.tlkUp f).modes = c.modes := rfl
@[simp] theorem Chip.tlkUp_mbx (c : Chip) (f : Tlk → Tlk) : (c.tlkUp f).mbx = c.mbx := rfl
@[simp] theorem Chip.tlkUp_tim (c : Chip) (f : Tlk → Tlk) : (c.tlkUp f).tim = c.tim := rfl
@[simp] theorem Chip.tlkUp_cal (c : Chip) (f : Tlk → Tlk) : (c.tlkUp f).cal = c.cal := rfl
@[simp] theorem Chip.tlkUp_pwr (c : Chip) (f : Tlk → Tlk) : (c.tlkUp f).pwr = c.pwr := rfl
@[simp] theorem Chip.tlkUp_thm (c : Chip) (f : Tlk → Tlk) : (c.tlkUp f).thm = c.thm := rfl
@[simp] theorem Chip.tlkUp_kpr (c : Chip) (f : Tlk → Tlk) : (c.tlkUp f).kpr = c.kpr := rfl
@[simp] theorem Chip.tlkUp_chk (c : Chip) (f : Tlk → Tlk) : (c.tlkUp f).chk = c.chk := rfl
@[simp] theorem Chip.tlkUp_fresh (c : Chip) (f : Tlk → Tlk) : (c.tlkUp f).fresh = c.fresh := rfl
@[simp] theorem Chip.tlkUp_out (c : Chip) (f : Tlk → Tlk) : (c.tlkUp f).out = c.out := rfl
@[simp] theorem Chip.tlkUp_badMem (c : Chip) (f : Tlk → Tlk) : (c.tlkUp f).badMem = c.badMem := rfl
@[simp] theorem Chip.tlkUp_w (c : Chip) (f : Tlk → Tlk) (x : Nat) : (c.tlkUp f).w x = c.w x := rfl
@[simp] theorem Chip.tlkUp_aw (c : Chip) (f : Tlk → Tlk) (x : Nat) : (c.tlkUp f).aw x = c.aw x := rfl
@[simp] theorem Chip.tlkUp_lw (c : Chip) (f : Tlk → Tlk) (x : Nat) : (c.tlkUp f).lw x = c.lw x := rfl
@[simp] theorem Chip.tlkUp_get (c : Chip) (f : Tlk → Tlk) (x : Fld) : (c.tlkUp f).get x = c.get x := rfl
@[simp] theorem Chip.tlkUp_is (c : Chip) (f : Tlk → Tlk) (x : Fld) : (c.tlkUp f).is x = c.is x := rfl
@[simp] theorem Chip.tlkUp_act (c : Chip) (f : Tlk → Tlk) (x : Fld) : (c.tlkUp f).act x = c.act x := rfl
@[simp] theorem Chip.tlkUp_on (c : Chip) (f : Tlk → Tlk) (x : Fld) : (c.tlkUp f).on x = c.on x := rfl
@[simp] theorem Chip.tlkUp_lck (c : Chip) (f : Tlk → Tlk) (x : Fld) : (c.tlkUp f).lck x = c.lck x := rfl
@[simp] theorem Chip.tlkUp_blockOn (c : Chip) (f : Tlk → Tlk) (x : Nat) : (c.tlkUp f).blockOn x = c.blockOn x := rfl

@[simp] theorem Chip.timUp_tim (c : Chip) (f : Tim → Tim) : (c.timUp f).tim = f c.tim := rfl
@[simp] theorem Chip.timUp_variant (c : Chip) (f : Tim → Tim) : (c.timUp f).variant = c.variant := rfl
@[simp] theorem Chip.timUp_regs (c : Chip) (f : Tim → Tim) : (c.timUp f).regs = c.regs := rfl
@[simp] theorem Chip.timUp_ladder (c : Chip) (f : Tim → Tim) : (c.timUp f).ladder = c.ladder := rfl
@[simp] theorem Chip.timUp_resp (c : Chip) (f : Tim → Tim) : (c.timUp f).resp = c.resp := rfl
@[simp] theorem Chip.timUp_log (c : Chip) (f : Tim → Tim) : (c.timUp f).log = c.log := rfl
@[simp] theorem Chip.timUp_host0 (c : Chip) (f : Tim → Tim) : (c.timUp f).host0 = c.host0 := rfl
@[simp] theorem Chip.timUp_host1 (c : Chip) (f : Tim → Tim) : (c.timUp f).host1 = c.host1 := rfl
@[simp] theorem Chip.timUp_mode (c : Chip) (f : Tim → Tim) : (c.timUp f).mode = c.mode := rfl
@[simp] theorem Chip.timUp_blocksOn (c : Chip) (f : Tim → Tim) : (c.timUp f).blocksOn = c.blocksOn := rfl
@[simp] theorem Chip.timUp_tick (c : Chip) (f : Tim → Tim) : (c.timUp f).tick = c.tick := rfl
@[simp] theorem Chip.timUp_clock (c : Chip) (f : Tim → Tim) : (c.timUp f).clock = c.clock := rfl
@[simp] theorem Chip.timUp_ring (c : Chip) (f : Tim → Tim) : (c.timUp f).ring = c.ring := rfl
@[simp] theorem Chip.timUp_cdc (c : Chip) (f : Tim → Tim) : (c.timUp f).cdc = c.cdc := rfl
@[simp] theorem Chip.timUp_ray (c : Chip) (f : Tim → Tim) : (c.timUp f).ray = c.ray := rfl
@[simp] theorem Chip.timUp_lens (c : Chip) (f : Tim → Tim) : (c.timUp f).lens = c.lens := rfl
@[simp] theorem Chip.timUp_fst (c : Chip) (f : Tim → Tim) : (c.timUp f).fst = c.fst := rfl
@[simp] theorem Chip.timUp_pcn (c : Chip) (f : Tim → Tim) : (c.timUp f).pcn = c.pcn := rfl
@[simp] theorem Chip.timUp_blt (c : Chip) (f : Tim → Tim) : (c.timUp f).blt = c.blt := rfl
@[simp] theorem Chip.timUp_scan (c : Chip) (f : Tim → Tim) : (c.timUp f).scan = c.scan := rfl
@[simp] theorem Chip.timUp_lanes (c : Chip) (f : Tim → Tim) : (c.timUp f).lanes = c.lanes := rfl
@[simp] theorem Chip.timUp_sec (c : Chip) (f : Tim → Tim) : (c.timUp f).sec = c.sec := rfl
@[simp] theorem Chip.timUp_dram (c : Chip) (f : Tim → Tim) : (c.timUp f).dram = c.dram := rfl
@[simp] theorem Chip.timUp_apl (c : Chip) (f : Tim → Tim) : (c.timUp f).apl = c.apl := rfl
@[simp] theorem Chip.timUp_hlk (c : Chip) (f : Tim → Tim) : (c.timUp f).hlk = c.hlk := rfl
@[simp] theorem Chip.timUp_modes (c : Chip) (f : Tim → Tim) : (c.timUp f).modes = c.modes := rfl
@[simp] theorem Chip.timUp_tlk (c : Chip) (f : Tim → Tim) : (c.timUp f).tlk = c.tlk := rfl
@[simp] theorem Chip.timUp_mbx (c : Chip) (f : Tim → Tim) : (c.timUp f).mbx = c.mbx := rfl
@[simp] theorem Chip.timUp_cal (c : Chip) (f : Tim → Tim) : (c.timUp f).cal = c.cal := rfl
@[simp] theorem Chip.timUp_pwr (c : Chip) (f : Tim → Tim) : (c.timUp f).pwr = c.pwr := rfl
@[simp] theorem Chip.timUp_thm (c : Chip) (f : Tim → Tim) : (c.timUp f).thm = c.thm := rfl
@[simp] theorem Chip.timUp_kpr (c : Chip) (f : Tim → Tim) : (c.timUp f).kpr = c.kpr := rfl
@[simp] theorem Chip.timUp_chk (c : Chip) (f : Tim → Tim) : (c.timUp f).chk = c.chk := rfl
@[simp] theorem Chip.timUp_fresh (c : Chip) (f : Tim → Tim) : (c.timUp f).fresh = c.fresh := rfl
@[simp] theorem Chip.timUp_out (c : Chip) (f : Tim → Tim) : (c.timUp f).out = c.out := rfl
@[simp] theorem Chip.timUp_badMem (c : Chip) (f : Tim → Tim) : (c.timUp f).badMem = c.badMem := rfl
@[simp] theorem Chip.timUp_w (c : Chip) (f : Tim → Tim) (x : Nat) : (c.timUp f).w x = c.w x := rfl
@[simp] theorem Chip.timUp_aw (c : Chip) (f : Tim → Tim) (x : Nat) : (c.timUp f).aw x = c.aw x := rfl
@[simp] theorem Chip.timUp_lw (c : Chip) (f : Tim → Tim) (x : Nat) : (c.timUp f).lw x = c.lw x := rfl
@[simp] theorem Chip.timUp_get (c : Chip) (f : Tim → Tim) (x : Fld) : (c.timUp f).get x = c.get x := rfl
@[simp] theorem Chip.timUp_is (c : Chip) (f : Tim → Tim) (x : Fld) : (c.timUp f).is x = c.is x := rfl
@[simp] theorem Chip.timUp_act (c : Chip) (f : Tim → Tim) (x : Fld) : (c.timUp f).act x = c.act x := rfl
@[simp] theorem Chip.timUp_on (c : Chip) (f : Tim → Tim) (x : Fld) : (c.timUp f).on x = c.on x := rfl
@[simp] theorem Chip.timUp_lck (c : Chip) (f : Tim → Tim) (x : Fld) : (c.timUp f).lck x = c.lck x := rfl
@[simp] theorem Chip.timUp_blockOn (c : Chip) (f : Tim → Tim) (x : Nat) : (c.timUp f).blockOn x = c.blockOn x := rfl

end Sys2Proof.Machine
end

