-- ==== Sys2Proof/Laws/Ladder.lean ====
section
/-!
SUPPORT. Laws/Ladder.lean: all that an interrupt or an error event can move: words of page headers and of the KPR page, the
ladder's counts, the log, and the event state of the host contexts and of the tile link.
-/

namespace Sys2Proof.Machine

/-- A register that no error event writes: past the page header, and outside the KPR page. -/
abbrev ladderFree (k : Nat) : Prop := 0x100 ≤ offOf k ∧ blockOf k ≠ 14

/-- `d` is `c` after interrupts and error events; where `p` holds (the page is a page's key), only header words and words
of the KPR page moved. -/
def ladderMove (p : Prop) (c d : Chip) : Prop :=
  ∃ imm ladder log h0 h1 ev, d = { c with
      regs := { c.regs with imm := imm }, ladder := ladder, log := log, host0 := h0, host1 := h1
      tlk := { c.tlk with events := ev } }
    ∧ (p → ∀ k, ladderFree k → storeGet (resetWord c.variant) imm k = storeGet (resetWord c.variant) c.regs.imm k)

theorem ladderMove.refl (p : Prop) (c : Chip) : ladderMove p c c := ⟨_, _, _, _, _, _, rfl, fun _ _ _ => rfl⟩

theorem ladderMove.trans {p : Prop} {a b c : Chip} (h : ladderMove p a b) (h' : ladderMove p b c) : ladderMove p a c := by
  obtain ⟨i, l, g, q, r, e, rfl, hk⟩ := h
  obtain ⟨i', l', g', q', r', e', rfl, hk'⟩ := h'
  exact ⟨i', l', g', q', r', e', rfl, fun hp k hf => (hk' hp k hf).trans (hk hp k hf)⟩

theorem ladderMove.setw (p : Prop) (c : Chip) (j : Nat) (v : Word) (h : p → ¬ ladderFree j) : ladderMove p c (c.setw j v) :=
  ⟨_, _, _, _, _, _, rfl, fun hp _ hk => storeGet_storePut_other _ _ _ _ _ (fun e => h hp (e ▸ hk))⟩

theorem ladderMove.set (p : Prop) (c : Chip) (f : Fld) (v : Nat) (h : p → ¬ ladderFree f.key) : ladderMove p c (c.set f v) :=
  ladderMove.setw _ _ _ _ h

theorem ladderMove.hostRise (p : Prop) (c : Chip) (h : Nat) : ladderMove p c (c.hostRise h) := by
  unfold Chip.hostRise
  split <;> exact ⟨_, _, _, _, _, _, rfl, fun _ _ _ => rfl⟩

theorem ladderMove.ite (p : Prop) (c d : Chip) (b : Prop) [Decidable b] (h : ladderMove p c d) :
    ladderMove p c (if b then d else c) := by
  split
  · exact h
  · exact .refl _ _

theorem ladderMove.deliverRise (p : Prop) (c : Chip) (b : Nat) : ladderMove p c (c.deliverRise b) := by
  unfold Chip.deliverRise
  simp only
  exact (ladderMove.ite p c _ _ (.hostRise p c 0)).trans (ladderMove.ite p _ _ _ (.hostRise p _ 1))

/-- A header word of a page is not free. -/
theorem not_ladderFree_header (page off : Nat) (hp : page % 4096 = 0) (ho : off < 0x100) : ¬ ladderFree (page + off) := by
  intro h
  have := h.1
  simp [offOf] at this
  omega

theorem ladderMove.intChange {p : Prop} (c : Chip) (page : Nat) (f : Chip → Chip) (h : ladderMove p c (f c)) :
    ladderMove p c (c.intChange page f) := by
  unfold Chip.intChange
  simp only
  split
  · exact h.trans (.deliverRise _ _ _)
  · exact h

theorem ladderMove.raise (c : Chip) (page mask : Nat) : ladderMove (page % 4096 = 0) c (c.raise page mask) :=
  .intChange _ _ _ (.setw _ _ _ _ (fun hp => not_ladderFree_header _ _ hp (by decide)))

theorem ladderMove.irq (c : Chip) (page i : Nat) : ladderMove (page % 4096 = 0) c (c.irq page i) := .raise _ _ _

theorem regionOf_lt (b : Nat) : regionOf b < 4 := by
  unfold regionOf
  split
  · decide
  · split
    · decide
    · split <;> decide

theorem ladderMove.regionEvt (p : Prop) (c : Chip) (r : Nat) (hr : r < 4) : ladderMove p c (c.regionEvt r) := by
  unfold Chip.regionEvt
  simp only
  split
  · exact .refl _ _
  · refine (ladderMove.set p c _ _ (fun _ h => h.2 ?_)).trans (.deliverRise _ _ _)
    have : r = 0 ∨ r = 1 ∨ r = 2 ∨ r = 3 := by omega
    rcases this with rfl | rfl | rfl | rfl <;> decide

theorem ladderMove.chipEvt (p : Prop) (c : Chip) : ladderMove p c c.chipEvt := by
  unfold Chip.chipEvt
  split
  · exact .refl _ _
  · exact (ladderMove.set p c _ _ (fun _ h => h.2 (by decide))).trans (.deliverRise _ _ _)

theorem ladderMove.logAppend (p : Prop) (c : Chip) (e : LogEntry) : ladderMove p c (c.logAppend e) := by
  unfold Chip.logAppend
  split
  · exact ⟨_, _, _, _, _, _, rfl, fun _ _ _ => rfl⟩
  · split <;> exact ⟨_, _, _, _, _, _, rfl, fun _ _ _ => rfl⟩

theorem ladderMove.logReplace (p : Prop) (c : Chip) (old : Word) (e : LogEntry) : ladderMove p c (c.logReplace old e) := by
  exact ⟨_, _, _, _, _, _, rfl, fun _ _ _ => rfl⟩

theorem ladderMove.capture (c : Chip) (page : Nat) (cls : ErrClass) (code : Code) (cell kind addr : Nat) :
    ladderMove (page % 4096 = 0) c (c.capture page cls code cell kind addr) := by
  unfold Chip.capture
  simp only
  split
  · have h : ∀ (i l u : Word) (n : List Nat), ladderMove (page % 4096 = 0) c
        { ((c.setw (page + 0x20) i).setw (page + 0x24) l).setw (page + 0x28) u with
          ladder := { (((c.setw (page + 0x20) i).setw (page + 0x24) l).setw (page + 0x28) u).ladder with now := n } } :=
      fun i l u n =>
      (((ladderMove.setw _ _ _ _ (fun hp => not_ladderFree_header _ _ hp (by decide))).trans
        (.setw _ _ _ _ (fun hp => not_ladderFree_header _ _ hp (by decide)))).trans
        (.setw _ _ _ _ (fun hp => not_ladderFree_header _ _ hp (by decide)))).trans
        ⟨_, _, _, _, _, _, rfl, fun _ _ _ => rfl⟩
    split
    · exact h _ _ _ _
    · split
      · exact (h _ _ _ _).trans (.logReplace _ _ _ _)
      · exact (h _ _ _ _).trans (.logAppend _ _ _)
  · exact .setw _ _ _ _ (fun hp => not_ladderFree_header _ _ hp (by decide))

theorem ladderMove.errCount (c : Chip) (page : Nat) (cls : ErrClass) : ladderMove (page % 4096 = 0) c (c.errCount page cls) := by
  unfold Chip.errCount Chip.incSat
  split <;> exact .set _ _ _ _ (fun hp => not_ladderFree_header _ _ hp (by decide))

theorem ladderMove.record (c : Chip) (page : Nat) (cls : ErrClass) (code : Code) (cell kind addr : Nat) :
    ladderMove (page % 4096 = 0) c (c.record page cls code cell kind addr) := by
  have h0 := ((ladderMove.capture c page cls code cell kind addr).trans (.errCount _ page cls)).trans
    (.irq _ page (classCode cls))
  unfold Chip.record
  simp only
  have h1 : ∀ d : Chip, ladderMove (page % 4096 = 0) c d → ladderMove (page % 4096 = 0) c
      (if cls = .corr then d else { d with tlk := { d.tlk with events := true } }) := by
    intro d hd
    split
    · exact hd
    · exact hd.trans ⟨_, _, _, _, _, _, rfl, fun _ _ _ => rfl⟩
  have h2 := h1 _ h0
  split
  · exact h2
  · exact h2
  · exact h2.trans (.regionEvt _ _ _ (regionOf_lt _))
  · exact (h2.trans (.chipEvt _ _)).trans ⟨_, _, _, _, _, _, rfl, fun _ _ _ => rfl⟩

/-- All that an error event can move. -/
theorem ladderMove.event (c : Chip) (page : Nat) (cls : ErrClass) (code : Code) (cell kind addr : Nat) (replan : Bool) :
    ladderMove (page % 4096 = 0) c (c.event page cls code cell kind addr replan) := by
  unfold Chip.event
  simp only
  refine ladderMove.trans (b := { c with ladder := { c.ladder with
      counts := storePut (fun _ => {}) c.ladder.counts page (c.climbed page cls code replan).2.2 } }) ?_ (.record _ _ _ _ _ _ _)
  exact ⟨_, _, _, _, _, _, rfl, fun _ _ _ => rfl⟩

theorem ladderMove.w {p : Prop} {c d : Chip} (h : ladderMove p c d) (hp : p) (k : Nat) (hk : ladderFree k) : d.w k = c.w k := by
  obtain ⟨i, l, g, q, r, e, rfl, hw⟩ := h
  exact hw hp k hk

theorem ladderMove.get {p : Prop} {c d : Chip} (h : ladderMove p c d) (hp : p) (f : Fld) (hk : ladderFree f.key) :
    d.get f = c.get f := by
  simp [Chip.get, h.w hp _ hk]

theorem ladderMove.variant {p : Prop} {c d : Chip} (h : ladderMove p c d) : d.variant = c.variant := by
  obtain ⟨_, _, _, _, _, _, rfl, _⟩ := h; rfl
theorem ladderMove.resp {p : Prop} {c d : Chip} (h : ladderMove p c d) : d.resp = c.resp := by
  obtain ⟨_, _, _, _, _, _, rfl, _⟩ := h; rfl
theorem ladderMove.mode {p : Prop} {c d : Chip} (h : ladderMove p c d) : d.mode = c.mode := by
  obtain ⟨_, _, _, _, _, _, rfl, _⟩ := h; rfl
theorem ladderMove.blocksOn {p : Prop} {c d : Chip} (h : ladderMove p c d) : d.blocksOn = c.blocksOn := by
  obtain ⟨_, _, _, _, _, _, rfl, _⟩ := h; rfl
theorem ladderMove.tick {p : Prop} {c d : Chip} (h : ladderMove p c d) : d.tick = c.tick := by
  obtain ⟨_, _, _, _, _, _, rfl, _⟩ := h; rfl
theorem ladderMove.clock {p : Prop} {c d : Chip} (h : ladderMove p c d) : d.clock = c.clock := by
  obtain ⟨_, _, _, _, _, _, rfl, _⟩ := h; rfl
theorem ladderMove.ring {p : Prop} {c d : Chip} (h : ladderMove p c d) : d.ring = c.ring := by
  obtain ⟨_, _, _, _, _, _, rfl, _⟩ := h; rfl
theorem ladderMove.cdc {p : Prop} {c d : Chip} (h : ladderMove p c d) : d.cdc = c.cdc := by
  obtain ⟨_, _, _, _, _, _, rfl, _⟩ := h; rfl
theorem ladderMove.ray {p : Prop} {c d : Chip} (h : ladderMove p c d) : d.ray = c.ray := by
  obtain ⟨_, _, _, _, _, _, rfl, _⟩ := h; rfl
theorem ladderMove.lens {p : Prop} {c d : Chip} (h : ladderMove p c d) : d.lens = c.lens := by
  obtain ⟨_, _, _, _, _, _, rfl, _⟩ := h; rfl
theorem ladderMove.fst {p : Prop} {c d : Chip} (h : ladderMove p c d) : d.fst = c.fst := by
  obtain ⟨_, _, _, _, _, _, rfl, _⟩ := h; rfl
theorem ladderMove.pcn {p : Prop} {c d : Chip} (h : ladderMove p c d) : d.pcn = c.pcn := by
  obtain ⟨_, _, _, _, _, _, rfl, _⟩ := h; rfl
theorem ladderMove.blt {p : Prop} {c d : Chip} (h : ladderMove p c d) : d.blt = c.blt := by
  obtain ⟨_, _, _, _, _, _, rfl, _⟩ := h; rfl
theorem ladderMove.scan {p : Prop} {c d : Chip} (h : ladderMove p c d) : d.scan = c.scan := by
  obtain ⟨_, _, _, _, _, _, rfl, _⟩ := h; rfl
theorem ladderMove.lanes {p : Prop} {c d : Chip} (h : ladderMove p c d) : d.lanes = c.lanes := by
  obtain ⟨_, _, _, _, _, _, rfl, _⟩ := h; rfl
theorem ladderMove.sec {p : Prop} {c d : Chip} (h : ladderMove p c d) : d.sec = c.sec := by
  obtain ⟨_, _, _, _, _, _, rfl, _⟩ := h; rfl
theorem ladderMove.dram {p : Prop} {c d : Chip} (h : ladderMove p c d) : d.dram = c.dram := by
  obtain ⟨_, _, _, _, _, _, rfl, _⟩ := h; rfl
theorem ladderMove.apl {p : Prop} {c d : Chip} (h : ladderMove p c d) : d.apl = c.apl := by
  obtain ⟨_, _, _, _, _, _, rfl, _⟩ := h; rfl
theorem ladderMove.hlk {p : Prop} {c d : Chip} (h : ladderMove p c d) : d.hlk = c.hlk := by
  obtain ⟨_, _, _, _, _, _, rfl, _⟩ := h; rfl
theorem ladderMove.modes {p : Prop} {c d : Chip} (h : ladderMove p c d) : d.modes = c.modes := by
  obtain ⟨_, _, _, _, _, _, rfl, _⟩ := h; rfl
theorem ladderMove.mbx {p : Prop} {c d : Chip} (h : ladderMove p c d) : d.mbx = c.mbx := by
  obtain ⟨_, _, _, _, _, _, rfl, _⟩ := h; rfl
theorem ladderMove.tim {p : Prop} {c d : Chip} (h : ladderMove p c d) : d.tim = c.tim := by
  obtain ⟨_, _, _, _, _, _, rfl, _⟩ := h; rfl
theorem ladderMove.cal {p : Prop} {c d : Chip} (h : ladderMove p c d) : d.cal = c.cal := by
  obtain ⟨_, _, _, _, _, _, rfl, _⟩ := h; rfl
theorem ladderMove.pwr {p : Prop} {c d : Chip} (h : ladderMove p c d) : d.pwr = c.pwr := by
  obtain ⟨_, _, _, _, _, _, rfl, _⟩ := h; rfl
theorem ladderMove.thm {p : Prop} {c d : Chip} (h : ladderMove p c d) : d.thm = c.thm := by
  obtain ⟨_, _, _, _, _, _, rfl, _⟩ := h; rfl
theorem ladderMove.kpr {p : Prop} {c d : Chip} (h : ladderMove p c d) : d.kpr = c.kpr := by
  obtain ⟨_, _, _, _, _, _, rfl, _⟩ := h; rfl
theorem ladderMove.chk {p : Prop} {c d : Chip} (h : ladderMove p c d) : d.chk = c.chk := by
  obtain ⟨_, _, _, _, _, _, rfl, _⟩ := h; rfl
theorem ladderMove.fresh {p : Prop} {c d : Chip} (h : ladderMove p c d) : d.fresh = c.fresh := by
  obtain ⟨_, _, _, _, _, _, rfl, _⟩ := h; rfl
theorem ladderMove.out {p : Prop} {c d : Chip} (h : ladderMove p c d) : d.out = c.out := by
  obtain ⟨_, _, _, _, _, _, rfl, _⟩ := h; rfl
theorem ladderMove.badMem {p : Prop} {c d : Chip} (h : ladderMove p c d) : d.badMem = c.badMem := by
  obtain ⟨_, _, _, _, _, _, rfl, _⟩ := h; rfl
theorem ladderMove.regs_locked {p : Prop} {c d : Chip} (h : ladderMove p c d) : d.regs.locked = c.regs.locked := by
  obtain ⟨_, _, _, _, _, _, rfl, _⟩ := h; rfl
theorem ladderMove.regs_active {p : Prop} {c d : Chip} (h : ladderMove p c d) : d.regs.active = c.regs.active := by
  obtain ⟨_, _, _, _, _, _, rfl, _⟩ := h; rfl
theorem ladderMove.regs_dirty {p : Prop} {c d : Chip} (h : ladderMove p c d) : d.regs.dirty = c.regs.dirty := by
  obtain ⟨_, _, _, _, _, _, rfl, _⟩ := h; rfl
theorem ladderMove.regs_waiting {p : Prop} {c d : Chip} (h : ladderMove p c d) : d.regs.waiting = c.regs.waiting := by
  obtain ⟨_, _, _, _, _, _, rfl, _⟩ := h; rfl
theorem ladderMove.regs_badParity {p : Prop} {c d : Chip} (h : ladderMove p c d) : d.regs.badParity = c.regs.badParity := by
  obtain ⟨_, _, _, _, _, _, rfl, _⟩ := h; rfl
theorem ladderMove.regs_inReset {p : Prop} {c d : Chip} (h : ladderMove p c d) : d.regs.inReset = c.regs.inReset := by
  obtain ⟨_, _, _, _, _, _, rfl, _⟩ := h; rfl
theorem ladderMove.regs_rejectNow {p : Prop} {c d : Chip} (h : ladderMove p c d) : d.regs.rejectNow = c.regs.rejectNow := by
  obtain ⟨_, _, _, _, _, _, rfl, _⟩ := h; rfl
theorem ladderMove.regs_rejected {p : Prop} {c d : Chip} (h : ladderMove p c d) : d.regs.rejected = c.regs.rejected := by
  obtain ⟨_, _, _, _, _, _, rfl, _⟩ := h; rfl
theorem ladderMove.aw {p : Prop} {c d : Chip} (h : ladderMove p c d) (k : Nat) : d.aw k = c.aw k := by
  obtain ⟨_, _, _, _, _, _, rfl, _⟩ := h; rfl
theorem ladderMove.lw {p : Prop} {c d : Chip} (h : ladderMove p c d) (k : Nat) : d.lw k = c.lw k := by
  obtain ⟨_, _, _, _, _, _, rfl, _⟩ := h; rfl
theorem ladderMove.act {p : Prop} {c d : Chip} (h : ladderMove p c d) (f : Fld) : d.act f = c.act f := by
  simp [Chip.act, h.aw]

/-! ### The same, for the two operations that every chapter uses -/

@[simp] theorem Chip.event_variant (c : Chip) (page : Nat) (cls : ErrClass) (code : Code) (cell kind addr : Nat) (rp : Bool) :
    (c.event page cls code cell kind addr rp).variant = c.variant := (ladderMove.event c page cls code cell kind addr rp).variant
@[simp] theorem Chip.irq_variant (c : Chip) (page i : Nat) : (c.irq page i).variant = c.variant := (ladderMove.irq c page i).variant
@[simp] theorem Chip.raise_variant (c : Chip) (page i : Nat) : (c.raise page i).variant = c.variant := (ladderMove.raise c page i).variant
@[simp] theorem Chip.event_resp (c : Chip) (page : Nat) (cls : ErrClass) (code : Code) (cell kind addr : Nat) (rp : Bool) :
    (c.event page cls code cell kind addr rp).resp = c.resp := (ladderMove.event c page cls code cell kind addr rp).resp
@[simp] theorem Chip.irq_resp (c : Chip) (page i : Nat) : (c.irq page i).resp = c.resp := (ladderMove.irq c page i).resp
@[simp] theorem Chip.raise_resp (c : Chip) (page i : Nat) : (c.raise page i).resp = c.resp := (ladderMove.raise c page i).resp
@[simp] theorem Chip.event_mode (c : Chip) (page : Nat) (cls : ErrClass) (code : Code) (cell kind addr : Nat) (rp : Bool) :
    (c.event page cls code cell kind addr rp).mode = c.mode := (ladderMove.event c page cls code cell kind addr rp).mode
@[simp] theorem Chip.irq_mode (c : Chip) (page i : Nat) : (c.irq page i).mode = c.mode := (ladderMove.irq c page i).mode
@[simp] theorem Chip.raise_mode (c : Chip) (page i : Nat) : (c.raise page i).mode = c.mode := (ladderMove.raise c page i).mode
@[simp] theorem Chip.event_blocksOn (c : Chip) (page : Nat) (cls : ErrClass) (code : Code) (cell kind addr : Nat) (rp : Bool) :
    (c.event page cls code cell kind addr rp).blocksOn = c.blocksOn := (ladderMove.event c page cls code cell kind addr rp).blocksOn
@[simp] theorem Chip.irq_blocksOn (c : Chip) (page i : Nat) : (c.irq page i).blocksOn = c.blocksOn := (ladderMove.irq c page i).blocksOn
@[simp] theorem Chip.raise_blocksOn (c : Chip) (page i : Nat) : (c.raise page i).blocksOn = c.blocksOn := (ladderMove.raise c page i).blocksOn
@[simp] theorem Chip.event_tick (c : Chip) (page : Nat) (cls : ErrClass) (code : Code) (cell kind addr : Nat) (rp : Bool) :
    (c.event page cls code cell kind addr rp).tick = c.tick := (ladderMove.event c page cls code cell kind addr rp).tick
@[simp] theorem Chip.irq_tick (c : Chip) (page i : Nat) : (c.irq page i).tick = c.tick := (ladderMove.irq c page i).tick
@[simp] theorem Chip.raise_tick (c : Chip) (page i : Nat) : (c.raise page i).tick = c.tick := (ladderMove.raise c page i).tick
@[simp] theorem Chip.event_clock (c : Chip) (page : Nat) (cls : ErrClass) (code : Code) (cell kind addr : Nat) (rp : Bool) :
    (c.event page cls code cell kind addr rp).clock = c.clock := (ladderMove.event c page cls code cell kind addr rp).clock
@[simp] theorem Chip.irq_clock (c : Chip) (page i : Nat) : (c.irq page i).clock = c.clock := (ladderMove.irq c page i).clock
@[simp] theorem Chip.raise_clock (c : Chip) (page i : Nat) : (c.raise page i).clock = c.clock := (ladderMove.raise c page i).clock
@[simp] theorem Chip.event_ring (c : Chip) (page : Nat) (cls : ErrClass) (code : Code) (cell kind addr : Nat) (rp : Bool) :
    (c.event page cls code cell kind addr rp).ring = c.ring := (ladderMove.event c page cls code cell kind addr rp).ring
@[simp] theorem Chip.irq_ring (c : Chip) (page i : Nat) : (c.irq page i).ring = c.ring := (ladderMove.irq c page i).ring
@[simp] theorem Chip.raise_ring (c : Chip) (page i : Nat) : (c.raise page i).ring = c.ring := (ladderMove.raise c page i).ring
@[simp] theorem Chip.event_cdc (c : Chip) (page : Nat) (cls : ErrClass) (code : Code) (cell kind addr : Nat) (rp : Bool) :
    (c.event page cls code cell kind addr rp).cdc = c.cdc := (ladderMove.event c page cls code cell kind addr rp).cdc
@[simp] theorem Chip.irq_cdc (c : Chip) (page i : Nat) : (c.irq page i).cdc = c.cdc := (ladderMove.irq c page i).cdc
@[simp] theorem Chip.raise_cdc (c : Chip) (page i : Nat) : (c.raise page i).cdc = c.cdc := (ladderMove.raise c page i).cdc
@[simp] theorem Chip.event_ray (c : Chip) (page : Nat) (cls : ErrClass) (code : Code) (cell kind addr : Nat) (rp : Bool) :
    (c.event page cls code cell kind addr rp).ray = c.ray := (ladderMove.event c page cls code cell kind addr rp).ray
@[simp] theorem Chip.irq_ray (c : Chip) (page i : Nat) : (c.irq page i).ray = c.ray := (ladderMove.irq c page i).ray
@[simp] theorem Chip.raise_ray (c : Chip) (page i : Nat) : (c.raise page i).ray = c.ray := (ladderMove.raise c page i).ray
@[simp] theorem Chip.event_lens (c : Chip) (page : Nat) (cls : ErrClass) (code : Code) (cell kind addr : Nat) (rp : Bool) :
    (c.event page cls code cell kind addr rp).lens = c.lens := (ladderMove.event c page cls code cell kind addr rp).lens
@[simp] theorem Chip.irq_lens (c : Chip) (page i : Nat) : (c.irq page i).lens = c.lens := (ladderMove.irq c page i).lens
@[simp] theorem Chip.raise_lens (c : Chip) (page i : Nat) : (c.raise page i).lens = c.lens := (ladderMove.raise c page i).lens
@[simp] theorem Chip.event_fst (c : Chip) (page : Nat) (cls : ErrClass) (code : Code) (cell kind addr : Nat) (rp : Bool) :
    (c.event page cls code cell kind addr rp).fst = c.fst := (ladderMove.event c page cls code cell kind addr rp).fst
@[simp] theorem Chip.irq_fst (c : Chip) (page i : Nat) : (c.irq page i).fst = c.fst := (ladderMove.irq c page i).fst
@[simp] theorem Chip.raise_fst (c : Chip) (page i : Nat) : (c.raise page i).fst = c.fst := (ladderMove.raise c page i).fst
@[simp] theorem Chip.event_pcn (c : Chip) (page : Nat) (cls : ErrClass) (code : Code) (cell kind addr : Nat) (rp : Bool) :
    (c.event page cls code cell kind addr rp).pcn = c.pcn := (ladderMove.event c page cls code cell kind addr rp).pcn
@[simp] theorem Chip.irq_pcn (c : Chip) (page i : Nat) : (c.irq page i).pcn = c.pcn := (ladderMove.irq c page i).pcn
@[simp] theorem Chip.raise_pcn (c : Chip) (page i : Nat) : (c.raise page i).pcn = c.pcn := (ladderMove.raise c page i).pcn
@[simp] theorem Chip.event_blt (c : Chip) (page : Nat) (cls : ErrClass) (code : Code) (cell kind addr : Nat) (rp : Bool) :
    (c.event page cls code cell kind addr rp).blt = c.blt := (ladderMove.event c page cls code cell kind addr rp).blt
@[simp] theorem Chip.irq_blt (c : Chip) (page i : Nat) : (c.irq page i).blt = c.blt := (ladderMove.irq c page i).blt
@[simp] theorem Chip.raise_blt (c : Chip) (page i : Nat) : (c.raise page i).blt = c.blt := (ladderMove.raise c page i).blt
@[simp] theorem Chip.event_scan (c : Chip) (page : Nat) (cls : ErrClass) (code : Code) (cell kind addr : Nat) (rp : Bool) :
    (c.event page cls code cell kind addr rp).scan = c.scan := (ladderMove.event c page cls code cell kind addr rp).scan
@[simp] theorem Chip.irq_scan (c : Chip) (page i : Nat) : (c.irq page i).scan = c.scan := (ladderMove.irq c page i).scan
@[simp] theorem Chip.raise_scan (c : Chip) (page i : Nat) : (c.raise page i).scan = c.scan := (ladderMove.raise c page i).scan
@[simp] theorem Chip.event_lanes (c : Chip) (page : Nat) (cls : ErrClass) (code : Code) (cell kind addr : Nat) (rp : Bool) :
    (c.event page cls code cell kind addr rp).lanes = c.lanes := (ladderMove.event c page cls code cell kind addr rp).lanes
@[simp] theorem Chip.irq_lanes (c : Chip) (page i : Nat) : (c.irq page i).lanes = c.lanes := (ladderMove.irq c page i).lanes
@[simp] theorem Chip.raise_lanes (c : Chip) (page i : Nat) : (c.raise page i).lanes = c.lanes := (ladderMove.raise c page i).lanes
@[simp] theorem Chip.event_sec (c : Chip) (page : Nat) (cls : ErrClass) (code : Code) (cell kind addr : Nat) (rp : Bool) :
    (c.event page cls code cell kind addr rp).sec = c.sec := (ladderMove.event c page cls code cell kind addr rp).sec
@[simp] theorem Chip.irq_sec (c : Chip) (page i : Nat) : (c.irq page i).sec = c.sec := (ladderMove.irq c page i).sec
@[simp] theorem Chip.raise_sec (c : Chip) (page i : Nat) : (c.raise page i).sec = c.sec := (ladderMove.raise c page i).sec
@[simp] theorem Chip.event_dram (c : Chip) (page : Nat) (cls : ErrClass) (code : Code) (cell kind addr : Nat) (rp : Bool) :
    (c.event page cls code cell kind addr rp).dram = c.dram := (ladderMove.event c page cls code cell kind addr rp).dram
@[simp] theorem Chip.irq_dram (c : Chip) (page i : Nat) : (c.irq page i).dram = c.dram := (ladderMove.irq c page i).dram
@[simp] theorem Chip.raise_dram (c : Chip) (page i : Nat) : (c.raise page i).dram = c.dram := (ladderMove.raise c page i).dram
@[simp] theorem Chip.event_apl (c : Chip) (page : Nat) (cls : ErrClass) (code : Code) (cell kind addr : Nat) (rp : Bool) :
    (c.event page cls code cell kind addr rp).apl = c.apl := (ladderMove.event c page cls code cell kind addr rp).apl
@[simp] theorem Chip.irq_apl (c : Chip) (page i : Nat) : (c.irq page i).apl = c.apl := (ladderMove.irq c page i).apl
@[simp] theorem Chip.raise_apl (c : Chip) (page i : Nat) : (c.raise page i).apl = c.apl := (ladderMove.raise c page i).apl
@[simp] theorem Chip.event_hlk (c : Chip) (page : Nat) (cls : ErrClass) (code : Code) (cell kind addr : Nat) (rp : Bool) :
    (c.event page cls code cell kind addr rp).hlk = c.hlk := (ladderMove.event c page cls code cell kind addr rp).hlk
@[simp] theorem Chip.irq_hlk (c : Chip) (page i : Nat) : (c.irq page i).hlk = c.hlk := (ladderMove.irq c page i).hlk
@[simp] theorem Chip.raise_hlk (c : Chip) (page i : Nat) : (c.raise page i).hlk = c.hlk := (ladderMove.raise c page i).hlk
@[simp] theorem Chip.event_modes (c : Chip) (page : Nat) (cls : ErrClass) (code : Code) (cell kind addr : Nat) (rp : Bool) :
    (c.event page cls code cell kind addr rp).modes = c.modes := (ladderMove.event c page cls code cell kind addr rp).modes
@[simp] theorem Chip.irq_modes (c : Chip) (page i : Nat) : (c.irq page i).modes = c.modes := (ladderMove.irq c page i).modes
@[simp] theorem Chip.raise_modes (c : Chip) (page i : Nat) : (c.raise page i).modes = c.modes := (ladderMove.raise c page i).modes
@[simp] theorem Chip.event_mbx (c : Chip) (page : Nat) (cls : ErrClass) (code : Code) (cell kind addr : Nat) (rp : Bool) :
    (c.event page cls code cell kind addr rp).mbx = c.mbx := (ladderMove.event c page cls code cell kind addr rp).mbx
@[simp] theorem Chip.irq_mbx (c : Chip) (page i : Nat) : (c.irq page i).mbx = c.mbx := (ladderMove.irq c page i).mbx
@[simp] theorem Chip.raise_mbx (c : Chip) (page i : Nat) : (c.raise page i).mbx = c.mbx := (ladderMove.raise c page i).mbx
@[simp] theorem Chip.event_tim (c : Chip) (page : Nat) (cls : ErrClass) (code : Code) (cell kind addr : Nat) (rp : Bool) :
    (c.event page cls code cell kind addr rp).tim = c.tim := (ladderMove.event c page cls code cell kind addr rp).tim
@[simp] theorem Chip.irq_tim (c : Chip) (page i : Nat) : (c.irq page i).tim = c.tim := (ladderMove.irq c page i).tim
@[simp] theorem Chip.raise_tim (c : Chip) (page i : Nat) : (c.raise page i).tim = c.tim := (ladderMove.raise c page i).tim
@[simp] theorem Chip.event_cal (c : Chip) (page : Nat) (cls : ErrClass) (code : Code) (cell kind addr : Nat) (rp : Bool) :
    (c.event page cls code cell kind addr rp).cal = c.cal := (ladderMove.event c page cls code cell kind addr rp).cal
@[simp] theorem Chip.irq_cal (c : Chip) (page i : Nat) : (c.irq page i).cal = c.cal := (ladderMove.irq c page i).cal
@[simp] theorem Chip.raise_cal (c : Chip) (page i : Nat) : (c.raise page i).cal = c.cal := (ladderMove.raise c page i).cal
@[simp] theorem Chip.event_pwr (c : Chip) (page : Nat) (cls : ErrClass) (code : Code) (cell kind addr : Nat) (rp : Bool) :
    (c.event page cls code cell kind addr rp).pwr = c.pwr := (ladderMove.event c page cls code cell kind addr rp).pwr
@[simp] theorem Chip.irq_pwr (c : Chip) (page i : Nat) : (c.irq page i).pwr = c.pwr := (ladderMove.irq c page i).pwr
@[simp] theorem Chip.raise_pwr (c : Chip) (page i : Nat) : (c.raise page i).pwr = c.pwr := (ladderMove.raise c page i).pwr
@[simp] theorem Chip.event_thm (c : Chip) (page : Nat) (cls : ErrClass) (code : Code) (cell kind addr : Nat) (rp : Bool) :
    (c.event page cls code cell kind addr rp).thm = c.thm := (ladderMove.event c page cls code cell kind addr rp).thm
@[simp] theorem Chip.irq_thm (c : Chip) (page i : Nat) : (c.irq page i).thm = c.thm := (ladderMove.irq c page i).thm
@[simp] theorem Chip.raise_thm (c : Chip) (page i : Nat) : (c.raise page i).thm = c.thm := (ladderMove.raise c page i).thm
@[simp] theorem Chip.event_kpr (c : Chip) (page : Nat) (cls : ErrClass) (code : Code) (cell kind addr : Nat) (rp : Bool) :
    (c.event page cls code cell kind addr rp).kpr = c.kpr := (ladderMove.event c page cls code cell kind addr rp).kpr
@[simp] theorem Chip.irq_kpr (c : Chip) (page i : Nat) : (c.irq page i).kpr = c.kpr := (ladderMove.irq c page i).kpr
@[simp] theorem Chip.raise_kpr (c : Chip) (page i : Nat) : (c.raise page i).kpr = c.kpr := (ladderMove.raise c page i).kpr
@[simp] theorem Chip.event_chk (c : Chip) (page : Nat) (cls : ErrClass) (code : Code) (cell kind addr : Nat) (rp : Bool) :
    (c.event page cls code cell kind addr rp).chk = c.chk := (ladderMove.event c page cls code cell kind addr rp).chk
@[simp] theorem Chip.irq_chk (c : Chip) (page i : Nat) : (c.irq page i).chk = c.chk := (ladderMove.irq c page i).chk
@[simp] theorem Chip.raise_chk (c : Chip) (page i : Nat) : (c.raise page i).chk = c.chk := (ladderMove.raise c page i).chk
@[simp] theorem Chip.event_fresh (c : Chip) (page : Nat) (cls : ErrClass) (code : Code) (cell kind addr : Nat) (rp : Bool) :
    (c.event page cls code cell kind addr rp).fresh = c.fresh := (ladderMove.event c page cls code cell kind addr rp).fresh
@[simp] theorem Chip.irq_fresh (c : Chip) (page i : Nat) : (c.irq page i).fresh = c.fresh := (ladderMove.irq c page i).fresh
@[simp] theorem Chip.raise_fresh (c : Chip) (page i : Nat) : (c.raise page i).fresh = c.fresh := (ladderMove.raise c page i).fresh
@[simp] theorem Chip.event_out (c : Chip) (page : Nat) (cls : ErrClass) (code : Code) (cell kind addr : Nat) (rp : Bool) :
    (c.event page cls code cell kind addr rp).out = c.out := (ladderMove.event c page cls code cell kind addr rp).out
@[simp] theorem Chip.irq_out (c : Chip) (page i : Nat) : (c.irq page i).out = c.out := (ladderMove.irq c page i).out
@[simp] theorem Chip.raise_out (c : Chip) (page i : Nat) : (c.raise page i).out = c.out := (ladderMove.raise c page i).out
@[simp] theorem Chip.event_badMem (c : Chip) (page : Nat) (cls : ErrClass) (code : Code) (cell kind addr : Nat) (rp : Bool) :
    (c.event page cls code cell kind addr rp).badMem = c.badMem := (ladderMove.event c page cls code cell kind addr rp).badMem
@[simp] theorem Chip.irq_badMem (c : Chip) (page i : Nat) : (c.irq page i).badMem = c.badMem := (ladderMove.irq c page i).badMem
@[simp] theorem Chip.raise_badMem (c : Chip) (page i : Nat) : (c.raise page i).badMem = c.badMem := (ladderMove.raise c page i).badMem
@[simp] theorem Chip.event_aw (c : Chip) (page : Nat) (cls : ErrClass) (code : Code) (cell kind addr : Nat) (rp : Bool) (k : Nat) :
    (c.event page cls code cell kind addr rp).aw k = c.aw k := (ladderMove.event c page cls code cell kind addr rp).aw k
@[simp] theorem Chip.irq_aw (c : Chip) (page i k : Nat) : (c.irq page i).aw k = c.aw k := (ladderMove.irq c page i).aw k
@[simp] theorem Chip.event_act (c : Chip) (page : Nat) (cls : ErrClass) (code : Code) (cell kind addr : Nat) (rp : Bool) (f : Fld) :
    (c.event page cls code cell kind addr rp).act f = c.act f := (ladderMove.event c page cls code cell kind addr rp).act f
@[simp] theorem Chip.irq_act (c : Chip) (page i : Nat) (f : Fld) : (c.irq page i).act f = c.act f :=
  (ladderMove.irq c page i).act f
theorem Chip.event_get (c : Chip) (page : Nat) (cls : ErrClass) (code : Code) (cell kind addr : Nat) (rp : Bool) (f : Fld) (hp : page % 4096 = 0) (hf : ladderFree f.key) :
    (c.event page cls code cell kind addr rp).get f = c.get f := (ladderMove.event c page cls code cell kind addr rp).get hp f hf
theorem Chip.irq_get (c : Chip) (page i : Nat) (f : Fld) (hp : page % 4096 = 0) (hf : ladderFree f.key) :
    (c.irq page i).get f = c.get f := (ladderMove.irq c page i).get hp f hf
theorem Chip.count_get (c : Chip) (page i n : Nat) (f : Fld) (h : f.key ≠ page + 0x44 + 4 * i) :
    (c.count page i n).get f = c.get f := by
  simp [Chip.get, Chip.w_count_other _ _ _ _ _ h]

end Sys2Proof.Machine
end

