-- ==== Sys2Proof/WellFormed.lean ====
section
/-!
DEFINITION. WellFormed.lean: the commands whose operands lie in the ranges that the spec gives them. Meanings do not read
this predicate: it names the operands that a host, a peer or a wire can present.
-/

namespace Sys2Proof

/-- A register word (R55). -/
def word32 (n : Nat) : Bool := decide (n < 2 ^ 32)

/-- A device address (R52). -/
def addr40 (n : Nat) : Bool := decide (n < 2 ^ 40)

/-- The length of an access in bytes: a packet carries at most 4 096 (R397). -/
def accessBytes (n : Nat) : Bool := decide (0 < n ∧ n ≤ 4096)

/-- The key of a page's offset 0 (R54): block codes 1 to 20, instances below 256. -/
def pageOk (n : Nat) : Bool := decide (n % 4096 = 0 ∧ 0x100000 ≤ n ∧ n < 0x1500000)

/-- The offset of a register in its page (R55). -/
def offsetOk (n : Nat) : Bool := decide (n % 4 = 0 ∧ n < 4096)

/-- The regions Scene, Ray, Panel and Keeper (R68). -/
def regionOk (n : Nat) : Bool := decide (n < 4)

/-- A region, or none for the chip's own register. -/
def regionAt : Option Nat → Bool
  | some r => regionOk r
  | none => true

/-- Host 0 or host 1: the context of a packet. -/
def hostOk (n : Nat) : Bool := decide (n < 2)

/-- A mailbox endpoint (R479). -/
def endpointOk (n : Nat) : Bool := decide (n < 68)

/-- An endpoint, or none for the module's own. -/
def endpointAt : Option Nat → Bool
  | some e => endpointOk e
  | none => true

/-- The strap WALL_ID[5:0] (R414). -/
def wallIdOk (n : Nat) : Bool := decide (n < 64)

/-- A mailbox message: at most 64 bytes (R480). -/
def messageOk (l : List Byte) : Bool := decide (l.length ≤ 64)

/-- A flit: 72 bytes (R391). -/
def flitOk (l : List Byte) : Bool := decide (l.length = 72)

/-- A tile frame: 40 bytes (R411). -/
def frameOk (l : List Byte) : Bool := decide (l.length = 40)

/-- A tile link: two to each of four ports (R410). -/
def linkOk (n : Nat) : Bool := decide (n < 8)

/-- A lane of the host link, or of the tile link. -/
def laneOk (host : Bool) (n : Nat) : Bool := decide (n < (if host then 16 else 8))

/-- A time port (R445). -/
def timePortOk (n : Nat) : Bool := decide (n < 2)

/-- A panel connector, SER[1..3] (R67). -/
def panelPortOk (n : Nat) : Bool := decide (0 < n ∧ n ≤ 3)

/-- A return path of a connector (R288). -/
def pathOk (n : Nat) : Bool := decide (n < 2)

/-- A channel of the sector light (R307). -/
def lightChannelOk (n : Nat) : Bool := decide (n < 96)

/-- An LPDDR6 channel (R369). -/
def memChannelOk (n : Nat) : Bool := decide (n < 8)

/-- A sub-channel of an LPDDR6 channel (chapter 16). -/
def subChannelOk (n : Nat) : Bool := decide (n < 2)

/-- A cluster of the ray engine (R147). -/
def clusterOk (n : Nat) : Bool := decide (n < 32)

/-- A tile of a field: at most 1 036 800 (R166). -/
def tileOk (n : Nat) : Bool := decide (n < 1036800)

/-- A scene layer: at most 16 (chapter 5). -/
def layerOk (n : Nat) : Bool := decide (n < 16)

/-- A cache level that a tile's parity error was met in. -/
def levelOk (n : Nat) : Bool := decide (n ≤ 3)

/-- A hardware lock (R490). -/
def lockOk (n : Nat) : Bool := decide (n < 64)

/-- A trigger unit (R449). -/
def triggerOk (n : Nat) : Bool := decide (n < 16)

/-- A check unit, CHK[1..20] (R493). -/
def checkUnitOk (n : Nat) : Bool := decide (0 < n ∧ n ≤ 20)

/-- A slot of a region-layer update or of a mailbox channel (R349, R480). -/
def slotOk (n : Nat) : Bool := decide (n < 16)

/-- A temperature zone (R538). -/
def zoneOk (n : Nat) : Bool := decide (n < 6)

/-- The readings of the 40 ring-oscillator sensors (R538). -/
def samplesOk (temps : List Int) (counts : List Nat) : Bool := decide (temps.length = 40 ∧ counts.length = 40)

/-- The payload of a SCENE packet (R397). -/
def payloadOk (l : List Byte) : Bool := decide (l.length ≤ 4096)

/-- A master of the field store (R206). -/
def fieldMasterOk (n : Nat) : Bool := decide (n < 8)

/-- A reading of a 16-bit register in mV. -/
def reading16 (n : Nat) : Bool := decide (n < 65536)

/-- An Adeak packet whose header fields fit their places (R397). -/
def packetOk (p : Packet) : Bool :=
  decide (p.op < 256 ∧ p.ctx < 2 ∧ p.tag < 65536 ∧ p.len < 65536 ∧ p.status < 256 ∧ p.aux < 256 ∧ p.far < 256 ∧ p.addr < 2 ^ 40
    ∧ p.rdlen < 65536 ∧ p.data.length ≤ 4144)

/-- A Keeper request whose fields fit Table 4 (R465). -/
def requestOk (q : KeeperReq) : Bool :=
  decide (q.ep < 68 ∧ q.flags < 256 ∧ q.bytes2 < 65536 ∧ q.tag < 2 ^ 32 ∧ q.addr < 2 ^ 40 ∧ q.bytes13 < 2 ^ 24
    ∧ q.len < 2 ^ 32 ∧ q.data.length ≤ 44)

/-- A command whose operands lie in their ranges. -/
def Instr.wellFormed : Instr → Bool
  | .planLock => true
  | .commit _ => true
  | .synthesisDeadline => true
  | .tickHoldover => true
  | .tickSourceRelock _ => true
  | .registerWrite _ addr data acc => addr40 addr && word32 data && accessBytes acc.bytes
  | .budgetMaxClr _ page data => pageOk page && word32 data
  | .errInfoClear _ page data => pageOk page && word32 data
  | .errCountClear _ page data => pageOk page && word32 data
  | .blockResetRequest _ page data => pageOk page && word32 data
  | .counterClear _ page data => pageOk page && word32 data
  | .intRawClear _ page data => pageOk page && word32 data
  | .intForce _ page data => pageOk page && word32 data
  | .rollupEventClear _ region data => regionAt region && word32 data
  | .pageLockSet _ page data => pageOk page && word32 data
  | .pageUnlock _ page data => pageOk page && word32 data
  | .parityInject _ page data => pageOk page && word32 data
  | .registerParityError page off => pageOk page && offsetOk off
  | .eventPacket host => hostOk host
  | .eventPacketMerge host => hostOk host
  | .vinValid mv => reading16 mv
  | .pwrEnRise => true
  | .pwrEnFall => true
  | .wakeNLow => true
  | .bootRomStart id _ _ _ _ => wallIdOk id
  | .calSetLoad => true
  | .regionPowerUp region rails => regionOk region && word32 rails
  | .panelEepromRead _ => true
  | .startupProfileLoad => true
  | .startupComplete => true
  | .modeSet ep message => endpointOk ep && messageOk message
  | .modeTransition => true
  | .darkTrainingSlot => true
  | .newModeFirstTick => true
  | .darkSequenceEnd => true
  | .orderlyRecord => true
  | .fatalSafeEntry => true
  | .scene ctx _ data => hostOk ctx && payloadOk data
  | .cdcGroupDecode layer _ pipe _ _ => layerOk layer && decide (pipe < 6)
  | .cdcJobPost _ data => word32 data
  | .cdcJobStart => true
  | .cdcJobComplete _ => true
  | .cdcJobAbort _ data => word32 data
  | .cdcFlush _ data => word32 data
  | .tileDispatch _ _ => true
  | .texelCacheMiss cluster layer _ _ => clusterOk cluster && layerOk layer
  | .tileFinish cluster tile => clusterOk cluster && tileOk tile
  | .tileParityRestart cluster tile level layer _ _ =>
    clusterOk cluster && tileOk tile && levelOk level && layerOk layer
  | .clusterReturn _ data => word32 data
  | .lnsProbe _ off => offsetOk off.src
  | .agePromotion master _ => fieldMasterOk master
  | .conflictClear _ data => word32 data
  | .scanoutLine _ => true
  | .timingModeWrite _ data => word32 data
  | .bltCmdPost _ data => word32 data
  | .bltCmdStart => true
  | .bltCmdComplete _ => true
  | .bltAbort _ data => word32 data
  | .beamRowRelease => true
  | .pcnTblDataWrite _ data => word32 data
  | .pcnTblDataRead _ => true
  | .pcnProbeSelect _ data => word32 data
  | .driverStatusFrame port _ _ => panelPortOk port
  | .laneRetry _ port _ data => panelPortOk port && word32 data
  | .returnLost port path => panelPortOk port && pathOk path
  | .returnRelock port path => panelPortOk port && pathOk path
  | .trainLockCheck => true
  | .trainSettingsApply _ => true
  | .trainJudge _ => true
  | .eyeScanStart _ data => word32 data
  | .eyeScanDone _ _ _ => true
  | .serCrcInject _ data => word32 data
  | .scanSlotStart _ => true
  | .litWindowStart _ => true
  | .channelPowerAverage ch _ => lightChannelOk ch
  | .vledRangeFault mv => reading16 mv
  | .vledResume => true
  | .secDriveWrite _ data => word32 data
  | .secRetry _ data => word32 data
  | .aplFrameStart => true
  | .aplReqPost _ data => word32 data
  | .aplUpdateComplete slot => slotOk slot
  | .aplAbort _ data => word32 data
  | .aplRailReady _ => true
  | .aplRailCheck _ => true
  | .aplUnfreeze _ data => word32 data
  | .aplDriveWrite _ data => word32 data
  | .aplTblDataWrite _ data => word32 data
  | .dramCommandSlot ch sub _ _ _ => memChannelOk ch && subChannelOk sub
  | .refreshDue ch sub _ => memChannelOk ch && subChannelOk sub
  | .deviceTempReport ch _ _ => memChannelOk ch
  | .quietWindow ch _ _ => memChannelOk ch
  | .trackRequest ch => memChannelOk ch
  | .channelRetry _ data => word32 data
  | .dramParityInject _ ch data => memChannelOk ch && word32 data
  | .linkDetect => true
  | .linkDetectTimeout => true
  | .linkTrainEntry _ => true
  | .ts flit => flitOk flit
  | .linkRateSwitch _ _ => true
  | .linkTrainTimeout => true
  | .init flit => flitOk flit
  | .linkRecoverTimeout => true
  | .dataFlit flit => flitOk flit
  | .nak flit => flitOk flit
  | .ackTimeout => true
  | .regRd packet => packetOk packet
  | .regWr packet => packetOk packet
  | .dmaWr packet => packetOk packet
  | .dmaWrComplete _ => true
  | .dmaRd packet => packetOk packet
  | .dmaRdComplete _ => true
  | .mbxPost packet => packetOk packet
  | .tick packet => packetOk packet
  | .timeReq packet => packetOk packet
  | .lpAck flit => flitOk flit
  | .lpAckWaitExpiry => true
  | .lpExit _ => true
  | .linkRetrain _ data => word32 data
  | .linkEnableWrite _ data => word32 data
  | .linkCrcInject _ data => word32 data
  | .join link frame => linkOk link && frameOk frame
  | .joinResult link frame => linkOk link && frameOk frame
  | .joinRetry => true
  | .barrier link frame => linkOk link && frameOk frame
  | .barrierSend => true
  | .summary link frame => linkOk link && frameOk frame
  | .summaryWaitExpiry => true
  | .mbxA link frame => linkOk link && frameOk frame
  | .mbxB link frame => linkOk link && frameOk frame
  | .mbxCpl link frame => linkOk link && frameOk frame
  | .mbxRemoteResend ep slot => endpointOk ep && slotOk slot
  | .tlRegRd link frame => linkOk link && frameOk frame.src
  | .tlRegWr link frame => linkOk link && frameOk frame
  | .regCpl link frame => linkOk link && frameOk frame
  | .mirror link frame => linkOk link && frameOk frame
  | .heartbeat link frame => linkOk link && frameOk frame
  | .daymarkLo link frame => linkOk link && frameOk frame
  | .daymarkHi link frame => linkOk link && frameOk frame
  | .tlNak link frame => linkOk link && frameOk frame
  | .tlReplayTimeout link => linkOk link
  | .portDown link => linkOk link
  | .heartbeatCheck => true
  | .pairOutputEnable => true
  | .pairOwnIChange _ => true
  | .pairRelease _ data => word32 data
  | .remoteGo _ data => word32 data
  | .remoteTimeout => true
  | .time link frame _ _ => linkOk link && frameOk frame
  | .timeSnapshot _ => true
  | .rateWrite _ data => word32 data
  | .stepGo _ data => word32 data
  | .triggerFire unit _ => triggerOk unit
  | .triggerEnable _ unit data => triggerOk unit && word32 data
  | .ptpMessage port _ _ _ => timePortOk port
  | .followUpTimeout port _ _ => timePortOk port
  | .timePortDown port => timePortOk port
  | .luminanceUpdate _ _ => true
  | .profileStore req => requestOk req
  | .policyStore req => requestOk req
  | .attest req => requestOk req
  | .certGet req => requestOk req
  | .fwStore req => requestOk req
  | .rollbackCommit req => requestOk req
  | .keyProgram req => requestOk req
  | .keyRevoke req => requestOk req
  | .debugChallenge req => requestOk req
  | .debugResponse req => requestOk req
  | .debugExpiry => true
  | .challengeLapse => true
  | .brightSet req => requestOk req
  | .keeperRestart => true
  | .txPost _ data => word32 data
  | .rxPop _ ep data => endpointOk ep && word32 data
  | .dbSet _ ep ch data => endpointOk ep && endpointOk ch && word32 data
  | .noticeClr _ ep ch data => endpointOk ep && endpointOk ch && word32 data
  | .epReset _ ep data => endpointAt ep && word32 data
  | .mbxBlockReset _ => true
  | .lockRead _ lock => lockOk lock
  | .lockRelease _ lock data => lockOk lock && word32 data
  | .chkStart _ unit data => checkUnitOk unit && word32 data
  | .chkData32 _ unit data => checkUnitOk unit && word32 data
  | .chkData8 _ unit data => checkUnitOk unit && word32 data
  | .chkFinish _ unit data => checkUnitOk unit && word32 data
  | .chkResync _ unit data => checkUnitOk unit && word32 data
  | .calPassStart => true
  | .calStepStart _ _ => true
  | .calStepDone _ => true
  | .calPause _ => true
  | .calFullRunEnd _ => true
  | .calExport req => requestOk req
  | .calRun req => requestOk req
  | .calCommit req => requestOk req
  | .calStore req => requestOk req
  | .calMode req => requestOk req
  | .mooringTrigger mv _ => reading16 mv
  | .mooringTestGo _ data => word32 data
  | .mooringBlank => true
  | .mooringLanesIdle => true
  | .mooringLayerStepEnd => true
  | .layerCut mv => reading16 mv
  | .mooringRecord _ => true
  | .mooringEnd => true
  | .offHoldoffExpiry => true
  | .railFault _ mv => reading16 mv
  | .capMeasure _ mv => reading16 mv
  | .capTopup mv _ => reading16 mv
  | .capOvervolt mv => reading16 mv
  | .reserveCompute mv => reading16 mv
  | .recordSlotErase => true
  | .thermalSample temps counts => samplesOk temps counts
  | .thermalStepRepeat zone => zoneOk zone
  | .brokenRetry _ data => word32 data
  | .panelTempSample _ => true
  | .vinMinClr _ data => word32 data
  | .refclkLost => true
  | .refclkReturn => true
  | .tilePortUp link => linkOk link
  | .laneLockLoss host lane => laneOk host lane
  | .nullFlit flit => flitOk flit
  | .idle link frame => linkOk link && frameOk frame
  | .timePortUp port => timePortOk port
  | .announceReceiptTimeout port => timePortOk port
  | .ptpSyncInterval port => timePortOk port
  | .flashWriteDone _ => true
  | .startupLaneTraining _ _ => true
  | .keeperRestartEnd => true

end Sys2Proof
end

