-- ==== Sys2Proof/Tests/Slice0.lean ====
section
/-!
SUPPORT. Slice0.lean: for every statement of Certificates/Slice0/Obligations.lean that has hypotheses, a module and
operands that meet them, clause by clause; one ill-formed command for each check of WellFormed.lean; some of the spec's
worked examples.
-/

open Sys2Proof Sys2Proof.Machine
namespace Sys2Proof.Tests

set_option Elab.async false

/-- Every block powered, all memory channels live, in Flat, the Keeper's firmware past the last start-up step. -/
def live : Chip := ({ mode := .flat, blocksOn := List.range' 1 20, dram := { live := List.range 8 } } : Chip).set F.KPR_BOOT_STATUS_STEP 7

/-- A state of a module. -/
def st (c : Chip) : State := { chip := c }

/-- A field's active value set. -/
def actSet (c : Chip) (f : Fld) (v : Nat) : Chip := c.setAct f.key (fldPut (c.aw f.key) f v)

/-- A module in start-up whose step `n` has ended. -/
def booting (n : Nat) : Chip := { live.set F.KPR_BOOT_STATUS_STEP n with mode := .boot, tick := {} }

/-- A module whose raster runs in timing mode 1. -/
def lit : Chip := actSet (live.set ⟨P.SCN + 0x00C, 3, 1, 4⟩ 1) F.SCN_TIMING_MODE 1

/-- Memory that holds bytes from an address on. -/
def mem (a : Nat) (l : List Byte) : Memory := { cells := (l.zipIdx.map (fun e => (a + e.2, e.1))).filter (fun e => e.2 ≠ 0) }


/-- Every clause of HeaderWritesClear. -/
theorem witness_HeaderWritesClear :
    P.SEC % 4096 = 0 ∧ (st live).chip.takesWrite .host0 (P.SEC + 0x030) ∧ bit 0x08000000 27 = true
      ∧ live.takesWrite .host1 (P.SEC + 0x020) ∧ bit 0x10 4 = true ∧ live.takesWrite .keeper (P.SEC + 0x02C)
      ∧ live.takesWrite .keeper (P.SEC + 0x008) ∧ bit 0x40000000 30 = true ∧ bit 0x40000000 31 = false
      ∧ bit 0x80000000 30 = false ∧ bit 0x80000000 31 = true ∧ blockOf P.SEC ≠ 18 ∧ blockOf P.SEC ≠ 15
      ∧ blockOf P.SEC ≠ 14 ∧ blockOf P.SEC ≠ 20 := by decide +kernel

/-- Every clause of InterruptBitsClearAndForce. -/
theorem witness_InterruptBitsClearAndForce :
    P.KPR % 4096 = 0 ∧ live.takesWrite .host0 (P.KPR + 0x010) ∧ live.takesWrite .keeper (P.KPR + 0x01C)
      ∧ live.takesWrite .host1 (P.SEC + 0x03C) ∧ bit 2 1 = true ∧ live.blockOn 14 = true
      ∧ live.is ⟨P.KPR + 0x03C, 1, 1, 4⟩ = false ∧ live.hlk.downNext = false ∧ bit 0x80000000 31 = true ∧ bit 0x100 8 = true := by
  decide +kernel

/-- A page locked for all but the Keeper. -/
def lockedPage : Chip := live.setw (P.SEC + 0x038) 0x80000001

/-- Every clause of PageLockKeepsMastersOut. -/
theorem witness_PageLockKeepsMastersOut :
    live.takesWrite .host0 (P.SEC + 0x038) ∧ bit 0x80000001 31 = true ∧ bit 0x80000001 30 = false
      ∧ lockedPage.takesWrite .keeper (P.SEC + 0x038) ∧ bit 0x40000000 30 = true
      ∧ P.SEC + 0xFFC < 0x10000000 ∧ lockedPage.pageMapped P.SEC = true ∧ lockedPage.hlk.downNext = false ∧ P.SEC ≠ P.KPR
      ∧ lockedPage.get ⟨P.SEC + 0x038, 31, 1, 4⟩ = 1
      ∧ bit (lockedPage.get ⟨P.SEC + 0x038, 0, 5, 4⟩) (masterBit .host0) = false := by decide +kernel

/-- Every clause of WordWritesReachRegistersAndMemory: TLK's REMOTE_DATA, the first word of memory and an address that is
neither. -/
theorem witness_WordWritesReachRegistersAndMemory :
    (live.takesWrite .host0 K.TLK_REMOTE_DATA ∧ 0x100 ≤ offOf K.TLK_REMOTE_DATA
      ∧ (findReg K.TLK_REMOTE_DATA).map (fun d => (d.rw, d.stg, d.w1c, d.w1s)) = some (0xFFFFFFFF, 0, 0, 0)
      ∧ live.quiet.engineWrite {} K.TLK_REMOTE_DATA 0xFFFFFFFF = none
      ∧ live.quiet.keeperRegWrite .host0 K.TLK_REMOTE_DATA 0xFFFFFFFF = none)
      ∧ live.target 0 = .mem ∧ live.hlk.downNext = false ∧ live.target 2 ≠ .none ∧ live.target 0xFFFFFFFFFF = .none := by decide +kernel

/-- Every clause of RegisterParityErrorIsRecorded: SEC's page and HLK's. -/
theorem witness_RegisterParityErrorIsRecorded :
    (bit (live.w (P.SEC + 0x20)).toNat 4 = false ∧ (actSet live ⟨P.SEC + 0x40, 8, 8, 4⟩ 0).act ⟨P.SEC + 0x40, 8, 8, 4⟩ = 0 ∧ blockOf P.SEC = 12)
      ∧ bit (live.w (P.HLK + 0x20)).toNat 4 = false ∧ (actSet live ⟨P.HLK + 0x40, 8, 8, 4⟩ 0).act ⟨P.HLK + 0x40, 8, 8, 4⟩ = 0
      ∧ blockOf P.HLK ≠ 12 ∧ blockOf P.HLK ≠ 13 ∧ blockOf P.HLK ≠ 20 := by decide +kernel

/-- A link UP with an event to report, in its window or out of it. -/
def linkUp (window : Bool) (credits : Nat) : Chip :=
  { live.set F.HLK_LINK_STATUS_STATE 4 with
    host0 := { rise := true, window := window }, hlk := { credits := [8, 8, credits], peerBuf := [64, 64, 64] } }

/-- Every clause of EventPacketsTellTheHost. -/
theorem witness_EventPacketsTellTheHost :
    ((linkUp false 1).linkState = 4 ∧ ((linkUp false 1).hostEvents 0).rise = true ∧ ((linkUp false 1).hostEvents 0).window = false
      ∧ (linkUp false 1).hlk.credits.getD 2 0 ≠ 0) ∧ (linkUp false 0).hlk.credits.getD 2 0 = 0
      ∧ ((linkUp true 1).hostEvents 0).window = true ∧ ((linkUp true 1).hostEvents 0).rise = true := by decide +kernel

/-- A worker of a wall whose first sector-0 barrier has come. -/
def jumping : Chip :=
  { actSet (lit.set F.TLK_NODE_CFG_ID 5) F.SCN_TIMING_MODE 9 with
    tlk := { taken := some ⟨0xFFFFFFFF, 7, 0, 0, 0, 0, 0, 0, 0⟩ } }

/-- Every clause of TickCountersAndSource. -/
theorem witness_TickCountersAndSource :
    (lit.raster = true ∧ lit.tick.planLocked = false) ∧ lit.tileJump = none
      ∧ (jumping.raster = true ∧ jumping.tileJump.isSome = true)
      ∧ ({ lit with ray := { running := true } } : Chip).raster = true ∧ lit.cdc.running = none ∧ lit.blt.running = none
      ∧ (actSet live F.TIM_TICK_CTRL_SRC 3).act F.TIM_TICK_CTRL_SRC ≠ 0 ∧ live.mode ≠ .hold := by decide +kernel

/-- A panel EEPROM of a 15 360 × 8 640 panel. -/
def eeprom : List Byte :=
  let b := leBytes 4 0x4C4E5048 ++ leBytes 2 1 ++ padBytes 58 [] ++ leBytes 2 15360 ++ leBytes 2 8640 ++ padBytes 56 []
  b ++ leBytes 4 (crc32c b)

/-- Every clause of StartUpStepsEndOrFail. -/
theorem witness_StartUpStepsEndOrFail :
    ((booting 0).mayStep = true ∧ (booting 0).mode = .boot ∧ (booting 0).get F.KPR_BOOT_STATUS_STEP = 0
      ∧ (booting 0).imageResult ((booting 0).kpr.images.getD 0 {}) true ≠ 1
      ∧ (booting 0).imageResult ((booting 0).kpr.images.getD 1 {}) false ≠ 1)
      ∧ ((booting 2).mayStep = true ∧ (booting 2).get F.KPR_BOOT_STATUS_STEP = 2 ∧ (booting 2).cal.stored.isSome = true
        ∧ ({ booting 2 with cal := { stored := none } } : Chip).mayStep = true
        ∧ ({} : CalSet).uid = (booting 2).kpr.otp.uid ∧ ({} : CalSet).vals.plausible = true)
      ∧ ((booting 3).mayStep = true ∧ 3 ≤ (booting 3).get F.KPR_BOOT_STATUS_STEP ∧ (booting 3).blockOn 14 = true
        ∧ 1 ∈ blocksOfRegion 0 ∧ 13 ∈ blocksOfRegion 2 ∧ (booting 3).blockOn 9 = true
        ∧ ({ booting 3 with blocksOn := [9, 14] } : Chip).blockOn 10 = false ∧ eepromOk false eeprom = true)
      ∧ ((booting 4).mayStep = true ∧ (booting 4).blockOn 11 = true)
      ∧ (booting 6).mayStep = true ∧ (booting 6).get F.KPR_BOOT_STATUS_STEP = 6 ∧ (booting 6).kpr.profile = none := by decide +kernel

/-- A worker in Safe with a profile accepted, to which the Tender's request comes. -/
def worker : Chip := (live.set F.TLK_NODE_CFG_ID 5).set F.TLK_JOIN_STATUS_STATE 2

/-- Requests for Lightfield in timing mode 1, and for a mode that does not exist. -/
def toLightfield : List Byte := leBytes 4 0x00010521 ++ leBytes 4 7
def toNowhere : List Byte := leBytes 4 0x00010821

/-- A transition taken for the coming frame boundary, whose commit has come. -/
def moving (c : Chip) (n : Transition) : Chip :=
  { c with modes := { next := some n, due := true, dark := some { timing := 1, old := 9 } } }

/-- Every clause of ModeChangesTakeEffect. -/
theorem witness_ModeChangesTakeEffect :
    (worker.firmware = true ∧ (worker.quiet.keeperTake 3 toLightfield).modeJudge (readModeSet 3 toLightfield) = none
      ∧ (worker.quiet.keeperTake 3 toLightfield).leads = false ∧ worker.modes.pending = none)
      ∧ ((worker.quiet.keeperTake 3 toNowhere).modeJudge (readModeSet 3 toNowhere)).isSome = true
      ∧ ((moving lit ⟨.lightfield, 1, 9, 0, true, false⟩).raster = true ∧ (Transition.mk .lightfield 1 9 0 true false).stops = false
        ∧ (moving lit ⟨.lightfield, 1, 9, 0, true, false⟩).mode = .flat)
      ∧ ((Transition.mk .standby 0 9 0 false false).stops = true
        ∧ ({ moving lit ⟨.standby, 0, 9, 0, false, false⟩ with blocksOn := [9] } : Chip).blockOn 13 = false ∧ lit.paired = false)
      ∧ ((moving (booting 7) ⟨.flat, 9, 0xC, 0, true, false⟩).mode = .boot ∧ (Transition.mk .flat 9 0xC 0 true false).stops = false)
      ∧ ({ live with modes := { shutdown := some ⟨.standby, 9, 0⟩ } } : Chip).apl.runs = [] := by decide +kernel

/-- Every clause of DarkSequenceStages. -/
theorem witness_DarkSequenceStages :
    (({ lit with modes := { dark := some { timing := 1, old := 9, stage := 2, left := 0 } } } : Chip).dark = false
      ∧ lit.modes.acting = none)
      ∧ (({ live with ladder := { fatal := some ⟨P.SEC, 1⟩ } } : Chip).modes.bootRom = false
        ∧ ({ live with ladder := { fatal := some ⟨P.SEC, 1⟩ } } : Chip).mode = .flat) := by decide +kernel

/-- Every clause of PowerPinsMoveTheMode. -/
theorem witness_PowerPinsMoveTheMode :
    (({ mode := .off, blocksOn := [] } : Chip).modes.pwrEn = true ∧ ({ mode := .off, blocksOn := [] } : Chip).pwr.holdoff = false
      ∧ ({ mode := .off, blocksOn := [] } : Chip).modes.vinValid = true)
      ∧ (live.mode ≠ .off ∧ live.mode ≠ .mooring ∧ live.mode ≠ .boot ∧ live.modes.shutdown = none)
      ∧ ((booting 6).mode = .boot ∧ (booting 6).get F.KPR_BOOT_STATUS_STEP < 7 ∧ (booting 6).modes.shutdown = none) := by decide +kernel

/-- A codec ring of four jobs, the first posted at once, and an ENCODE descriptor of one block in its slot. -/
def ring (start plan : Nat) : Chip :=
  { live.set F.CDC_JOB_SIZE_ENTRIES 4 with cdc := { posted := [⟨0, start, plan, none, none⟩], done := [3] } }
def encodeJob : List Byte := [0, 0x00080008, 0x1000, 0, 64, 0x2000, 0, 4096].flatMap (leBytes 4)
def running (op : Nat) : Chip :=
  { ring 0 0 with cdc := { running := some ⟨0, 0, [4 * op, 0x00080008], [], 0⟩ } }

/-- Every clause of CodecJobRing. -/
theorem witness_CodecJobRing :
    ((ring 0 0).takesWrite .host0 K.CDC_JOB_HEAD ∧ (ring 0 0).jobEntries = 4 ∧ (ring 0 0).get F.CDC_JOB_HEAD_HEAD = 0
      ∧ (ring 0 0).get F.CDC_JOB_TAIL_TAIL = 0 ∧ 3 < 4 ∧ (3 + 4 - 0) % 4 < 4)
      ∧ (ring 0 0).cdc.running = none ∧ (ring 1 5).due ⟨0, 1, 5, none, none⟩ = false ∧ (ring 0 0).due ⟨0, 0, 0, none, none⟩ = true
      ∧ (ring 0 0).jobBad ((ring 0 0).jobWords (mem 0 encodeJob) 0) = false
      ∧ ((running 0).jobEntries ≠ 0 ∧ (jobSpec [0, 0x00080008]).op ≠ 2 ∧ (jobSpec [0, 0x00080008]).op ≠ 1)
      ∧ (ring 0 0).takesWrite .host1 K.CDC_JOB_ABORT ∧ bit 0x80000000 31 = true ∧ 3 ∈ (ring 0 0).cdc.done
      ∧ (∀ p ∈ (ring 0 0).cdc.posted, p.index ≠ 3) ∧ (ring 0 0).memMapped ((ring 0 0).jobAddr 3 + 49) 1 = true
      ∧ (running 0).takesWrite .host0 K.CDC_FLUSH ∧ bit 1 0 = true := by decide +kernel

/-- A frame of one layer of one block that is bound and synthesised. -/
def bound : Chip :=
  { live with
    ring := { use := some ⟨0, { frameBytes := 256, layers := [⟨false, 0, 8, 8, 0, 0, 0, 0, 0, 0, 1⟩] }, []⟩ }
    ray := { running := true, redo := [5], slots := [⟨0, 9, 0, 0, false, false⟩, ⟨1, 9, 0, 0, false, true⟩] } }

/-- Every clause of TilesAndTexelCaches. -/
theorem witness_TilesAndTexelCaches :
    (bound.nextTile.isSome = true ∧ ((List.range 32).find? bound.clusterFree).isSome = true ∧ bound.ray.running = true)
      ∧ (bound.ring.use ≠ none ∧ (∀ e ∈ bound.ray.l1, e.tag ≠ ⟨0, 0, 0, 0⟩) ∧ bound.ray.lines = [])
      ∧ (bound.ring.use.map (fun sf => sf.frame.layers.length)) = some 1
      ∧ (bound.ring.use.map (fun sf => ((groupsOf sf.frame (bound.loads {} (bound.slotAddr sf.slot) sf.frame.frameBytes)).filter
          (fun g => g.layer = 0)).length)) = some 1 ∧ (0, 0) ∉ bound.ray.transparent
      ∧ ((bound.ray.slots.find? (fun x => x.cluster = 0 && x.tile = 9)).map TileSlot.parity = some false)
      ∧ ((bound.ray.slots.find? (fun x => x.cluster = 1 && x.tile = 9)).map TileSlot.parity = some true)
      ∧ live.takesWrite .keeper K.RAY_CLUSTER_OUT := by decide +kernel

/-- The host link in a state of Table 1. -/
def link (n : Nat) (h : Hlk) : Chip := { live.set F.HLK_LINK_STATUS_STATE n with hlk := h }

/-- A LINK flit of a type. -/
def linkFlit (t : Nat) (more : List Byte) : List Byte := flit 0 0 0 2 3 0 (leBytes 1 t ++ more) false

/-- The payload of a flit that arrives whole. -/
def flitParts (l : List Byte) : Nat × List Byte := (readFlit l).getD (0, [])

/-- Every clause of HostLinkStates. -/
theorem witness_HostLinkStates :
    ((link 0 {}).linkState = 0 ∧ (link 0 {}).is F.HLK_LINK_CTRL_ENABLE = true ∧ (link 0 {}).blockOn 1 = true)
      ∧ (link 1 {}).linkState = 1 ∧ 0xFFFF % 16 = 15
      ∧ ((link 2 { ownLanes := 65535 }).linkState = 2 ∧ (readFlit (linkFlit 1 (leBytes 4 0x0202FFFF))).isSome = true
        ∧ bitsOf (flitParts (linkFlit 1 [])).1 27 26 = 2 ∧ leNat ((flitParts (linkFlit 1 [])).2.take 1) = 1
        ∧ (link 2 { ownLanes := 65535 }).hlk.trainRate = 0 ∧ (link 2 { trainRate := 2, ownLanes := 65535 }).hlk.trainRate ≠ 0
        ∧ 65535 &&& leNat (((flitParts (linkFlit 1 (leBytes 4 0x0202FFFF))).2.drop 1).take 2) = 65535
        ∧ (link 2 {}).get F.HLK_LINK_CTRL_MAX_WIDTH = 2 ∧ leNat (((flitParts (linkFlit 1 (leBytes 4 0x0202FFFF))).2.drop 3).take 1) = 2)
      ∧ (link 2 {}).hlk.agreed = false ∧ (link 2 {}).modes.bootRom = false
      ∧ ((link 3 { agreed := true }).linkState = 3 ∧ leNat ((flitParts (linkFlit 2 [])).2.take 1) = 2
        ∧ (link 3 { agreed := true }).hlk.waiting = [])
      ∧ (link 5 {}).linkState = 5
      ∧ ((link 4 {}).takesWrite .keeper K.HLK_LINK_CTRL ∧ (link 4 {}).linkState = 4 ∧ bit 0x11 4 = true ∧ bit 0x11 0 = true
        ∧ bit 0 0 = false ∧ bit (((link 4 {}).set F.HLK_LANE_STATUS_USED 0x8000).get F.HLK_LANE_STATUS_USED) 15 = true)
      ∧ leNat ((flitParts (linkFlit 5 [])).2.take 1) = 5 ∧ (link 6 {}).linkState = 6 := by decide +kernel

/-- The first flit of a DMA write of 1 000 bytes. -/
def firstFlit : List Byte := flit 0 4095 1 0 3 0 (packetBytes { op := 3, addr := 0x1000, data := List.replicate 1000 7 }) false

/-- A link that waits for the acknowledgement of flit 0. -/
def unacked : Chip := link 4 { replay := [⟨0, 0, [1], 0⟩], credits := [1, 0, 0], peerBuf := [64, 64, 64] }

/-- FlitsInSequence: a DATA flit in sequence and one out of it. -/
theorem witness_FlitsInSequence_data :
    ((link 4 {}).linkState = 4 ∧ (readFlit firstFlit).isSome = true ∧ bitsOf (flitParts firstFlit).1 25 24 = 1
      ∧ bitsOf (flitParts firstFlit).1 27 26 = 0 ∧ (flitParts firstFlit).1 % 4096 = (link 4 {}).get F.HLK_SEQ_STATUS_RX_EXPECT
      ∧ bitsOf (flitParts firstFlit).1 29 28 = 3 ∧ 0 < myBuffers.getD 1 0 ∧ (link 4 {}).hlk.replay = []
      ∧ 0 + 1 < headerFlits (readHeader (flitParts firstFlit).2))
      ∧ (flitParts (flit 9 0 1 0 3 0 [] false)).1 % 4096 ≠ (link 4 {}).get F.HLK_SEQ_STATUS_RX_EXPECT
      ∧ (link 4 { nak := true }).hlk.nak = true ∧ (link 4 {}).hlk.nak = false := by decide +kernel

/-- FlitsInSequence: a NULL flit that returns credits, a NAK and an ACK that does not come. -/
theorem witness_FlitsInSequence_control :
    (bitsOf (flitParts (flit 0 0 0 1 0 3 [] false)).1 29 28 < 3 ∧ unacked.hlk.waiting = [] ∧ unacked.hlk.stopped = false
        ∧ unacked.hlk.credits.getD 0 0 + 4 * bitsOf (flitParts (flit 0 0 0 1 0 3 [] false)).1 31 30 ≤ unacked.hlk.peerBuf.getD 0 0)
      ∧ (bitsOf (flitParts (flit 0 4095 0 2 3 0 [3, 0, 0] false)).1 27 26 = 2
        ∧ ∀ f ∈ unacked.hlk.replay, 0 < signedDiff 12 f.seq (bitsOf (flitParts (flit 0 4095 0 2 3 0 [3, 0, 0] false)).1 23 12)
          ∧ f.resent + 1 < unacked.get F.HLK_RETRY_CFG_REPLAY_LIMIT ∧ 0 ≤ signedDiff 12 f.seq 0)
      ∧ (link 4 {}).takesWrite .host0 K.HLK_INJECT := by decide +kernel

/-- A DMA access of 64 bytes in progress. -/
def accessing (write : Bool) : Chip := link 4 { dma := [⟨0, 0, 0, 0, 64, write, false, [], []⟩] }

/-- A link UP whose scene stream is enabled for context 0, with slots of 4 096 bytes. -/
def streaming : Chip := actSet (actSet (link 4 {}) F.HLK_SCENE_CTRL_ENABLE 1) F.HLK_SLOT_SIZE_UNITS 1

/-- Every clause of HostRequestsAreServed. -/
theorem witness_HostRequestsAreServed :
    ((link 4 {}).takesRequest 1 { aux := 1, addr := regAddr K.HLK_CTX_CTRL }
      ∧ ((link 4 {}).quiet.busRead {} .host0 (regAddr K.HLK_CTX_CTRL) 4).resp.status = .ok)
      ∧ ((link 4 {}).takesRequest 2 { addr := regAddr K.TLK_REMOTE_DATA, data := [1, 2, 3, 4] }
        ∧ ((link 4 {}).quiet.busWrite {} .host1 (regAddr K.TLK_REMOTE_DATA) 0x04030201 4).resp.status = .ok)
      ∧ ((link 4 {}).takesRequest 3 { addr := sramBase, data := [1] } ∧ (link 4 {}).memMapped sramBase 1 = true
        ∧ (link 4 {}).memMapped 0 1 = true ∧ 0 < sramBase)
      ∧ ((link 4 {}).takesRequest 4 { addr := 0, rdlen := 4096 } ∧ (link 4 {}).memMapped 0 4096 = true
        ∧ (link 4 {}).readsRunning 0 < (link 4 {}).rdMax ∧ (link 4 {}).hlk.readQueue = [])
      ∧ ((accessing true).dmaServed 0 = true ∧ ((accessing true).hlk.dma.find? (fun x => x.job = 0 && x.write)).isSome = true)
      ∧ ((accessing false).dmaServed 0 = true ∧ ((accessing false).hlk.dma.find? (fun x => x.job = 0 && !x.write)).isSome = true)
      ∧ ((link 4 {}).takesRequest 6 { aux := 2, data := List.replicate 64 0 } ∧ 2 ≠ 1 + 0 % 2 ∧ (link 4 {}).epExists 2 = true
        ∧ ((link 4 {}).chan 2 1).length < 8)
      ∧ ((actSet (link 4 {}) F.TIM_TICK_CTRL_SRC 2).takesRequest 7 {} ∧ (actSet (link 4 {}) F.TIM_TICK_CTRL_SRC 2).act F.TIM_TICK_CTRL_SRC = 2)
      ∧ (link 4 {}).takesRequest 8 {}
      ∧ (streaming.takesRequest 5 { data := [1] } ∧ streaming.on F.HLK_SCENE_CTRL_ENABLE = true
        ∧ streaming.act F.HLK_SCENE_CTRL_SRC_CTX = 0 ∧ streaming.ring.fill = none ∧ streaming.ring.freeSlot.isSome = true
        ∧ 1 ≤ streaming.slotBytes ∧ streaming.takesRequest 5 { ctx := 1, data := [1] }) := by decide +kernel

/-- Module `id` of a wall with a link in a state. -/
def tile (id l : Nat) (k : TileLink) : Chip := (live.set F.TLK_NODE_CFG_ID id).linkSet l (fun _ => k)

/-- A frame in sequence. -/
def frame (kind id : Nat) (d : List Byte) : List Byte := tileFrame kind 0 255 id true d

/-- A link with frame 0 sent and not acknowledged. -/
def sent : TileLink := { up := true, replay := [⟨0, 0x13, 5, [], 0⟩], next := 1 }

/-- Every clause of TileLinkFrames. -/
theorem witness_TileLinkFrames :
    ((tile 5 0 { up := true }).blockOn 4 = true ∧ (readTile (frame 0 0 [])).map (fun e => e.1 % 256) = some 0
      ∧ ((tile 5 0 { up := true }).link 0).up = true ∧ (tile 5 0 { up := true }).portSplit 0 = false
      ∧ ((tile 5 0 { up := true }).link 0).waiting = [])
      ∧ (readTile (frame 0x13 5 [])).map (fun e => (e.1 % 256, bitsOf e.1 15 8)) = some (0x13, 0) ∧ 0x13 ∈ tileTypes
      ∧ ((tile 5 0 { up := true, expect := 1 }).link 0).expect ≠ 0
      ∧ ((readTile (frame 1 0 [0])).map (fun e => (e.1 % 256, leNat (e.2.take 1))) = some (1, 0)
        ∧ ∀ f ∈ ((tile 5 0 sent).link 0).replay, 0 < signedDiff 8 f.seq 255 ∧ f.resent + 1 < 8 ∧ 0 ≤ signedDiff 8 f.seq 0)
      ∧ ((tile 5 0 {}).link 0).up = false ∧ 0 < (tile 5 0 {}).tlk.links.length ∧ ((tile 5 0 {}).link 0).kept = false
      ∧ bit ((tile 5 0 {}).get F.TLK_PORT_CTRL_EN) 0 = true ∧ 0 ∈ (tile 5 0 {}).linksOf 0
      ∧ (tile 5 6 sent).portSplit (7 / 2) = false ∧ 6 = 2 * (7 / 2) ∧ ((tile 5 6 sent).link 6).up = true := by decide +kernel

/-- The Tender of a wall, the link of its port D0 up, summaries awaited from both ports. -/
def tender : Chip :=
  (tile 0 2 { up := true }).tlkUp (fun t => { t with
    members := [⟨5, false, [0], 0⟩], awaited := [1, 2], summary := some ⟨0, 0, 0, 65535, 0, 1, 0, 0⟩ })

/-- Every clause of WallMembersBarriersAndSummaries. -/
theorem witness_WallMembersBarriersAndSummaries :
    ((tender.quiet.tileRx 2 (frame 0x10 6 [6, 0, 1, 1])).2 = some (0x10, 6, padBytes 32 [6, 0, 1, 1])
      ∧ 2 / 2 = portD0 ∧ (tender.quiet.tileRx 2 (frame 0x10 6 [6, 0, 1, 1])).1.isTender = true
      ∧ ((tender.quiet.tileRx 2 (frame 0x10 6 [6, 0, 1, 1])).1.learnRoute 1 6).joinReason 6 false 0 false 1 1 = 0
      ∧ ((tender.quiet.tileRx 2 (frame 0x10 5 [5, 0, 1, 1])).1.learnRoute 1 5).joinReason 5 false 0 false 1 1 ≠ 0)
      ∧ (((tile 5 0 { up := true }).quiet.tileRx 0 (frame 0x11 5 [0])).2 = some (0x11, 5, padBytes 32 [0]) ∧ 0 / 2 = portU
        ∧ ((tile 5 0 { up := true }).quiet.tileRx 0 (frame 0x11 5 [0])).1.ownId = 5 ∧ ob (padBytes 32 [0]) 0 1 % 16 = 0
        ∧ ob (padBytes 32 [1]) 0 1 % 16 ≠ 0)
      ∧ (((tile 5 0 {}).set F.TLK_JOIN_STATUS_STATE 3).get F.TLK_JOIN_STATUS_STATE = 3 ∧ (tile 5 0 {}).isTender = false) := by decide +kernel

/-- WallMembersBarriersAndSummaries: a barrier, a barrier sent and a summary. -/
theorem witness_WallMembersBarriersAndSummaries_2 :
    ((((tile 5 0 { up := true }).set F.TLK_JOIN_STATUS_STATE 2).quiet.tileRx 0 (frame 0x12 0 [1])).2
          = some (0x12, 0, padBytes 32 [1])
        ∧ (((tile 5 0 { up := true }).set F.TLK_JOIN_STATUS_STATE 2).quiet.tileRx 0 (frame 0x12 0 [1])).1.inTree = true
        ∧ (readBarrier (padBytes 32 [1])).field = ((0 : Nat) + 1) % 2 ^ 32)
      ∧ (tender.leads = true ∧ tender.blockOn 9 = true ∧ tender.tlk.move = none ∧ tender.tlk.members ≠ [])
      ∧ ((tender.quiet.tileRx 2 (frame 0x13 5 [])).2 = some (0x13, 5, padBytes 32 []) ∧ (readSummary (padBytes 32 [])).plan = 0
        ∧ 1 ∈ (tender.quiet.tileRx 2 (frame 0x13 5 [])).1.tlk.awaited ∧ 2 ∈ (tender.quiet.tileRx 2 (frame 0x13 5 [])).1.tlk.awaited
        ∧ (tender.quiet.tileRx 2 (frame 0x13 5 [])).1.tlk.summary.isSome = true) := by decide +kernel

/-- A member of a pair with the link to its partner up. -/
def pair (own : Nat) : Chip :=
  (((tile 5 6 { up := true }).set F.TLK_NODE_CFG_PAIRED 1).set F.TLK_PAIR_STATUS_OWN own).tlkUp (fun t => { t with
    halves := [⟨portP, 5, 0x20, List.replicate 32 1⟩] })

/-- What the partner's frame becomes. -/
def heard (kind : Nat) (d : List Byte) : Option (Nat × Nat × List Byte) := ((pair 0).quiet.tileRx 6 (frame kind 5 d)).2

/-- The module after the frame has passed its link. -/
def after (c : Chip) (kind : Nat) (d : List Byte) : Chip := (c.quiet.tileRx 6 (frame kind 5 d)).1

/-- A message under way to the partner. -/
def posting : Chip :=
  (pair 0).mbxUp (fun b => { b with order := [(4, 0)], flight := [(4, 0)], chans := [(4 * 128, [⟨padBytes 64 [1], 0, false, 0, 0⟩])] })

/-- Every clause of TileMessagesAndRemoteCommands. -/
theorem witness_TileMessagesAndRemoteCommands :
    (heard 0x20 [1] = some (0x20, 5, padBytes 32 [1]) ∧ 6 / 2 = portP ∧ heard 0x21 [1] = some (0x21, 5, padBytes 32 [1])
      ∧ (after (pair 0) 0x21 [1]).tlk.halves.length = 1 ∧ (after (pair 0) 0x21 [1]).epExists 4 = true
      ∧ ((after (pair 0) 0x21 [1]).chan 0 4).length < 8)
      ∧ (heard 0x22 [0] = some (0x22, 5, padBytes 32 [0]) ∧ (after posting 0x22 [0]).mbx.flight.find? (fun f => f.1 = 4) = some (4, 0)
        ∧ (after posting 0x22 [0]).mbx.order = [(4, 0)]) := by decide +kernel

/-- TileMessagesAndRemoteCommands: register reads, writes and their completion. -/
theorem witness_TileMessagesAndRemoteCommands_3 :
    (heard 0x30 [] = some (0x30, 5, padBytes 32 []) ∧ heard 0x31 [] = some (0x31, 5, padBytes 32 []))
      ∧ (heard 0x32 [] = some (0x32, 5, padBytes 32 []) ∧ ((pair 0).set F.TLK_REMOTE_CTRL_BUSY 1).is F.TLK_REMOTE_CTRL_BUSY = true
        ∧ ((pair 0).set F.TLK_REMOTE_CTRL_DEST 64).get F.TLK_REMOTE_CTRL_DEST = 64) := by decide +kernel

/-- TileMessagesAndRemoteCommands: a mirrored write, a resend and a remote command. -/
theorem witness_TileMessagesAndRemoteCommands_2 :
    (heard 0x40 (leBytes 5 (regAddr K.SEC_OWNER)) = some (0x40, 5, padBytes 32 (leBytes 5 (regAddr K.SEC_OWNER)))
        ∧ (after (pair 0) 0x40 []).paired = true ∧ (after (pair 0) 0x40 []).is F.TLK_PAIR_STATUS_OWN = false
        ∧ (after (pair 0) 0x40 []).target (regAddr K.SEC_OWNER) = .reg K.SEC_OWNER ∧ offOf K.SEC_OWNER < 0x800
        ∧ signedDiff 16 1 ((0 + 1 + b2n false) % 65536) ≤ 0 ∧ 0 < signedDiff 16 2 ((0 + 1 + b2n false) % 65536))
      ∧ posting.chan 4 0 ≠ []
      ∧ ((pair 0).takesWrite .host0 K.TLK_REMOTE_CTRL ∧ (pair 0).is F.TLK_REMOTE_CTRL_BUSY = false ∧ (pair 0).paired = true
        ∧ bit 0x140 8 = true ∧ 0x140 % 128 = 64) := by decide +kernel

/-- Every clause of RedundantPairs. -/
theorem witness_RedundantPairs :
    (heard 0x03 [] = some (0x03, 5, padBytes 32 []) ∧ (after (pair 0) 0x03 []).paired = true ∧ heard 0x04 [] = some (0x04, 5, padBytes 32 []))
      ∧ (heard 0x05 [] = some (0x05, 5, padBytes 32 []) ∧ (after (pair 0) 0x05 []).get F.TLK_PAIR_CTRL_DIVERGE_LIMIT ≠ 0
        ∧ (after ((pair 0).tlkUp (fun t => { t with beat := some 0, sigs := List.replicate 8 0 })) 0x05 []).tlk.beat = some 0
        ∧ (∀ r < 16, (List.replicate 8 0 ++ (List.range 8).map (fun i => ob (padBytes 32 []) (4 * i) 4)).getD r 0
            = (after (pair 0) 0x05 []).daymarkSig r)
        ∧ ¬ ∀ r < 16, (List.replicate 8 0 ++ (List.range 8).map (fun i => ob (padBytes 32 [1]) (4 * i) 4)).getD r 0
            = (after (pair 0) 0x05 [1]).daymarkSig r)
      ∧ ((pair 1).is F.TLK_PAIR_STATUS_OWN = true ∧ (pair 1).is F.TLK_PAIR_STATUS_PARTNER_OWN = false
        ∧ ((pair 1).tlkUp (fun t => { t with outputs := false })).tlk.outputs = false
        ∧ ((pair 1).set F.TLK_NODE_CFG_SIDE 1).is F.TLK_NODE_CFG_SIDE = true
        ∧ (pair 1).takesWrite .host0 K.TLK_PAIR_CTRL ∧ bit 2 1 = true) := by decide +kernel

/-- A lock held by HOST0. -/
def locked : Chip := live.mbxUp (fun b => { b with locks := [(63, some ⟨1, 0⟩)] })

/-- A message of HOST0 waiting at the Keeper's inbox. -/
def inbox : Chip := live.mbxUp (fun b => { b with chans := [(1, [⟨padBytes 64 [1], 0, false, 0, 0⟩])] })

/-- Every clause of MailboxesDoorbellsAndLocks. -/
theorem witness_MailboxesDoorbellsAndLocks :
    (live.takesWrite .host0 K.MBX0_TX_POST ∧ 0x02 % 128 ≤ 2 ∧ 0x02 % 128 ≠ masterBit .host0 ∧ 0x02 / 256 % 4 = 0
      ∧ (live.chan 2 (masterBit .host0)).length < 8)
      ∧ (masterBit .keeper = 0 ∧ (inbox.set ⟨epPage 0 + 0x560, 0, 7, 4⟩ 1).takesWrite .keeper (epPage 0 + 0x568) ∧ bit 1 0 = true
        ∧ (inbox.set ⟨epPage 0 + 0x560, 0, 7, 4⟩ 1).chan 0 ((inbox.set ⟨epPage 0 + 0x560, 0, 7, 4⟩ 1).get ⟨epPage 0 + 0x560, 0, 7, 4⟩) ≠ []) := by decide +kernel

/-- MailboxesDoorbellsAndLocks: doorbells. -/
theorem witness_MailboxesDoorbellsAndLocks_3 :
    live.takesWrite .host0 (epPage 2 + 0x210 + 4 * 67) ∧ masterBit .host0 ≠ 67 ∧ live.takesWrite .host0 (epPage 2 + 0x210 + 4)
      ∧ masterBit .host0 = 1 := by decide +kernel

/-- MailboxesDoorbellsAndLocks: notices and resets. -/
theorem witness_MailboxesDoorbellsAndLocks_4 :
    live.takesWrite .host1 (epPage 2 + 0x430 + 4 * 67) ∧ bit 0x80000000 31 = true ∧ masterBit .host1 = 2
      ∧ live.takesWrite .host1 (epPage 2 + 0x008) ∧ live.takesWrite .keeper (epPage 0 + 0x008) := by decide +kernel

/-- MailboxesDoorbellsAndLocks: the reset of an endpoint by its host's register, and of the block. -/
theorem witness_MailboxesDoorbellsAndLocks_5 :
    bit 0x80000000 30 = false ∧ live.takesWrite .host0 K.MBX0_EP_RESET ∧ bit 1 0 = true ∧ live.takesWrite .keeper (P.MBX + 0x008) := by
  decide +kernel

/-- MailboxesDoorbellsAndLocks: locks. -/
theorem witness_MailboxesDoorbellsAndLocks_2 :
    (live.takesRead (K.MBX0_LOCK + 4 * 63) ∧ live.lockHold 63 = none ∧ locked.lockHold 63 = some ⟨1, 0⟩)
      ∧ locked.takesWrite .host0 (K.MBX0_LOCK + 4 * 63) ∧ (0 = 0 ∧ (1 : Nat) = masterBit .host0) ∧ (1 : Nat) ≠ masterBit .host1 := by
  decide +kernel

/-- The clock's step armed, unit 15 enabled and due. -/
def timed : Chip := (live.set stepArm 1).timUp (fun t => { t with targets := [(15, {})] })

/-- Every clause of TimeBaseAndTriggers. -/
theorem witness_TimeBaseAndTriggers :
    (live.takesRead K.TIM_NOW_FRAC ∧ live.takesWrite .keeper K.TIM_RATE)
      ∧ (live.takesWrite .keeper K.TIM_STEP_GO ∧ bit 1 0 = true ∧ timed.is stepArm = true ∧ timed.tim.step = none
        ∧ (live.set stepArm 0).is stepArm = false)
      ∧ (live.takesWrite .host0 (K.TIM_TRIG_CTRL + 0x20 * 15) ∧ live.is (trigFld 15 0 0 1) = false)
      ∧ (timed.trigTarget 15).isSome = true ∧ 0 ≤ clockDiff timed.clock {} ∧ timed.is (trigFld 15 0 1 1) = false
      ∧ (timed.set (trigFld 15 0 1 1) 1).is (trigFld 15 0 1 1) = true
      ∧ (timed.set (trigFld 15 0x14 0 32) 1000).trigPeriod 15 ≠ 0 := by decide +kernel

/-- A module whose time ports have a role and are up or not. -/
def timePorts (role up : Nat) : Chip :=
  ((live.set F.TIM_PTP_CTRL_ROLE role).set ⟨K.TIM_PORT_STATE, 0, 2, 4⟩ up).timUp (fun t => { t with slaveOf := some 0 })

/-- Every clause of TimePortsAndTimeFrames. -/
theorem witness_TimePortsAndTimeFrames :
    (1 ∈ (timePorts 3 0).portsOn ∧ (timePorts 3 0).is (tpUp 1) = false ∧ (timePorts 3 2).is (tpUp 1) = true)
      ∧ (((timePorts 3 3).set F.TIM_PTP_CTRL_UPSTREAM 1).get F.TIM_PTP_CTRL_ROLE = 3 ∧ (timePorts 3 3).is (tpUp 0) = true
        ∧ (timePorts 3 3).is (tpUp (1 - 0)) = true ∧ 0 ≠ ((timePorts 3 3).set F.TIM_PTP_CTRL_UPSTREAM 1).ocPort)
      ∧ (0 ∈ (timePorts 1 1).portsOn ∧ (timePorts 1 1).is (tpUp 0) = true ∧ 0 = (timePorts 1 1).ocPort
        ∧ (timePorts 1 1).get F.TIM_PTP_CTRL_ROLE ≠ 3 ∧ (timePorts 1 1).tim.slaveOf = some 0
        ∧ (timePorts 1 1).get F.TIM_PTP_CTRL_DOMAIN = (timePorts 1 1).get F.TIM_PTP_CTRL_DOMAIN)
      ∧ ((timePorts 1 1).set F.TIM_TIME_STATUS_SYNC_STATE 2).get F.TIM_TIME_STATUS_SYNC_STATE ≠ 0 := by decide +kernel

/-- Every clause of CheckUnits, at the first and the last unit. -/
theorem witness_CheckUnits :
    (live.takesWrite .host0 (mkPage 16 1 + 0x104) ∧ live.takesWrite .keeper (mkPage 16 20 + 0x104)
      ∧ (bit 1 0 = true ∧ bit 1 1 = false ∧ bit 1 2 = false) ∧ (bit 2 1 = true ∧ bit 2 0 = false ∧ bit 2 2 = false)
      ∧ (bit 4 2 = true ∧ bit 4 1 = false ∧ bit 4 0 = false) ∧ live.is (F.CHKU_CFG_ALIVE_EN.inst 20) = false)
      ∧ live.takesWrite .host1 (mkPage 16 1 + 0x10C) ∧ live.takesWrite .keeper (mkPage 16 20 + 0x108) := by decide +kernel

/-- One request at the first sub-channel, or refreshes owed. -/
def memory (w : Option (List Byte)) (owed : List Nat) (must : Nat) : Chip :=
  { live with dram := { live := List.range 8, reqs := if owed = [] then [⟨0, 0, w, 0, 64, 0, 0⟩] else []
                        subs := [(0, { owed := owed, must := must })] } }

/-- Every clause of MemoryControllerSlots. -/
theorem witness_MemoryControllerSlots :
    (0 ∈ live.dram.live ∧ 7 ∈ live.dram.live ∧ live.powered 0 = true)
      ∧ (((memory none [] 0).location 0).ch = 0 ∧ ((memory none [] 0).location 0).sub = 0 ∧ ((memory none [] 0).subch 0 0).owed = []
        ∧ (memory (some [1]) [] 0).is (F.MEMC_INJECT_PARITY.inst 1) = false ∧ (memory none [] 0).badMem = [])
      ∧ (((memory none [3] 1).subch 0 0).owed = [3] ∧ 0 < ((memory none [3] 1).subch 0 0).must
        ∧ ((memory none [3] 0).subch 0 0).must = 0 ∧ (memory none [3] 0).dram.reqs = [])
      ∧ ((memory none (List.range 8) 0).postponeLimit 0 ≤ ((memory none (List.range 8) 0).subch 0 0).owed.length
        ∧ ((memory none [] 0).subch 0 0).owed.length < (memory none [] 0).postponeLimit 0
        ∧ ((memory none [] 0).waitingAt 0 0).any (fun r => decide (((memory none [] 0).location r.addr).cell % 16 = 0)) = true
        ∧ ((memory none [] 0).subch 0 0).nextBank = 0)
      ∧ (live.is (F.MEMC_CH_STATUS_RATE2X.inst 8) = false ∧ live.act F.MEM0_TRAIN_CTRL_TRACK_MIN ≤ 255
        ∧ live.act F.MEM0_TRAIN_CTRL_TRACK_PERIOD ≠ 0)
      ∧ live.takesWrite .keeper K.MEM0_RETIRE_CTRL ∧ bit 1 0 = true ∧ live.takesWrite .host0 (memPage 7 + 0x110) := by decide +kernel

/-- A ring of the 2D engine with a posted command. -/
def ringed (start plan : Nat) (doom : Option Nat) : Chip := live.bltUp (fun b => { b with posted := [⟨0, start, plan, doom, none⟩] })

/-- A fill of 4 × 2 pixels at address 0: words 1 to 6 its surfaces, word 9 the size. -/
def fillBytes : List Byte := padBytes 160 ((List.replicate 9 0) ++ [16, 0, 0, 4, 0, 2, 0, 0, 0, 0, 0, 0, 16, 0, 0, 4, 0, 2, 0] ++ (List.replicate 8 0) ++ [4, 0, 2, 0])

/-- A running command of the 2D engine, held behind the beam or not. -/
def drawing (beam : Bool) : Chip :=
  live.bltUp (fun b => { b with running := some { index := 9, start := 0, words := [if beam then 0x00040000 + 0x00080000 else 0, 0, 0, 0, 0, 0, 0, 0, 0, 0x20004] } })

/-- TwoDimensionalEngineRing: posting and starting. -/
theorem witness_TwoDimensionalEngineRing :
    (live.takesWrite .host0 K.BLT_RING_HEAD ∧ (live.get F.BLT_RING_HEAD_HEAD + 256 - live.get F.BLT_RING_TAIL_TAIL) % 256
      + (255 % 256 + 256 - live.get F.BLT_RING_HEAD_HEAD) % 256 < 256)
      ∧ ((ringed 1 2 none).due ⟨0, 1, 2, none, none⟩ = false ∧ (ringed 0 0 none).due ⟨0, 0, 0, none, none⟩ = true
        ∧ (ringed 0 0 none).bltBad ((ringed 0 0 none).bltWords (mem 0 fillBytes) 0) = none)
      ∧ (ringed 0 0 none).blt.running = none ∧ (ringed 0 0 (some 3)).blt.running = none := by decide +kernel

/-- TwoDimensionalEngineRing: completing, aborting, rows behind the beam. -/
theorem witness_TwoDimensionalEngineRing_2 :
    (∃ r, (drawing false).blt.running = some r ∧ (bltSpec r.words).beam = false)
      ∧ (live.takesWrite .host1 K.BLT_ABORT ∧ live.blt.running = none ∧ bit 0x80000000 31 = true)
      ∧ ∃ r, (drawing true).blt.running = some r ∧ (drawing true).beamHeld r = none ∧ (bltSpec r.words).beam = true
        ∧ r.rows < (bltSpec r.words).h ∧ (bltSpec r.words).w ≠ 0 :=
  ⟨⟨_, rfl, by decide +kernel⟩, by decide +kernel, ⟨_, rfl, by decide +kernel⟩⟩

/-- A conditioning table is addressed; its response bank is bank `bank`. -/
def tableAt (t i bank : Nat) : Chip := ((actSet live F.PCN_PRE_CTRL_RESP_BANK bank).set F.PCN_TBL_ADDR_TABLE t).set F.PCN_TBL_ADDR_INDEX i

/-- FieldStoreScanoutAndConditioning: reads of the lens, waits, line periods. -/
theorem witness_FieldStoreScanoutAndConditioning :
    (live.takesRead (P.LNS + 0x100) ∧ live.takesRead (P.LNS + 0x7FC) ∧ live.regs.badParity = [] ∧ live.takesRead (P.LNS + 0x208))
      ∧ live.blockOn 7 = true ∧ (live.takesWrite .host0 K.FST_CONFLICT_CTRL ∧ bit 1 0 = true)
      ∧ (∃ tm, lit.timingOf lit.modeId = some tm ∧ lit.scan.next < tm.total) ∧ lit.is ⟨P.SCN + 0x00C, 3, 1, 4⟩ = true
      ∧ ({ lit with scan := { lit.scan with skip := true } } : Chip).scan.skip = true :=
  ⟨by decide +kernel, by decide +kernel, by decide +kernel, ⟨_, rfl, by decide +kernel⟩, by decide +kernel, by decide +kernel⟩

/-- FieldStoreScanoutAndConditioning: scanout's timing and the conditioning tables. -/
theorem witness_FieldStoreScanoutAndConditioning_2 :
    (live.takesWrite .keeper K.SCN_TIMING ∧ Master.host0 ≠ .keeper ∧ live.pageMapped P.SCN = true ∧ live.hlk.downNext = false)
      ∧ (∀ i ∈ [0, 208], (tableAt 3 i 0).takesWrite .host0 K.PCN_TBL_DATA ∧ i < pcnTableSize 3 ∧ (tableAt 3 i 0).pcnTableBusy 3 = false)
      ∧ ((tableAt 4 4095 0).pcnTableBusy 4 = true ∧ (tableAt 4 4095 1).pcnTableBusy 4 = false ∧ 4095 < pcnTableSize 4)
      ∧ (live.takesRead K.PCN_TBL_DATA ∧ live.get F.PCN_TBL_ADDR_INDEX < pcnTableSize (live.get F.PCN_TBL_ADDR_TABLE))
      ∧ live.takesWrite .host1 K.PCN_PROBE_SEL := by decide +kernel

/-- A driver's status frame with its check word. -/
def statusFrame (group : Nat) : List Byte :=
  let l : List Byte := padBytes 14 [0x61, BitVec.ofNat 8 group]
  l ++ [BitVec.ofNat 8 (crc16 l), BitVec.ofNat 8 (crc16 l / 256)]

/-- Return receivers in lock on every path. -/
def receiving : Chip := [1, 2, 3].foldl (fun c p => (c.set (F.SERP_PORT_STATUS_RET0_LOCK.inst p) 1).set (F.SERP_PORT_STATUS_RET1_LOCK.inst p) 1) live

/-- PanelLanesReportAndTrain: status frames and receivers. -/
theorem witness_PanelLanesReportAndTrain :
    (∀ e ∈ [(1, 0xFF), (3, 0x3F)], (statusFrame e.2).length = 16 ∧ crc16 ((statusFrame e.2).take 14) = leNat ((statusFrame e.2).drop 14)
      ∧ leNat ((statusFrame e.2).take 1) = 0x61 ∧ receiving.retLock e.1 (reportPath e.1 (leNat (slice (statusFrame e.2) 1 1))) = true
      ∧ leNat (slice (statusFrame e.2) 1 1) = e.2)
      ∧ ((List.replicate 16 (0 : Byte)).length = 16
        ∧ crc16 ((List.replicate 16 (0 : Byte)).take 14) ≠ leNat ((List.replicate 16 (0 : Byte)).drop 14))
      ∧ live.takesWrite .host0 (mkPage 11 1 + 0x164) ∧ live.takesWrite .keeper (mkPage 11 3 + 0x160) ∧ receiving.retLock 3 0 = true := by
  decide +kernel

/-- PanelLanesReportAndTrain: training, the eye scan, injection. -/
theorem witness_PanelLanesReportAndTrain_2 :
    ({ live with lanes := { live.lanes with training := true } } : Chip).lanes.training = true
      ∧ (live.takesWrite .host0 K.SER0_EYE_CTRL ∧ bit 0x80 7 = true ∧ (live.set F.SER0_EYE_CTRL_START 1).is F.SER0_EYE_CTRL_START = true)
      ∧ live.takesWrite .host0 K.SER0_INJECT := by decide +kernel
/-- A slot in which a line is lit or none is. -/
def slotOf (line : Option Nat) (out drive : Bool) : Chip := lit.secUp (fun x => { x with line := line, vledOut := out, drive := drive })

/-- SectorLightSlots: slots, channels, the LED supply, the owner. -/
theorem witness_SectorLightSlots :
    (lit.sec.next < 16 ∧ (lit.timingOf lit.modeId).isSome = true ∧ lit.is ⟨P.SCN + 0x00C, 3, 1, 4⟩ = true
      ∧ (slotOf none false false).sec.drive = false)
      ∧ ((slotOf (some 3) false true).sec.line = some 3 ∧ (slotOf none false true).sec.line = none ∧ (slotOf none false true).sec.drive = true)
      ∧ (95 < 96 ∧ 15000 < 15001 ∧ lit.sensePaused = false ∧ (95, 0) ∉ lit.sec.lost)
      ∧ (lit.sec.vledOut = false ∧ (0 < lit.act F.SEC_VLED_WIN_MIN ∨ lit.act F.SEC_VLED_WIN_MAX < 65535))
      ∧ ((slotOf none true true).set F.SEC_VLED_MEAS_IN_WIN 1).sec.vledOut = true
      ∧ ((slotOf none true true).set F.SEC_VLED_MEAS_IN_WIN 1).is F.SEC_VLED_MEAS_IN_WIN = true
      ∧ lit.takesWrite .keeper K.SEC_OWNER ∧ lit.takesWrite .host0 K.SEC_RETRY := by decide +kernel

/-- A layer whose rails are in a state, with an update in its queue and one that has driven its last frame. -/
def layered (rails bad : Nat) : Chip :=
  live.aplUp (fun a => { a with rails := rails, railBad := List.replicate 5 bad, queue := [⟨0, 7, ⟨0, 0, 1, 1⟩, 3, false, false⟩] })

/-- An update in flight whose last frame has ended. -/
def finished : Chip :=
  live.aplUp (fun a => { a with runs := [{ u := ⟨0, 7, ⟨0, 0, 1, 1⟩, 3, false, false⟩, slot := 15, bank := 0, phase := 0, done := 1, len := 1 }] })

/-- RegionLayerUpdates: requests, updates, rails. -/
theorem witness_RegionLayerUpdates :
    (live.takesWrite .host0 K.APL_REQ_POST ∧ bit 1 0 = true ∧ live.get F.APL_REQ_CTRL_START ≠ 2)
      ∧ (∃ r, finished.apl.runs.find? (fun x => x.slot = 15) = some r ∧ r.lastFrame = true ∧ r.due = true ∧ r.rev = none ∧ r.phase = 0
        ∧ r.stop = false)
      ∧ (live.takesWrite .host1 K.APL_ABORT ∧ bit 7 31 = false ∧ 7 % 256 < 0xE0 ∧ (∃ u ∈ (layered 2 0).apl.queue, u.id = 7 % 256)
        ∧ (layered 2 0).apl.runs = [])
      ∧ (layered 1 0).apl.rails = 1 ∧ (layered 2 8).apl.rails = 2 ∧ (∀ n ∈ (layered 2 8).apl.railBad, n < 9) ∧ 9 ∈ (layered 2 9).apl.railBad :=
  ⟨by decide +kernel, ⟨_, rfl, by decide +kernel⟩, by decide +kernel, by decide +kernel⟩

/-- RegionLayerUpdates: recovery, the owner, waveform words. -/
theorem witness_RegionLayerUpdates_2 :
    (live.takesWrite .host0 K.APL_RECOVER ∧ (live.set F.APL_RAIL_STATUS_OK 0x1F).get F.APL_RAIL_STATUS_OK = 0x1F ∧ live.laneMask 3 = 0
      ∧ (live.set ⟨mkPage 11 3 + 0x130, 0, 1, 4⟩ 1).takesWrite .host0 K.APL_RECOVER)
      ∧ live.takesWrite .keeper K.APL_OWNER ∧ live.blockOn 13 = true
      ∧ (({ live with apl := { live.apl with drive := true } } : Chip).set F.APL_OWNER_DRIVE 0).get F.APL_OWNER_DRIVE = 0
      ∧ ((live.set F.APL_TBL_ADDR_INDEX 477).takesWrite .host0 K.APL_TBL_DATA ∧ 477 < 480 ∧ 477 % 4 = 1 ∧ live.wfBusy 0 = true
        ∧ live.wfBusy 1 = false) := by decide +kernel

/-- A customer object of a kind, its first section's body or none. -/
def object (kind slot : Nat) (body : List Byte) : List Byte :=
  let head : List Byte := [0x48, 0x4C, 0x50, 0x4F, BitVec.ofNat 8 kind, BitVec.ofNat 8 slot, 1, 0, 1, 0, 0, 0]
  if body = [] then padBytes 268 (head ++ [0x0C, 1])
  else padBytes (280 + body.length) (padBytes 184 (padBytes 168 (head ++ leBytes 4 (280 + body.length)) ++ [1, 0, 0, 0] ++ padBytes 4 []
    ++ leBytes 4 184 ++ leBytes 4 body.length) ++ body)

/-- A Keeper that may store objects, and a request of HOST0 about `n` bytes at address 0. -/
def keeper : Chip := live.set F.THM_GATES_FLASH_OK 1
def ask (flags n : Nat) (data : List Byte) : KeeperReq := { ep := 1, flags := flags, len := n, data := data }

/-- A policy table that keeps every limit. -/
def policyBytes : List Byte := padBytes 64 [0, 7, 0, 1, 0, 0, 0, 0, 0xD0, 7, 80, 4, 9, 9, 1, 0, 1, 0, 0, 0, 0, 0x10, 1, 0, 1, 64]

/-- A state whose memory holds an object at address 0. -/
def holding (c : Chip) (b : List Byte) : State := { chip := c, mem := mem 0 b }

/-- KeeperStoresObjects: the profile, the policy. -/
theorem witness_KeeperStoresObjects :
    (keeper.performs ((ask 1 268 []).as 0x30) ∧ keeper.performs ((ask 2 0 []).as 0x31) ∧ bit 2 1 = true
      ∧ keeper.performs ((ask 0 344 []).as 0x31))
      ∧ objectAt (holding keeper (object 1 0 [])) (ask 1 268 []) 1 54525952 (object 1 0 []) := by decide +kernel

/-- KeeperStoresObjects: a policy table, the firmware, the flash write's end. -/
theorem witness_KeeperStoresObjects_2 :
    (objectAt (holding keeper (object 2 1 policyBytes)) (ask 0 344 []) 2 262144 (object 2 1 policyBytes)
      ∧ policyFault keeper.isC8 (objectBody (object 2 1 policyBytes)) = none ∧ ob (object 2 1 policyBytes) 16 48 = 0)
      ∧ (keeper.performs ((ask 0 8 []).as 0x34) ∧ keeper.memMapped 0 8 = true)
      ∧ ({ keeper with kpr := { keeper.kpr with busy := some (ask 0 8 [], .profile ⟨1, 0, 0, 0, [], 0⟩ true) } } : Chip).kpr.waiting = [] := by
  decide +kernel

/-- RollbackCommitTargets, with an image's index above and not above the target. -/
theorem witness_RollbackCommitTargets :
    keeper.performs ((ask 0 0 (leBytes 8 64)).as 0x35) ∧ keeper.performs ((ask 1 0 (leBytes 8 65)).as 0x35)
      ∧ 64 < leNat (slice (leBytes 8 65) 0 8) ∧ leNat (slice (leBytes 8 64) 0 8) ≤ 64 ∧ 0 < keeper.kpr.otp.rollback + 1
      ∧ (keeper.kpr.images.getD (keeper.get F.KPR_BOOT_STATUS_IMAGE) {}).header = some (1, 0) ∧ 0 < 64 ∧ ¬ (0 < 0)
      ∧ keeper.kpr.otp.rollback ≤ 0 := by decide +kernel

/-- KeeperKeySlots. -/
theorem witness_KeeperKeySlots :
    (keeper.performs ((ask 0 377 []).as 0x36) ∧ keeper.kpr.otp.slot0 = none ∧ keeper.kpr.otp.slot1 = none)
      ∧ (objectAt (holding keeper (object 3 0 (List.replicate 97 0))) (ask 0 377 []) 3 262144 (object 3 0 (List.replicate 97 0))
        ∧ (objectBody (object 3 0 (List.replicate 97 0))).length = 97 ∧ ob (object 3 0 (List.replicate 97 0)) 5 1 = 0
        ∧ objectKey (object 3 0 (List.replicate 97 0)) = objectBody (object 3 0 (List.replicate 97 0))) := by decide +kernel

/-- KeeperKeySlots: revoking. -/
theorem witness_KeeperKeySlots_2 :
    keeper.performs ((ask 0 268 []).as 0x37) ∧ objectAt (holding keeper (object 4 1 [])) (ask 0 268 []) 4 262144 (object 4 1 [])
      ∧ ((keeper.kprUp (fun k => { k with otp := { slot0 := some 1, slot1 := some 2 } })).slotKey (ob (object 4 1 []) 5 1)).isSome = true
      ∧ keeper.slotRevoked (ob (object 4 1 []) 5 1) = false := by decide +kernel

/-- KeeperReports: the requests, and memory that is or is not mapped; the certificate and the report are free values, so any
length is either within or above their own. -/
theorem witness_KeeperReports :
    keeper.performs ((ask 0 64 []).as 0x32) ∧ keeper.performs ((ask 0 64 []).as 0x33) ∧ keeper.performs ((ask 0 64 []).as 0x3B)
      ∧ keeper.memMapped 0 64 = true ∧ keeper.memMapped (2 ^ 38) 64 = false ∧ keeper.cal.stored = some {}
      ∧ ({ keeper with cal := { keeper.cal with stored := none } } : Chip).cal.stored = none := by decide +kernel

/-- A debug answer with scope bit 2, for the challenge of zeros. -/
def debugBytes : List Byte := List.replicate 40 0 ++ [4, 0, 0, 0, 60, 0, 0, 0]

/-- KeeperDebugLock. -/
theorem witness_KeeperDebugLock :
    (keeper.performs ((ask 0 0 []).as 0x38) ∧ keeper.performs ((ask 0 328 []).as 0x39))
      ∧ (∀ slot ∈ [0, 0xFF], objectAt (holding keeper (object 5 slot debugBytes)) (ask 0 328 []) 5 262144 (object 5 slot debugBytes))
      ∧ (objectBody (object 5 0 debugBytes)).length = 48 ∧ leNat (slice (objectBody (object 5 0 debugBytes)) 40 4) < 8
      ∧ bit (leNat (slice (objectBody (object 5 0 debugBytes)) 40 4)) 2 = true
      ∧ (keeper.kprUp (fun k => { k with challenge := some (List.replicate 32 0) })).kpr.challenge = some ((objectBody (object 5 0 debugBytes)).take 32)
      ∧ leNat (slice (objectBody (object 5 0 debugBytes)) 32 8) = keeper.kpr.otp.uid
      ∧ ob (object 5 0 debugBytes) 5 1 ≠ 0xFF ∧ ob (object 5 0xFF debugBytes) 5 1 = 0xFF := by decide +kernel

/-- A Keeper whose policy closes the luminance loop. -/
def closedLoop : Chip :=
  keeper.kprUp (fun k => { k with policy := policyBytes, active := some ⟨1, 0, 0, 0, [], 0⟩, restarts := [0, 0] })

/-- KeeperBrightnessAndRestart. -/
theorem witness_KeeperBrightnessAndRestart :
    keeper.performs ((ask 0 0 [0xFF, 0xFF, 0xFF, 0xFF]).as 0x3A)
      ∧ (closedLoop.firmware = true ∧ closedLoop.polLum = true ∧ closedLoop.blockOn 12 = true ∧ closedLoop.kpr.active.isSome = true)
      ∧ keeper.polLum = false
      ∧ 2 ≤ (closedLoop.kpr.restarts.filter (fun n => decide (closedLoop.clock.sec < n + 60) && decide (n ≤ closedLoop.clock.sec))).length
      ∧ (keeper.kprUp (fun k => { k with restarting := true })).kpr.restarting = true ∧ keeper.kpr.waiting = [] := by decide +kernel

/-- CalibrationRequests. -/
theorem witness_CalibrationRequests :
    (∀ fl ∈ [0, 1], keeper.performs ((ask fl 0 []).as 0x3C) ∧ keeper.performs ((ask fl 0 []).as 0x3D) ∧ bit fl 0 = decide (fl = 1))
      ∧ keeper.mode = .flat ∧ keeper.get F.CAL_BG_STATUS_PHASE ≠ 3 ∧ keeper.cal.full = none ∧ keeper.cal.pass = none
      ∧ (keeper.performs ((ask 0 65536 []).as 0x3E) ∧ keeper.memMapped 0 65536 = true)
      ∧ (∀ b ∈ [3, 4], keeper.performs ((ask 0 0 [b, 0, 0xFF, 0xFF, 0xFF]).as 0x3F) ∧ leNat (slice [b, 0, 0xFF, 0xFF, 0xFF] 0 1) = b.toNat)
      ∧ (booting 6).mode = .boot := by decide +kernel

/-- A background pass between steps, or with a step's results to judge. -/
def passing (phase en : Nat) : Chip :=
  { keeper with cal := { keeper.cal with pass := some 0, pausing := false } }.set bgEn en |>.set F.CAL_BG_STATUS_PHASE phase

/-- CalibrationSteps. -/
theorem witness_CalibrationSteps :
    (keeper.cal.full = none ∧ keeper.cal.pass = none ∧ keeper.get F.CAL_BG_STATUS_PHASE ≠ 3 ∧ (keeper.set bgEn 1).is bgEn = true)
      ∧ ((passing 0 1).cal.pass.isSome = true ∧ (passing 0 1).cal.pausing = false ∧ (passing 0 1).get F.CAL_BG_STATUS_PHASE = 0
        ∧ (passing 0 1).is F.CAL_FULL_STATUS_RUNNING = false ∧ (passing 0 1).is bgEn = true)
      ∧ ((passing 1 0).get F.CAL_BG_STATUS_PHASE = 1
        ∧ convLimit (some ((passing 1 0).cal.active.convOf ((passing 1 0).get F.CAL_BG_STATUS_SPARE))) ⟨255, 16384, 0, 16384, 8⟩ = none
        ∧ convLimit (some ((passing 1 0).cal.active.convOf ((passing 1 0).get F.CAL_BG_STATUS_SPARE))) ⟨0, 16384, 0, 16384, 9⟩ = some (2, 2)
        ∧ convLimit (some ((passing 1 0).cal.active.convOf ((passing 1 0).get F.CAL_BG_STATUS_SPARE))) ⟨0, 16384, 65, 16384, 0⟩ = some (2, 1))
      ∧ (keeper.set ⟨P.CAL + 0x00C, 4, 1, 4⟩ 1).sensePaused = true
      ∧ (keeper.set F.CAL_FULL_STATUS_RUNNING 1).is F.CAL_FULL_STATUS_RUNNING = true ∧ keeper.is F.CAL_FULL_STATUS_RUNNING = false
      ∧ keeper.kpr.waiting = [] := by decide +kernel

/-- A module in Mooring, its record to be written. -/
def moored : Chip :=
  (({ live with mode := .mooring, pwr := { live.pwr with mooring := some ⟨{ kind := 2 }, true, none⟩ } } : Chip).set F.PWR_RECORD_STATUS_READY 1).set F.THM_GATES_SAVE_OK 1

/-- MooringSequence. -/
theorem witness_MooringSequence :
    (live.blockOn 20 = true ∧ live.mode ≠ .off ∧ live.mode ≠ .mooring ∧ moored.blockOn 20 = true ∧ moored.mode = .mooring)
      ∧ (live.takesWrite .host0 K.PWR_MOORING_TEST ∧ bit 1 0 = true ∧ bit 0 0 = false)
      ∧ (moored.blockOn 13 = true ∧ (16000 ≤ 16000 ∧ 16000 < 16001))
      ∧ moored.is F.PWR_RECORD_STATUS_READY = true ∧ moored.is F.THM_GATES_SAVE_OK = true
      ∧ (moored.set F.PWR_RECORD_STATUS_READY 0).is F.PWR_RECORD_STATUS_READY = false := by decide +kernel

/-- MooringSequence: a record waits. -/
theorem witness_MooringSequence_2 : ∃ r, moored.pwr.mooring = some r ∧ r.write = true := ⟨_, rfl, rfl⟩

/-- A capacitor in a state. -/
def cap (n : Nat) : Chip := ((live.set F.PWR_CAP_STATUS_STATE n).set F.PWR_CAP_CTRL_CHARGE_EN 1).set F.THM_GATES_CHARGE_OK 1

/-- HoldUpCapacitor and MooringReserve, each clause at its limits. -/
theorem witness_HoldUpCapacitor :
    ((cap 1).get F.PWR_CAP_STATUS_STATE = 1 ∧ 0 < 1 ∧ (cap 2).get F.PWR_CAP_STATUS_STATE ≠ 1)
      ∧ (2000000 / 4000 = 500 ∧ 2000000 / 4001 < 500 ∧ 4030 < 2000000 / 496 ∧ ¬ 4030 < 2000000 / 497)
      ∧ (35499 < 35500 ∧ (cap 2).mayCharge = true) ∧ (cap 2).blockOn 20 = true ∧ 37999 < 38000 := by decide +kernel

/-- MooringReserve holds at one state, its energy above the reserve. -/
theorem witness_MooringReserve :
    (cap 2).blockOn 20 = true ∧ (cap 2).get F.PWR_CAP_STATUS_STATE = 2 ∧ 36000 < 65536
      ∧ ((cap 2).set F.PWR_CAP_C_UF 2000).get F.PWR_CAP_C_UF = 2000 ∧ 900000000000000 ≤ 425 * 2000 * (36000 * 36000 - 144000000)
      ∧ 425 * 2000 * (12000 * 12000 - 144000000) < 900000000000000 := by decide +kernel

/-- A hot zone 0 whose region is at throttle step `n`. -/
def hot (n : Nat) : Chip := (live.set F.THM_LIMITS_AT_100 1).set (hwStep 1) n

/-- HeatAndThrottling. -/
theorem witness_HeatAndThrottling :
    live.blockOn 19 = true ∧ (live.takesWrite .host0 K.THM_BROKEN_RETRY ∧ bit 1 0 = true)
      ∧ (zoneRegion 0 = some 1 ∧ bit ((hot 3).get F.THM_LIMITS_AT_100) 0 = true ∧ (hot 3).throttleNow 1 < 4 ∧ 4 ≤ (hot 4).throttleNow 1)
      ∧ bit (live.get F.THM_LIMITS_AT_100) 0 = false
      ∧ (live.blockOn 20 = true ∧ ((1000 : Int) :: List.replicate 8 (-320)).take 8 = (1000 : Int) :: List.replicate 7 (-320)) := by
  decide +kernel

/-- RailsRecordsAndTheClock. -/
theorem witness_RailsRecordsAndTheClock :
    (∀ cell ∈ [0, 6, 7, 11], cell < 12 ∧ ∀ r, r < 4 → cell ∈ railsOfRegion r → (blocksOfRegion r).any live.blockOn = true)
      ∧ live.mode ≠ .off ∧ live.mode ≠ .mooring
      ∧ (live.blockOn 20 = true ∧ 3 ≤ live.get F.KPR_BOOT_STATUS_STEP ∧ live.is F.PWR_RECORD_STATUS_READY = false
        ∧ keeper.is F.THM_GATES_FLASH_OK = true ∧ keeper.is F.PWR_RECORD_STATUS_READY = false ∧ moored.is F.PWR_RECORD_STATUS_READY = true)
      ∧ (live.takesWrite .host0 K.PWR_VIN_MIN ∧ bit 0x80000000 31 = true ∧ bit 0x7FFFFFFF 31 = false) := by decide +kernel

/-- The queue's two steps and the clock's, in states that have them. -/
theorem witness_IdleStepPassesAReferenceCycle :
    live.tim.lost = false ∧ live.blockOn 17 = true ∧ live.tim.step = none ∧ (st live).pending = []
      ∧ ({ live with tim := { live.tim with lost := true } } : Chip).tim.lost = true ∧ ({} : Chip).blockOn 17 = true := by decide +kernel

/-- ErrCountHalves. -/
theorem witness_ErrCountHalves : P.SEC % 4096 = 0 ∧ 0xFFFF0000 < 2 ^ 32 ∧ live.takesWrite .host0 (P.SEC + 0x02C) := by decide +kernel

/-- EveryStepKeepsTheCanonicalForm: the reset state has the form, and a step of it answers. -/
theorem witness_EveryStepKeepsTheCanonicalForm : State.reset.wf ∧ ∃ t, step State.reset = .next t := ⟨by decide +kernel, _, rfl⟩

/-- MemoryHoldsWhatAStepStored: memory that holds a byte, and a store beside it. -/
theorem witness_MemoryHoldsWhatAStepStored : (mem 7 [1]).wf ∧ ∀ op ∈ [MemOp.byte 6 2], match op with
    | .byte b _ => b ≠ 7
    | .fill f => ∀ v, f.over 7 v = v := by
  refine ⟨by decide +kernel, fun op h => ?_⟩
  simp only [List.mem_singleton] at h
  subst h
  decide

/-! ### Further clauses of the statements -/

/-- InterruptBitsClearAndForce and PageLockKeepsMastersOut: the firmware runs. -/
theorem witness_InterruptBitsClearAndForce_2 : live.modes.bootRom = false ∧ lockedPage.modes.bootRom = false := by decide +kernel

/-- HeaderWritesClear: clearing counters at a page of several and at CAL's, which is no CHK unit's. -/
theorem witness_HeaderWritesClear_2 :
    ∀ page ∈ [P.MEM, P.CAL], live.takesWrite .keeper (page + 0x008) ∧ blockOf page ≠ 15 ∧ page % 4096 = 0 := by decide +kernel

/-- WordWritesReachRegistersAndMemory: a staged register, and a write of the same cycle by a master of a lower place. -/
theorem witness_WordWritesReachRegistersAndMemory_2 :
    ({ live with regs := { live.regs with last := some (K.CDC_FIELD_CTRL, .keeper) } } : Chip).takesWrite .host0 K.CDC_FIELD_CTRL
      ∧ 0x100 ≤ offOf K.CDC_FIELD_CTRL ∧ (findReg K.CDC_FIELD_CTRL).map (fun d => decide (d.stg ≠ 0)) = some true
      ∧ live.quiet.engineWrite {} K.CDC_FIELD_CTRL 1 = none ∧ live.quiet.keeperRegWrite .host0 K.CDC_FIELD_CTRL 1 = none
      ∧ masterBit .keeper < masterBit .host0 := by decide +kernel

/-- WordWritesReachRegistersAndMemory: an address that is no register, memory or image. -/
theorem witness_WordWritesReachRegistersAndMemory_3 :
    live.target 0xFFFFFFFFFF = .none ∧ live.imageTarget .host0 0xFFFFFFFFFF = none
      ∧ live.blockOn (blockOf (entryPage .host0)) = true ∧ bit (live.w (entryPage .host0 + 0x20)).toNat 4 = false
      ∧ (actSet live ⟨entryPage .host0 + 0x40, 8, 8, 4⟩ 0).act ⟨entryPage .host0 + 0x40, 8, 8, 4⟩ = 0 := by decide +kernel

/-- TickCountersAndSource: a relock outside the band, a tick source that is HOST, and a training slot. -/
theorem witness_TickCountersAndSource_2 :
    (actSet live F.TIM_TICK_CTRL_SRC 2).act F.TIM_TICK_CTRL_SRC = 2 ∧ live.mode ≠ .hold
      ∧ (-20000 ≤ (20000 : Int) ∧ (20000 : Int) < 20001)
      ∧ ({ live with modes := { dark := some { timing := 1, old := 9, stage := 1 } } } : Chip).inSlot = true := by decide +kernel

/-- PowerPinsMoveTheMode: a shutdown under way, Standby and Hold. -/
theorem witness_PowerPinsMoveTheMode_2 :
    (({ lit with modes := { shutdown := some ⟨.standby, 9, 1⟩ } } : Chip).modes.shutdown = some ⟨.standby, 9, 1⟩ ∧ lit.mode ≠ .off
        ∧ lit.mode ≠ .mooring)
      ∧ ({ live with mode := .standby } : Chip).settled = true ∧ ({ live with mode := .standby } : Chip).modes.wanted = none
      ∧ ({ lit with mode := .hold } : Chip).mode = .hold ∧ ({ lit with mode := .hold } : Chip).modes.wanted = none := by decide +kernel

/-- A module before start-up step 1 whose flash holds two images. -/
def imaged : Chip :=
  (booting 0).kprUp (fun k => { k with images := [{ header := some (3, 0), signed := true }, { header := some (4, 0), signed := true }] })

/-- A module whose stored profile belongs to its panel. -/
def profiled : Chip :=
  { booting 6 with kpr := { (booting 6).kpr with profile := some { version := 3, digest := 5, slot := 2, bind := 0, table := [] } } }

/-- StartUpStepsEndOrFail: an image accepted, B before A by its version; no valid set; the Ray region at step 6. -/
theorem witness_StartUpStepsEndOrFail_2 :
    (imaged.mayStep = true ∧ imaged.mode = .boot ∧ imaged.get F.KPR_BOOT_STATUS_STEP = 0
      ∧ imaged.imageResult (imaged.kpr.images.getD 1 {}) false = 1 ∧ imaged.imageOrder.headD 0 = 1)
      ∧ ({ booting 2 with cal := { stored := none } } : Chip).cal.stored = none
      ∧ ((booting 6).blockOn 14 = true ∧ 6 ≤ (booting 6).get F.KPR_BOOT_STATUS_STEP ∧ 7 ∈ blocksOfRegion 1)
      ∧ ((booting 3).blockOn 9 = true ∧ (booting 3).blockOn 3 = true
        ∧ (([some [], some eeprom] : List (Option (List Byte))).take 3).filterMap (fun t => t) ≠ [] ∧ eepromOk false [] = false)
      ∧ ((booting 4).blockOn 9 = true ∧ (booting 4).blockOn 11 = true) := by decide +kernel

/-- StartUpStepsEndOrFail: a profile of another panel. Whether a profile belongs to the panel rests on a digest, a free value. -/
theorem witness_StartUpStepsEndOrFail_3 :
    profiled.mayStep = true ∧ profiled.get F.KPR_BOOT_STATUS_STEP = 6 ∧ (booting 6).kpr.profile = none ∧ profiled.blockOn 5 = true := by
  decide +kernel

/-- StartUpStepsEndOrFail: a stored profile that is good and bound to its panel, whatever the panel's digest. -/
theorem witness_StartUpStepsEndOrFail_4 :
    ∀ c : Chip, c = profiled.kprUp (fun k => { k with profile := some { version := 3, digest := 5, slot := 2, bind := profiled.panelDigest, table := [] } }) →
      ∃ p, c.kpr.profile = some p ∧ p.bind = c.panelDigest ∧ (c.slotKey p.slot).isSome = true ∧ c.slotRevoked p.slot = false := by
  intro c hc
  subst hc
  exact ⟨_, rfl, rfl, rfl, rfl⟩

/-- ModeChangesTakeEffect: the Tender's own request, and the shutdown order for each target. -/
theorem witness_ModeChangesTakeEffect_2 :
    (({ lit with tlk := { members := [{ id := 5, paired := false, sides := [] }] } } : Chip).leads = true
      ∧ ({ lit with tlk := { members := [{ id := 5, paired := false, sides := [] }] } } : Chip).firmware = true
      ∧ lit.blockOn 4 = true ∧ lit.raster = true)
      ∧ (∀ m ∈ [Mode.standby, .off, .boot], ({ lit with modes := { shutdown := some ⟨m, 9, 0⟩ } } : Chip).modes.shutdown = some ⟨m, 9, 0⟩)
      ∧ lit.apl.runs = [] := by decide +kernel

/-- ModeChangesTakeEffect: a request that the Tender takes for the wall. -/
theorem witness_ModeChangesTakeEffect_3 :
    (({ lit with tlk := { members := [{ id := 5, paired := false, sides := [] }] } } : Chip).quiet.keeperTake 1 (leBytes 4 0x00010421)).modeJudge
      (readModeSet 1 (leBytes 4 0x00010221)) = none := by decide +kernel

/-- DarkSequenceStages: the two commits of black and the training slot. -/
theorem witness_DarkSequenceStages_2 :
    ∀ stage ∈ [0, 1], ({ lit with modes := { dark := some { timing := 1, old := 9, stage := stage, left := 0 } } } : Chip).modes.dark
      = some { timing := 1, old := 9, stage := stage, left := 0 } := by decide +kernel

/-- CodecJobRing: a job that waits with its words, one doomed, one judged bad and one that runs as a CAPTURE. -/
theorem witness_CodecJobRing_2 :
    (({ ring 0 0 with cdc := { posted := [⟨0, 0, 0, some 3, none⟩] } } : Chip).cdc.running = none)
      ∧ (ring 0 0).jobBad ((ring 0 0).jobWords (mem 0 [3]) 0) = true
      ∧ (ring 0 0).memMapped ((ring 0 0).jobAddr 0) 64 = true
      ∧ (jobSpec [8, 0x00080008]).op = 2 ∧ (running 2).timing.total ≤ 8640 * 8 ∧ 7 ∉ (ring 0 0).cdc.done
      ∧ (255 : Nat) % 256 ≠ 3 := by decide +kernel

/-- TilesAndTexelCaches: the second hit where the cluster has no fill of its own. -/
theorem witness_TilesAndTexelCaches_2 :
    1 ∉ bound.ray.parityFills ∧ (∀ x ∈ bound.ray.lines, x.holds 0 0 0 = false) ∧ 0xFFFFFFFF < 2 ^ 32 := by decide +kernel

/-- HostLinkStates: low power asked for, its answer, its end by the peer. -/
theorem witness_HostLinkStates_2 :
    (link 4 { lpReq := true }).hlk.lpReq = true ∧ (link 4 { lpReq := true }).linkState = 4 ∧ leNat ((flitParts (linkFlit 5 [])).2.take 1) = 5
      ∧ bitsOf (flitParts (linkFlit 5 [])).1 27 26 = 2 ∧ (link 4 {}).is F.HLK_LINK_CTRL_ENABLE = true := by decide +kernel

/-- FlitsInSequence: a NAK that asks for one flit, and an ACK that comes late. -/
theorem witness_FlitsInSequence_3 :
    bitsOf (flitParts (flit 0 4095 0 2 3 0 [3, 0, 0] false)).1 29 28 = 3 ∧ leNat ((flitParts (flit 0 4095 0 2 3 0 [3, 0, 0] false)).2.take 1) = 3
      ∧ (∀ g ∈ unacked.hlk.replay, 0 ≤ signedDiff 12 g.seq 0 ∧ g.resent + 1 < unacked.get F.HLK_RETRY_CFG_REPLAY_LIMIT)
      ∧ unacked.hlk.replay.length = 1 ∧ bit 1 0 = true := by decide +kernel

/-- HostRequestsAreServed: an address that is not memory, reads that wait, and a frame that goes on. -/
theorem witness_HostRequestsAreServed_2 :
    ((link 4 {}).takesRequest 3 { addr := 0x1F00000000, data := [1] } ∧ (link 4 {}).memMapped 0x1F00000000 1 = false)
      ∧ (((link 4 { readQueue := [{ ctx := 0, rdlen := 64, op := 4 }] }).hlk.readQueue.any (fun q => q.ctx = 0)) = true
        ∧ (link 4 { readQueue := [{ ctx := 0, rdlen := 64, op := 4 }] }).takesRequest 4 { addr := 0, rdlen := 4096 })
      ∧ (streaming.act F.HLK_SCENE_CTRL_SRC_CTX ≠ 1 ∧ streaming.takesRequest 5 { ctx := 1, start := true, data := [1] }) := by decide +kernel

/-- HostRequestsAreServed: a frame's first bytes, and more of them. -/
theorem witness_HostRequestsAreServed_3 :
    streaming.takesRequest 5 { start := true, data := [0x53, 1] } ∧ slsCheck [0x53, 1] streaming.slotBytes = .partialOk
      ∧ [0x53, 1].length ≤ streaming.slotBytes ∧ streaming.ring.fill = none ∧ streaming.ring.freeSlot = some 0
      ∧ ({ streaming with ring := { streaming.ring with fill := some ⟨0, [0x53]⟩ } } : Chip).ring.fill = some ⟨0, [0x53]⟩ := by decide +kernel

/-- TileLinkFrames: a link that retrains, with frames kept, and a port split in two. -/
theorem witness_TileLinkFrames_2 :
    (((tile 5 0 { sent with up := false, kept := true }).link 0).kept = true
        ∧ (∀ f ∈ ((tile 5 0 { sent with up := false, kept := true }).link 0).replay, f.resent + 1 < 8)
        ∧ bit ((tile 5 0 { sent with up := false, kept := true }).get F.TLK_PORT_CTRL_EN) 0 = true
        ∧ 0 ∈ (tile 5 0 { sent with up := false, kept := true }).linksOf 0)
      ∧ ((tile 5 0 sent).link 0).replay = [⟨0, 0x13, 5, [], 0⟩] ∧ ((tile 5 0 sent).link 0).waiting = []
      ∧ 0 < 1 + signedDiff 8 0 0 ∧ (0 : Nat) + 1 < 8 := by decide +kernel

/-- WallMembersBarriersAndSummaries: a worker passes a JOIN up, a result down and is detached. -/
theorem witness_WallMembersBarriersAndSummaries_3 :
    (((tile 5 2 { up := true }).quiet.tileRx 2 (frame 0x10 6 [6, 0, 255, 1])).2 = some (0x10, 6, padBytes 32 [6, 0, 255, 1])
        ∧ 2 / 2 = portD0 ∧ ((tile 5 2 { up := true }).quiet.tileRx 2 (frame 0x10 6 [6, 0, 255, 1])).1.isTender = false)
      ∧ (((tile 5 0 { up := true }).quiet.tileRx 0 (frame 0x11 6 [1])).2 = some (0x11, 6, padBytes 32 [1])
        ∧ 6 ≠ ((tile 5 0 { up := true }).quiet.tileRx 0 (frame 0x11 6 [1])).1.ownId)
      ∧ ((tile 5 0 {}).set F.TLK_JOIN_STATUS_DETACHED 1).get F.TLK_JOIN_STATUS_DETACHED = 1 ∧ (tile 5 0 {}).blockOn 4 = true
      ∧ ((tile 0 2 { up := true }).isTender = true ∧ (tile 0 2 { up := true }).tlk.members = []
        ∧ (tile 0 2 { up := true }).blockOn 9 = true) := by decide +kernel

/-- WallMembersBarriersAndSummaries: the last summary awaited, a late one, one of the next plan; a wait that ends. -/
theorem witness_WallMembersBarriersAndSummaries_4 :
    (let c : Chip := tender.tlkUp (fun t => { t with awaited := [1] });
      (c.quiet.tileRx 2 (frame 0x13 5 [])).2 = some (0x13, 5, padBytes 32 [])
        ∧ (∀ p ∈ (c.quiet.tileRx 2 (frame 0x13 5 [])).1.tlk.awaited, p = 2 / 2)
        ∧ 1 ∈ (c.quiet.tileRx 2 (frame 0x13 5 [])).1.tlk.awaited ∧ (c.quiet.tileRx 2 (frame 0x13 5 [])).1.isTender = true)
      ∧ signedDiff 16 1 (tender.tick.field % 65536) = 1 ∧ signedDiff 16 65535 (tender.tick.field % 65536) = -1
      ∧ tender.tlk.summary.isSome = true ∧ tender.tlk.merged = none
      ∧ ((tile 5 2 {}).tlkUp (fun t => { t with summary := tender.tlk.summary })).isTender = false := by decide +kernel

/-- TileMessagesAndRemoteCommands: a frame for another module, a channel that is full, a message that must wait. -/
theorem witness_TileMessagesAndRemoteCommands_4 :
    ((pair 0).tileForward 0x20 portP 5 []).1 = true ∧ ((tile 5 2 { up := true }).tileForward 0x20 1 6 []).1 = false
      ∧ (let c : Chip := (pair 0).mbxUp (fun b => { b with chans := [(4, List.replicate 8 ⟨padBytes 64 [1], 0, false, 0, 0⟩)] });
        8 ≤ ((after c 0x21 [1]).chan (farOf 0x21) (partyOf portP 5)).length ∧ (after c 0x21 [1]).epExists (partyOf portP 5) = true)
      ∧ (heard 0x22 [7] = some (0x22, 5, padBytes 32 [7]) ∧ leNat ((padBytes 32 [7]).take 1) = 7)
      ∧ (let c : Chip := posting.mbxUp (fun b => { b with flight := [], hold := [(4, 0)] });
        (4, 0) ∈ c.mbx.hold ∧ (∀ f ∈ c.mbx.flight, f.1 ≠ 4) ∧ c.chan 4 0 ≠ []
          ∧ c.mbx.order.find? (fun o => o.1 = 4 && !(c.mbx.hold.filter (· ≠ (4, 0))).contains o) = some (4, 0))
      ∧ ((0x105 % 128 = 5 ∧ tender.is F.TLK_REMOTE_CTRL_BUSY = false) ∧ tender.tlk.members.any (fun m => m.id = 5) = true)
      ∧ ((tile 5 2 {}).paired = false ∧ ((tile 5 2 {}).set F.TLK_REMOTE_CTRL_BUSY 1).is F.TLK_REMOTE_CTRL_BUSY = true) := by
  decide +kernel

/-- RedundantPairs: the check at HB_WAIT, the pair's pin rising and falling. -/
theorem witness_RedundantPairs_2 :
    ((pair 0).paired = true ∧ (pair 0).blockOn 4 = true ∧ (pair 0).tlk.beat ≠ some (pair 0).tick.field
        ∧ ((pair 0).tlkUp (fun t => { t with beat := some 0 })).tlk.beat = some ((pair 0).tlkUp (fun t => { t with beat := some 0 })).tick.field)
      ∧ (let c : Chip := (pair 0).set F.TLK_PAIR_STATUS_PARTNER_OWN 1;
        c.is F.TLK_PAIR_STATUS_PARTNER_OWN = true ∧ c.is F.TLK_PAIR_STATUS_OWN = false ∧ c.tlk.takeover = false
          ∧ c.eligible = true) := by
  decide +kernel

/-- MailboxesDoorbellsAndLocks: a full channel, a host's own reset, a lock that another master, or nobody, frees. -/
theorem witness_MailboxesDoorbellsAndLocks_6 :
    (let c : Chip := live.mbxUp (fun b => { b with chans := [(2 * 128 + 1, List.replicate 8 ⟨padBytes 64 [1], 0, false, 0, 0⟩)] });
      (c.chan 2 (masterBit .host0)).length = 8 ∧ c.epExists 2 = true ∧ masterBit .host0 ≠ 2)
      ∧ (Master.host0 = .host0 ∧ masterBit .host0 = 1 ∧ live.takesWrite .host0 K.MBX0_EP_RESET ∧ bit 1 0 = true)
      ∧ (¬ ((1 = 0 ∧ (1 : Nat) = masterBit .host0) ∨ (1 = 0x80000000 ∧ Master.host0 = .keeper)) ∧ locked.lockHold 63 = some ⟨1, 0⟩
        ∧ locked.takesWrite .host1 (K.MBX0_LOCK + 4 * 63)) := by decide +kernel

/-- TimeBaseAndTriggers: a rate written by a host, a periodic unit due, the Keeper's own unit. -/
theorem witness_TimeBaseAndTriggers_2 :
    (Master.host0 ≠ .keeper ∧ live.pageMapped P.TIM = true ∧ live.hlk.downNext = false)
      ∧ (live.takesWrite .keeper K.TIM_TRIG_CTRL ∧ live.is (trigFld 0 0 0 1) = false)
      ∧ (let c : Chip := (timed.set (trigFld 15 0 1 1) 1).set (trigFld 15 0x14 0 32) 1000;
        (c.trigTarget 15).isSome = true ∧ c.is (trigFld 15 0 1 1) = true ∧ c.trigPeriod 15 ≠ 0)
      ∧ clampInt (-4294967) 4294967 (signed 32 0x80000000) = -4294967 ∧ clampInt (-4294967) 4294967 (signed 32 4294967) = 4294967 := by
  decide +kernel

/-- A two-step Sync of the clock that the module follows, and the residence it keeps. -/
def twoStep : PtpMsg := { kind := 0, twoStep := true, seq := 7 }

/-- TimePortsAndTimeFrames: a Sync with its stamp to come, its residence held, the other messages of a slave and a master. -/
theorem witness_TimePortsAndTimeFrames_2 :
    (let c : Chip := (timePorts 3 3).timUp (fun t => { t with held := [⟨0, 7, 0, 5⟩] });
      twoStep.twoStep = true ∧ c.tim.held.length < 16 ∧ (1 ≠ c.ocPort ∨ 0 ≠ c.ocPort)
        ∧ c.tim.held.find? (fun h => h.port = 0 && h.seq = 7 && h.source = 0) = some ⟨0, 7, 0, 5⟩)
      ∧ (0 = (timePorts 1 1).ocPort ∧ twoStep.domain = (timePorts 1 1).get F.TIM_PTP_CTRL_DOMAIN
        ∧ (timePorts 1 1).is F.TIM_PTP_CTRL_SLAVE_ONLY = true)
      ∧ (((timePorts 1 1).set F.TIM_PTP_CTRL_SLAVE_ONLY 0).timUp (fun t => { t with slaveOf := none })).tim.slaveOf = none
      ∧ ((timePorts 1 1).set F.TIM_PTP_CTRL_SLAVE_ONLY 0).is F.TIM_PTP_CTRL_SLAVE_ONLY = false
      ∧ tender.isTender = true ∧ (tile 5 0 {}).isTender = false ∧ tender.blockOn 4 = true := by decide +kernel

/-- A TIME frame's payload of a kind, sequence 3, for module `id`. -/
def timeBytes (kind id : Nat) : List Byte := timePayload kind 3 0 0 id 0

/-- TimePortsAndTimeFrames: TIME frames to a worker and to the Tender. -/
theorem witness_TimePortsAndTimeFrames_3 :
    (∀ k ∈ [0, 9], ((tile 5 0 { up := true }).quiet.tileRx 0 (frame 2 5 (timeBytes k 5))).2.map (fun e => (e.1, leNat (e.2.2.take 1) % 16))
        = some (2, k))
      ∧ (ob (padBytes 32 (timeBytes 9 5)) 22 1 = 5 ∧ ob (padBytes 32 (timeBytes 9 6)) 22 1 ≠ 5
        ∧ ob (padBytes 32 (timeBytes 9 5)) 23 1 % 2 = (tile 5 0 {}).get F.TLK_NODE_CFG_SIDE ∧ (tile 5 0 {}).ownId = 5)
      ∧ (tender.quiet.tileRx 2 (frame 2 5 (timeBytes 1 5))).2.map (fun e => (e.1, leNat (e.2.2.take 1) % 16)) = some (2, 1)
      ∧ (tender.quiet.tileRx 2 (frame 2 5 (timeBytes 1 5))).1.owns = true
      ∧ (tile 5 2 { up := true }).owns = true ∧ (tile 5 0 { up := true }).isTender = false := by decide +kernel

/-- CheckUnits: FINISH with the comparison on, and START beside it; RESYNC beside FINISH. -/
theorem witness_CheckUnits_2 :
    (live.set (F.CHKU_CFG_CMP_EN.inst 20) 1).is (F.CHKU_CFG_CMP_EN.inst 20) = true ∧ (bit 3 1 = true ∧ bit 3 0 = true)
      ∧ (bit 6 2 = true ∧ bit 6 1 = true ∧ bit 6 0 = false) ∧ (live.set (F.CHKU_ALIVE_VALID.inst 1) 1).get (F.CHKU_ALIVE_VALID.inst 1) = 1 := by
  decide +kernel

/-- A memory controller in a quiet window of a channel. -/
def window (q : Quiet) : Chip := { live with dram := { live := List.range 8, quiet := some q } }

/-- MemoryControllerSlots: what the scheduler chooses, and a refresh in a quiet window or postponed. -/
theorem witness_MemoryControllerSlots_2 :
    ((memory none [3] 0).slotItem 0 0 = .idle ∧ (memory none [] 0).slotItem 0 0 ≠ .idle)
      ∧ ((memory none [3] 1).subch 0 0).owed = 3 :: [] ∧ (window ⟨7, false, 2, false⟩).dram.quiet = some ⟨7, false, 2, false⟩
      ∧ 255 = (live.act F.MEM0_TRAIN_CTRL_TRACK_MIN + (255 - live.act F.MEM0_TRAIN_CTRL_TRACK_MIN))
      ∧ (∀ n ∈ [1, 2], (window ⟨7, false, n, false⟩).dram.quiet.map Quiet.left = some n) ∧ 0 < live.act F.MEM0_TRAIN_CTRL_TRACK_MIN
      ∧ (memory none [] 0).is (F.MEMC_CH_STATUS_RATE2X.inst 1) = false ∧ ((memory none [] 0).subch 0 1).owed = [] := by decide +kernel

/-- TwoDimensionalEngineRing: an invalid command, one not due, one whose plane follows no beam, one aborted as it runs. -/
theorem witness_TwoDimensionalEngineRing_3 :
    ((ringed 0 0 none).bltUnpowered = false ∧ (ringed 0 0 none).bltBad ((ringed 0 0 none).bltWords (mem 0 (fillBytes.set 2 4)) 0) = some 0)
      ∧ ((ringed 0 0 none).bltBad ((ringed 0 0 none).bltWords (mem 0 (fillBytes.set 2 12)) 0) = none
        ∧ (ringed 0 0 none).beamPlaneBad (bltSpec ((ringed 0 0 none).bltWords (mem 0 (fillBytes.set 2 12)) 0)) = true
        ∧ (ringed 0 0 none).beamPlaneBad (bltSpec ((ringed 0 0 none).bltWords (mem 0 fillBytes) 0)) = false)
      ∧ (ringed 1 2 none).bltBad ((ringed 1 2 none).bltWords (mem 0 fillBytes) 0) = none
      ∧ ((drawing false).takesWrite .host0 K.BLT_ABORT ∧ (drawing false).blt.running.map BltCmd.index = some 9 ∧ 9 % 256 = 9 ∧ bit 9 31 = false) := by
  decide +kernel

/-- FieldStoreScanoutAndConditioning: a dark and a lit line, an entry beyond its table, a wait that counts. -/
theorem witness_FieldStoreScanoutAndConditioning_3 :
    (lit.dark = false ∧ (lit.set ⟨P.SCN + 0x00C, 4, 1, 4⟩ 1).dark = true)
      ∧ (actSet live F.FST_AGE_LIMIT_CYCLES 100).act F.FST_AGE_LIMIT_CYCLES = 100 ∧ 7 < 8
      ∧ (pcnTableSize 3 ≤ 209 ∧ (tableAt 3 209 0).takesWrite .host0 K.PCN_TBL_DATA ∧ (tableAt 3 209 0).get F.PCN_TBL_ADDR_INDEX = 209)
      ∧ K.PCN_TBL_DATA ∉ live.regs.badParity
      ∧ (lit.timingOf lit.modeId).map (fun tm => decide (tm.blank ≤ 71 + 1) && decide (71 + 1 - tm.blank < tm.height)) = some true := by
  decide +kernel

/-- PanelLanesReportAndTrain: a training with and without ADAPT, scans of either kind, lanes to judge. -/
theorem witness_PanelLanesReportAndTrain_3 :
    (let c : Chip := { lit with lanes := { lit.lanes with training := true } };
      (actSet c F.SER0_TRAIN_CTRL_ADAPT 1).on F.SER0_TRAIN_CTRL_ADAPT = true ∧ (actSet c F.SER0_TRAIN_CTRL_ADAPT 0).on F.SER0_TRAIN_CTRL_ADAPT = false
        ∧ (1, 0) ∈ c.trainLanes ∧ 64 * 1 + 0 = 64)
      ∧ (live.set F.HLK_EYE_CTRL_START 1).is F.HLK_EYE_CTRL_START = true
      ∧ live.takesWrite .host0 (mkPage 11 1 + 0x160) ∧ receiving.retLock 1 1 = true ∧ bit 0x80 7 = true := by decide +kernel

/-- A slot that its plan lights: flat light, DRIVE 1, the raster at its line. -/
def lightable : Chip :=
  (actSet (actSet lit F.SEC_VLED_WIN_MIN 6000) F.SEC_VLED_WIN_MAX 40000).secUp (fun x => { x with
    drive := true, prev := { x.prev with state := .flat }, cur := { x.cur with state := .flat } })

/-- SectorLightSlots: a slot that is due and lit, its window, and a start without a slot. -/
theorem witness_SectorLightSlots_2 :
    (lightable.slotDue 0 = true ∧ (lightable.slotPlan 0).state ≠ .dark ∧ lightable.slotHeldDark 0 ((0 + 16 - lightable.sec.lag) % 16) = false
      ∧ lightable.act F.SEC_VLED_WIN_MIN ≤ 6000 ∧ 40000 ≤ lightable.act F.SEC_VLED_WIN_MAX)
      ∧ ((slotOf (some 3) false true).secUp (fun x => { x with awaiting := true })).sec.awaiting = true
      ∧ ((slotOf none false true).secUp (fun x => { x with awaiting := true })).sec.line = none ∧ (slotOf none false true).sec.awaiting = false
      ∧ lit.sec.lost.any (fun e => e.1 = 95 && e.2 = 0) = false := by decide +kernel

/-- RegionLayerUpdates: a posting for a plan, an update that waits or is done, rails out ten times, frames. -/
theorem witness_RegionLayerUpdates_3 :
    ((live.set F.APL_REQ_CTRL_START 2).get F.APL_REQ_CTRL_START = 2 ∧ live.apl.resetting = false ∧ live.apl.plans.length < 32)
      ∧ ((∀ n ∈ railCounts (layered 2 8).apl.railBad 0, n < 10) ∧ 10 ∈ railCounts (layered 2 9).apl.railBad 0)
      ∧ ((layered 2 0).apl.queue.any (fun u => u.id = 7) = true ∧ (∀ r ∈ (layered 2 0).apl.runs, r.u.id ≠ 7)
        ∧ bit 0x80000000 31 = true ∧ (live.aplUp (fun a => { a with done := [⟨3, 7, ⟨0, 0, 1, 1⟩, 3, false, false⟩] })).apl.queue = [])
      ∧ (live.set F.APL_RAIL_STATUS_OK 0x1E).get F.APL_RAIL_STATUS_OK ≠ 0x1F
      ∧ ((live.wfBusy 0 = true ∧ live.wfBusy 1 = false) ∧ 480 ≤ 511)
      ∧ (let c : Chip := (actSet live ⟨K.APL_GEOM, 31, 1, 4⟩ 1).aplUp (fun a => { a with runs := finished.apl.runs.map (fun r => { r with len := 8 }) });
        c.layerPresent = true ∧ c.apl.frozen = false ∧ (∀ f ∈ c.apl.frames, f.reported ≠ []) ∧ (c.apl.runs.map (·.slot)).Nodup
          ∧ ∃ r ∈ c.apl.runs, r.suspended = false ∧ r.due = false) := by decide +kernel

/-- KeeperStoresObjects: a policy taken away, one for another profile, an image, each kind of flash write's end. What a
profile, a key or an image comes to rests on digests and signatures, free values; a clause for each outcome holds. -/
theorem witness_KeeperStoresObjects_3 :
    (keeper.performs ((ask 2 0 []).as 0x31) ∧ bit 2 1 = true ∧ (ask 2 0 []).len = 0)
      ∧ (decide (ob (object 2 1 policyBytes) 16 48 = 0) || keeper.kpr.profile.any (fun p => p.digest = ob (object 2 1 policyBytes) 16 48)) = true
      ∧ (policyFault keeper.isC8 (objectBody (object 2 1 [1]))).isSome = true
      ∧ (keeper.performs ((ask 0 8388608 []).as 0x34) ∧ keeper.memMapped 0 8388608 = true)
      ∧ (∀ w ∈ [FlashWrite.profile ⟨1, 0, 0, 0, [], 0⟩ true, .policy none false, .image 1 {}, .cal {}], w ≠ .run
        ∧ (keeper.kprUp (fun k => { k with busy := some (ask 0 8 [], w) })).kpr.busy = some (ask 0 8 [], w)) := by decide +kernel

/-- RollbackCommitTargets: targets at and above 64, above the running image's index and above the other's. -/
theorem witness_RollbackCommitTargets_2 :
    (∀ t ∈ [0, 2, 64, 65], keeper.performs ((ask 0 0 (leBytes 8 t)).as 0x35) ∧ leNat (slice (leBytes 8 t) 0 8) = t)
      ∧ (let c : Chip := keeper.kprUp (fun k => { k with images := [{ header := some (1, 70), signed := true }, { header := some (1, 1), signed := true }] });
        c.get F.KPR_BOOT_STATUS_IMAGE = 0 ∧ c.kpr.otp.rollback < 2 ∧ ¬ (70 < 2) ∧ 1 < 2 ∧ keeper.performs ((ask 1 0 (leBytes 8 2)).as 0x35)) := by
  decide +kernel

/-- KeeperKeySlots: a body of another length, the second slot, a full module, a signer that has no key. -/
theorem witness_KeeperKeySlots_3 :
    (objectBody (object 3 0 [1])).length ≠ 97
      ∧ ((keeper.kprUp (fun k => { k with otp := { slot0 := some 1 } })).kpr.otp.slot0.isSome = true
        ∧ (keeper.kprUp (fun k => { k with otp := { slot0 := some 1 } })).kpr.otp.slot1 = none)
      ∧ (ob (object 3 1 (List.replicate 97 0)) 5 1 ≠ 0 ∧ ob (object 3 0 (List.replicate 97 0)) 5 1 = 0)
      ∧ (let c : Chip := keeper.kprUp (fun k => { k with otp := { slot0 := some 1, slot1 := some 2 } });
        c.kpr.otp.slot1.isSome = true ∧ ((c.slotKey 0).isSome && !c.slotRevoked 0) = true)
      ∧ (let c : Chip := keeper.kprUp (fun k => { k with otp := { slot0 := some 1 } });
        ((c.slotKey 1).isSome && !c.slotRevoked 1) = false ∧ ((c.slotKey (1 - 1)).isSome && !c.slotRevoked (1 - 1)) = true) := by decide +kernel

/-- KeeperReports: CAL_EXPORT into a buffer of its size and of one byte less; ATTEST and CERT_GET into any. -/
theorem witness_KeeperReports_2 :
    (∀ n ∈ [65535, 65536], keeper.performs ((ask 0 n []).as 0x3B) ∧ keeper.memMapped (ask 0 n []).addr n = true)
      ∧ keeper.memMapped (ask 0 0 []).addr 0 = true := by decide +kernel

/-- KeeperDebugLock: a body of another form, and the challenge of another module. -/
theorem witness_KeeperDebugLock_2 :
    objectAt (holding keeper (object 5 0 [1])) (ask 0 281 []) 5 262144 (object 5 0 [1]) ∧ (objectBody (object 5 0 [1])).length ≠ 48
      ∧ keeper.performs ((ask 0 281 []).as 0x39) ∧ keeper.kpr.challenge ≠ some ((objectBody (object 5 0 debugBytes)).take 32)
      ∧ 8 ≤ leNat (slice (objectBody (object 5 0 (debugBytes.set 40 8))) 40 4) := by decide +kernel

/-- KeeperBrightnessAndRestart: no firmware runs, none restarts, a request waits for the restart's end. -/
theorem witness_KeeperBrightnessAndRestart_2 :
    (booting 0).firmware = false ∧ keeper.firmware = true ∧ keeper.kpr.restarting = false
      ∧ (let c : Chip := keeper.kprUp (fun k => { k with restarting := true, waiting := [ask 0 0 []] });
        c.kpr.restarting = true ∧ c.kpr.waiting ≠ [])
      ∧ keeper.act F.SEC_PHOTO_CTRL_EN = 0 := by decide +kernel

/-- CalibrationRequests: states that refuse a run, buffers of another length or outside memory, a set's write that ends. -/
theorem witness_CalibrationRequests_2 :
    (let c : Chip := keeper.set F.CAL_BG_STATUS_PHASE 3;
      c.get F.CAL_BG_STATUS_PHASE = 3 ∧ c.is pauseMode = false ∧ c.performs ((ask 0 0 []).as 0x3C) ∧ (c.set pauseMode 1).is pauseMode = true)
      ∧ (let c : Chip := { keeper with cal := { keeper.cal with full := some { ep := 1, tag := 2 } } };
        c.cal.full.isSome = true ∧ c.performs ((ask 0 0 []).as 0x3C))
      ∧ (({ keeper with mode := .hold } : Chip).performs ((ask 1 0 []).as 0x3C) ∧ bit 1 0 = true)
      ∧ (keeper.performs ((ask 0 65535 []).as 0x3E) ∧ (65535 : Nat) ≠ 65536)
      ∧ (keeper.performs (({ ask 0 65536 [] with addr := 2 ^ 38 } : KeeperReq).as 0x3E) ∧ keeper.memMapped (2 ^ 38) 65536 = false)
      ∧ (keeper.kprUp (fun k => { k with busy := some (ask 0 0 [], .cal {}) })).kpr.waiting = [] := by decide +kernel

/-- CalibrationSteps: no pass may start, a pass in step mode is not paused, a converter that is not retired. -/
theorem witness_CalibrationSteps_2 :
    ((keeper.is bgEn || keeper.cal.asked.isSome) = (keeper.is bgEn) ∧ ((keeper.set bgEn 0).is bgEn || (keeper.set bgEn 0).cal.asked.isSome) = false)
      ∧ (((keeper.set bgEn 1).set pauseMode 1).is pauseMode = true ∧ keeper.cal.pass = none)
      ∧ ((passing 1 1).cal.full.isNone && (passing 1 1).cal.pass.isNone) = false
      ∧ ((passing 2 1).get F.CAL_BG_STATUS_PHASE ≠ 1 ∧ keeper.sensePaused = false)
      ∧ (let c : Chip := keeper.set ⟨P.CAL + 0x00C, 4, 1, 4⟩ 1; c.sensePaused = true ∧ c.is (retiredFld 127) = false
        ∧ convLimit (some (c.cal.active.convOf 127)) ⟨255, 16384, 0, 16384, 8⟩ = none) := by decide +kernel

/-- MooringSequence: the trigger's two thresholds, the states in which it does nothing, the other clauses of the record. -/
theorem witness_MooringSequence_3 :
    ((decide (5711 < 5712 ∨ 5711 < 9000 ∧ (0 : Int) ≤ -2000) = true ∧ decide (5712 < 5712 ∨ 5712 < 9000 ∧ (-1999 : Int) ≤ -2000) = false
        ∧ decide (8999 < 5712 ∨ 8999 < 9000 ∧ (-2000 : Int) ≤ -2000) = true))
      ∧ (live.mode ≠ .mooring ∧ ({ live with mode := .off } : Chip).mode = .off ∧ live.takesWrite .keeper K.PWR_MOORING_TEST)
      ∧ (({ moored with blocksOn := [20] } : Chip).blockOn 13 = false ∧ 16000 < 16001)
      ∧ (moored.pwr.mooring.map (fun r => (r.write, r.save)) = some (true, none)
        ∧ (moored.set F.THM_GATES_SAVE_OK 0).is F.THM_GATES_SAVE_OK = false
        ∧ ((moored.pwrUp (fun p => { p with mooring := some ⟨{ kind := 2 }, false, none⟩ })).pwr.mooring.map (fun r => r.write)) = some false)
      ∧ (let c : Chip := { live with mode := .off, modes := { live.modes with vinValid := true, pwrEn := true } };
        c.mode = .off ∧ c.modes.vinValid = true ∧ c.modes.pwrEn = true) := by decide +kernel

/-- HoldUpCapacitor: no droop, charging not allowed, PWR off, and Off with and without the bleed. -/
theorem witness_HoldUpCapacitor_2 :
    ((cap 1).get F.PWR_CAP_STATUS_STATE = 1 ∧ (0 : Nat) = 0)
      ∧ (((cap 2).get F.PWR_CAP_STATUS_STATE = 2 && (cap 2).is F.PWR_CAP_CTRL_CHARGE_EN && (cap 2).is F.THM_GATES_CHARGE_OK
          && (cap 2).mode ≠ .mooring) = true
        ∧ ((cap 3).get F.PWR_CAP_STATUS_STATE = 2 && (cap 3).is F.PWR_CAP_CTRL_CHARGE_EN) = false)
      ∧ ({ live with blocksOn := [14] } : Chip).blockOn 20 = false
      ∧ (let c : Chip := { cap 2 with mode := .off, blocksOn := [], pwr := { (cap 2).pwr with bleed := true } };
        c.mode = .off ∧ c.pwr.bleed = true ∧ live.pwr.bleed = false ∧ (decide (5000 ≤ 4999) = false ∧ decide (5000 ≤ 5000) = true)) := by decide +kernel

/-- HeatAndThrottling: THM or PWR unpowered, a zone of no region, a write of 0. -/
theorem witness_HeatAndThrottling_2 :
    ({ live with blocksOn := [14] } : Chip).blockOn 19 = false ∧ ({ live with blocksOn := [14] } : Chip).blockOn 20 = false
      ∧ (bit 0 0 = false ∧ live.takesWrite .keeper K.THM_BROKEN_RETRY) ∧ (6 ≤ 6 ∧ (List.range 6).any (fun z => decide (zoneRegion z = none)) = true)
      ∧ ((-320 : Int) ≤ -320 ∧ (1000 : Int) ≤ 1000 ∧ ([5] : List Int).length ≠ 8) := by decide +kernel

/-- RailsRecordsAndTheClock: regions of the rails, PWR off, a rail of an unpowered region in Mooring, the clock's loss in Off. -/
theorem witness_RailsRecordsAndTheClock_2 :
    (∀ cell ∈ [0, 6, 7, 11], ((List.range 4).find? (fun r => (railsOfRegion r).contains cell)).isSome = true)
      ∧ (let c : Chip := { live with mode := .mooring, blocksOn := [20] };
        c.mode = .mooring ∧ ∃ r, r < 4 ∧ (blocksOfRegion r).any c.blockOn = false)
      ∧ ({ live with blocksOn := [14] } : Chip).blockOn 20 = false
      ∧ ((keeper.blockOn 20 && decide (3 ≤ keeper.get F.KPR_BOOT_STATUS_STEP) && !keeper.is F.PWR_RECORD_STATUS_READY
          && keeper.is F.THM_GATES_FLASH_OK && decide (keeper.mode ≠ .mooring)) = true ∧ live.is F.THM_GATES_FLASH_OK = false)
      ∧ ({ live with mode := .off } : Chip).mode = .off ∧ ({ live with tim := { live.tim with lost := true } } : Chip).tim.lost = true := by
  decide +kernel

/-- IdleStepPassesAReferenceCycle: a step of the clock waits. -/
theorem witness_IdleStepPassesAReferenceCycle_2 :
    (live.timUp (fun t => { t with step := some (1, -1) })).tim.step = some (1, -1) ∧ live.blockOn 17 = true
      ∧ ({ live with blocksOn := [14] } : Chip).blockOn 17 = false := by decide +kernel

/-! ### Ill-formed commands -/

/-- Addresses, words and lengths out of range are refused. -/
theorem test_ill_formed_accesses :
    (Instr.registerWrite .host0 (2 ^ 40) 0 {}).wellFormed = false ∧ (Instr.registerWrite .host0 0 (2 ^ 32) {}).wellFormed = false
      ∧ (Instr.registerWrite .host0 0 0 ⟨0, false⟩).wellFormed = false ∧ (Instr.registerWrite .host0 0 0 {}).wellFormed = true
      ∧ (Instr.budgetMaxClr .host0 (P.SEC + 4) 0).wellFormed = false ∧ (Instr.registerParityError P.SEC 2).wellFormed = false
      ∧ (Instr.rollupEventClear .host0 (some 4) 0).wellFormed = false ∧ (Instr.regionPowerUp 4 0).wellFormed = false
      ∧ (Instr.vinValid 65536).wellFormed = false ∧ (Instr.bootRomStart 64 true true true true).wellFormed = false
      ∧ (Instr.laneLockLoss true 16).wellFormed = false ∧ (Instr.laneLockLoss false 8).wellFormed = false := by decide +kernel

/-- Unit numbers out of range are refused. -/
theorem test_ill_formed_units :
    (Instr.cdcGroupDecode 16 0 0 true true).wellFormed = false ∧ (Instr.texelCacheMiss 32 0 0 0).wellFormed = false
      ∧ (Instr.tileFinish 0 1036800).wellFormed = false ∧ (Instr.tileParityRestart 0 0 4 0 0 0).wellFormed = false
      ∧ (Instr.agePromotion 8 0).wellFormed = false ∧ (Instr.driverStatusFrame 0 [] true).wellFormed = false
      ∧ (Instr.returnLost 1 2).wellFormed = false ∧ (Instr.channelPowerAverage 96 0).wellFormed = false
      ∧ (Instr.aplUpdateComplete 16).wellFormed = false ∧ (Instr.dramCommandSlot 8 0 0 true true).wellFormed = false
      ∧ (Instr.dramCommandSlot 0 2 0 true true).wellFormed = false ∧ (Instr.triggerFire 16 []).wellFormed = false := by decide +kernel

/-- Endpoints, messages, flits, frames and requests out of range are refused. -/
theorem test_ill_formed_messages :
    (Instr.eventPacket 2).wellFormed = false ∧ (Instr.modeSet 68 []).wellFormed = false
      ∧ (Instr.modeSet 0 (List.replicate 65 0)).wellFormed = false ∧ (Instr.scene 0 true (List.replicate 4097 0)).wellFormed = false
      ∧ (Instr.ts (List.replicate 71 0)).wellFormed = false ∧ (Instr.regRd { tag := 65536 }).wellFormed = false
      ∧ (Instr.join 8 (List.replicate 40 0)).wellFormed = false ∧ (Instr.join 0 (List.replicate 39 0)).wellFormed = false
      ∧ (Instr.timePortDown 2).wellFormed = false ∧ (Instr.profileStore { ep := 68 }).wellFormed = false := by decide +kernel

/-- Endpoints, locks, check units, samples and zones out of range are refused. -/
theorem test_ill_formed_endpoints :
    (Instr.epReset .host0 (some 68) 0).wellFormed = false ∧ (Instr.lockRead .host0 64).wellFormed = false
      ∧ (Instr.chkStart .host0 0 0).wellFormed = false ∧ (Instr.thermalSample [] []).wellFormed = false
      ∧ (Instr.thermalStepRepeat 6).wellFormed = false := by decide +kernel

/-! ### The spec's worked examples -/

/-- Chapter 6, one PX30 texel: the block's first bytes, the texel's channels and its byte image. -/
theorem test_px30_texel :
    let blk := 0x02 + 100 * 2 ^ 8 + 200 * 2 ^ 18 + 300 * 2 ^ 28 + 900 * 2 ^ 38 + 800 * 2 ^ 48 + 700 * 2 ^ 58 + 2 * 2 ^ 80
    leBytes 3 blk = [0x02, 0x64, 0x20] ∧ decodeTexel .px30 1 blk 10 = [638, 603, 569]
      ∧ texelImage .px30 [638, 603, 569] = [0x7E, 0x6E, 0x99, 0x23] := by decide +kernel

/-- Skerry's lens values (chapter 8, Table 5). -/
def skerry : LensVals :=
  { pitch := 699051, slant := 21845, phase := 281784, spreadX := 262144, spreadY := -16384, secX := [-192, -64, 64, 192], secY := [0, 0, 0, 0]
    gridEn := true, nx := 481, ny := 271, step := 5, base := 0, gmaxX := gmaxOf 22938 158500, gmaxY := gmaxOf 6554 158500 }

/-- Chapter 8, Tables 6 and 7: GMAX and the direction in sectors 0 and 2. -/
theorem test_lens_direction :
    gmaxOf 22938 158500 = 144719 ∧ gmaxOf 6554 158500 = 41350
      ∧ skerry.direction (fun _ => ⟨0, 0, 896, 0⟩) false 23041 4320 2 = ⟨1966208, 1106048, 73728, -4096, 49152, false, false⟩
      ∧ (skerry.direction (fun _ => ⟨0, 0, 896, 0⟩) false 23041 4320 0).gx = 69632 := by decide +kernel

/-- Chapter 7, Table 6: displacement and texel point. -/
theorem test_ray_meets_layer :
    displace (-6553600) 73728 = (-28800, false) ∧ displace (-6415840) (-4096) = (1566, false)
      ∧ texelCoord 1937408 (-71680) 8192 = 1004544 ∧ texelCoord 1107614 (-20992) 8192 = 564303 := by decide +kernel

/-- Chapter 12, Table 5: gain index, response index and dither threshold. -/
theorem test_conditioning : toneIndex 65774 = (176, 14) ∧ isqrt (64 * 39455) = 1589 ∧ ditherThreshold 2 7680 4320 1 / 4 ^ 2 = 1 := by
  decide +kernel

/-- Chapter 13, Table 8: the header of line 4 320 on lane 24. -/
theorem test_line_header :
    (linePacket 2 0 0x4A 0 0 4320 24 1 0 (List.replicate 1200 0) false).take 14
      = [0x31, 0x12, 0x4A, 0xE0, 0x10, 0x18, 0xB0, 0x04, 0x01, 0x00, 0, 0, 0, 0] := by decide +kernel

/-- Chapter 10: the device address of SCN.PLANE_SRC[1]. -/
theorem test_plane_address : P.SCN + 0x14C = 0x0090014C := by decide

end Sys2Proof.Tests
end

namespace Sys2Proof.Machine

/-! ### Every command runs to its end (chapter 0, R1) -/

/-- A run leaves no store outside memory. -/
@[simp] theorem State.after_out (s : State) (f : Memory → Chip → Chip) : (s.after f).chip.out = [] := rfl

theorem exec_answers_next (i : Instr) (s : State) :
    ∃ t, exec i s = .next t ∧ t.pending = s.pending ∧ t.chip.out = [] := by
  obtain ⟨f, hrun⟩ := exec_run i
  exact ⟨s.after f, hrun s, State.after_pending s f, State.after_out s f⟩

theorem step_answers_next (s : State) : ∃ t, step s = .next t ∧ t.pending = s.pending.tail := by
  obtain ⟨f, u, hrun, -, -, hpending⟩ := step_run s
  exact ⟨u.after f, hrun, hpending⟩

/-- Settles O50: every command is a run of the module (`exec_run`), and so is a step on an empty queue (`step_run`). -/
theorem everyCommandAnswersANextState : Obligations.EveryCommandAnswersANextState :=
  ⟨exec_answers_next, step_answers_next⟩

/-- Settles O45: on a queue with a front command, the step is that command's meaning by definition. -/
theorem stepRunsTheFrontCommand : Obligations.StepRunsTheFrontCommand :=
  fun _ _ _ => rfl

end Sys2Proof.Machine

namespace Sys2Proof.Machine

/-! ### What a command leaves, read off its run -/

/-- A command that runs `f` completes, and whatever holds of the module and memory after `f` holds of its next state. -/
theorem completes_of_run {i : Instr} {s : State} {f : Memory → Chip → Chip} {p : State → Prop} {d : Chip}
    (hrun : exec i s = s.run f) (hd : f s.mem s.chip.quiet = d) (hp : p (s.stored d)) : completes i s p :=
  ⟨s.stored d, hrun.trans (s.run_stored f d hd), hp⟩

@[simp] theorem State.stored_w (s : State) (d : Chip) (k : Nat) : (s.stored d).chip.w k = d.w k := rfl
@[simp] theorem State.stored_hlk (s : State) (d : Chip) : (s.stored d).chip.hlk = d.hlk := rfl
@[simp] theorem State.stored_mem (s : State) (d : Chip) : (s.stored d).mem = s.mem.applyAll d.out := rfl

theorem State.memKept_stored (s : State) (d : Chip) (h : d.out = []) : memKept s (s.stored d) := by
  intro a
  simp [h]

/-! ### Bytes stored from an address on (R52) -/

/-- What no single store moves, storing a list of bytes does not move. -/
theorem Chip.stores_keeps {γ : Type} (g : Chip → γ) (h : ∀ c a b, g (Chip.store c a b) = g c) (c : Chip) (a : Nat)
    (l : List Byte) : g (c.stores a l) = g c := by
  induction l generalizing c a with
  | nil => rfl
  | cons b t ih => exact (ih _ _).trans (h c a b)

@[simp] theorem Chip.stores_hlk (c : Chip) (a : Nat) (l : List Byte) : (c.stores a l).hlk = c.hlk :=
  stores_keeps Chip.hlk (fun _ _ _ => rfl) c a l
@[simp] theorem Chip.stores_dram (c : Chip) (a : Nat) (l : List Byte) : (c.stores a l).dram = c.dram :=
  stores_keeps Chip.dram (fun _ _ _ => rfl) c a l
@[simp] theorem Chip.stores_ray (c : Chip) (a : Nat) (l : List Byte) : (c.stores a l).ray = c.ray :=
  stores_keeps Chip.ray (fun _ _ _ => rfl) c a l
@[simp] theorem Chip.stores_w (c : Chip) (a : Nat) (l : List Byte) (k : Nat) : (c.stores a l).w k = c.w k :=
  stores_keeps (fun c => c.w k) (fun _ _ _ => rfl) c a l
@[simp] theorem Chip.stores_lw (c : Chip) (a : Nat) (l : List Byte) (k : Nat) : (c.stores a l).lw k = c.lw k :=
  stores_keeps (fun c => c.lw k) (fun _ _ _ => rfl) c a l
@[simp] theorem Chip.stores_aw (c : Chip) (a : Nat) (l : List Byte) (k : Nat) : (c.stores a l).aw k = c.aw k :=
  stores_keeps (fun c => c.aw k) (fun _ _ _ => rfl) c a l

/-- A byte outside the range stored reads as before. -/
theorem Chip.read_stores_outside (m : Memory) (c : Chip) (a : Nat) (l : List Byte) (k : Nat)
    (h : k < a ∨ a + l.length ≤ k) : (m.applyAll (c.stores a l).out).read k = (m.applyAll c.out).read k := by
  induction l generalizing c a with
  | nil => rfl
  | cons b t ih =>
    have hk : k ≠ a := by simp only [List.length_cons] at h; omega
    have htail : k < a + 1 ∨ a + 1 + t.length ≤ k := by simp only [List.length_cons] at h; omega
    calc (m.applyAll ((c.store a b).stores (a + 1) t).out).read k
        = (m.applyAll (.byte a b :: c.out)).read k := ih (c.store a b) (a + 1) htail
      _ = (m.applyAll c.out).read k := by rw [Memory.applyAll_cons, Memory.read_byte_other _ _ _ _ hk]

/-- Each byte stored is what its address reads as. -/
theorem Chip.read_stores_inside (m : Memory) (c : Chip) (a : Nat) (l : List Byte) (i : Nat) (h : i < l.length) :
    (m.applyAll (c.stores a l).out).read (a + i) = l[i] := by
  induction l generalizing c a i with
  | nil => simp at h
  | cons b t ih =>
    cases i with
    | zero =>
      have hfirst := Chip.read_stores_outside m (c.store a b) (a + 1) t a (.inl (by omega))
      calc (m.applyAll ((c.store a b).stores (a + 1) t).out).read a
          = (m.applyAll (.byte a b :: c.out)).read a := hfirst
        _ = b := by rw [Memory.applyAll_cons, Memory.read_byte_same]
    | succ j =>
      have hj : j < t.length := by simpa using h
      have := ih (c.store a b) (a + 1) j hj
      rwa [show a + 1 + j = a + (j + 1) by omega] at this

/-- Memory after a command whose only stores are these bytes: they stand at their addresses, and no other byte moved. -/
theorem State.memKeptBut_stores (s : State) (c d : Chip) (a : Nat) (l : List Byte) (hc : c.out = [])
    (hd : d.out = (c.stores a l).out) : memKeptBut a l.length s (s.stored d)
      ∧ ∀ i (h : i < l.length), (s.stored d).mem.read (a + i) = l[i] := by
  refine ⟨fun k hk => ?_, fun i hi => ?_⟩
  · rw [State.stored_mem, hd, Chip.read_stores_outside _ _ _ _ _ hk, hc, Memory.applyAll_nil]
  · rw [State.stored_mem, hd, Chip.read_stores_inside _ _ _ _ _ hi]

/-! ### A word written over the bus (R22, R24, R53, R55, R59) -/

/-- Mapped memory lies below control space. -/
theorem Chip.target_mem_below (c : Chip) (addr : Nat) (h : c.target addr = .mem) : addr < controlBase := by
  by_contra hge
  have hhigh : ¬ addr / 4 * 4 < sramBase := by simp only [controlBase, sramBase] at *; omega
  have hout : ¬ addr / 4 * 4 + 4 ≤ sramEnd := by simp only [controlBase, sramEnd] at *; omega
  have hmap : c.memMapped (addr / 4 * 4) 4 = false := by simp [Chip.memMapped, hhigh, rangeIn, hout]
  unfold Chip.target at h
  rw [hmap] at h
  split at h
  · split at h <;> simp at h
  · simp at h

theorem Chip.busWrite_mem (c : Chip) (m : Memory) (mst : Master) (addr data : Nat) (h : c.target addr = .mem)
    (ha : addr % 4 = 0) : c.busWrite m mst addr data 4 = (c.storeLE addr 4 (data % 2 ^ 32)).respond .ok := by
  simp [Chip.busWrite, h, ha]

theorem Chip.busWrite_unaligned (c : Chip) (m : Memory) (mst : Master) (addr data n : Nat) (h : c.target addr ≠ .none)
    (ha : addr % 4 ≠ 0 ∨ n ≠ 4) : c.busWrite m mst addr data n = c.respond .unaligned := by
  have hbad : (decide (addr % 4 ≠ 0) || decide (n ≠ 4)) = true := by simpa using ha
  unfold Chip.busWrite
  cases ht : c.target addr with
  | none => exact absurd ht h
  | reg key => simp only [hbad, if_true]
  | mem => simp only [hbad, if_true]

theorem Chip.busWrite_unmapped (c : Chip) (m : Memory) (mst : Master) (addr data n : Nat) (h : c.target addr = .none)
    (hi : c.imageTarget mst addr = none) : c.busWrite m mst addr data n = (c.unmapped mst addr).respond .unmapped := by
  simp [Chip.busWrite, h, hi]

/-- A word that a register takes does what its meaning says, and is answered OK. -/
theorem Chip.busWrite_taken (c d : Chip) (m : Memory) (mst : Master) (key data : Nat) (h : c.takesWrite mst key)
    (hr : c.writeMeaning m mst key (data % 2 ^ 32) = (.ok, d)) : c.busWrite m mst (regAddr key) data 4 = d.taken key := by
  obtain ⟨hkey, halign, hoff, hpage, hlock, hmaster, hmirror, hinject, -, hrom⟩ := h
  unfold Chip.busWrite
  simp only [c.target_reg key hkey hpage, regAddr_aligned key halign]
  unfold Chip.writeReg
  simp only [show ¬ 0x800 ≤ offOf key by omega, hlock, hmaster, hmirror, hrom, hr]
  simp [hinject, Chip.afterWrite, Chip.respond, Chip.taken]

/-- A block register without behaviour of its own is written as its access codes have it. -/
theorem Chip.writeMeaning_plain (c : Chip) (m : Memory) (mst : Master) (key data : Nat) (ho : 0x100 ≤ offOf key)
    (he : c.engineWrite m key data = none) (hk : c.keeperRegWrite mst key data = none) :
    c.writeMeaning m mst key data = (.ok, c.plainWrite key data) := by
  simp [Chip.writeMeaning, show ¬ offOf key < 0x100 by omega, he, hk]

/-- The word that a register holds after a write of `data`, by its access codes (R59). -/
def Chip.plainWord (c : Chip) (d : RegDef) (key data : Nat) : Nat :=
  ((((c.w key).toNat &&& (0xFFFFFFFF - (d.rw ||| d.stg))) &&& (0xFFFFFFFF - (d.w1c &&& (data &&& c.presentBits key))))
    ||| (d.w1s &&& (data &&& c.presentBits key))) ||| ((data &&& c.presentBits key) &&& (d.rw ||| d.stg))

theorem Chip.plainWrite_unstaged (c : Chip) (d : RegDef) (key data : Nat) (hd : findReg key = some d) (hs : d.stg = 0) :
    c.plainWrite key data = c.setw key (BitVec.ofNat 32 (c.plainWord d key data)) := by
  simp [Chip.plainWrite, hd, hs, Chip.plainWord]

/-- A staged register joins the open plan. -/
theorem Chip.plainWrite_staged (c : Chip) (d : RegDef) (key data : Nat) (hd : findReg key = some d) (hs : d.stg ≠ 0) :
    c.plainWrite key data = { c.setw key (BitVec.ofNat 32 (c.plainWord d key data)) with
      regs := { (c.setw key (BitVec.ofNat 32 (c.plainWord d key data))).regs with dirty := putLast c.regs.dirty key } } := by
  simp [Chip.plainWrite, hd, hs, Chip.plainWord]

/-! Writes of one cycle to one register (R24). -/

theorem Chip.serialised_refused (c was : Chip) (mst : Master) (addr : Nat) (same : Bool) (h : c.resp.status ≠ .ok) :
    c.serialised was mst addr same = c := by
  simp [Chip.serialised, h]

theorem Chip.serialised_memory (c was : Chip) (mst : Master) (addr : Nat) (same : Bool) (h : addr < controlBase) :
    c.serialised was mst addr same = c := by
  simp [Chip.serialised, show ¬ controlBase ≤ addr by omega]

/-- A write of `key` lands in the cycle of a write of the same register by a master of higher rank. -/
def Chip.outranked (was : Chip) (mst : Master) (key : Nat) (same : Bool) : Bool :=
  same && was.regs.last.any (fun l => decide (l.1 = key ∧ masterBit l.2 < masterBit mst))

@[simp] theorem Chip.quiet_outranked (c : Chip) (mst : Master) (key : Nat) (same : Bool) :
    c.quiet.outranked mst key same = c.outranked mst key same := rfl

/-- A taken write of a register: it stands as it is where the register is not staged; else it is noted as the last one,
or gives way to a master of higher rank. -/
theorem Chip.serialised_reg (c was : Chip) (mst : Master) (key : Nat) (same : Bool) (d : RegDef) (hr : c.resp.status = .ok)
    (hd : findReg key = some d) : c.serialised was mst (regAddr key) same
      = if d.stg = 0 then c
        else if was.outranked mst key same then
          c.setw key (BitVec.ofNat 32 (((c.w key).toNat &&& (0xFFFFFFFF - d.stg)) ||| ((was.w key).toNat &&& d.stg)))
        else { c with regs := { c.regs with last := some (key, mst) } } := by
  have hkey : regAddr key - controlBase = key := by simp [regAddr]
  have hbase : controlBase ≤ regAddr key := by simp [regAddr]
  unfold Chip.serialised Chip.outranked
  cases hl : was.regs.last <;> simp [hr, hbase, hkey, hd]

/-- Of the bits of a mask and the others, joined again in a word, the mask reads its own. -/
theorem and_mask_of_join (a b g : Nat) (hb : b < 2 ^ 32) :
    ((a &&& (0xFFFFFFFF - g)) ||| (b &&& g)) % 2 ^ 32 &&& g = b &&& g := by
  apply Nat.eq_of_testBit_eq
  intro i
  simp only [Nat.testBit_and, Nat.testBit_or, Nat.testBit_mod_two_pow]
  cases hg : g.testBit i with
  | false => simp
  | true =>
    have hother : (0xFFFFFFFF - g).testBit i = false := by
      rcases Nat.lt_or_ge g (2 ^ 32) with hlt | hge
      · rw [show 0xFFFFFFFF - g = 2 ^ 32 - (g + 1) by omega, Nat.testBit_two_pow_sub_succ hlt, hg]
        simp
      · rw [show 0xFFFFFFFF - g = 0 by omega, Nat.zero_testBit]
    have hhigh : ¬ i < 32 → b.testBit i = false := fun h =>
      Nat.testBit_lt_two_pow (lt_of_lt_of_le hb (Nat.pow_le_pow_right (by omega) (by omega)))
    by_cases hi : i < 32 <;> simp [hother, hi, hhigh]

/-! ### The record of a CONT event (R46 to R48) -/

@[simp] theorem Chip.hostRise_w (c : Chip) (h k : Nat) : (c.hostRise h).w k = c.w k := by
  unfold Chip.hostRise
  split <;> rfl

@[simp] theorem Chip.deliverRise_w (c : Chip) (b k : Nat) : (c.deliverRise b).w k = c.w k := by
  simp only [Chip.deliverRise]
  split <;> split <;> simp

theorem Chip.raise_w_other (c : Chip) (page mask k : Nat) (h : k ≠ page + 0x10) : (c.raise page mask).w k = c.w k := by
  simp only [Chip.raise, Chip.intChange]
  split <;> simp [Chip.w_setw_other _ _ _ _ h]

theorem Chip.irq_w_other (c : Chip) (page i k : Nat) (h : k ≠ page + 0x10) : (c.irq page i).w k = c.w k :=
  c.raise_w_other page (2 ^ i) k h

theorem Chip.errCount_w_other (c : Chip) (page : Nat) (cls : ErrClass) (k : Nat) (h : k ≠ page + 0x2C) :
    (c.errCount page cls).w k = c.w k := by
  unfold Chip.errCount Chip.incSat
  split <;> exact Chip.w_set_other _ _ _ _ h

@[simp] theorem Chip.logAppend_w (c : Chip) (e : LogEntry) (k : Nat) : (c.logAppend e).w k = c.w k := by
  unfold Chip.logAppend Chip.w
  split
  · simp only
  · split <;> simp only

/-- While the CONT limit is 0, a CONT event ends as it began. -/
theorem Chip.climbed_cont (c : Chip) (page : Nat) (code : Code) (rp : Bool) (hlim : c.act ⟨page + 0x40, 8, 8, 4⟩ = 0) :
    c.climbed page .cont code rp = (.cont, code, { c.pageCount page with cont := (c.pageCount page).cont + 1 }) := by
  have hzero : (c.aw (page + 0x40)).toNat / 256 % 256 = 0 := hlim
  simp [Chip.climbed, climb, hzero]

/-- What a CONT event captures in an empty record. -/
theorem Chip.capture_cont_empty (c : Chip) (page : Nat) (code : Code) (cell kind addr : Nat)
    (hempty : bit (c.w (page + 0x20)).toNat 4 = false) :
    (c.capture page .cont code cell kind addr).w (page + 0x20)
        = BitVec.ofNat 32 (21 + code.value * 256 + cell % 4096 * 65536)
      ∧ (c.capture page .cont code cell kind addr).w (page + 0x24) = BitVec.ofNat 32 addr
      ∧ (c.capture page .cont code cell kind addr).w (page + 0x28)
        = BitVec.ofNat 32 ((if kind = 1 then addr / 2 ^ 32 % 256 else 0) + kind * 256 + c.tick.field % 65536 * 65536) := by
  have houter : ∀ (d : Chip) (l : Ladder) (k : Nat), ({ d with ladder := l } : Chip).w k = d.w k := fun _ _ _ => rfl
  unfold Chip.capture
  simp only [hempty, Bool.not_false, Bool.true_or, if_true, Bool.and_false, Bool.false_and, Bool.false_eq_true, if_false,
    classCode, reduceCtorEq, Chip.logAppend_w, houter]
  refine ⟨?_, ?_, ?_⟩
  · rw [Chip.w_setw_other _ _ _ _ (by omega), Chip.w_setw_other _ _ _ _ (by omega), Chip.w_setw_same]
  · rw [Chip.w_setw_other _ _ _ _ (by omega), Chip.w_setw_same]
  · rw [Chip.w_setw_same]

/-- The record words of a page after a CONT event that found the record empty and the CONT limit 0. -/
theorem Chip.event_cont_empty (c : Chip) (page : Nat) (code : Code) (cell kind addr : Nat) (rp : Bool)
    (hempty : bit (c.w (page + 0x20)).toNat 4 = false) (hlim : c.act ⟨page + 0x40, 8, 8, 4⟩ = 0) :
    (c.event page .cont code cell kind addr rp).w (page + 0x20)
        = BitVec.ofNat 32 (21 + code.value * 256 + cell % 4096 * 65536)
      ∧ (c.event page .cont code cell kind addr rp).w (page + 0x24) = BitVec.ofNat 32 addr
      ∧ (c.event page .cont code cell kind addr rp).w (page + 0x28)
        = BitVec.ofNat 32 ((if kind = 1 then addr / 2 ^ 32 % 256 else 0) + kind * 256 + c.tick.field % 65536 * 65536) := by
  have hkeep : ∀ k, k ≠ page + 0x10 → k ≠ page + 0x2C → ∀ l : Ladder,
      (({ c with ladder := l } : Chip).record page .cont code cell kind addr).w k
        = (({ c with ladder := l } : Chip).capture page .cont code cell kind addr).w k := fun k hraw hcount l =>
    (Chip.irq_w_other _ page _ k hraw).trans (Chip.errCount_w_other _ page _ k hcount)
  unfold Chip.event
  simp only [c.climbed_cont page code rp hlim]
  rw [hkeep _ (by omega) (by omega), hkeep _ (by omega) (by omega), hkeep _ (by omega) (by omega)]
  exact Chip.capture_cont_empty _ page code cell kind addr hempty

/-! ### Words over the bus, register by register and byte by byte -/

theorem Chip.busEnd_up (c : Chip) (h : c.hlk.downNext = false) : c.busEnd = c := by
  simp [Chip.busEnd, h]

theorem setw_keeps_others (c d : Chip) (key : Nat) (v : Word) (hw : ∀ k, d.w k = (c.setw key v).w k)
    (hl : ∀ k, d.lw k = c.lw k) (ha : ∀ k, d.aw k = c.aw k) : regsKeptBut [key] c d := fun k hk =>
  ⟨(hw k).trans (Chip.w_setw_other _ _ _ _ (by simpa using hk)), hl k, ha k⟩

section RegisterWrites

variable {mst : Master} {key data : Nat} {s : State} {d : RegDef} {same : Bool}
  (hdata : data < 2 ^ 32) (hd : findReg key = some d) (hw : s.chip.takesWrite mst key) (ho : 0x100 ≤ offOf key)
  (he : s.chip.quiet.engineWrite s.mem key data = none) (hk : s.chip.quiet.keeperRegWrite mst key data = none)

include hdata hw ho he hk in
theorem busWrite_plain :
    s.chip.quiet.busWrite s.mem mst (regAddr key) data 4 = (s.chip.quiet.plainWrite key data).taken key := by
  apply Chip.busWrite_taken _ _ _ _ _ _ (s.chip.takesWrite_quiet mst key hw)
  rw [Nat.mod_eq_of_lt hdata]
  exact s.chip.quiet.writeMeaning_plain _ _ _ _ ho he hk

include hdata hd hw ho he hk in
/-- A write of a register that is not staged changes that register's word and no other. -/
theorem exec_registerWrite_unstaged (hs : d.stg = 0) : exec (.registerWrite mst (regAddr key) data ⟨4, same⟩) s
    = .next (s.became ((s.chip.quiet.setw key (BitVec.ofNat 32 (s.chip.plainWord d key data))).taken key)) := by
  obtain ⟨-, -, -, -, -, -, -, -, hlink, -⟩ := id hw
  rw [exec_registerWrite]
  refine State.run_pure s _ _ ?_ rfl
  simp only [busWrite_plain hdata hw ho he hk]
  rw [Chip.serialised_reg _ _ _ _ _ d rfl hd, if_pos hs, Chip.plainWrite_unstaged _ d key data hd hs]
  exact Chip.busEnd_up _ hlink

include hdata hd hw ho he hk in
/-- A write of a staged register, first of its cycle: the staged bits take the data and join the open plan. -/
theorem registerWrite_staged_first (hs : d.stg ≠ 0) (hfirst : s.chip.outranked mst key same = false) :
    completes (.registerWrite mst (regAddr key) data ⟨4, same⟩) s (fun t =>
      t.chip.w key = BitVec.ofNat 32 (s.chip.plainWord d key data)
        ∧ t.chip.regs.dirty = putLast s.chip.regs.dirty key ∧ t.chip.regs.last = some (key, mst)
        ∧ regsKeptBut [key] s.chip t.chip ∧ t.chip.resp = ⟨.ok, 0⟩ ∧ memKept s t) := by
  obtain ⟨-, -, -, -, -, -, -, -, hlink, -⟩ := id hw
  refine completes_of_run (exec_registerWrite _ _ _ _ _)
    (d := { (s.chip.quiet.plainWrite key data).taken key with
      regs := { ((s.chip.quiet.plainWrite key data).taken key).regs with last := some (key, mst) } }) ?_ ?_
  · simp only [busWrite_plain hdata hw ho he hk]
    rw [Chip.serialised_reg _ _ _ _ _ d rfl hd, if_neg hs, Chip.quiet_outranked,
      if_neg (Bool.eq_false_iff.mp hfirst),
      Chip.plainWrite_staged _ d key data hd hs]
    exact Chip.busEnd_up _ hlink
  · rw [Chip.plainWrite_staged _ d key data hd hs]
    refine ⟨Chip.w_setw_same s.chip.quiet key _, rfl, rfl, ?_, rfl, s.memKept_stored _ rfl⟩
    exact setw_keeps_others _ _ _ _ (fun _ => rfl) (fun _ => rfl) (fun _ => rfl)

include hdata hd hw ho he hk in
/-- A write of a staged register in the cycle of one by a master of higher rank: the staged bits stay. -/
theorem registerWrite_staged_outranked (hs : d.stg ≠ 0) (hlater : s.chip.outranked mst key same = true) :
    completes (.registerWrite mst (regAddr key) data ⟨4, same⟩) s (fun t =>
      (t.chip.w key).toNat &&& d.stg = (s.chip.w key).toNat &&& d.stg
        ∧ t.chip.regs.last = s.chip.regs.last ∧ regsKeptBut [key] s.chip t.chip ∧ t.chip.resp = ⟨.ok, 0⟩ ∧ memKept s t) := by
  obtain ⟨-, -, -, -, -, -, -, -, hlink, -⟩ := id hw
  refine completes_of_run (exec_registerWrite _ _ _ _ _)
    (d := ((s.chip.quiet.plainWrite key data).taken key).setw key (BitVec.ofNat 32
      (((((s.chip.quiet.plainWrite key data).taken key).w key).toNat &&& (0xFFFFFFFF - d.stg))
        ||| ((s.chip.w key).toNat &&& d.stg)))) ?_ ?_
  · simp only [busWrite_plain hdata hw ho he hk]
    rw [Chip.serialised_reg _ _ _ _ _ d rfl hd, if_neg hs, Chip.quiet_outranked, if_pos hlater,
      Chip.plainWrite_staged _ d key data hd hs]
    exact Chip.busEnd_up _ hlink
  · rw [Chip.plainWrite_staged _ d key data hd hs]
    refine ⟨?_, rfl, ?_, rfl, s.memKept_stored _ rfl⟩
    · rw [State.stored_w, Chip.w_setw_same, BitVec.toNat_ofNat]
      exact and_mask_of_join _ _ _ (s.chip.w key).isLt
    · intro k hk
      have hne : k ≠ key := by simpa using hk
      refine ⟨?_, rfl, rfl⟩
      rw [State.stored_w, Chip.w_setw_other _ _ _ _ hne]
      exact s.chip.quiet.w_setw_other key k (BitVec.ofNat 32 (s.chip.plainWord d key data)) hne

end RegisterWrites

/-- A write by `mst` gives way exactly where the last one of the cycle is by a master of higher rank. -/
theorem Chip.outranked_eq_false (c : Chip) (mst : Master) (key : Nat) (same : Bool)
    (h : same = true → ∀ l, c.regs.last = some l → l.1 = key → masterBit mst ≤ masterBit l.2) :
    c.outranked mst key same = false := by
  unfold Chip.outranked
  cases same with
  | false => rfl
  | true =>
    cases hl : c.regs.last with
    | none => rfl
    | some l =>
      have := h rfl l hl
      simpa using this

theorem Chip.outranked_eq_true (c : Chip) (mst m : Master) (key : Nat) (same : Bool) (hsame : same = true)
    (hlast : c.regs.last = some (key, m)) (hlt : masterBit m < masterBit mst) : c.outranked mst key same = true := by
  simp [Chip.outranked, hsame, hlast, hlt]

/-- A word written to mapped memory stands at its four addresses, and nothing else moved. -/
theorem registerWrite_mem (mst : Master) (addr data : Nat) (same : Bool) (s : State) (hdata : data < 2 ^ 32)
    (hlink : s.chip.hlk.downNext = false) (ht : s.chip.target addr = .mem) (ha : addr % 4 = 0) :
    completes (.registerWrite mst addr data ⟨4, same⟩) s (fun t =>
      (∀ i, i < 4 → t.mem.read (addr + i) = BitVec.ofNat 8 (data / 256 ^ i)) ∧ memKeptBut addr 4 s t
        ∧ t.chip.resp = ⟨.ok, 0⟩ ∧ ∀ k, t.chip.w k = s.chip.w k ∧ t.chip.lw k = s.chip.lw k ∧ t.chip.aw k = s.chip.aw k) := by
  refine completes_of_run (exec_registerWrite _ _ _ _ _) (d := (s.chip.quiet.storeLE addr 4 data).respond .ok) ?_ ?_
  · have hbus := Chip.busWrite_mem s.chip.quiet s.mem mst addr data ht ha
    rw [Nat.mod_eq_of_lt hdata] at hbus
    simp only [hbus]
    rw [Chip.serialised_memory _ _ _ _ _ (s.chip.target_mem_below addr ht)]
    apply Chip.busEnd_up
    exact (congrArg Hlk.downNext (Chip.stores_hlk _ _ _)).trans hlink
  · obtain ⟨hkept, hread⟩ := s.memKeptBut_stores s.chip.quiet ((s.chip.quiet.storeLE addr 4 data).respond .ok) addr
      (leBytes 4 data) rfl rfl
    have hlen : (leBytes 4 data).length = 4 := by simp [leBytes]
    rw [hlen] at hkept
    refine ⟨fun i hi => ?_, hkept, rfl, fun k => ⟨?_, ?_, ?_⟩⟩
    · rw [hread i (by omega)]
      simp [leBytes]
    · exact Chip.stores_w _ _ _ k
    · exact Chip.stores_lw _ _ _ k
    · exact Chip.stores_aw _ _ _ k

theorem exec_registerWrite_unaligned (mst : Master) (addr data n : Nat) (same : Bool) (s : State)
    (hlink : s.chip.hlk.downNext = false) (ht : s.chip.target addr ≠ .none) (ha : addr % 4 ≠ 0 ∨ n ≠ 4) :
    exec (.registerWrite mst addr data ⟨n, same⟩) s = .next (s.became { s.chip.quiet with resp := ⟨.unaligned, 0⟩ }) := by
  rw [exec_registerWrite]
  refine State.run_pure s _ _ ?_ rfl
  simp only [Chip.busWrite_unaligned s.chip.quiet s.mem mst addr data n ht ha]
  rw [Chip.serialised_refused _ _ _ _ _ (by simp [Chip.respond])]
  exact Chip.busEnd_up _ hlink

theorem entryPage_aligned (mst : Master) : entryPage mst % 4096 = 0 := by
  cases mst <;> rfl

/-- All that an unmapped access moves is what an event in its entry page moves. -/
theorem ladderMove.unmapped (c : Chip) (mst : Master) (addr : Nat) : ladderMove True c (c.unmapped mst addr) := by
  unfold Chip.unmapped Chip.when
  split
  · obtain ⟨imm, ladder, log, h0, h1, ev, hd, hkept⟩ :=
      ladderMove.event c (entryPage mst) .cont .unmapped 0xFFF 1 addr (Config.replanExists (entryPage mst))
    exact ⟨imm, ladder, log, h0, h1, ev, hd, fun _ => hkept (entryPage_aligned mst)⟩
  · exact .refl _ _

/-- A write that hits nothing is answered UNMAPPED and recorded in the page of the block it entered by. -/
theorem registerWrite_unmapped (mst : Master) (addr data n : Nat) (same : Bool) (s : State)
    (hlink : s.chip.hlk.downNext = false) (ht : s.chip.target addr = .none) (hi : s.chip.imageTarget mst addr = none) :
    completes (.registerWrite mst addr data ⟨n, same⟩) s (fun t =>
      t.chip.resp = ⟨.unmapped, 0⟩ ∧ memKept s t ∧ (∀ k, 0x100 ≤ offOf k → blockOf k ≠ 14 → t.chip.w k = s.chip.w k)
        ∧ (s.chip.blockOn (blockOf (entryPage mst)) = true → bit (s.chip.w (entryPage mst + 0x20)).toNat 4 = false →
          s.chip.act ⟨entryPage mst + 0x40, 8, 8, 4⟩ = 0 →
          t.chip.w (entryPage mst + 0x20) = 0x0FFF0A15 ∧ t.chip.w (entryPage mst + 0x24) = BitVec.ofNat 32 addr
            ∧ (t.chip.w (entryPage mst + 0x28)).toNat % 2048 = 256 + addr / 2 ^ 32 % 256)) := by
  have hmove := ladderMove.unmapped s.chip.quiet mst addr
  refine completes_of_run (exec_registerWrite _ _ _ _ _) (d := (s.chip.quiet.unmapped mst addr).respond .unmapped) ?_ ?_
  · simp only [Chip.busWrite_unmapped s.chip.quiet s.mem mst addr data n ht hi]
    rw [Chip.serialised_refused _ _ _ _ _ (by simp [Chip.respond])]
    apply Chip.busEnd_up
    exact (congrArg Hlk.downNext hmove.hlk).trans hlink
  · refine ⟨rfl, s.memKept_stored _ hmove.out, fun k ho hb => hmove.w trivial k ⟨ho, hb⟩, fun hon hempty hlim => ?_⟩
    obtain ⟨hinfo, hlo, hhi⟩ := Chip.event_cont_empty s.chip.quiet (entryPage mst) .unmapped 0xFFF 1 addr
      (Config.replanExists (entryPage mst)) hempty hlim
    have hev : s.chip.quiet.unmapped mst addr = s.chip.quiet.event (entryPage mst) .cont .unmapped 0xFFF 1 addr := by
      simp only [Chip.unmapped, Chip.when, Chip.quiet_blockOn, hon, if_true]
    have hw : ∀ k, ((s.chip.quiet.unmapped mst addr).respond .unmapped).w k
        = (s.chip.quiet.event (entryPage mst) .cont .unmapped 0xFFF 1 addr).w k := fun k => congrArg (fun c => c.w k) hev
    simp only [State.stored_w, hw, hinfo, hlo, hhi]
    refine ⟨by decide, trivial, ?_⟩
    simp only [if_true, BitVec.toNat_ofNat]
    omega

/-- Settles O4: a taken write by the access codes of its register (`Chip.plainWord`), a word to memory as four bytes, and
the two refusals. -/
theorem wordWritesReachRegistersAndMemory : Obligations.WordWritesReachRegistersAndMemory := by
  unfold Obligations.WordWritesReachRegistersAndMemory
  intro mst addr data key same s hdata hlink
  refine ⟨?_, registerWrite_mem mst addr data same s hdata hlink,
    fun n => exec_registerWrite_unaligned mst addr data n same s hlink,
    fun n => registerWrite_unmapped mst addr data n same s hlink⟩
  intro d hd v hv hw ho he hk
  have hword : v = s.chip.plainWord d key data := hv
  subst hword
  exact ⟨exec_registerWrite_unstaged hdata hd hw ho he hk,
    fun hs hfirst => registerWrite_staged_first hdata hd hw ho he hk hs (s.chip.outranked_eq_false mst key same hfirst),
    fun m hs hsame hlast hlt => registerWrite_staged_outranked hdata hd hw ho he hk hs
      (s.chip.outranked_eq_true mst m key same hsame hlast hlt)⟩

end Sys2Proof.Machine

namespace Sys2Proof.Machine

/-! ### What sending over the host link moves (R394 to R396, R405) -/

/-- `d` is `c` after packets were sent over the host link: beside the link's own state only registers of HLK moved, and
the DMA jobs and the reads that wait stay. -/
def sendMove (c d : Chip) : Prop :=
  ∃ imm hlk, d = { c with regs := { c.regs with imm := imm }, hlk := hlk }
    ∧ hlk.dma = c.hlk.dma ∧ hlk.readQueue = c.hlk.readQueue
    ∧ ∀ k, blockOf k ≠ 1 → storeGet (resetWord c.variant) imm k = storeGet (resetWord c.variant) c.regs.imm k

theorem sendMove.refl (c : Chip) : sendMove c c := ⟨_, _, rfl, rfl, rfl, fun _ _ => rfl⟩

theorem sendMove.trans {a b c : Chip} (h : sendMove a b) (h' : sendMove b c) : sendMove a c := by
  obtain ⟨i, l, rfl, hd, hq, hk⟩ := h
  obtain ⟨i', l', rfl, hd', hq', hk'⟩ := h'
  exact ⟨i', l', rfl, hd'.trans hd, hq'.trans hq, fun k hb => (hk' k hb).trans (hk k hb)⟩

theorem sendMove.set (c : Chip) (f : Fld) (v : Nat) (h : blockOf f.key = 1) : sendMove c (c.set f v) :=
  ⟨_, _, rfl, rfl, rfl, fun _ hb => storeGet_storePut_other _ _ _ _ _ (fun e => hb (e ▸ h))⟩

theorem sendMove.hlkUp (c : Chip) (f : Hlk → Hlk) (hd : (f c.hlk).dma = c.hlk.dma)
    (hq : (f c.hlk).readQueue = c.hlk.readQueue) : sendMove c (c.hlkUp f) := ⟨_, _, rfl, hd, hq, fun _ _ => rfl⟩

theorem sendMove.wireFlits (c : Chip) (l : List (List Byte)) : sendMove c (c.wireFlits l) := .hlkUp _ _ rfl rfl

theorem sendMove.sendData (c : Chip) (f : TxFlit) : sendMove c (c.sendData f) := by
  unfold Chip.sendData
  exact ((sendMove.wireFlits c _).trans (.set _ F.HLK_INJECT_CRC 0 rfl)).trans (.hlkUp _ _ rfl rfl)

theorem sendMove.creditRegs (c : Chip) : sendMove c c.creditRegs :=
  ((sendMove.set c F.HLK_TX_CREDIT_VC0 _ rfl).trans (.set _ F.HLK_TX_CREDIT_VC1 _ rfl)).trans
    (.set _ F.HLK_TX_CREDIT_VC2 _ rfl)

theorem sendMove.sendFirst (c : Chip) (v : Nat) : sendMove c (c.sendFirst v) := by
  unfold Chip.sendFirst
  split
  · exact .refl c
  · exact ((((sendMove.hlkUp c _ rfl rfl).trans (.sendData _ _)).trans (.set _ F.HLK_SEQ_STATUS_TX_NEXT _ rfl)).trans
      (.set _ F.HLK_REPLAY_STATUS_UNACKED _ rfl)).trans (.creditRegs _)

theorem sendMove.pumpN (n : Nat) (c : Chip) : sendMove c (Chip.pumpN n c) := by
  induction n generalizing c with
  | zero => exact .refl c
  | succ n ih =>
    unfold Chip.pumpN
    split
    · exact .refl c
    · split
      · exact (sendMove.sendFirst c _).trans (ih _)
      · exact .refl c

theorem sendMove.lpTry (c : Chip) : sendMove c c.lpTry := by
  simp only [Chip.lpTry]
  split
  · exact .refl c
  · exact (sendMove.wireFlits c _).trans (.hlkUp _ _ rfl rfl)

theorem sendMove.pump (c : Chip) : sendMove c c.pump := (sendMove.pumpN _ c).trans (.lpTry _)

theorem sendMove.sendPacket (c : Chip) (p : Packet) : sendMove c (c.sendPacket p) :=
  (sendMove.hlkUp c _ rfl rfl).trans (.pump _)

theorem sendMove.reply (c : Chip) (p : Packet) (op status aux : Nat) (data : List Byte) :
    sendMove c (c.reply p op status aux data) := .sendPacket c _

theorem sendMove.dma {c d : Chip} (h : sendMove c d) : d.hlk.dma = c.hlk.dma := by
  obtain ⟨_, _, rfl, hd, -⟩ := h; exact hd
theorem sendMove.out {c d : Chip} (h : sendMove c d) : d.out = c.out := by
  obtain ⟨_, _, rfl, -⟩ := h; rfl
theorem sendMove.dram {c d : Chip} (h : sendMove c d) : d.dram = c.dram := by
  obtain ⟨_, _, rfl, -⟩ := h; rfl
theorem sendMove.mbx {c d : Chip} (h : sendMove c d) : d.mbx = c.mbx := by
  obtain ⟨_, _, rfl, -⟩ := h; rfl

/-! ### Folds and guarded changes -/

/-- What no step of a fold moves, the fold does not move. -/
theorem foldOver_keeps {α β γ : Type} (g : β → γ) (f : α → β → β) (h : ∀ a b, g (f a b) = g b) (l : List α) (b : β) :
    g (foldOver l f b) = g b := by
  unfold foldOver
  induction l generalizing b with
  | nil => rfl
  | cons a t ih => exact (ih _).trans (h a b)

theorem Chip.when_keeps {γ : Type} (g : Chip → γ) (c : Chip) (b : Bool) (f : Chip → Chip) (h : ∀ c, g (f c) = g c) :
    g (c.when b f) = g c := by
  unfold Chip.when
  split
  · exact h c
  · rfl

/-! ### Requests that are executed (R400, R403) -/

/-- A request that is taken runs as its opcode says, on the packet as it arrived. -/
theorem Chip.request_taken (c : Chip) (op : Nat) (p : Packet) (m : Memory) (h : c.takesRequest op p) :
    c.request op p m = c.packetRun m (arrived op p) := by
  obtain ⟨hup, hgoing, hrom, hvalid⟩ := h
  simp [Chip.request, Chip.packet, hup, hgoing, hrom, hvalid, arrived]

theorem Chip.packetRegRd_eq (c : Chip) (m : Memory) (p : Packet) : c.packetRegRd m p
    = (c.readWords m (hostMaster p.ctx) p.fault p.aux p.addr).2.2.reply p 0x81
      (c.readWords m (hostMaster p.ctx) p.fault p.aux p.addr).1.value 0
      (if (c.readWords m (hostMaster p.ctx) p.fault p.aux p.addr).1 = .ok
          ∨ (c.readWords m (hostMaster p.ctx) p.fault p.aux p.addr).1 = .parity
        then (c.readWords m (hostMaster p.ctx) p.fault p.aux p.addr).2.1 else []) := by
  simp [Chip.packetRegRd]

theorem exec_regRd_taken (p : Packet) (s : State) (h : s.chip.takesRequest 1 p) :
    exec (.regRd p) s = .next (s.stored (s.chip.quiet.packetRegRd s.mem (arrived 1 p))) := by
  rw [exec_regRd]
  exact s.run_stored _ _ (s.chip.quiet.request_taken 1 p s.mem h)

theorem exec_regWr_taken (p : Packet) (s : State) (h : s.chip.takesRequest 2 p) :
    exec (.regWr p) s = .next (s.stored (s.chip.quiet.packetRegWr s.mem (arrived 2 p))) := by
  rw [exec_regWr]
  exact s.run_stored _ _ (s.chip.quiet.request_taken 2 p s.mem h)

/-! ### DMA jobs (R398, R399) -/

@[simp] theorem Chip.outstand_hlk (c : Chip) : c.outstand.hlk = c.hlk := rfl
@[simp] theorem Chip.outstand_dram (c : Chip) : c.outstand.dram = c.dram := rfl
@[simp] theorem Chip.outstand_out (c : Chip) : c.outstand.out = c.out := rfl

/-- The job that a DMA request begins. -/
def Chip.dmaJob (m : Memory) (c : Chip) (p : Packet) (write : Bool) : DmaJob :=
  ⟨c.hlk.nextJob, p.ctx, p.tag, p.addr, if write then p.len else p.rdlen, write, p.ackreq,
    if sramBase ≤ p.addr ∧ write = false then c.loads m p.addr p.rdlen else [],
    if sramBase ≤ p.addr ∧ write = false then c.stuckLines p.addr p.rdlen else []⟩

@[simp] theorem Chip.askWrite_hlk (c : Chip) (port source job a : Nat) (data : List Byte) :
    (c.askWrite port source job a data).hlk = c.hlk := rfl
@[simp] theorem Chip.askWrite_out (c : Chip) (port source job a : Nat) (data : List Byte) :
    (c.askWrite port source job a data).out = c.out := rfl
@[simp] theorem Chip.askRead_hlk (c : Chip) (port source job a n : Nat) : (c.askRead port source job a n).hlk = c.hlk := rfl
@[simp] theorem Chip.askRead_out (c : Chip) (port source job a n : Nat) : (c.askRead port source job a n).out = c.out := rfl

@[simp] theorem Chip.quiet_stuckLines (c : Chip) (a n : Nat) : c.quiet.stuckLines a n = c.stuckLines a n := rfl

/-- A request that begins joins the jobs at their end, and no waiting read moves. -/
theorem Chip.dmaStart_hlk (c : Chip) (m : Memory) (p : Packet) (write : Bool) :
    (c.dmaStart m p write).hlk = { c.hlk with nextJob := c.hlk.nextJob + 1, dma := c.hlk.dma ++ [c.dmaJob m p write] } := by
  by_cases hs : sramBase ≤ p.addr <;> cases write <;> simp [Chip.dmaStart, Chip.dmaJob, hs]

/-- A read stores nothing. -/
theorem Chip.dmaStart_read_out (c : Chip) (m : Memory) (p : Packet) : (c.dmaStart m p false).out = c.out := by
  by_cases hs : sramBase ≤ p.addr <;> simp [Chip.dmaStart, hs]

/-- A write of SRAM stores its data at once, and asks nothing of LPDDR6. -/
theorem Chip.dmaStart_write_sram (c : Chip) (m : Memory) (p : Packet) (hs : sramBase ≤ p.addr) :
    (c.dmaStart m p true).out = (c.stores p.addr p.data).out ∧ (c.dmaStart m p true).dram = c.dram := by
  simp [Chip.dmaStart, hs, Chip.stores_out]

/-- A write of LPDDR6 stores nothing yet: its accesses join the queue. -/
theorem Chip.dmaStart_write_dram (c : Chip) (m : Memory) (p : Packet) (hs : p.addr < sramBase) :
    (c.dmaStart m p true).out = c.out
      ∧ (c.dmaStart m p true).dram.reqs.length = c.dram.reqs.length + (accesses p.addr p.data.length).length := by
  simp [Chip.dmaStart, show ¬ sramBase ≤ p.addr by omega, Chip.askWrite]

/-- DMA_WR to on-chip SRAM. -/
theorem dmaWr_sram (p : Packet) (s : State) (h : s.chip.takesRequest 3 p)
    (hmap : s.chip.memMapped p.addr p.data.length = true) (hs : sramBase ≤ p.addr) : completes (.dmaWr p) s (fun t =>
      memKeptBut p.addr p.data.length s t ∧ (∀ i (h : i < p.data.length), t.mem.read (p.addr + i) = p.data[i])
        ∧ t.chip.hlk.dma = s.chip.hlk.dma
          ++ [⟨s.chip.hlk.nextJob, p.ctx % 2, p.tag, p.addr, p.data.length, true, p.ackreq, [], []⟩]
        ∧ t.chip.dram = s.chip.dram) := by
  refine completes_of_run (exec_dmaWr p s) (d := s.chip.quiet.dmaStart s.mem (arrived 3 p) true)
    ((s.chip.quiet.request_taken 3 p s.mem h).trans (if_pos hmap)) ?_
  obtain ⟨hout, hdram⟩ := s.chip.quiet.dmaStart_write_sram s.mem (arrived 3 p) hs
  obtain ⟨hkept, hread⟩ := s.memKeptBut_stores s.chip.quiet _ p.addr p.data rfl hout
  refine ⟨hkept, hread, ?_, hdram⟩
  rw [State.stored_hlk, Chip.dmaStart_hlk]
  simp [Chip.dmaJob, arrived]

/-- DMA_WR to LPDDR6. -/
theorem dmaWr_dram (p : Packet) (s : State) (h : s.chip.takesRequest 3 p)
    (hmap : s.chip.memMapped p.addr p.data.length = true) (hs : p.addr < sramBase) : completes (.dmaWr p) s (fun t =>
      memKept s t ∧ t.chip.dram.reqs.length = s.chip.dram.reqs.length + (accesses p.addr p.data.length).length) := by
  refine completes_of_run (exec_dmaWr p s) (d := s.chip.quiet.dmaStart s.mem (arrived 3 p) true)
    ((s.chip.quiet.request_taken 3 p s.mem h).trans (if_pos hmap)) ?_
  obtain ⟨hout, hreqs⟩ := s.chip.quiet.dmaStart_write_dram s.mem (arrived 3 p) hs
  exact ⟨s.memKept_stored _ hout, hreqs⟩

/-- A DMA_WR to memory that is not mapped: an UNMAPPED event, and the answer where one is asked for. -/
theorem dmaWr_unmapped (p : Packet) (s : State) (h : s.chip.takesRequest 3 p)
    (hmap : s.chip.memMapped p.addr p.data.length = false) : completes (.dmaWr p) s (fun t =>
      memKept s t ∧ t.chip.hlk.dma = s.chip.hlk.dma ∧ t.chip.dram = s.chip.dram) := by
  have hevent := ladderMove.unmapped s.chip.quiet (hostMaster (p.ctx % 2)) p.addr
  have hdma := congrArg Hlk.dma hevent.hlk
  refine completes_of_run (exec_dmaWr p s)
    ((s.chip.quiet.request_taken 3 p s.mem h).trans (if_neg (Bool.eq_false_iff.mp hmap))) ?_
  by_cases hack : p.ackreq = true
  · have hsend := sendMove.reply (s.chip.quiet.unmapped (hostMaster (p.ctx % 2)) p.addr) (arrived 3 p) 0x83
      Status.unmapped.value 0 []
    simp only [show (arrived 3 p).ackreq = true from hack, if_true]
    exact ⟨s.memKept_stored _ (hsend.out.trans hevent.out), hsend.dma.trans hdma, hsend.dram.trans hevent.dram⟩
  · simp only [show (arrived 3 p).ackreq = false from Bool.eq_false_iff.mpr hack, Bool.false_eq_true, if_false]
    exact ⟨s.memKept_stored _ hevent.out, hdma, hevent.dram⟩

/-- A read of a context has to wait: RD_MAX of its reads run, or one of it waits already. -/
def Chip.readBusy (c : Chip) (ctx : Nat) : Bool :=
  decide (c.rdMax ≤ c.readsRunning ctx) || c.hlk.readQueue.any (fun q => q.ctx = ctx)

/-- A DMA_RD of mapped memory starts or waits. -/
theorem Chip.packetDmaRd_mapped (c : Chip) (m : Memory) (p : Packet) (hmap : c.memMapped p.addr p.rdlen = true) :
    c.packetDmaRd m p = if c.readBusy p.ctx then (c.hlkUp (fun h => { h with readQueue := h.readQueue ++ [p] })).outstand
      else c.dmaStart m p false :=
  if_neg (by simp [hmap])

/-- DMA_RD that may start. -/
theorem dmaRd_starts (p : Packet) (s : State) (h : s.chip.takesRequest 4 p) (hmap : s.chip.memMapped p.addr p.rdlen = true)
    (hroom : s.chip.readsRunning (p.ctx % 2) < s.chip.rdMax) (hfirst : ∀ q ∈ s.chip.hlk.readQueue, q.ctx ≠ p.ctx % 2) :
    completes (.dmaRd p) s (fun t =>
      t.chip.hlk.dma = s.chip.hlk.dma ++ [⟨s.chip.hlk.nextJob, p.ctx % 2, p.tag, p.addr, p.rdlen, false, p.ackreq,
          if sramBase ≤ p.addr then s.chip.quiet.loads s.mem p.addr p.rdlen else [],
          if sramBase ≤ p.addr then s.chip.stuckLines p.addr p.rdlen else []⟩]
        ∧ memKept s t) := by
  have hfree : s.chip.readBusy (p.ctx % 2) = false := by
    simpa [Chip.readBusy, hroom] using hfirst
  have hgo : s.chip.quiet.packetDmaRd s.mem (arrived 4 p) = s.chip.quiet.dmaStart s.mem (arrived 4 p) false :=
    (s.chip.quiet.packetDmaRd_mapped s.mem (arrived 4 p) hmap).trans (if_neg (Bool.eq_false_iff.mp hfree))
  refine completes_of_run (exec_dmaRd p s) ((s.chip.quiet.request_taken 4 p s.mem h).trans hgo) ⟨?_, ?_⟩
  · rw [State.stored_hlk, Chip.dmaStart_hlk]
    simp [Chip.dmaJob, arrived]
  · exact s.memKept_stored _ (Chip.dmaStart_read_out _ _ _)

/-- DMA_RD that waits behind RD_MAX reads of its context, or behind one that waits. -/
theorem dmaRd_waits (p : Packet) (s : State) (h : s.chip.takesRequest 4 p) (hmap : s.chip.memMapped p.addr p.rdlen = true)
    (hwait : s.chip.rdMax ≤ s.chip.readsRunning (p.ctx % 2) ∨ ∃ q ∈ s.chip.hlk.readQueue, q.ctx = p.ctx % 2) :
    completes (.dmaRd p) s (fun t => t.chip.hlk.readQueue = s.chip.hlk.readQueue ++ [arrived 4 p]
      ∧ t.chip.hlk.dma = s.chip.hlk.dma ∧ memKept s t) := by
  have hbusy : s.chip.readBusy (p.ctx % 2) = true := by simpa [Chip.readBusy] using hwait
  have hgo := (s.chip.quiet.packetDmaRd_mapped s.mem (arrived 4 p) hmap).trans (if_pos hbusy)
  exact completes_of_run (exec_dmaRd p s) ((s.chip.quiet.request_taken 4 p s.mem h).trans hgo)
    ⟨rfl, rfl, s.memKept_stored _ rfl⟩

/-! ### The end of a DMA job (R399) -/

/-- A write whose accesses have been served is retired. -/
theorem dmaWrComplete_retires (job : Nat) (d : DmaJob) (s : State) (hserved : s.chip.dmaServed job = true)
    (hfind : s.chip.hlk.dma.find? (fun x => x.job = job && x.write) = some d) :
    completes (.dmaWrComplete job) s (fun t => t.chip.hlk.dma = s.chip.hlk.dma.erase d ∧ memKept s t) := by
  have hserved' : s.chip.quiet.dmaServed job = true := hserved
  have hrun : sendMove (s.chip.quiet.hlkUp (fun h => { h with dma := h.dma.erase d })).outstand
      (s.chip.quiet.dmaWrComplete job) := by
    simp only [Chip.dmaWrComplete, Chip.quiet_hlk, hfind, hserved', Bool.not_true, Bool.false_eq_true, if_false]
    split
    · exact .reply _ _ _ _ _ _
    · exact .pump _
  exact completes_of_run (exec_dmaWrComplete job s) rfl ⟨hrun.dma, s.memKept_stored _ hrun.out⟩

/-- What faulty reads leave: the link's own state and the stores of the step. -/
def Chip.linkAndStores (c : Chip) : Hlk × List MemOp := (c.hlk, c.out)

theorem linkAndStores_channelAfter (c : Chip) (ch cell : Nat) (cls : ErrClass) :
    (c.channelAfter ch cell cls).linkAndStores = c.linkAndStores := by
  cases cls <;> rfl

theorem linkAndStores_event (c : Chip) (page : Nat) (cls : ErrClass) (code : Code) (cell kind addr : Nat) (rp : Bool) :
    (c.event page cls code cell kind addr rp).linkAndStores = c.linkAndStores :=
  Prod.ext (c.event_hlk page cls code cell kind addr rp) (c.event_out page cls code cell kind addr rp)

theorem linkAndStores_channelEvent (c : Chip) (ch : Nat) (cls : ErrClass) (code : Code) (cell addr : Nat) :
    (c.channelEvent ch cls code cell addr).linkAndStores = c.linkAndStores :=
  (linkAndStores_channelAfter _ _ _ _).trans (linkAndStores_event _ _ _ _ _ _ _ _)

theorem linkAndStores_dramParity (c : Chip) (a : Nat) (repeated : Bool) :
    (c.dramParity a repeated).linkAndStores = c.linkAndStores := by
  cases repeated <;> exact linkAndStores_channelEvent _ _ _ _ _ _

theorem linkAndStores_sramParity (c : Chip) (addr master : Nat) (repeated : Bool) :
    (c.sramParity addr master repeated).linkAndStores = c.linkAndStores := by
  have hirq : ∀ d : Chip, (d.irq P.FST 6).linkAndStores = d.linkAndStores := fun d =>
    Prod.ext (d.irq_hlk P.FST 6) (d.irq_out P.FST 6)
  cases repeated <;> exact hirq _

theorem linkAndStores_readFaults (c : Chip) (page master : Nat) (l : List (Nat × Bool)) :
    (c.readFaults page master l).linkAndStores = c.linkAndStores := by
  refine foldOver_keeps Chip.linkAndStores _ (fun e c => ?_) l c
  split
  · exact linkAndStores_dramParity _ _ _
  · exact (linkAndStores_event _ _ _ _ _ _ _ _).trans (linkAndStores_sramParity _ _ _ _)

/-- Where a waiting read starts, its job joins the others at their end; it stores nothing. -/
theorem Chip.readNext_cases (m : Memory) (c : Chip) (ctx : Nat) :
    (c.readNext m ctx).out = c.out ∧ (c.readNext m ctx = c
      ∨ (∃ q ∈ c.hlk.readQueue, q.ctx = ctx) ∧ ∃ j, (c.readNext m ctx).hlk.dma = c.hlk.dma ++ [j]) := by
  unfold Chip.readNext
  split
  · next p hfind =>
    split
    · exact ⟨rfl, .inl rfl⟩
    · have hctx : p.ctx = ctx := by simpa using List.find?_some hfind
      refine ⟨Chip.dmaStart_read_out _ _ _, .inr ⟨⟨p, List.mem_of_find?_eq_some hfind, hctx⟩, ?_⟩⟩
      exact ⟨_, congrArg Hlk.dma (Chip.dmaStart_hlk _ _ _ _)⟩
  · exact ⟨rfl, .inl rfl⟩

end Sys2Proof.Machine

namespace Sys2Proof.Machine

/-- The end of a served read: its job goes, a read that waited may start, and the answer is sent. -/
theorem Chip.dmaRdComplete_steps (c : Chip) (m : Memory) (job : Nat) (f : ReadFault) (d : DmaJob)
    (hserved : c.dmaServed job = true) (hfind : c.hlk.dma.find? (fun x => x.job = job && !x.write) = some d) :
    ∃ e : Chip, e.out = c.out ∧ e.hlk = { c.hlk with dma := c.hlk.dma.erase d }
      ∧ sendMove (e.readNext m d.ctx).outstand (c.dmaRdComplete m job f) := by
  have hfaults : ∀ (x y : Bool) (l : List (Nat × Bool)),
      (if sramBase ≤ d.addr then (x, c.readFaults P.HLK 1 l) else (y, c)).2.linkAndStores = c.linkAndStores := by
    intro x y l
    split
    · exact linkAndStores_readFaults c P.HLK 1 l
    · rfl
  simp only [Chip.dmaRdComplete, hfind, hserved, Bool.not_true, Bool.false_eq_true, if_false]
  refine ⟨_, ?_, ?_, .reply _ _ _ _ _ _⟩
  · exact congrArg Prod.snd (hfaults _ _ _)
  · exact congrArg (fun x : Hlk × List MemOp => { x.1 with dma := x.1.dma.erase d }) (hfaults _ _ _)

/-- A read whose accesses have been served is retired; a read of its context that waited may start behind the others. -/
theorem dmaRdComplete_retires (job : Nat) (d : DmaJob) (f : ReadFault) (s : State) (hserved : s.chip.dmaServed job = true)
    (hfind : s.chip.hlk.dma.find? (fun x => x.job = job && !x.write) = some d) :
    completes (.dmaRdComplete ⟨job, f⟩) s (fun t => memKept s t
      ∧ t.chip.hlk.dma.take (s.chip.hlk.dma.erase d).length = s.chip.hlk.dma.erase d
      ∧ ((∀ q ∈ s.chip.hlk.readQueue, q.ctx ≠ d.ctx) → t.chip.hlk.dma = s.chip.hlk.dma.erase d)) := by
  obtain ⟨e, hout, hlink, hsend⟩ := s.chip.quiet.dmaRdComplete_steps s.mem job f d hserved hfind
  obtain ⟨hnext, hcases⟩ := e.readNext_cases s.mem d.ctx
  have hdma : e.hlk.dma = s.chip.hlk.dma.erase d := congrArg Hlk.dma hlink
  have hqueue : e.hlk.readQueue = s.chip.hlk.readQueue := by rw [hlink]; rfl
  refine completes_of_run (exec_dmaRdComplete _ s) rfl ⟨?_, ?_, fun hnone => ?_⟩
  · exact s.memKept_stored _ (hsend.out.trans (hnext.trans hout))
  · rw [State.stored_hlk, hsend.dma, Chip.outstand_hlk]
    rcases hcases with hsame | ⟨-, j, hjoin⟩
    · rw [hsame, hdma, List.take_length]
    · rw [hjoin, hdma, List.take_left]
  · rw [State.stored_hlk, hsend.dma, Chip.outstand_hlk]
    rcases hcases with hsame | ⟨⟨q, hq, hctx⟩, -⟩
    · rw [hsame, hdma]
    · exact absurd hctx (hnone q (hqueue ▸ hq))

/-! ### Mailbox posts, ticks and time requests (R11, R401, R403) -/

theorem Chip.chan_of_mbx {c d : Chip} (h : d.mbx = c.mbx) (r s : Nat) : d.chan r s = c.chan r s := by
  simp [Chip.chan, h]

@[simp] theorem Chip.chan_setChan_same (c : Chip) (r s : Nat) (l : List MbxMsg) : (c.setChan r s l).chan r s = l :=
  storeGet_storePut_same _ _ _ _

/-- A message placed in the inbox of an endpoint is the last of its channel. -/
theorem Chip.chan_place_inbox (c : Chip) (r s far : Nat) (data : List Byte) (hr : r ≤ 2) : (c.place r s far data).chan r s
    = c.chan r s ++ [⟨padBytes 64 data, c.get (epochFld s), false, c.tick.field % 65536, far⟩] := by
  simp only [Chip.place, hr, if_true]
  rw [Chip.chan_of_mbx (Chip.irq_mbx _ _ _), Chip.chan_of_mbx (Chip.count_mbx _ _ _ _), Chip.chan_setChan_same]

/-- A post to another endpoint's inbox that exists and has a free slot is placed. -/
theorem Chip.post_inbox (c : Chip) (s r : Nat) (data : List Byte) (hr : r ≤ 2) (hs : s ≠ r) (he : c.epExists r = true)
    (hfree : (c.chan r s).length < 8) :
    c.post s r 0 data = (.ok, 8 - (c.chan r s).length - 1, c.place r s 0 data) := by
  have hroom : 8 - (c.chan r s).length ≠ 0 := by omega
  simp [Chip.post, he, hs, hroom, show ¬ 3 ≤ r by omega]

theorem mbxPost_places (p : Packet) (s : State) (h : s.chip.takesRequest 6 p) (hr : p.aux ≤ 2)
    (hs : p.aux ≠ 1 + p.ctx % 2) (hfar : p.far = 0) (he : s.chip.epExists p.aux = true)
    (hfree : (s.chip.chan p.aux (1 + p.ctx % 2)).length < 8) : completes (.mbxPost p) s (fun t =>
      (t.chip.chan p.aux (1 + p.ctx % 2)).map MbxMsg.data
        = (s.chip.chan p.aux (1 + p.ctx % 2)).map MbxMsg.data ++ [padBytes 64 p.data]) := by
  have hpost := s.chip.quiet.post_inbox (1 + p.ctx % 2) p.aux p.data hr hs.symm he hfree
  have hrun : s.chip.quiet.packetMbx (arrived 6 p) = (s.chip.quiet.place p.aux (1 + p.ctx % 2) 0 p.data).reply
      (arrived 6 p) 0x86 0 p.aux [] := by
    simp [Chip.packetMbx, arrived, hfar, hpost, Status.value]
  refine completes_of_run (exec_mbxPost p s) ((s.chip.quiet.request_taken 6 p s.mem h).trans hrun) ?_
  have hchan := Chip.chan_of_mbx (sendMove.reply (s.chip.quiet.place p.aux (1 + p.ctx % 2) 0 p.data)
    (arrived 6 p) 0x86 0 p.aux []).mbx p.aux (1 + p.ctx % 2)
  rw [show ∀ c : Chip, (s.stored c).chip.chan = c.chan from fun _ => rfl, hchan, Chip.chan_place_inbox _ _ _ _ _ hr,
    List.map_append]
  rfl

/-- A TICK latches its arrival. -/
def Chip.tickLatched (c : Chip) : Chip :=
  ((c.set F.HLK_TICK_TS_LO_NS c.arrival.2).set F.HLK_TICK_TS_HI_S c.arrival.1).count P.HLK 19

theorem Chip.tickLatched_time (c : Chip) : c.tickLatched.get F.HLK_TICK_TS_LO_NS = c.arrival.2 % 2 ^ 30
    ∧ c.tickLatched.get F.HLK_TICK_TS_HI_S = c.arrival.1 % 2 ^ 32 := by
  unfold Chip.tickLatched
  rw [Chip.count_get _ _ _ _ _ (by decide), Chip.count_get _ _ _ _ _ (by decide),
    Chip.get_set_key _ F.HLK_TICK_TS_HI_S F.HLK_TICK_TS_LO_NS _ (by decide),
    Chip.get_set_same _ F.HLK_TICK_TS_LO_NS _ (by decide), Chip.get_set_same _ F.HLK_TICK_TS_HI_S _ (by decide)]
  exact ⟨rfl, rfl⟩

/-- The target that a TICK sets: its arrival and HOST_DELAY, which counts as 50 µs at least. -/
def Chip.hostTick (c : Chip) : Nat × Nat :=
  let ns := c.arrival.2 + 1000 * max 50 (c.act F.TIM_TICK_CTRL_HOST_DELAY)
  (c.arrival.1 + ns / 1000000000, ns % 1000000000)

/-- A TICK sets a target exactly while the host is the tick source outside Hold. -/
theorem Chip.packetTick_eq (c : Chip) : c.packetTick
    = if c.act F.TIM_TICK_CTRL_SRC ≠ 2 ∨ c.mode = .hold then c.tickLatched
      else { c.tickLatched with tick := { c.tick with hostTarget := some c.hostTick } } := by
  have hcond : (decide (c.act F.TIM_TICK_CTRL_SRC ≠ 2) || decide (c.mode = .hold)) = true
      ↔ c.act F.TIM_TICK_CTRL_SRC ≠ 2 ∨ c.mode = .hold := by simp
  by_cases h : c.act F.TIM_TICK_CTRL_SRC ≠ 2 ∨ c.mode = .hold
  · rw [if_pos h]
    exact if_pos (hcond.mpr h)
  · rw [if_neg h]
    exact if_neg (mt hcond.mp h)

theorem tick_latches (p : Packet) (s : State) (h : s.chip.takesRequest 7 p) : completes (.tick p) s (fun t =>
    t.chip.get F.HLK_TICK_TS_LO_NS = s.chip.arrival.2 % 2 ^ 30 ∧ t.chip.get F.HLK_TICK_TS_HI_S = s.chip.arrival.1 % 2 ^ 32
      ∧ memKept s t
      ∧ (s.chip.act F.TIM_TICK_CTRL_SRC = 2 → s.chip.mode ≠ .hold →
        ∀ ns, ns = s.chip.arrival.2 + 1000 * max 50 (s.chip.act F.TIM_TICK_CTRL_HOST_DELAY) →
          t.chip.tick.hostTarget = some (s.chip.arrival.1 + ns / 1000000000, ns % 1000000000))
      ∧ ((s.chip.act F.TIM_TICK_CTRL_SRC ≠ 2 ∨ s.chip.mode = .hold) → t.chip.tick = s.chip.tick)) := by
  obtain ⟨hlo, hhi⟩ := s.chip.quiet.tickLatched_time
  refine completes_of_run (exec_tick p s) ((s.chip.quiet.request_taken 7 p s.mem h).trans s.chip.quiet.packetTick_eq) ?_
  by_cases hoff : s.chip.act F.TIM_TICK_CTRL_SRC ≠ 2 ∨ s.chip.mode = .hold
  · rw [if_pos (show s.chip.quiet.act F.TIM_TICK_CTRL_SRC ≠ 2 ∨ s.chip.quiet.mode = .hold from hoff)]
    exact ⟨hlo, hhi, s.memKept_stored _ rfl, fun hsrc hmode => absurd hoff (by simp [hsrc, hmode]), fun _ => rfl⟩
  · rw [if_neg (show ¬ (s.chip.quiet.act F.TIM_TICK_CTRL_SRC ≠ 2 ∨ s.chip.quiet.mode = .hold) from hoff)]
    refine ⟨hlo, hhi, s.memKept_stored _ rfl, fun _ _ ns hns => ?_, fun hon => absurd hon hoff⟩
    rw [hns]
    rfl

theorem exec_timeReq_taken (p : Packet) (s : State) (h : s.chip.takesRequest 8 p) :
    exec (.timeReq p) s = .next (s.became (s.chip.quiet.packetTime (arrived 8 p))) := by
  rw [exec_timeReq]
  exact s.run_pure _ _ (s.chip.quiet.request_taken 8 p s.mem h) (sendMove.reply _ _ _ _ _ _).out

/-! ### Scene packets (R101) -/

theorem takesRequest_scene (c : Chip) (p : Packet) (ctx : Nat) (start : Bool) (data : List Byte)
    (h : c.takesRequest 5 { p with ctx := ctx, start := start, data := data }) :
    c.takesRequest 5 (scenePacketOf ctx start data) := h

/-- Bytes that leave the frame in FILL incomplete and right, within FRAME_BYTES and the slot, are stored at the slot's
running offset and join the frame. -/
theorem Chip.sceneBytes_more (c : Chip) (fl : Fill) (data : List Byte)
    (hcheck : slsCheck (fl.bytes ++ data) c.slotBytes = .partialOk) (hslot : (fl.bytes ++ data).length ≤ c.slotBytes)
    (hframe : 24 ≤ (fl.bytes ++ data).length → (fl.bytes ++ data).length ≤ wordAt (fl.bytes ++ data) 20) :
    c.sceneBytes fl data = (c.stores (c.slotAddr fl.slot + fl.bytes.length) data).ringUp
      (fun r => { r with fill := some ⟨fl.slot, fl.bytes ++ data⟩ }) := by
  have hlen : (fl.bytes ++ data).length = fl.bytes.length + data.length := List.length_append
  have hroom : data.length ≤ min (if (fl.bytes ++ data).length < 24 then c.slotBytes else wordAt (fl.bytes ++ data) 20)
      c.slotBytes - fl.bytes.length := by
    split <;> omega
  have hkept : ∀ (a : Nat) (l : List Byte), (c.stores a l).slotBytes = c.slotBytes := fun a l => by
    simp [Chip.slotBytes, Chip.act]
  simp only [Chip.sceneBytes, List.take_of_length_le hroom, hkept, hcheck]

/-- A scene packet runs: no part of its header but the context and START counts. -/
theorem scene_run (p : Packet) (ctx : Nat) (start : Bool) (data : List Byte) (s : State) (hctx : ctx < 2)
    (h : s.chip.takesRequest 5 { p with ctx := ctx, start := start, data := data }) :
    s.chip.quiet.request 5 (scenePacketOf ctx start data) s.mem = s.chip.quiet.scenePacket ctx start data := by
  rw [s.chip.quiet.request_taken 5 _ s.mem (takesRequest_scene s.chip p ctx start data h)]
  show s.chip.quiet.scenePacket (ctx % 2) start data = _
  rw [Nat.mod_eq_of_lt hctx]

theorem exec_scene_stray (p : Packet) (ctx : Nat) (start : Bool) (data : List Byte) (s : State) (hctx : ctx < 2)
    (h : s.chip.takesRequest 5 { p with ctx := ctx, start := start, data := data })
    (hstray : s.chip.on F.HLK_SCENE_CTRL_ENABLE = false ∨ s.chip.act F.HLK_SCENE_CTRL_SRC_CTX ≠ ctx) :
    exec (.scene ctx start data) s = .next (s.became (s.chip.quiet.count P.HLK 10)) := by
  rw [exec_scene]
  have hno : (!s.chip.on F.HLK_SCENE_CTRL_ENABLE || decide (s.chip.act F.HLK_SCENE_CTRL_SRC_CTX ≠ ctx)) = true := by
    simpa using hstray
  exact s.run_pure _ _ ((scene_run p ctx start data s hctx h).trans (if_pos hno)) rfl

/-- The frame that a scene packet's bytes join: the one in FILL, or with START a new one in the lowest free slot. -/
theorem Chip.scenePacket_fill (c : Chip) (ctx : Nat) (start : Bool) (data : List Byte) (fl : Fill)
    (hen : c.on F.HLK_SCENE_CTRL_ENABLE = true) (hsrc : c.act F.HLK_SCENE_CTRL_SRC_CTX = ctx)
    (hfill : start = false ∧ c.ring.fill = some fl
      ∨ start = true ∧ c.ring.fill = none ∧ c.ring.freeSlot = some fl.slot ∧ fl.bytes = []) :
    c.scenePacket ctx start data
      = (if start then c.ringUp (fun r => { r with skip := false }) else c).sceneBytes fl data := by
  rcases hfill with ⟨rfl, hfl⟩ | ⟨rfl, hnone, hfree, hbytes⟩
  · simp [Chip.scenePacket, hen, hsrc, hfl]
  · obtain ⟨slot, bytes⟩ := fl
    subst hbytes
    have hfree' : (c.ringUp (fun r => { r with skip := false })).ring.freeSlot = some slot := hfree
    simp only [Chip.scenePacket, hen, hsrc, hnone, hfree']
    simp

theorem scene_joins (p : Packet) (ctx : Nat) (start : Bool) (data : List Byte) (fl : Fill) (s : State) (hctx : ctx < 2)
    (h : s.chip.takesRequest 5 { p with ctx := ctx, start := start, data := data })
    (hen : s.chip.on F.HLK_SCENE_CTRL_ENABLE = true) (hsrc : s.chip.act F.HLK_SCENE_CTRL_SRC_CTX = ctx)
    (hfill : start = false ∧ s.chip.ring.fill = some fl
      ∨ start = true ∧ s.chip.ring.fill = none ∧ s.chip.ring.freeSlot = some fl.slot ∧ fl.bytes = [])
    (hcheck : slsCheck (fl.bytes ++ data) s.chip.slotBytes = .partialOk)
    (hslot : (fl.bytes ++ data).length ≤ s.chip.slotBytes)
    (hframe : 24 ≤ (fl.bytes ++ data).length → (fl.bytes ++ data).length ≤ wordAt (fl.bytes ++ data) 20) :
    completes (.scene ctx start data) s (fun t =>
      t.chip.ring.fill = some ⟨fl.slot, fl.bytes ++ data⟩
        ∧ memKeptBut (s.chip.slotAddr fl.slot + fl.bytes.length) data.length s t
        ∧ (∀ i (h : i < data.length), t.mem.read (s.chip.slotAddr fl.slot + fl.bytes.length + i) = data[i])) := by
  have hrun := (scene_run p ctx start data s hctx h).trans (s.chip.quiet.scenePacket_fill ctx start data fl hen hsrc hfill)
  have hmore : ∃ c : Chip, c.out = [] ∧ s.chip.quiet.request 5 (scenePacketOf ctx start data) s.mem
      = (c.stores (s.chip.slotAddr fl.slot + fl.bytes.length) data).ringUp
        (fun r => { r with fill := some ⟨fl.slot, fl.bytes ++ data⟩ }) := by
    cases start with
    | false => exact ⟨s.chip.quiet, rfl, hrun.trans (Chip.sceneBytes_more s.chip.quiet fl data hcheck hslot hframe)⟩
    | true =>
      exact ⟨s.chip.quiet.ringUp (fun r => { r with skip := false }), rfl,
        hrun.trans (Chip.sceneBytes_more _ fl data hcheck hslot hframe)⟩
  obtain ⟨c, hout, hnext⟩ := hmore
  exact completes_of_run (exec_scene ctx start data s) hnext ⟨rfl, s.memKeptBut_stores c _ _ data hout rfl⟩

/-- Settles O17: a request that is taken runs by its opcode (`Chip.request_taken`); a response moves only the link
(`sendMove`), so the jobs, memory and mailboxes are as the request itself left them. -/
theorem hostRequestsAreServed : Obligations.HostRequestsAreServed := by
  unfold Obligations.HostRequestsAreServed
  intro p s
  refine ⟨?regRd, ?regWr, ?dmaWr, dmaWr_unmapped p s, dmaRd_starts p s, dmaRd_waits p s,
    fun job d => dmaWrComplete_retires job d s, fun job d f => dmaRdComplete_retires job d f s, mbxPost_places p s,
    tick_latches p s, exec_timeReq_taken p s, ?scene⟩
  case regRd =>
    rintro h r rfl
    rw [exec_regRd_taken p s h, Chip.packetRegRd_eq]
    rfl
  case regWr =>
    rintro h r rfl
    exact exec_regWr_taken p s h
  case dmaWr => exact fun h hmap => ⟨dmaWr_sram p s h hmap, dmaWr_dram p s h hmap⟩
  case scene =>
    intro ctx start data hctx h
    exact ⟨exec_scene_stray p ctx start data s hctx h, fun fl hen hsrc hfill hcheck hslot hframe =>
      scene_joins p ctx start data fl s hctx h hen hsrc hfill hcheck hslot hframe⟩

end Sys2Proof.Machine

namespace Sys2Proof.Machine

/-! ### The plan lock and the commit's counters (R10, R15, R22) -/

theorem Chip.planLock_locks (c : Chip) (h : c.raster = true ∨ c.inSlot = true) : c.planLock.tick.planLocked = true := by
  unfold Chip.planLock
  split
  · next hidle =>
    rcases h with h | h <;> simpa [h] using hidle
  · rfl

/-- Whatever else falls in a commit, its counters are those of the tick. -/
theorem Chip.commit_tick (c : Chip) (m : Memory) (io : CommitIn) (h : c.raster = true) :
    (c.commit m io).tick.field = (c.numbersNext (c.sectorAhead 1)).1
      ∧ (c.commit m io).tick.frame = (c.numbersNext (c.sectorAhead 1)).2 ∧ (c.commit m io).tick.planLocked = false := by
  unfold Chip.commit
  rw [if_neg (by simp [h])]
  exact ⟨rfl, rfl, rfl⟩

theorem commit_numbers (io : CommitIn) (s : State) (hr : s.chip.raster = true) (hj : s.chip.tileJump = none) :
    completes (.commit io) s (fun t => t.chip.tick.field = (s.chip.tick.field + 1) % 2 ^ 32
      ∧ t.chip.tick.frame = (if s.chip.sectorAhead 1 = 0 then s.chip.tick.frame + 1 else s.chip.tick.frame) % 2 ^ 32
      ∧ t.chip.tick.planLocked = false) := by
  obtain ⟨hfield, hframe, hplan⟩ := s.chip.quiet.commit_tick s.mem io hr
  have hnext : s.chip.quiet.numbersNext (s.chip.quiet.sectorAhead 1) = ((s.chip.tick.field + 1) % 2 ^ 32,
      (if s.chip.sectorAhead 1 = 0 then s.chip.tick.frame + 1 else s.chip.tick.frame) % 2 ^ 32) := by
    unfold Chip.numbersNext
    rw [show s.chip.quiet.tileJump = none from hj]
    rfl
  rw [hnext] at hfield hframe
  exact completes_of_run (exec_commit io s) rfl ⟨hfield, hframe, hplan⟩

/-- A wall's first barrier sets both numbers (R415). -/
theorem commit_jump (io : CommitIn) (n : Nat × Nat) (s : State) (hr : s.chip.raster = true)
    (hj : s.chip.tileJump = some n) : completes (.commit io) s (fun t =>
      t.chip.tick.field = n.1 % 2 ^ 32 ∧ t.chip.tick.frame = n.2 % 2 ^ 32) := by
  obtain ⟨hfield, hframe, -⟩ := s.chip.quiet.commit_tick s.mem io hr
  have hnext : s.chip.quiet.numbersNext (s.chip.quiet.sectorAhead 1) = (n.1 % 2 ^ 32, n.2 % 2 ^ 32) := by
    unfold Chip.numbersNext
    rw [show s.chip.quiet.tileJump = some n from hj]
    rfl
  rw [hnext] at hfield hframe
  exact completes_of_run (exec_commit io s) rfl ⟨hfield, hframe⟩

/-! ### The rings at the deadline leave the ray engine as it is (R21) -/

@[simp] theorem Chip.when_ray (c : Chip) (b : Bool) (f : Chip → Chip) :
    (c.when b f).ray = if b then (f c).ray else c.ray := by
  cases b <;> rfl

theorem foldOver_ray {α : Type} (f : α → Chip → Chip) (h : ∀ a c, (f a c).ray = c.ray) (l : List α) (c : Chip) :
    (foldOver l f c).ray = c.ray := foldOver_keeps Chip.ray f h l c

@[simp] theorem Chip.channelEvent_ray (c : Chip) (ch : Nat) (cls : ErrClass) (code : Code) (cell addr : Nat) :
    (c.channelEvent ch cls code cell addr).ray = c.ray := by
  have hafter : ∀ (d : Chip) (k : ErrClass), (d.channelAfter ch cell k).ray = d.ray := fun d k => by cases k <;> rfl
  exact (hafter _ _).trans (Chip.event_ray _ _ _ _ _ _ _ _)

@[simp] theorem Chip.readFaults_ray (c : Chip) (page master : Nat) (l : List (Nat × Bool)) :
    (c.readFaults page master l).ray = c.ray := by
  refine foldOver_ray _ (fun e c => ?_) l c
  split
  · cases e.2 <;> simp [Chip.dramParity]
  · simp [Chip.sramParity]

@[simp] theorem Chip.storeRuns_ray (c : Chip) (l : List (Nat × List Byte)) : (c.storeRuns l).ray = c.ray :=
  foldOver_ray (fun (e : Nat × List Byte) c => c.stores e.1 e.2) (fun e c => c.stores_ray e.1 e.2) l.reverse c

@[simp] theorem Chip.cdcFlags_ray (c : Chip) : c.cdcFlags.ray = c.ray := by
  simp [Chip.cdcFlags]

@[simp] theorem Chip.bltFlags_ray (c : Chip) : c.bltFlags.ray = c.ray := by
  unfold Chip.bltFlags
  dsimp only
  split
  · split <;> simp
  · simp

@[simp] theorem Chip.withCdc_ray (c : Chip) (x : Cdc) : ({ c with cdc := x } : Chip).ray = c.ray := rfl
@[simp] theorem Chip.withBlt_ray (c : Chip) (x : Blt) : ({ c with blt := x } : Chip).ray = c.ray := rfl
@[simp] theorem Chip.withFresh_ray (c : Chip) (n : Nat) : ({ c with fresh := n } : Chip).ray = c.ray := rfl

/-- The ray engine, as a definition of its own: of two chips under it the kernel compares the chips, where it evaluates both
under the projection `Chip.ray`. -/
def Chip.rayOf (c : Chip) : Ray := c.ray

@[simp] theorem Chip.whenIrq_ray (c : Chip) (b : Bool) (page i : Nat) : (c.when b (fun c => c.irq page i)).ray = c.ray :=
  c.when_keeps Chip.ray b _ (fun c => c.irq_ray page i)

/-- Results go out as stores. -/
@[simp] theorem Chip.whenStores_ray (c : Chip) (b : Bool) (a : Nat) (l : List Byte) :
    (c.when b (fun c => c.stores a l)).ray = c.ray := c.when_keeps Chip.ray b _ (fun c => c.stores_ray a l)

theorem Chip.whenStore_rayOf (c : Chip) (b : Bool) (a : Nat) (v : Chip → Byte) :
    (c.when b (fun c => c.store a (v c))).rayOf = c.rayOf := c.when_keeps Chip.rayOf b _ (fun c => c.stores_ray a [v c])

/-- What `Chip.jobEnd` ends with: the job leaves the codec and TAIL advances. -/
def Chip.jobRetired (c : Chip) (i : Nat) : Chip :=
  let c := { c with cdc := { c.cdc with running := none, captured := [], done := putLast c.cdc.done i } }
  (c.set F.CDC_JOB_TAIL_TAIL ((i + 1) % max 1 c.jobEntries)).cdcFlags

@[simp] theorem Chip.jobRetired_ray (c : Chip) (i : Nat) : (c.jobRetired i).ray = c.ray :=
  (Chip.cdcFlags_ray _).trans (Chip.set_ray _ _ _)

theorem Chip.jobEnd_eq (c : Chip) (i status blocks used0 used1 : Nat) (inChain irq : Bool) :
    c.jobEnd i status blocks used0 used1 inChain irq
      = (((((c.when (c.memMapped (c.jobAddr i) 64) (fun d => d.stores (c.jobAddr i + 48)
          (leBytes 4 (status + 512 * b2n inChain) ++ leBytes 4 blocks ++ leBytes 4 used0 ++ leBytes 4 used1))).count P.CDC
            (if status = 1 then 5 else 6)).when irq (fun c => c.irq P.CDC 6)).when (status ≠ 1)
              (fun c => c.irq P.CDC 7)).jobRetired i) := rfl

@[simp] theorem Chip.jobEnd_ray (c : Chip) (i status blocks used0 used1 : Nat) (inChain irq : Bool) :
    (c.jobEnd i status blocks used0 used1 inChain irq).ray = c.ray := by
  rw [Chip.jobEnd_eq, Chip.jobRetired_ray, Chip.whenIrq_ray, Chip.whenIrq_ray, Chip.count_ray, Chip.whenStores_ray]

@[simp] theorem Chip.engineReads_ray (c : Chip) (page master : Nat) (ranges : List (Nat × Nat)) (f : ReadFault) :
    (c.engineReads page master ranges f).2.ray = c.ray := c.readFaults_ray page master _

@[simp] theorem Chip.jobFinish_ray (c : Chip) (m : Memory) (r : CdcJob) (n : Nat) (stop : Option Nat) (parity : ReadFault) :
    (c.jobFinish m r n stop parity).ray = c.ray := by
  unfold Chip.jobFinish
  extract_lets j begun decoded reads stored flagged st encoded readsE storedE drawn stE
  have hbegun : begun.ray = c.ray := Chip.when_keeps Chip.ray _ _ _ (fun c => c.withCdc_ray _)
  split
  · calc _ = flagged.ray := Chip.jobEnd_ray _ _ _ _ _ _ _ _
      _ = stored.ray := Chip.when_keeps Chip.ray _ _ _ (fun c => (Chip.irq_ray _ _ _).trans (c.count_ray _ _ _))
      _ = begun.ray := (Chip.count_ray _ _ _ _).trans ((Chip.storeRuns_ray _ _).trans (Chip.engineReads_ray _ _ _ _ _))
      _ = c.ray := hbegun
  · have hreads : readsE.2.ray = begun.ray := by
      simp only [readsE]
      split
      · exact Chip.engineReads_ray _ _ _ _ _
      · rfl
    calc _ = drawn.ray := Chip.jobEnd_ray _ _ _ _ _ _ _ _
      _ = storedE.ray := Chip.when_keeps Chip.ray _ _ _ (fun c => c.withFresh_ray _)
      _ = readsE.2.ray := (Chip.count_ray _ _ _ _).trans ((Chip.count_ray _ _ _ _).trans (Chip.storeRuns_ray _ _))
      _ = c.ray := hreads.trans hbegun

theorem Chip.abortLate_rayOf (c : Chip) (m : Memory) (i : Nat) : (c.abortLate m i).rayOf = c.rayOf := by
  unfold Chip.abortLate
  extract_lets a
  exact c.whenStore_rayOf (c.memMapped a 1) a (fun c => c.load m a ||| 1)

@[simp] theorem Chip.jobStop_ray (c : Chip) (m : Memory) (r : CdcJob) (status : Nat) : (c.jobStop m r status).ray = c.ray :=
  (Chip.jobFinish_ray _ _ _ _ _ _).trans c.drew_ray

/-- The deadline's ABORT_LATE for the TICK jobs that have completed. -/
def Chip.jobsLate (c : Chip) (m : Memory) : Chip :=
  foldOver (c.cdc.tickDone.filter c.cdc.done.contains) (fun (i : Nat) (c : Chip) => c.abortLate m i)
    { c with cdc := { c.cdc with tickDone := [] } }

@[simp] theorem Chip.jobsLate_ray (c : Chip) (m : Memory) : (c.jobsLate m).ray = c.ray :=
  foldOver_keeps Chip.rayOf (fun (i : Nat) (c : Chip) => c.abortLate m i) (fun i d => d.abortLate_rayOf m i) _ _

/-- The deadline's doom of the TICK jobs that wait. -/
def Chip.jobsDoomed (c : Chip) (due : Posted → Bool) : Chip :=
  { c with cdc := { c.cdc with
    posted := c.cdc.posted.map (fun (p : Posted) => if due p then { p with doom := some 4 } else p) } }

@[simp] theorem Chip.jobsDoomed_ray (c : Chip) (due : Posted → Bool) : (c.jobsDoomed due).ray = c.ray := rfl

theorem Chip.jobDeadline_cases (c : Chip) (m : Memory) : ∃ due,
    (c.jobDeadline m).2 = (c.jobsLate m).jobsDoomed due
      ∨ ∃ r, (c.jobDeadline m).2 = ((c.jobsLate m).jobsDoomed due).jobStop m r 4 := by
  unfold Chip.jobDeadline
  extract_lets due any late _ noted _ doomed
  refine ⟨due, ?_⟩
  split
  · split
    · exact .inr ⟨_, rfl⟩
    · exact .inl rfl
  · exact .inl rfl

/-- The codec's TICK jobs at the deadline. -/
theorem Chip.jobDeadline_ray (c : Chip) (m : Memory) : (c.jobDeadline m).2.ray = c.ray := by
  obtain ⟨due, h | ⟨r, h⟩⟩ := c.jobDeadline_cases m <;> simp [h]

theorem Chip.storeLE_ray (c : Chip) (a n v : Nat) : (c.storeLE a n v).ray = c.ray := c.stores_ray a _

/-- The spans of a row of the 2D engine. -/
theorem bltSpans_ray (m : Memory) (b : BltSpec) (y : Int) (l : List (List Int)) (c : Chip) :
    (foldOver l (fun xs c => c.bltSpan m b y xs) c).ray = c.ray := by
  refine foldOver_ray _ (fun xs d => ?_) l c
  unfold Chip.bltSpan
  exact foldOver_ray (fun (v : Nat × Nat) c => c.storeLE v.1 4 v.2) (fun v d => d.storeLE_ray v.1 4 v.2) _ d

/-- What `Chip.bltEnd` ends with: the command leaves the engine and TAIL advances. -/
def Chip.bltRetired (c : Chip) (i : Nat) : Chip :=
  let c := { c with blt := { c.blt with running := none, done := putLast c.blt.done i } }
  (c.set F.BLT_RING_TAIL_TAIL (i + 1)).bltFlags

@[simp] theorem Chip.bltRetired_ray (c : Chip) (i : Nat) : (c.bltRetired i).ray = c.ray :=
  (Chip.bltFlags_ray _).trans (Chip.set_ray _ _ _)

theorem Chip.bltEnd_eq (c : Chip) (i status pixels tag : Nat) (held : Bool) : c.bltEnd i status pixels tag held
    = ((((((c.when (c.memMapped (c.bltAddr i + 132) 8) (fun d => d.stores (c.bltAddr i + 132)
        (leBytes 4 (status + 512 * b2n held) ++ leBytes 4 pixels))).count P.BLT (if status = 1 then 0 else 1)).when
          (status ≠ 1) (fun c => c.irq P.BLT 7)).set F.BLT_LAST_DONE_INDEX i).set F.BLT_LAST_DONE_STATUS status).set
            F.BLT_LAST_DONE_TAG tag).bltRetired i := rfl

@[simp] theorem Chip.bltEnd_ray (c : Chip) (i status pixels tag : Nat) (held : Bool) :
    (c.bltEnd i status pixels tag held).ray = c.ray := by
  rw [Chip.bltEnd_eq, Chip.bltRetired_ray, Chip.set_ray, Chip.set_ray, Chip.set_ray, Chip.whenIrq_ray, Chip.count_ray,
    Chip.whenStores_ray]

@[simp] theorem Chip.bltRow_ray (c : Chip) (m : Memory) (f : ReadFault) : (c.bltRow m f).ray = c.ray := by
  unfold Chip.bltRow
  split
  · rfl
  · extract_lets b y spans faults read drawn n r' _ next told inside at_
    split
    · rfl
    · calc ((told.when _ (fun c => c.irq P.BLT 6)).bltFlags).ray
          = told.ray := (Chip.bltFlags_ray _).trans (Chip.when_keeps Chip.ray _ _ _ (fun c => c.irq_ray P.BLT 6))
        _ = next.ray := by rw [Chip.set_ray, Chip.setZ_ray]
        _ = drawn.ray := Chip.withBlt_ray drawn _
        _ = read.ray := bltSpans_ray _ _ _ _ _
        _ = c.ray := (Chip.count_ray _ _ _ _).trans (Chip.readFaults_ray _ _ _ _)

@[simp] theorem Chip.bltRows_ray (m : Memory) (n : Nat) (c : Chip) : (Chip.bltRows m n c).ray = c.ray := by
  induction n generalizing c with
  | zero => rfl
  | succ n ih =>
    unfold Chip.bltRows
    split
    · split
      · exact Chip.bltFlags_ray c
      · exact (ih _).trans (c.bltRow_ray m .clean)
    · rfl

@[simp] theorem Chip.bltStop_ray (c : Chip) (m : Memory) (r : BltCmd) (status : Nat) :
    (c.bltStop m r status).ray = c.ray := by
  unfold Chip.bltStop
  extract_lets b left n rows
  have hrows : rows.ray = c.ray := (Chip.bltRows_ray _ _ _).trans c.drew_ray
  split
  · exact hrows
  · split
    · exact (Chip.bltEnd_ray _ _ _ _ _ _).trans hrows
    · extract_lets y spans k drawn _ next
      calc _ = next.ray := Chip.bltEnd_ray _ _ _ _ _ _
        _ = drawn.ray := Chip.withBlt_ray drawn _
        _ = rows.ray := (bltSpans_ray _ _ _ _ _).trans rows.drew_ray
        _ = c.ray := hrows

theorem Chip.bltLate_rayOf (c : Chip) (m : Memory) (i : Nat) : (c.bltLate m i).rayOf = c.rayOf := by
  unfold Chip.bltLate
  extract_lets a
  exact c.whenStore_rayOf (c.memMapped a 1) a (fun c => c.load m a ||| 1)

/-- The deadline's ABORT_LATE for the TICK commands that have completed. -/
def Chip.bltsLate (c : Chip) (m : Memory) : Chip :=
  foldOver (c.blt.tickDone.filter c.blt.done.contains) (fun (i : Nat) (c : Chip) => c.bltLate m i)
    { c with blt := { c.blt with tickDone := [] } }

@[simp] theorem Chip.bltsLate_ray (c : Chip) (m : Memory) : (c.bltsLate m).ray = c.ray :=
  foldOver_keeps Chip.rayOf (fun (i : Nat) (c : Chip) => c.bltLate m i) (fun i d => d.bltLate_rayOf m i) _ _

/-- The deadline's doom of the TICK commands that wait. -/
def Chip.bltsDoomed (c : Chip) (due : Posted → Bool) : Chip :=
  { c with blt := { c.blt with
    posted := c.blt.posted.map (fun (p : Posted) => if due p then { p with doom := some 4 } else p) } }

@[simp] theorem Chip.bltsDoomed_ray (c : Chip) (due : Posted → Bool) : (c.bltsDoomed due).ray = c.ray := rfl

theorem Chip.bltDeadline_cases (c : Chip) (m : Memory) : ∃ due,
    (c.bltDeadline m).2 = (c.bltsLate m).bltsDoomed due
      ∨ ∃ r, (c.bltDeadline m).2 = ((c.bltsLate m).bltsDoomed due).bltStop m r 4 := by
  unfold Chip.bltDeadline
  extract_lets due any late _ noted _ doomed
  refine ⟨due, ?_⟩
  split
  · split
    · exact .inr ⟨_, rfl⟩
    · exact .inl rfl
  · exact .inl rfl

/-- The 2D engine's TICK commands at the deadline. -/
theorem Chip.bltDeadline_ray (c : Chip) (m : Memory) : (c.bltDeadline m).2.ray = c.ray := by
  obtain ⟨due, h | ⟨r, h⟩⟩ := c.bltDeadline_cases m <;> simp [h]

/-! ### The synthesis deadline (R27) -/

theorem Chip.synthesisDeadline_stops (c : Chip) (m : Memory) (h : c.ray.running = true) :
    (c.synthesisDeadline m).ray.running = false ∧ (c.synthesisDeadline m).ray.slots = []
      ∧ (c.synthesisDeadline m).ray.redo = [] := by
  unfold Chip.synthesisDeadline
  rw [if_neg (by simp [h])]
  extract_lets failed late proxied counted _ ended raised
  split
  · exact ⟨rfl, rfl, rfl⟩
  · rw [Chip.irq_ray, Chip.set_ray, Chip.irq_ray]
    exact ⟨rfl, rfl, rfl⟩

theorem Chip.deadline_stops (c : Chip) (m : Memory) (hr : c.raster = true) (h : c.ray.running = true) :
    (c.deadline m).ray.running = false ∧ (c.deadline m).ray.slots = [] ∧ (c.deadline m).ray.redo = [] := by
  unfold Chip.deadline
  rw [if_neg (by simp [hr])]
  rw [Chip.bltFlags_ray, Chip.cdcFlags_ray]
  apply Chip.synthesisDeadline_stops
  have hover : ∀ (d : Chip) (b : Bool) (page : Nat), (d.when b (fun c => c.overrun page)).ray = d.ray := fun d b page =>
    d.when_keeps Chip.ray b _ (fun c => (Chip.irq_ray _ page 4).trans (c.set_ray _ _))
  rw [hover, Chip.bltDeadline_ray, hover, Chip.jobDeadline_ray, h]

/-! ### The tick source's state bits (R12, R13) -/

theorem exec_tickHoldover_tracked (s : State) (h : s.chip.act F.TIM_TICK_CTRL_SRC ≠ 0) : exec .tickHoldover s
    = .next (s.became ((s.chip.quiet.set F.TIM_TICK_STATUS_LOCKED 0).set F.TIM_TICK_STATUS_HOLDOVER 1)) := by
  rw [exec_tickHoldover]
  exact s.run_pure _ _ (if_neg h) rfl

/-- A source that returns is judged, but for the host's in Hold and where none is tracked. -/
theorem Chip.tickRelock_judged (c : Chip) (e : Int) (hsrc : c.act F.TIM_TICK_CTRL_SRC ≠ 0)
    (hhold : c.act F.TIM_TICK_CTRL_SRC = 2 → c.mode ≠ .hold) : c.tickRelock e
      = if -20000 ≤ e ∧ e ≤ 20000 then
          (((c.phaseErr e).set F.TIM_TICK_STATUS_LOCKED 1).set F.TIM_TICK_STATUS_HOLDOVER 0).rephaseNot
        else if c.on F.TIM_TICK_CTRL_REPHASE_AUTO then
          ((((c.phaseErr e).set F.TIM_TICK_STATUS_LOCKED 0).set F.TIM_TICK_STATUS_HOLDOVER 1).set
            F.TIM_TICK_STATUS_REPHASE_PENDING 0).rephaseWanted
        else (((c.phaseErr e).set F.TIM_TICK_STATUS_LOCKED 0).set F.TIM_TICK_STATUS_HOLDOVER 1).set
          F.TIM_TICK_STATUS_REPHASE_PENDING 1 := by
  have hjudge : ¬ (decide (c.act F.TIM_TICK_CTRL_SRC = 0)
      || (decide (c.act F.TIM_TICK_CTRL_SRC = 2) && decide (c.mode = .hold))) = true := by
    simpa [hsrc] using hhold
  exact if_neg hjudge

/-- Setting fields of one register moves no other register. -/
theorem regsKeptBut_set {c d : Chip} {key : Nat} (h : regsKeptBut [key] c d) (f : Fld) (v : Nat) (hf : f.key = key) :
    regsKeptBut [key] c (d.set f v) := fun k hk => by
  obtain ⟨hw, hl, ha⟩ := h k hk
  exact ⟨(d.w_set_other f v k (by simpa [hf] using hk)).trans hw, hl, ha⟩

/-- The bits after a return with too large an error, whichever way the re-phase goes. -/
def Chip.stillHeld (c : Chip) (e : Int) (pending : Nat) : Chip :=
  (((c.phaseErr e).set F.TIM_TICK_STATUS_LOCKED 0).set F.TIM_TICK_STATUS_HOLDOVER 1).set
    F.TIM_TICK_STATUS_REPHASE_PENDING pending

theorem Chip.stillHeld_bits (c : Chip) (e : Int) (pending : Nat) : (c.stillHeld e pending).get F.TIM_TICK_STATUS_LOCKED = 0
    ∧ (c.stillHeld e pending).get F.TIM_TICK_STATUS_HOLDOVER = 1
    ∧ (c.stillHeld e pending).get F.TIM_TICK_STATUS_REPHASE_PENDING = pending % 2
    ∧ regsKeptBut [K.TIM_TICK_STATUS] c (c.stillHeld e pending) := by
  unfold Chip.stillHeld
  refine ⟨?_, ?_, Chip.get_set_same _ F.TIM_TICK_STATUS_REPHASE_PENDING _ (by decide), ?_⟩
  · rw [Chip.get_set_apart _ _ _ _ (by decide) (by decide), Chip.get_set_apart _ _ _ _ (by decide) (by decide),
      Chip.get_set_same _ _ _ (by decide)]
    rfl
  · rw [Chip.get_set_apart _ _ _ _ (by decide) (by decide), Chip.get_set_same _ _ _ (by decide)]
    rfl
  · have hstart : regsKeptBut [K.TIM_TICK_STATUS] c c := fun _ _ => ⟨rfl, rfl, rfl⟩
    exact regsKeptBut_set (regsKeptBut_set (regsKeptBut_set (regsKeptBut_set hstart F.TIM_TICK_STATUS_PHASE_ERR _ rfl)
      F.TIM_TICK_STATUS_LOCKED _ rfl) F.TIM_TICK_STATUS_HOLDOVER _ rfl) F.TIM_TICK_STATUS_REPHASE_PENDING _ rfl

theorem exec_tickSourceRelock_near (e : Int) (s : State) (hsrc : s.chip.act F.TIM_TICK_CTRL_SRC ≠ 0)
    (hhold : s.chip.act F.TIM_TICK_CTRL_SRC = 2 → s.chip.mode ≠ .hold) (hlo : -20000 ≤ e) (hhi : e ≤ 20000) :
    exec (.tickSourceRelock e) s = .next (s.became ((((s.chip.quiet.phaseErr e).set F.TIM_TICK_STATUS_LOCKED 1).set
      F.TIM_TICK_STATUS_HOLDOVER 0).rephaseNot)) := by
  rw [exec_tickSourceRelock]
  exact s.run_pure _ _ ((s.chip.quiet.tickRelock_judged e hsrc hhold).trans (if_pos ⟨hlo, hhi⟩)) rfl

theorem tickSourceRelock_far (e : Int) (s : State) (hsrc : s.chip.act F.TIM_TICK_CTRL_SRC ≠ 0)
    (hhold : s.chip.act F.TIM_TICK_CTRL_SRC = 2 → s.chip.mode ≠ .hold) (hfar : e < -20000 ∨ 20000 < e) :
    completes (.tickSourceRelock e) s (fun t =>
      t.chip.get F.TIM_TICK_STATUS_LOCKED = 0 ∧ t.chip.get F.TIM_TICK_STATUS_HOLDOVER = 1
        ∧ t.chip.get F.TIM_TICK_STATUS_REPHASE_PENDING = (if s.chip.on F.TIM_TICK_CTRL_REPHASE_AUTO then 0 else 1)
        ∧ regsKeptBut [K.TIM_TICK_STATUS] s.chip t.chip ∧ memKept s t) := by
  have hrun := (s.chip.quiet.tickRelock_judged e hsrc hhold).trans (if_neg (by omega))
  refine completes_of_run (exec_tickSourceRelock e s) hrun ?_
  rw [Chip.quiet_on]
  by_cases hauto : s.chip.on F.TIM_TICK_CTRL_REPHASE_AUTO = true
  · obtain ⟨hlocked, hheld, hpending, hregs⟩ := s.chip.quiet.stillHeld_bits e 0
    rw [if_pos hauto, if_pos hauto]
    exact ⟨hlocked, hheld, hpending, hregs, s.memKept_stored _ rfl⟩
  · obtain ⟨hlocked, hheld, hpending, hregs⟩ := s.chip.quiet.stillHeld_bits e 1
    rw [if_neg hauto, if_neg hauto]
    exact ⟨hlocked, hheld, hpending, hregs, s.memKept_stored _ rfl⟩

/-- Settles O8: the plan lock sets its bit, a commit ends with the tick's own numbers (`Chip.commit_tick`), the rings leave
the ray engine to the synthesis deadline (`Chip.deadline_stops`), and a source's return is judged once
(`Chip.tickRelock_judged`). -/
theorem tickCountersAndSource : Obligations.TickCountersAndSource := by
  unfold Obligations.TickCountersAndSource
  intro s
  exact ⟨fun h => completes_of_run (exec_planLock s) rfl (s.chip.quiet.planLock_locks h),
    fun io => commit_numbers io s, fun io n => commit_jump io n s,
    fun hr h => completes_of_run (exec_synthesisDeadline s) rfl (s.chip.quiet.deadline_stops s.mem hr h),
    exec_tickHoldover_tracked s, fun e => exec_tickSourceRelock_near e s, fun e => tickSourceRelock_far e s⟩

end Sys2Proof.Machine

namespace Sys2Proof.Machine

/-! ### Writes of the page header (R49, R57, R58) -/

/-- A command that writes a header register which takes the write leaves what the register's meaning leaves. -/
theorem exec_of_headerWrite {i : Instr} {s : State} {mst : Master} {page off data : Nat} {d : Chip}
    (hrun : exec i s = s.run (fun m c => c.regWrite mst (page + off) data m)) (hpage : page % 4096 = 0)
    (hdata : data < 2 ^ 32) (hoff : off < 0x100) (hw : s.chip.takesWrite mst (page + off))
    (hd : s.chip.quiet.headerWrite mst page off data = some (.ok, d)) (hhlk : d.hlk = s.chip.quiet.hlk) (hout : d.out = []) :
    exec i s = .next (s.became (d.taken (page + off))) := by
  obtain ⟨-, -, -, -, -, -, -, -, hlink, -⟩ := id hw
  rw [hrun]
  refine s.run_pure _ _ ?_ hout
  apply Chip.regWrite_taken _ _ _ _ _ _ (s.chip.takesWrite_quiet mst _ hw)
  · rw [Nat.mod_eq_of_lt hdata, Chip.writeMeaning_header _ _ _ _ _ _ hpage hoff, hd]
    rfl
  · rw [hhlk]
    exact hlink

theorem exec_budgetMaxClr_taken (mst : Master) (page data : Nat) (s : State) (hpage : page % 4096 = 0)
    (hdata : data < 2 ^ 32) (hw : s.chip.takesWrite mst (page + 0x030)) (hbit : bit data 27 = true) :
    exec (.budgetMaxClr mst page data) s = .next (s.became (
      ((s.chip.quiet.set ⟨page + 0x030, 16, 11, 4⟩ 0).set ⟨page + 0x030, 31, 1, 4⟩ 0).taken (page + 0x030))) :=
  exec_of_headerWrite (exec_budgetMaxClr mst page data s) hpage hdata (by decide) hw (by simp [Chip.headerWrite, hbit]) rfl rfl

theorem exec_errInfoClear_taken (mst : Master) (page data : Nat) (s : State) (hpage : page % 4096 = 0)
    (hdata : data < 2 ^ 32) (hw : s.chip.takesWrite mst (page + 0x020)) (hbit : bit data 4 = true) :
    exec (.errInfoClear mst page data) s = .next (s.became (
      (((s.chip.quiet.setw (page + 0x020) 0).setw (page + 0x024) 0).setw (page + 0x028) 0).taken (page + 0x020))) :=
  exec_of_headerWrite (exec_errInfoClear mst page data s) hpage hdata (by decide) hw (by simp [Chip.headerWrite, hbit]) rfl rfl

/-- ERR_COUNT after a write of `data`: each half in which a bit is set is cleared, the other stays (R49). -/
def errCountAfter (old : Word) (data : Nat) : Word :=
  BitVec.ofNat 32 ((if data % 65536 = 0 then old.toNat % 65536 else 0)
    + (if data / 65536 = 0 then old.toNat / 65536 else 0) * 65536)

theorem exec_errCountClear_taken (mst : Master) (page data : Nat) (s : State) (hpage : page % 4096 = 0)
    (hdata : data < 2 ^ 32) (hw : s.chip.takesWrite mst (page + 0x02C)) :
    exec (.errCountClear mst page data) s = .next (s.became ((s.chip.quiet.setw (page + 0x02C)
      (errCountAfter (s.chip.w (page + 0x02C)) data)).taken (page + 0x02C))) :=
  exec_of_headerWrite (exec_errCountClear mst page data s) hpage hdata (by decide) hw rfl rfl rfl

/-- The module after a write of CTRL: the event counters clear with CNT_CLR (R58). -/
def Chip.ctrlCounters (c : Chip) (page data : Nat) : Chip :=
  if bit data 30 then foldOver (List.range 47) (fun n c => c.setw (page + 0x044 + 4 * n) 0) c else c

/-- LAT_MAX of MEM[0] clears with its counters (R385). -/
def Chip.ctrlLatMax (c : Chip) (page data : Nat) : Chip :=
  if bit data 30 = true ∧ page = P.MEM then foldOver (List.range 8) (fun p c => c.set (F.MEM0_LAT_MAX_NS.ix p) 0) c else c

/-- CAL holds its mode bits in CTRL (R516). -/
def Chip.ctrlModeBits (c : Chip) (page data : Nat) : Chip :=
  if blockOf page = 18 then c.setw (page + 0x008) (BitVec.ofNat 32 (data % 4)) else c

/-- RESET asks for a block reset at the next commit, but for KPR and PWR (R57). -/
def Chip.ctrlReset (c : Chip) (page data : Nat) : Chip :=
  if bit data 31 = true ∧ blockOf page ≠ 14 ∧ blockOf page ≠ 20
    then { c with regs := { c.regs with inReset := putLast c.regs.inReset page } } else c

/-- All that a write of CTRL changes outside MBX. -/
def Chip.ctrlAfter (c : Chip) (page data : Nat) : Chip :=
  (((c.ctrlCounters page data).ctrlLatMax page data).ctrlModeBits page data).ctrlReset page data

theorem Chip.ctrlWrite_eq (c : Chip) (mst : Master) (page data : Nat) (hmbx : blockOf page ≠ 15) :
    c.ctrlWrite mst page data = (.ok, c.ctrlAfter page data) := by
  have hcounters : (if bit data 30 then
      (foldOver (List.range 47) (fun n c => c.setw (page + 0x044 + 4 * n) 0) c).when (decide (page = P.MEM))
        (fun c => foldOver (List.range 8) (fun p c => c.set (F.MEM0_LAT_MAX_NS.ix p) 0) c)
      else c) = (c.ctrlCounters page data).ctrlLatMax page data := by
    unfold Chip.ctrlCounters Chip.ctrlLatMax Chip.when
    by_cases hclr : bit data 30 = true <;> by_cases hmem : page = P.MEM <;> simp [hclr, hmem]
  unfold Chip.ctrlWrite
  simp only [hcounters, if_neg hmbx]
  rw [Chip.ctrlAfter]
  unfold Chip.ctrlReset Chip.ctrlModeBits
  by_cases hreset : bit data 31 = true
  · by_cases hkept : blockOf page = 14 ∨ blockOf page = 20
    · rcases hkept with hkpr | hpwr
      · simp [hreset, hkpr]
      · simp [hreset, hpwr]
    · obtain ⟨hkpr, hpwr⟩ := not_or.mp hkept
      simp [hreset, hkpr, hpwr]
  · simp [hreset]

/-- What none of the four changes of a CTRL write moves, the write does not move. -/
theorem Chip.ctrlAfter_keeps {γ : Type} (g : Chip → γ) (hset : ∀ c k v, g (Chip.setw c k v) = g c)
    (hreset : ∀ (c : Chip) l, g { c with regs := { c.regs with inReset := l } } = g c) (c : Chip) (page data : Nat) :
    g (c.ctrlAfter page data) = g c := by
  have hcounters : g (c.ctrlCounters page data) = g c := by
    unfold Chip.ctrlCounters
    split
    · exact foldOver_keeps g _ (fun n c => hset c _ _) _ _
    · rfl
  have hlat : ∀ c : Chip, g (c.ctrlLatMax page data) = g c := fun c => by
    unfold Chip.ctrlLatMax
    split
    · exact foldOver_keeps g _ (fun p c => hset c _ _) _ _
    · rfl
  have hmode : ∀ c : Chip, g (c.ctrlModeBits page data) = g c := fun c => by
    unfold Chip.ctrlModeBits
    split
    · exact hset _ _ _
    · rfl
  have hlast : ∀ c : Chip, g (c.ctrlReset page data) = g c := fun c => by
    unfold Chip.ctrlReset
    split
    · exact hreset _ _
    · rfl
  exact (hlast _).trans ((hmode _).trans ((hlat _).trans hcounters))

/-- COUNTER_CLEAR and BLOCK_RESET_REQUEST are both a write of CTRL. -/
theorem exec_ctrlWrite_taken {i : Instr} (mst : Master) (page data : Nat) (s : State) (hpage : page % 4096 = 0)
    (hdata : data < 2 ^ 32) (hi : i = .counterClear mst page data ∨ i = .blockResetRequest mst page data)
    (hw : s.chip.takesWrite mst (page + 0x008)) (hmbx : blockOf page ≠ 15) :
    exec i s = .next (s.became ((s.chip.quiet.ctrlAfter page data).taken (page + 0x008))) := by
  have hrun : exec i s = s.run (fun m c => c.regWrite mst (page + 0x008) data m) := by
    rcases hi with rfl | rfl
    · exact exec_counterClear mst page data s
    · exact exec_blockResetRequest mst page data s
  exact exec_of_headerWrite hrun hpage hdata (by decide) hw (congrArg some (s.chip.quiet.ctrlWrite_eq mst page data hmbx))
    (Chip.ctrlAfter_keeps Chip.hlk (fun _ _ _ => rfl) (fun _ _ => rfl) _ _ _)
    (Chip.ctrlAfter_keeps Chip.out (fun _ _ _ => rfl) (fun _ _ => rfl) _ _ _)

/-! ### IN_RESET (R56, R57) -/

theorem bit_zero_withBit_zero (n : Nat) (b : Bool) : bit (withBit n 0 b) 0 = b := by
  unfold withBit
  by_cases hn : n % 2 = 1 <;> cases b <;> simp [bit, hn] <;> omega

/-- Setting or clearing a higher bit leaves bit 0. -/
theorem bit_zero_withBit (n i : Nat) (b : Bool) (h : 0 < i) : bit (withBit n i b) 0 = bit n 0 := by
  obtain ⟨p, hp⟩ : ∃ p, 2 ^ i = 2 * p := ⟨2 ^ (i - 1), by rw [← pow_succ']; congr 1; omega⟩
  have hset : bit n i = true → 2 * p ≤ n := fun hb => by
    by_contra hlt
    have : n / 2 ^ i = 0 := Nat.div_eq_of_lt (by omega)
    simp [bit, this] at hb
  have hparity : withBit n i b % 2 = n % 2 := by
    unfold withBit
    simp only [hp]
    by_cases hb : bit n i = true
    · have := hset hb
      cases b with
      | false => simp only [hb, if_true, Bool.false_eq_true, if_false]; omega
      | true => simp only [hb, if_true]; omega
    · cases b with
      | false => simp only [hb, Bool.false_eq_true, if_false]
      | true => simp only [hb, if_true, Bool.false_eq_true, if_false]; omega
  simp only [bit, pow_zero, Nat.div_one, hparity]

theorem Chip.statusWord_inReset (c : Chip) (page : Nat) :
    bit (c.statusWord page) 0 = c.regs.inReset.contains page := by
  unfold Chip.statusWord
  extract_lets w mirrored degraded
  have hmirrored : bit mirrored 0 = c.regs.inReset.contains page :=
    (bit_zero_withBit _ 1 _ (by decide)).trans (bit_zero_withBit_zero _ _)
  have hdegraded : bit degraded 0 = c.regs.inReset.contains page := by
    simp only [degraded]
    split
    · exact (bit_zero_withBit _ 2 _ (by decide)).trans hmirrored
    · exact hmirrored
  split
  · exact (bit_zero_withBit _ 3 _ (by decide)).trans hdegraded
  · split
    · exact (bit_zero_withBit _ 4 _ (by decide)).trans ((bit_zero_withBit _ 3 _ (by decide)).trans hdegraded)
    · exact hdegraded

/-- Settles O1: a header write that is taken leaves its register's meaning (`exec_of_headerWrite`); that of CTRL is
`Chip.ctrlAfter`, and IN_RESET reads off the list of resets that wait (`Chip.statusWord_inReset`). -/
theorem headerWritesClear : Obligations.HeaderWritesClear := by
  unfold Obligations.HeaderWritesClear
  intro mst page data s hpage hdata
  refine ⟨exec_budgetMaxClr_taken mst page data s hpage hdata, exec_errInfoClear_taken mst page data s hpage hdata,
    exec_errCountClear_taken mst page data s hpage hdata, ?ctrl, ?reset⟩
  case ctrl =>
    rintro i hi hw hmbx _ rfl _ rfl _ rfl
    exact exec_ctrlWrite_taken mst page data s hpage hdata hi hw hmbx
  case reset =>
    intro hw hclr hreset hcal hmbx hkpr hpwr
    refine ⟨_, exec_ctrlWrite_taken mst page data s hpage hdata (.inr rfl) hw hmbx, ?_⟩
    have hafter : s.chip.quiet.ctrlAfter page data = { s.chip.quiet with regs := { s.chip.regs with
        inReset := putLast s.chip.regs.inReset page } } := by
      simp [Chip.ctrlAfter, Chip.ctrlCounters, Chip.ctrlLatMax, Chip.ctrlModeBits, Chip.ctrlReset, hclr, hreset, hcal, hkpr,
        hpwr]
    rw [hafter]
    refine ⟨?_, rfl, fun k _ => ⟨rfl, rfl, rfl⟩, fun _ => rfl⟩
    rw [Chip.statusWord_inReset]
    simp [State.became, Chip.taken, putLast]

end Sys2Proof.Machine

namespace Sys2Proof.Machine

/-! ### What one error event writes in its page (R46 to R49) -/

/-- A capture writes no header word but the three of the record. -/
theorem Chip.capture_w_other (c : Chip) (page : Nat) (cls : ErrClass) (code : Code) (cell kind addr k : Nat)
    (hinfo : k ≠ page + 0x20) (hlo : k ≠ page + 0x24) (hhi : k ≠ page + 0x28) :
    (c.capture page cls code cell kind addr).w k = c.w k := by
  have hladder : ∀ (d : Chip) (l : Ladder), ({ d with ladder := l } : Chip).w k = d.w k := fun _ _ => rfl
  have hreplace : ∀ (d : Chip) (old : Word) (e : LogEntry), (d.logReplace old e).w k = d.w k := fun _ _ _ => rfl
  have hwords : ∀ i l u : Word, (((c.setw (page + 0x20) i).setw (page + 0x24) l).setw (page + 0x28) u).w k = c.w k := by
    intro i l u
    rw [Chip.w_setw_other _ _ _ _ hhi, Chip.w_setw_other _ _ _ _ hlo, Chip.w_setw_other _ _ _ _ hinfo]
  unfold Chip.capture
  dsimp only
  split
  · split
    · exact (hladder _ _).trans (hwords _ _ _)
    · split
      · exact (hreplace _ _ _).trans ((hladder _ _).trans (hwords _ _ _))
      · exact (Chip.logAppend_w _ _ _).trans ((hladder _ _).trans (hwords _ _ _))
  · exact Chip.w_setw_other _ _ _ _ hinfo

theorem Chip.regionEvt_w_other (c : Chip) (r k : Nat) (h : k ≠ (F.KPR_REGION_SUM_REGION_EVT.ix r).key) :
    (c.regionEvt r).w k = c.w k := by
  unfold Chip.regionEvt
  dsimp only
  split
  · rfl
  · exact (Chip.deliverRise_w _ _ _).trans (Chip.w_set_other _ _ _ _ h)

theorem Chip.chipEvt_w_other (c : Chip) (k : Nat) (h : k ≠ K.KPR_CHIP_INT) : c.chipEvt.w k = c.w k := by
  unfold Chip.chipEvt
  split
  · rfl
  · exact (Chip.deliverRise_w _ _ _).trans (Chip.w_set_other _ _ _ _ h)

/-- Beside the captured record and ERR_COUNT, an event writes INT_RAW of its page and the roll-up bits of KPR alone. -/
theorem Chip.record_w_other (c : Chip) (page : Nat) (cls : ErrClass) (code : Code) (cell kind addr k : Nat)
    (hraw : k ≠ page + 0x10) (hchip : k ≠ K.KPR_CHIP_INT) (hregion : ∀ r < 4, k ≠ K.KPR_REGION_SUM + r * 4) :
    (c.record page cls code cell kind addr).w k = ((c.capture page cls code cell kind addr).errCount page cls).w k := by
  have hirq : ∀ d : Chip, (d.irq page (classCode cls)).w k = d.w k := fun d => d.irq_w_other page _ k hraw
  cases cls with
  | corr => exact hirq _
  | cont => exact hirq _
  | isol => exact (Chip.regionEvt_w_other _ _ k (hregion _ (regionOf_lt _))).trans (hirq _)
  | fatal => exact (Chip.chipEvt_w_other _ k hchip).trans (hirq _)

/-- The same for a header word, of whatever page: no roll-up bit lies in a header. -/
theorem Chip.record_w_header (c : Chip) (page : Nat) (cls : ErrClass) (code : Code) (cell kind addr off : Nat)
    (hpage : page % 4096 = 0) (hoff : off < 0x100) (hraw : off ≠ 0x10) :
    (c.record page cls code cell kind addr).w (page + off)
      = ((c.capture page cls code cell kind addr).errCount page cls).w (page + off) :=
  Chip.record_w_other c page cls code cell kind addr (page + off) (by omega) (by simp only [K.KPR_CHIP_INT]; omega)
    (fun r hr => by simp only [K.KPR_REGION_SUM]; omega)

/-! ### ERR_COUNT (R49) -/

/-- The half of ERR_COUNT that counts a class. -/
def errHalf (page : Nat) (cls : ErrClass) : Fld := if cls = .corr then ⟨page + 0x02C, 0, 16, 4⟩ else ⟨page + 0x02C, 16, 16, 4⟩

theorem Chip.errCount_eq (c : Chip) (page : Nat) (cls : ErrClass) : c.errCount page cls = c.incSat (errHalf page cls) := rfl

/-- A saturating 16-bit count. -/
theorem Chip.get_incSat_same (c : Chip) (f : Fld) (h : f.lo + f.wd ≤ 32) :
    (c.incSat f).get f = min (c.get f + 1) (2 ^ f.wd - 1) := by
  have hpos := Nat.two_pow_pos f.wd
  unfold Chip.incSat
  rw [c.get_set_same f _ h, Nat.mod_eq_of_lt (by omega)]

/-- What ERR_COUNT comes to depends on ERR_COUNT alone. -/
theorem Chip.errCount_congr (c d : Chip) (page : Nat) (cls : ErrClass) (h : c.w (page + 0x02C) = d.w (page + 0x02C)) :
    (c.errCount page cls).w (page + 0x02C) = (d.errCount page cls).w (page + 0x02C) := by
  have hkey : (errHalf page cls).key = page + 0x02C := by cases cls <;> rfl
  simp only [Chip.errCount_eq, Chip.incSat, Chip.set, Chip.get, hkey, Chip.w_setw_same, h]

/-- An event counts once, by the class at which it ends. -/
theorem Chip.event_errCount (c : Chip) (page : Nat) (cls : ErrClass) (code : Code) (cell kind addr : Nat) (replan : Bool)
    (hpage : page % 4096 = 0) : (c.event page cls code cell kind addr replan).w (page + 0x02C)
      = (c.errCount page (c.eventClass page cls code replan)).w (page + 0x02C) := by
  refine (Chip.record_w_header _ page _ _ cell kind addr 0x02C hpage (by decide) (by decide)).trans ?_
  apply Chip.errCount_congr
  exact Chip.capture_w_other _ page _ _ cell kind addr _ (by omega) (by omega) (by omega)

theorem Chip.get_errCount_corr (c : Chip) (page : Nat) (cls : ErrClass) :
    (c.errCount page cls).get ⟨page + 0x02C, 0, 16, 4⟩
      = if cls = .corr then min (c.get ⟨page + 0x02C, 0, 16, 4⟩ + 1) 0xFFFF else c.get ⟨page + 0x02C, 0, 16, 4⟩ := by
  rw [Chip.errCount_eq, errHalf]
  split
  · exact c.get_incSat_same _ (by simp)
  · exact c.get_set_apart _ _ _ (by simp) (by simp)

theorem Chip.get_errCount_uncorrected (c : Chip) (page : Nat) (cls : ErrClass) :
    (c.errCount page cls).get ⟨page + 0x02C, 16, 16, 4⟩
      = if cls = .corr then c.get ⟨page + 0x02C, 16, 16, 4⟩ else min (c.get ⟨page + 0x02C, 16, 16, 4⟩ + 1) 0xFFFF := by
  rw [Chip.errCount_eq, errHalf]
  split
  · exact c.get_set_apart _ _ _ (by simp) (by simp)
  · exact c.get_incSat_same _ (by simp)

/-- The halves of ERR_COUNT after a write of it. -/
theorem errCountAfter_halves (old : Word) (data key : Nat) :
    fldGet (errCountAfter old data) ⟨key, 0, 16, 4⟩ = (if data % 65536 = 0 then fldGet old ⟨key, 0, 16, 4⟩ else 0)
      ∧ fldGet (errCountAfter old data) ⟨key, 16, 16, 4⟩ = (if data / 65536 = 0 then fldGet old ⟨key, 16, 16, 4⟩ else 0) := by
  have hold := old.isLt
  simp only [fldGet, errCountAfter, BitVec.toNat_ofNat]
  constructor <;> split <;> split <;> omega

/-- A register that takes a write and holds the new word, and nothing else changed. -/
theorem onlyRegs_taken_setw (s : State) (key : Nat) (v : Word) :
    onlyRegs [key] s (s.became ((s.chip.quiet.setw key v).taken key)) := by
  refine ⟨fun k hk => ⟨Chip.w_setw_other s.chip.quiet _ _ _ (by simpa using hk), rfl, rfl⟩, fun _ => rfl, fun _ => rfl, rfl,
    fun k hk => ?_, fun _ => rfl, rfl⟩
  have hne : k ≠ key := by simpa using hk
  simp [State.became, Chip.taken, hne]

theorem errCountClear_halves (mst : Master) (page data : Nat) (s : State) (hpage : page % 4096 = 0) (hdata : data < 2 ^ 32)
    (hw : s.chip.takesWrite mst (page + 0x02C)) : completes (.errCountClear mst page data) s (fun t =>
      t.chip.get ⟨page + 0x02C, 0, 16, 4⟩ = (if data % 65536 = 0 then s.chip.get ⟨page + 0x02C, 0, 16, 4⟩ else 0)
        ∧ t.chip.get ⟨page + 0x02C, 16, 16, 4⟩ = (if data / 65536 = 0 then s.chip.get ⟨page + 0x02C, 16, 16, 4⟩ else 0)
        ∧ onlyRegs [page + 0x02C] s t) := by
  refine ⟨_, exec_errCountClear_taken mst page data s hpage hdata hw, ?_⟩
  obtain ⟨hcorr, hunc⟩ := errCountAfter_halves (s.chip.w (page + 0x02C)) data (page + 0x02C)
  have hword := s.chip.quiet.w_setw_same (page + 0x02C) (errCountAfter (s.chip.w (page + 0x02C)) data)
  exact ⟨(congrArg (fldGet · _) hword).trans hcorr, (congrArg (fldGet · _) hword).trans hunc, onlyRegs_taken_setw s _ _⟩

/-- Settles O7: ERR_COUNT after an event is what `Chip.errCount` at the class of `Chip.eventClass` makes of it
(`Chip.event_errCount`), and after a write `errCountAfter`. -/
theorem errCountHalves : Obligations.ErrCountHalves := by
  unfold Obligations.ErrCountHalves
  refine ⟨fun c page cell kind addr cls code replan hpage => ?_, errCountClear_halves⟩
  have hword := c.event_errCount page cls code cell kind addr replan hpage
  exact ⟨(congrArg (fldGet · _) hword).trans (c.get_errCount_corr page _),
    (congrArg (fldGet · _) hword).trans (c.get_errCount_uncorrected page _)⟩

end Sys2Proof.Machine

namespace Sys2Proof.Machine

/-! ### The record of an event that finds none (R46 to R48) -/

/-- What an event captures in an empty record. -/
theorem Chip.capture_empty (c : Chip) (page : Nat) (cls : ErrClass) (code : Code) (cell kind addr : Nat)
    (hempty : bit (c.w (page + 0x20)).toNat 4 = false) :
    (c.capture page cls code cell kind addr).w (page + 0x20)
        = BitVec.ofNat 32 (classCode cls + 4 * classCode cls + 16 + code.value * 256 + cell % 4096 * 65536)
      ∧ (c.capture page cls code cell kind addr).w (page + 0x24) = BitVec.ofNat 32 addr
      ∧ (c.capture page cls code cell kind addr).w (page + 0x28)
        = BitVec.ofNat 32 ((if kind = 1 then addr / 2 ^ 32 % 256 else 0) + kind * 256 + c.tick.field % 65536 * 65536) := by
  have houter : ∀ (d : Chip) (l : Ladder) (k : Nat), ({ d with ladder := l } : Chip).w k = d.w k := fun _ _ _ => rfl
  have hlog : ∀ (d : Chip) (e : LogEntry) (k : Nat), (if cls = .corr then d else d.logAppend e).w k = d.w k := fun d e k => by
    split
    · rfl
    · exact d.logAppend_w e k
  unfold Chip.capture
  simp only [hempty, Bool.not_false, Bool.true_or, if_true, Bool.and_false, Bool.false_and, Bool.false_eq_true, if_false,
    hlog, houter, Nat.add_zero]
  refine ⟨?_, ?_, Chip.w_setw_same _ _ _⟩
  · rw [Chip.w_setw_other _ _ _ _ (by omega), Chip.w_setw_other _ _ _ _ (by omega), Chip.w_setw_same]
  · rw [Chip.w_setw_other _ _ _ _ (by omega), Chip.w_setw_same]

/-- The record words of a page after an event that found the record empty and ended at `cls'` with `code'`. -/
theorem Chip.event_empty (c : Chip) (page : Nat) (cls cls' : ErrClass) (code code' : Code) (n : PageCount)
    (cell kind addr : Nat) (rp : Bool) (hpage : page % 4096 = 0) (hempty : bit (c.w (page + 0x20)).toNat 4 = false)
    (hclimb : c.climbed page cls code rp = (cls', code', n)) :
    (c.event page cls code cell kind addr rp).w (page + 0x20)
        = BitVec.ofNat 32 (classCode cls' + 4 * classCode cls' + 16 + code'.value * 256 + cell % 4096 * 65536)
      ∧ (c.event page cls code cell kind addr rp).w (page + 0x24) = BitVec.ofNat 32 addr
      ∧ (c.event page cls code cell kind addr rp).w (page + 0x28)
        = BitVec.ofNat 32 ((if kind = 1 then addr / 2 ^ 32 % 256 else 0) + kind * 256 + c.tick.field % 65536 * 65536) := by
  have hkeep : ∀ (d : Chip) (off : Nat), off < 0x100 → off ≠ 0x10 → off ≠ 0x2C →
      (d.record page cls' code' cell kind addr).w (page + off) = (d.capture page cls' code' cell kind addr).w (page + off) :=
    fun d off hoff hraw hcount => (d.record_w_header page cls' code' cell kind addr off hpage hoff hraw).trans
      (Chip.errCount_w_other _ page cls' _ (by omega))
  unfold Chip.event
  simp only [hclimb]
  rw [hkeep _ _ (by decide) (by decide) (by decide), hkeep _ _ (by decide) (by decide) (by decide),
    hkeep _ _ (by decide) (by decide) (by decide)]
  exact Chip.capture_empty _ page cls' code' cell kind addr hempty

/-- A FATAL event ends as it began. -/
theorem Chip.climbed_fatal (c : Chip) (page : Nat) (code : Code) (rp : Bool) :
    c.climbed page .fatal code rp = (.fatal, code, c.pageCount page) := rfl

/-! ### The FATAL event that waits for the next tick (R45) -/

theorem Chip.hostRise_ladder (c : Chip) (h : Nat) : (c.hostRise h).ladder = c.ladder := by
  unfold Chip.hostRise
  split <;> rfl

@[simp] theorem Chip.deliverRise_ladder (c : Chip) (b : Nat) : (c.deliverRise b).ladder = c.ladder := by
  simp only [Chip.deliverRise]
  split <;> split <;> simp [Chip.hostRise_ladder]

@[simp] theorem Chip.irq_ladder (c : Chip) (page i : Nat) : (c.irq page i).ladder = c.ladder := by
  simp only [Chip.irq, Chip.raise, Chip.intChange]
  split <;> simp

@[simp] theorem Chip.regionEvt_ladder (c : Chip) (r : Nat) : (c.regionEvt r).ladder = c.ladder := by
  simp only [Chip.regionEvt]
  split <;> simp

@[simp] theorem Chip.chipEvt_ladder (c : Chip) : c.chipEvt.ladder = c.ladder := by
  unfold Chip.chipEvt
  split <;> simp

@[simp] theorem Chip.logAppend_ladder (c : Chip) (e : LogEntry) : (c.logAppend e).ladder = c.ladder := by
  unfold Chip.logAppend
  split
  · rfl
  · split <;> rfl

@[simp] theorem Chip.errCount_ladder (c : Chip) (page : Nat) (cls : ErrClass) : (c.errCount page cls).ladder = c.ladder := rfl

theorem Chip.capture_fatal (c : Chip) (page : Nat) (cls : ErrClass) (code : Code) (cell kind addr : Nat) :
    (c.capture page cls code cell kind addr).ladder.fatal = c.ladder.fatal := by
  unfold Chip.capture
  dsimp only
  split
  · split
    · rfl
    · split
      · rfl
      · rw [Chip.logAppend_ladder]
        rfl
  · rfl

/-- Only a FATAL event is kept for the next tick, and the first one stands. -/
theorem Chip.record_fatal (c : Chip) (page : Nat) (cls : ErrClass) (code : Code) (cell kind addr : Nat) :
    (c.record page cls code cell kind addr).ladder.fatal
      = if cls = .fatal then some (c.ladder.fatal.getD ⟨page, code.value⟩) else c.ladder.fatal := by
  have hcounted : (((c.capture page cls code cell kind addr).errCount page cls).irq page (classCode cls)).ladder.fatal
      = c.ladder.fatal := by
    rw [Chip.irq_ladder, Chip.errCount_ladder, Chip.capture_fatal]
  cases cls with
  | corr => exact hcounted
  | cont => exact hcounted
  | isol => exact (congrArg Ladder.fatal (Chip.regionEvt_ladder _ _)).trans hcounted
  | fatal =>
    simp only [Chip.record, Chip.chipEvt_ladder, reduceCtorEq, if_false, hcounted, if_true]
    cases c.ladder.fatal <;> rfl

/-! ### Register parity (R66) -/

/-- No event decides whether the firmware runs: BOOT_STATUS is neither a header word nor a roll-up. -/
theorem Chip.event_firmware (c : Chip) (page : Nat) (cls : ErrClass) (code : Code) (cell kind addr : Nat) (rp : Bool)
    (hpage : page % 4096 = 0) : (c.event page cls code cell kind addr rp).firmware = c.firmware := by
  have hstep : (c.event page cls code cell kind addr rp).w K.KPR_BOOT_STATUS = c.w K.KPR_BOOT_STATUS := by
    have hkey : ∀ off < 0x100, K.KPR_BOOT_STATUS ≠ page + off := fun off ho => by simp only [K.KPR_BOOT_STATUS]; omega
    refine (Chip.record_w_other _ page _ _ cell kind addr _ (hkey _ (by decide)) (by decide) (by decide)).trans ?_
    refine (Chip.errCount_w_other _ page _ _ (hkey _ (by decide))).trans ?_
    exact Chip.capture_w_other _ page _ _ cell kind addr _ (hkey _ (by decide)) (hkey _ (by decide)) (hkey _ (by decide))
  have hget : (c.event page cls code cell kind addr rp).get F.KPR_BOOT_STATUS_STEP = c.get F.KPR_BOOT_STATUS_STEP :=
    congrArg (fldGet · _) hstep
  simp only [Chip.firmware, Chip.blockOn, hget, Chip.event_blocksOn, Chip.event_modes, Chip.event_kpr, Chip.event_mode]

/-- The event of a register parity error: FATAL in SEC, APL and PWR, else CONT. -/
def Chip.parityEvent (c : Chip) (page off : Nat) : Chip :=
  c.event page (if blockOf page = 12 ∨ blockOf page = 13 ∨ blockOf page = 20 then .fatal else .cont) .parity 0xFFF 2 off

/-- The module after a register parity error: the event, and the register marked unless the firmware mends it. -/
def Chip.parityMarked (c : Chip) (page off : Nat) : Chip :=
  { c.parityEvent page off with regs := { (c.parityEvent page off).regs with
      badParity := (c.parityEvent page off).regs.badParity.filter (· ≠ page + off)
        ++ (if blockOf page ≠ 12 ∧ blockOf page ≠ 13 ∧ blockOf page ≠ 20 ∧ c.firmware = true then [] else [page + off]) } }

theorem Chip.registerParity_eq (c : Chip) (page off : Nat) (hpage : page % 4096 = 0) :
    c.registerParity page off = c.parityMarked page off := by
  have hfatal : (decide (blockOf page = 12) || decide (blockOf page = 13) || decide (blockOf page = 20)) = true
      ↔ blockOf page = 12 ∨ blockOf page = 13 ∨ blockOf page = 20 := by simp [or_assoc]
  have hmended : (!(decide (blockOf page = 12) || decide (blockOf page = 13) || decide (blockOf page = 20))
      && c.firmware) = true
      ↔ blockOf page ≠ 12 ∧ blockOf page ≠ 13 ∧ blockOf page ≠ 20 ∧ c.firmware = true := by simp [and_assoc]
  unfold Chip.registerParity Chip.parityMarked Chip.parityEvent
  simp only [hfatal, Chip.event_firmware _ _ _ _ _ _ _ _ hpage, hmended]
  by_cases hm : blockOf page ≠ 12 ∧ blockOf page ≠ 13 ∧ blockOf page ≠ 20 ∧ c.firmware = true
  · simp only [if_pos hm, List.append_nil]
  · simp only [if_neg hm]

theorem exec_registerParityError_marked (page off : Nat) (s : State) (hpage : page % 4096 = 0) :
    exec (.registerParityError page off) s = .next (s.became (s.chip.quiet.parityMarked page off)) := by
  rw [exec_registerParityError]
  exact s.run_pure _ _ (s.chip.quiet.registerParity_eq page off hpage) (Chip.event_out _ _ _ _ _ _ _ _)

/-- The record and the waiting FATAL event after a parity error that found the record empty, and what it leaves. -/
theorem registerParityError_records (page off : Nat) (cls : ErrClass) (n : PageCount) (s : State) (hpage : page % 4096 = 0)
    (hempty : bit (s.chip.w (page + 0x20)).toNat 4 = false)
    (hcls : (if blockOf page = 12 ∨ blockOf page = 13 ∨ blockOf page = 20 then ErrClass.fatal else .cont) = cls)
    (hclimb : s.chip.quiet.climbed page cls .parity (Config.replanExists page) = (cls, .parity, n)) :
    completes (.registerParityError page off) s (fun t =>
      t.chip.w (page + 0x20) = BitVec.ofNat 32 (classCode cls + 4 * classCode cls + 16 + 256 + 0xFFF * 65536)
        ∧ t.chip.w (page + 0x24) = BitVec.ofNat 32 off
        ∧ t.chip.w (page + 0x28) = BitVec.ofNat 32 (512 + s.chip.tick.field % 65536 * 65536)
        ∧ t.chip.ladder.fatal
          = (if cls = .fatal then some (s.chip.ladder.fatal.getD ⟨page, 1⟩) else s.chip.ladder.fatal)
        ∧ t.chip.mode = s.chip.mode ∧ memKept s t) := by
  obtain ⟨hinfo, hlo, hhi⟩ := s.chip.quiet.event_empty page cls cls .parity .parity n 0xFFF 2 off
    (Config.replanExists page) hpage hempty hclimb
  have hfatal : (s.chip.quiet.event page cls .parity 0xFFF 2 off).ladder.fatal
      = if cls = .fatal then some (s.chip.ladder.fatal.getD ⟨page, 1⟩) else s.chip.ladder.fatal := by
    unfold Chip.event
    simp only [hclimb]
    exact Chip.record_fatal _ page cls .parity 0xFFF 2 off
  have hevent : s.chip.quiet.parityEvent page off = s.chip.quiet.event page cls .parity 0xFFF 2 off := by
    simp only [Chip.parityEvent, hcls]
  refine ⟨_, exec_registerParityError_marked page off s hpage, ?_⟩
  rw [Chip.parityMarked, hevent]
  refine ⟨hinfo, hlo, hhi.trans (congrArg (BitVec.ofNat 32) (by simp)), hfatal, Chip.event_mode _ _ _ _ _ _ _ _, fun _ => rfl⟩

/-- Settles O5: the command is the event and the mark (`Chip.registerParity_eq`); what it records follows from the class at
which the event ends (`Chip.climbed_fatal`, `Chip.climbed_cont`). -/
theorem registerParityErrorIsRecorded : Obligations.RegisterParityErrorIsRecorded := by
  unfold Obligations.RegisterParityErrorIsRecorded
  intro page off s hpage _
  refine ⟨⟨_, rfl, exec_registerParityError_marked page off s hpage⟩, fun hempty hblock => ?fatal,
    fun hempty hlim h12 h13 h20 => ?cont⟩
  case fatal =>
    exact registerParityError_records page off .fatal _ s hpage hempty (if_pos hblock) (Chip.climbed_fatal _ _ _ _)
  case cont =>
    exact registerParityError_records page off .cont _ s hpage hempty (if_neg (by simp [h12, h13, h20]))
      (Chip.climbed_cont _ _ _ _ hlim)

end Sys2Proof.Machine

namespace Sys2Proof.Machine

/-! ### What a mode change shows, and what leaves it as it is -/

/-- What the statements about mode changes read: the mode and its report, the dark sequence, the FATAL event that waits,
the powered blocks, SCN's STATUS with the raster's bit, and the stores of the step. -/
structure ModeView where
  mode : Mode
  report : Word
  dark : Option DarkSeq
  fatal : Option FatalEvent
  blocksOn : List Nat
  scnStatus : Word
  out : List MemOp

def Chip.modeView (c : Chip) : ModeView :=
  ⟨c.mode, c.w K.KPR_MODE_STATUS, c.modes.dark, c.ladder.fatal, c.blocksOn, c.w (P.SCN + 0x00C), c.out⟩

/-- The two registers of the view. -/
abbrev modeKey (k : Nat) : Prop := k = K.KPR_MODE_STATUS ∨ k = P.SCN + 0x00C

theorem not_modeKey_above (k : Nat) (h : 0xF00000 ≤ k) : ¬ modeKey k := by
  simp only [modeKey, K.KPR_MODE_STATUS, P.SCN]
  omega

theorem not_modeKey_of_block (k : Nat) (h9 : blockOf k ≠ 9) (h14 : blockOf k ≠ 14) : ¬ modeKey k := by
  rintro (rfl | rfl)
  · exact h14 rfl
  · exact h9 rfl

/-- A change that moves no register of the view, and nothing else of it. -/
theorem Chip.modeView_of_kept {c d : Chip} (hmode : d.mode = c.mode) (hdark : d.modes.dark = c.modes.dark)
    (hfatal : d.ladder.fatal = c.ladder.fatal) (hblocks : d.blocksOn = c.blocksOn) (hout : d.out = c.out)
    (hw : ∀ k, modeKey k → d.w k = c.w k) : d.modeView = c.modeView := by
  simp only [Chip.modeView, hmode, hdark, hfatal, hblocks, hout, hw _ (.inl rfl), hw _ (.inr rfl)]

theorem Chip.setw_modeView (c : Chip) (k : Nat) (v : Word) (h : ¬ modeKey k) : (c.setw k v).modeView = c.modeView :=
  Chip.modeView_of_kept rfl rfl rfl rfl rfl (fun _ hj => Chip.w_setw_other _ _ _ _ (fun e => h (e ▸ hj)))

theorem Chip.set_modeView (c : Chip) (f : Fld) (v : Nat) (h : ¬ modeKey f.key) : (c.set f v).modeView = c.modeView :=
  c.setw_modeView _ _ h

theorem Chip.count_modeView (c : Chip) (page i n : Nat) (h : ¬ modeKey (page + 0x44 + 4 * i)) :
    (c.count page i n).modeView = c.modeView := c.setw_modeView _ _ h

theorem Chip.irq_modeView (c : Chip) (page i : Nat) (h : ¬ modeKey (page + 0x10)) : (c.irq page i).modeView = c.modeView :=
  Chip.modeView_of_kept (c.irq_mode page i) (congrArg Modes.dark (c.irq_modes page i))
    (congrArg Ladder.fatal (c.irq_ladder page i)) (c.irq_blocksOn page i) (c.irq_out page i)
    (fun k hk => c.irq_w_other page i k (fun e => h (e ▸ hk)))

theorem Chip.when_modeView (c : Chip) (b : Bool) (f : Chip → Chip) (h : ∀ c, (f c).modeView = c.modeView) :
    (c.when b f).modeView = c.modeView := c.when_keeps Chip.modeView b f h

theorem Chip.whenIrq_modeView (c : Chip) (b : Bool) (page i : Nat) (h : ¬ modeKey (page + 0x10)) :
    (c.when b (fun c => c.irq page i)).modeView = c.modeView := c.when_modeView b _ (fun c => c.irq_modeView page i h)

theorem foldOver_modeView {α : Type} (f : α → Chip → Chip) (h : ∀ a c, (f a c).modeView = c.modeView) (l : List α) (c : Chip) :
    (foldOver l f c).modeView = c.modeView := foldOver_keeps Chip.modeView f h l c

@[simp] theorem Chip.mbxUp_modeView (c : Chip) (f : Mbx → Mbx) : (c.mbxUp f).modeView = c.modeView := rfl
@[simp] theorem Chip.tlkUp_modeView (c : Chip) (f : Tlk → Tlk) : (c.tlkUp f).modeView = c.modeView := rfl
@[simp] theorem Chip.aplUp_modeView (c : Chip) (f : Apl → Apl) : (c.aplUp f).modeView = c.modeView := rfl
@[simp] theorem Chip.hlkUp_modeView (c : Chip) (f : Hlk → Hlk) : (c.hlkUp f).modeView = c.modeView := rfl
@[simp] theorem Chip.timUp_modeView (c : Chip) (f : Tim → Tim) : (c.timUp f).modeView = c.modeView := rfl
@[simp] theorem Chip.pwrUp_modeView (c : Chip) (f : Pwr → Pwr) : (c.pwrUp f).modeView = c.modeView := rfl
@[simp] theorem Chip.kprUp_modeView (c : Chip) (f : Kpr → Kpr) : (c.kprUp f).modeView = c.modeView := rfl

/-- A change of the mode changes' own state that leaves the dark sequence. -/
theorem Chip.modesUp_modeView (c : Chip) (f : Modes → Modes) (h : (f c.modes).dark = c.modes.dark) :
    (c.modesUp f).modeView = c.modeView := Chip.modeView_of_kept rfl h rfl rfl rfl (fun _ _ => rfl)

/-! ### Frames on the tile link (R411, R412) -/

theorem Chip.tilePumpN_modeView (n : Nat) (c : Chip) (l : Nat) : (c.tilePumpN n l).modeView = c.modeView := by
  induction n generalizing c with
  | zero => rfl
  | succ n ih =>
    unfold Chip.tilePumpN
    dsimp only
    split
    · split
      · rfl
      · exact (ih _).trans rfl
    · rfl

theorem Chip.sendOn_modeView (c : Chip) (l kind id : Nat) (data : List Byte) :
    (c.sendOn l kind id data).modeView = c.modeView := by
  unfold Chip.sendOn
  dsimp only
  split
  · exact (Chip.tilePumpN_modeView _ _ _).trans rfl
  · rfl

theorem Chip.sendPlain_modeView (c : Chip) (l kind id : Nat) (data : List Byte) :
    (c.sendPlain l kind id data).modeView = c.modeView := by
  unfold Chip.sendPlain
  dsimp only
  split <;> rfl

theorem Chip.sendPort_modeView (c : Chip) (p kind id : Nat) (data : List Byte) :
    (c.sendPort p kind id data).modeView = c.modeView := by
  refine foldOver_modeView _ (fun l c => ?_) _ c
  split
  · exact c.sendOn_modeView l kind id data
  · exact c.sendPlain_modeView l kind id data

theorem Chip.sendDown_modeView (c : Chip) (kind id : Nat) (data : List Byte) :
    (c.sendDown kind id data).modeView = c.modeView := by
  unfold Chip.sendDown
  split
  · exact c.sendPort_modeView _ _ _ _
  · rfl

/-! ### Messages and resets of the mailboxes (R481 to R486) -/

theorem epPage_ge (e : Nat) : 0xF00000 ≤ epPage e := by
  simp only [epPage, mkPage]
  omega

/-- A register of the mailboxes' pages is none of the view. -/
theorem not_modeKey_epPage (e off : Nat) : ¬ modeKey (epPage e + off) :=
  not_modeKey_above _ (Nat.le_add_right_of_le (epPage_ge e))

theorem not_modeKey_chStatus (r s : Nat) : ¬ modeKey (chStatus r s) :=
  not_modeKey_above _ (Nat.le_add_right_of_le (Nat.le_add_right_of_le (epPage_ge r)))

theorem not_modeKey_dbKey (r s : Nat) : ¬ modeKey (dbKey r s) :=
  not_modeKey_above _ (Nat.le_add_right_of_le (Nat.le_add_right_of_le (epPage_ge r)))

theorem Chip.countEp_modeView (c : Chip) (e i n : Nat) : (c.count (epPage e) i n).modeView = c.modeView :=
  c.count_modeView _ _ _ (not_modeKey_above _ (Nat.le_add_right_of_le (Nat.le_add_right_of_le (epPage_ge e))))

theorem Chip.sendHalves_modeView (c : Chip) (e : Nat) (m : MbxMsg) : (c.sendHalves e m).modeView = c.modeView := by
  unfold Chip.sendHalves
  extract_lets k go
  have hgo : ∀ kind d (c : Chip), (go kind d c).modeView = c.modeView := fun kind d c => by
    simp only [go]
    split
    · exact c.sendPort_modeView _ _ _ _
    · split
      · exact c.sendPort_modeView _ _ _ _
      · exact c.sendDown_modeView _ _ _
  exact (hgo _ _ _).trans (hgo _ _ _)

theorem Chip.outboxSend_modeView (c : Chip) (e : Nat) : (c.outboxSend e).modeView = c.modeView := by
  unfold Chip.outboxSend
  split
  · rfl
  · split
    · rfl
    · split
      · exact (Chip.sendHalves_modeView _ _ _).trans rfl
      · rfl

theorem Chip.place_modeView (c : Chip) (r s far : Nat) (data : List Byte) : (c.place r s far data).modeView = c.modeView := by
  have hcounted : ∀ (d : Chip) l, ((d.setChan r s l).count (epPage r) 0).modeView = d.modeView := fun d l =>
    (Chip.countEp_modeView _ _ _ _).trans rfl
  unfold Chip.place
  dsimp only
  split
  · exact (Chip.irq_modeView _ _ _ (not_modeKey_epPage r _)).trans (hcounted _ _)
  · exact (Chip.outboxSend_modeView _ _).trans ((Chip.mbxUp_modeView _ _).trans (hcounted _ _))

theorem Chip.post_modeView (c : Chip) (s r far : Nat) (data : List Byte) : (c.post s r far data).2.2.modeView = c.modeView := by
  unfold Chip.post
  dsimp only
  split
  · rfl
  · split
    · rfl
    · split
      · exact c.countEp_modeView _ _ _
      · exact c.place_modeView _ _ _ _

theorem Chip.modeResult_modeView (c : Chip) (r : ModeRequest) (result : Nat) : (c.modeResult r result).modeView = c.modeView := by
  unfold Chip.modeResult Chip.keeperReply
  split
  · rfl
  · exact c.post_modeView _ _ _ _

theorem Chip.actingDone_modeView (c : Chip) : c.actingDone.modeView = c.modeView := by
  unfold Chip.actingDone
  split
  · exact (Chip.modeResult_modeView _ _ _).trans (c.modesUp_modeView _ rfl)
  · rfl

theorem Chip.preemptModes_modeView (c : Chip) : c.preemptModes.modeView = c.modeView := by
  unfold Chip.preemptModes
  extract_lets answer move answered
  have hanswer : ∀ (d : Chip) (r : Option ModeRequest), (answer d r).modeView = d.modeView := fun d r => by
    cases r with
    | none => rfl
    | some r => exact d.modeResult_modeView r 5
  have hanswered : answered.modeView = c.modeView := (hanswer _ _).trans ((hanswer _ _).trans (hanswer _ _))
  exact (Chip.tlkUp_modeView _ _).trans ((Chip.modesUp_modeView _ _ rfl).trans hanswered)

theorem Chip.ring_modeView (c : Chip) (r s bits : Nat) : (c.ring_ r s bits).modeView = c.modeView := by
  have hirq : ∀ (d : Chip) (b : Prop) [Decidable b] (i : Nat),
      (if b then d.irq (epPage r) i else d).modeView = d.modeView := fun d b _ i => by
    split
    · exact d.irq_modeView _ _ (not_modeKey_epPage r _)
    · rfl
  unfold Chip.ring_
  dsimp only
  exact (hirq _ _ _).trans ((hirq _ _ _).trans (Chip.setw_modeView _ _ _ (not_modeKey_dbKey r s)))

theorem Chip.notice_modeView (c : Chip) (e p : Nat) : (c.notice e p).modeView = c.modeView := by
  unfold Chip.notice
  split
  · exact c.ring_modeView _ _ _
  · rfl

theorem Chip.resetReceiver_modeView (c : Chip) (r : Nat) : (c.resetReceiver r).modeView = c.modeView := by
  unfold Chip.resetReceiver
  extract_lets one swept
  have hone : ∀ s d, (one s d).modeView = d.modeView := fun s d => by
    have hcounted : ∀ l n, ((d.setChan r s l).count (epPage r) 3 n).modeView = d.modeView := fun l n =>
      (Chip.countEp_modeView _ _ _ _).trans rfl
    simp only [one]
    split
    · rfl
    · split
      · exact (Chip.notice_modeView _ _ _).trans ((Chip.set_modeView _ _ _ (not_modeKey_chStatus s r)).trans (hcounted _ _))
      · exact hcounted _ _
  exact (Chip.mbxUp_modeView _ _).trans (foldOver_modeView one hone _ c)

theorem Chip.resetSender_modeView (c : Chip) (s : Nat) : (c.resetSender s).modeView = c.modeView := by
  unfold Chip.resetSender
  extract_lets one swept
  have hone : ∀ r d, (one r d).modeView = d.modeView := fun r d => by
    simp only [one]
    split
    · rfl
    · split
      · exact (Chip.notice_modeView _ _ _).trans ((Chip.set_modeView _ _ _ (not_modeKey_chStatus r s)).trans rfl)
      · rfl
  have hepoch : ¬ modeKey (epochFld s).key := not_modeKey_above _ (Nat.le_add_right_of_le (by decide))
  exact (Chip.set_modeView _ _ _ hepoch).trans (foldOver_modeView one hone _ c)

theorem Chip.epReset_modeView (c : Chip) (e : Nat) : (c.epReset e).modeView = c.modeView := by
  have hboth := (Chip.resetSender_modeView (c.resetReceiver e) e).trans (c.resetReceiver_modeView e)
  unfold Chip.epReset
  dsimp only
  split
  · exact (Chip.mbxUp_modeView _ _).trans hboth
  · exact hboth

end Sys2Proof.Machine

namespace Sys2Proof.Machine

/-! ### The layer stops (R351, R353) -/

theorem Chip.aplLast_modeView (c : Chip) (id status outcome : Nat) (late : Bool) :
    (c.aplLast id status outcome late).modeView = c.modeView := by
  unfold Chip.aplLast Chip.setB
  rw [Chip.set_modeView _ _ _ (by decide), Chip.set_modeView _ _ _ (by decide), Chip.set_modeView _ _ _ (by decide),
    Chip.set_modeView _ _ _ (by decide)]

theorem Chip.aplStatus_modeView (c : Chip) : c.aplStatus.modeView = c.modeView := by
  unfold Chip.aplStatus Chip.statusBit
  rw [Chip.set_modeView _ _ _ (by decide), Chip.set_modeView _ _ _ (by decide)]

theorem Chip.aplEntry_modeView (c : Chip) (r : AplRun) (e : AplEnd) (reversed : Bool) :
    (c.aplEntry r e reversed).modeView = c.modeView := by
  unfold Chip.aplEntry
  dsimp only
  split <;> rfl

theorem Chip.aplEnd_modeView (c : Chip) (r : AplRun) (e : AplEnd) (aborted : Bool) (outcome : Nat) :
    (c.aplEnd r e aborted outcome).modeView = c.modeView := by
  unfold Chip.aplEnd
  extract_lets was painted entered noted counted
  have hpainted : painted.modeView = c.modeView := by cases e <;> rfl
  have hnoted : noted.modeView = c.modeView :=
    (Chip.aplLast_modeView _ _ _ _ _).trans
      ((Chip.aplUp_modeView _ _).trans ((Chip.aplEntry_modeView _ _ _ _).trans hpainted))
  have hcounted : counted.modeView = c.modeView := by
    simp only [counted]
    split
    · exact (Chip.count_modeView _ _ _ _ (by decide)).trans hnoted
    · exact (Chip.irq_modeView _ _ _ (by decide)).trans ((Chip.count_modeView _ _ _ _ (by decide)).trans hnoted)
  exact (Chip.aplStatus_modeView _).trans ((Chip.whenIrq_modeView _ _ _ _ (by decide)).trans hcounted)

theorem Chip.aplStop_modeView (c : Chip) (slot : Nat) : (c.aplStop slot).modeView = c.modeView := by
  unfold Chip.aplStop
  split
  · split
    · exact c.aplEnd_modeView _ _ _ _
    · rfl
  · rfl

theorem Chip.aplDropQueue_modeView (c : Chip) : c.aplDropQueue.modeView = c.modeView := by
  unfold Chip.aplDropQueue
  extract_lets dropped was emptied
  have hdropped : dropped.modeView = c.modeView := foldOver_modeView _ (fun u d => d.aplLast_modeView _ _ _ _) _ c
  exact (Chip.aplStatus_modeView _).trans ((Chip.whenIrq_modeView _ _ _ _ (by decide)).trans hdropped)

theorem Chip.aplHalt_modeView (c : Chip) : c.aplHalt.modeView = c.modeView := by
  unfold Chip.aplHalt Chip.aplStopRuns
  extract_lets halted
  exact (foldOver_modeView _ (fun s d => d.aplStop_modeView s) _ _).trans
    ((Chip.aplDropQueue_modeView _).trans (c.aplUp_modeView _))

/-! ### The link leaves its low-power state (R406) -/

theorem Chip.linkRecover_modeView (c : Chip) : c.linkRecover.modeView = c.modeView := by
  unfold Chip.linkRecover Chip.setLink
  dsimp only
  rw [Chip.hlkUp_modeView, Chip.set_modeView _ _ _ (by decide), Chip.set_modeView _ _ _ (by decide),
    Chip.count_modeView _ _ _ _ (by decide), Chip.set_modeView _ _ _ (by decide)]

theorem Chip.linkLpLeave_modeView (c : Chip) (cause : Nat) : (c.linkLpLeave cause).modeView = c.modeView := by
  unfold Chip.linkLpLeave
  split
  · rfl
  · dsimp only
    rw [Chip.hlkUp_modeView, Chip.linkRecover_modeView, Chip.irq_modeView _ _ _ (by decide),
      Chip.set_modeView _ _ _ (by decide), Chip.set_modeView _ _ _ (by decide)]

/-! ### Blocks lose power (R68, R520) -/

theorem Chip.ownLower_modeView (c : Chip) : c.ownLower.modeView = c.modeView := by
  unfold Chip.ownLower
  split
  · exact (Chip.tlkUp_modeView _ _).trans (c.set_modeView _ _ (by decide))
  · rfl

theorem Chip.ownEnd_modeView (c : Chip) : c.ownEnd.modeView = c.modeView := by
  unfold Chip.ownEnd
  split
  · exact (Chip.ownLower_modeView _).trans (c.tlkUp_modeView _)
  · rfl

theorem Chip.regionState_modeView (c : Chip) : c.regionState.modeView = c.modeView := by
  have hset : ∀ (i v : Nat) (d : Chip), (d.set ⟨K.PWR_REGION_STATE, i, 1, 4⟩ v).modeView = d.modeView := fun i v d =>
    d.set_modeView _ v (show ¬ modeKey K.PWR_REGION_STATE by decide)
  refine foldOver_modeView _ (fun r d => ?_) _ c
  dsimp only
  split
  · exact hset _ _ d
  · exact (foldOver_modeView _ (fun i e => hset _ _ e) _ _).trans (hset _ _ d)

theorem Chip.litCut_modeView (c : Chip) (who : Lit → Bool) : (c.litCut who).modeView = c.modeView := by
  unfold Chip.litCut
  split <;> rfl

theorem Chip.savePanel_modeView (c : Chip) : c.savePanel.modeView = c.modeView := by
  unfold Chip.savePanel
  split
  · exact (Chip.pwrUp_modeView _ _).trans (c.litCut_modeView _)
  · rfl

theorem Chip.blockClear_modeView (c : Chip) (b : Nat) : (c.blockClear b).modeView = c.modeView := by
  unfold Chip.blockClear
  split
  case h_4 =>
    extract_lets left parted
    have hleft : left.modeView = c.modeView := by
      simp only [left]
      split
      · exact foldOver_modeView _ (fun i d => d.epReset_modeView _) _ c
      · split
        · exact c.epReset_modeView 3
        · rfl
    have hparted : parted.modeView = c.modeView := by
      simp only [parted]
      split
      · exact (Chip.epReset_modeView _ 4).trans hleft
      · exact hleft
    exact (Chip.tlkUp_modeView _ _).trans hparted
  all_goals rfl

/-- A reset of pages that are none of the view's. -/
theorem Chip.resetPages_modeView (c : Chip) (p : Nat → Bool) (h : ∀ k, modeKey k → p (pageOf k) = false) :
    (c.resetPages p).modeView = c.modeView :=
  Chip.modeView_of_kept rfl rfl rfl rfl rfl (fun k hk => storeGet_storeDrop_other (resetWord c.variant)
    (fun k => p (pageOf k) && !false) c.regs.imm k (by simp [h k hk]))

/-- Blocks other than SCN and KPR lose power: of the view only the powered blocks change. -/
theorem Chip.blocksDown_modeView (c : Chip) (l : List Nat) (h9 : 9 ∉ l) (h14 : 14 ∉ l) :
    (c.blocksDown l).modeView = { c.modeView with blocksOn := c.blocksOn.filter (fun b => !(l.filter c.blockOn).contains b) } := by
  unfold Chip.blocksDown
  extract_lets gone saved cleared node pair reset wired down
  have hsaved : saved.modeView = c.modeView := by
    simp only [saved]
    split
    · exact c.savePanel_modeView
    · rfl
  have hcleared : cleared.modeView = c.modeView :=
    (foldOver_modeView _ (fun b d => d.blockClear_modeView b) _ _).trans hsaved
  have hgone : ∀ k, modeKey k → gone.contains (blockOf (pageOf k)) = false := by
    rintro k (rfl | rfl)
    · exact Bool.eq_false_iff.mpr (fun hin => h14 (List.mem_of_mem_filter (List.contains_iff_mem.mp hin)))
    · exact Bool.eq_false_iff.mpr (fun hin => h9 (List.mem_of_mem_filter (List.contains_iff_mem.mp hin)))
  have hreset : reset.modeView = c.modeView := (Chip.resetPages_modeView _ _ hgone).trans hcleared
  have hwired : wired.modeView = c.modeView :=
    (Chip.setw_modeView _ _ _ (by decide)).trans ((Chip.setw_modeView _ _ _ (by decide)).trans hreset)
  have hdown : down.modeView = { wired.modeView with
      blocksOn := wired.modeView.blocksOn.filter (fun b => !gone.contains b) } := rfl
  rw [Chip.ownLower_modeView, Chip.regionState_modeView, hdown, hwired]
  rfl

/-! ### Reading the view -/

section
variable {c d : Chip} (h : d.modeView = c.modeView)
include h

theorem mode_of_modeView : d.mode = c.mode := congrArg ModeView.mode h
theorem dark_of_modeView : d.modes.dark = c.modes.dark := congrArg ModeView.dark h
theorem fatal_of_modeView : d.ladder.fatal = c.ladder.fatal := congrArg ModeView.fatal h
theorem out_of_modeView : d.out = c.out := congrArg ModeView.out h
theorem report_of_modeView (f : Fld) (hf : f.key = K.KPR_MODE_STATUS) : d.get f = c.get f := by
  have hw : d.w K.KPR_MODE_STATUS = c.w K.KPR_MODE_STATUS := congrArg ModeView.report h
  simp only [Chip.get, hf, hw]
theorem raster_of_modeView : d.raster = c.raster :=
  congrArg (fun v : ModeView => decide (fldGet v.scnStatus ⟨P.SCN + 0x00C, 3, 1, 4⟩ = 1)) h

end

/-! ### The training slot (R80) -/

theorem Chip.fstSizes_keeps {γ : Type} (g : Chip → γ) (hset : ∀ c f v, ¬ modeKey f.key → g (Chip.set c f v) = g c)
    (c : Chip) : g c.fstSizes = g c := by
  unfold Chip.fstSizes
  split
  · rfl
  · exact (hset _ _ _ (by decide)).trans (hset _ _ _ (by decide))

/-- A register of SER's pages is none of the view. -/
theorem not_modeKey_ser (f : Fld) (port : Nat) (hlo : 0xB00000 ≤ f.key) (hoff : f.key % 4096 ≠ 0x120) :
    ¬ modeKey (f.inst port).key := by
  simp only [modeKey, Fld.inst, K.KPR_MODE_STATUS, P.SCN]
  omega

theorem Chip.setLaneMask_modeView (c : Chip) (port mask : Nat) : (c.setLaneMask port mask).modeView = c.modeView := by
  unfold Chip.setLaneMask Chip.statusBit
  extract_lets masks counted any
  have hmasks : masks.modeView = c.modeView :=
    (Chip.set_modeView _ _ _ (not_modeKey_ser F.SERP_MASKED_HI_MASKED port (by decide) (by decide))).trans
      (c.set_modeView _ _ (not_modeKey_ser F.SERP_MASKED_LO_MASKED port (by decide) (by decide)))
  have hcounted : counted.modeView = c.modeView :=
    (Chip.set_modeView _ _ _ (not_modeKey_ser F.SERP_PORT_STATUS_MASKED port (by decide) (by decide))).trans hmasks
  refine (foldOver_modeView _ (fun p d => d.set_modeView _ _ ?_) _ _).trans hcounted
  simp only [modeKey, mkPage, K.KPR_MODE_STATUS, P.SCN]
  omega

theorem Chip.trainStart_modeView (c : Chip) : c.trainStart.modeView = c.modeView := by
  have hlanes : ∀ (d : Chip) (x : Lanes), ({ d with lanes := x } : Chip).modeView = d.modeView := fun _ _ => rfl
  unfold Chip.trainStart Chip.statusBit
  extract_lets unmasked phased counted
  have hunmasked : unmasked.modeView = c.modeView := foldOver_modeView _ (fun p d => d.setLaneMask_modeView p 0) _ c
  have hcounted : counted.modeView = c.modeView := by
    simp only [counted, phased]
    rw [Chip.count_modeView _ _ _ _ (by decide), Chip.set_modeView _ _ _ (by decide), Chip.set_modeView _ _ _ (by decide),
      Chip.set_modeView _ _ _ (by decide), Chip.set_modeView _ _ _ (by decide), hunmasked]
  exact (hlanes _ _).trans hcounted

theorem Chip.trainEnd_modeView (c : Chip) : c.trainEnd.modeView = c.modeView := by
  have hlanes : ∀ (d : Chip) (x : Lanes), ({ d with lanes := x } : Chip).modeView = d.modeView := fun _ _ => rfl
  unfold Chip.trainEnd Chip.statusBit
  split
  · rfl
  · refine (hlanes _ _).trans ?_
    rw [Chip.irq_modeView _ _ _ (by decide), Chip.set_modeView _ _ _ (by decide), Chip.set_modeView _ _ _ (by decide),
      Chip.set_modeView _ _ _ (by decide)]

theorem Chip.trainEnd_training (c : Chip) : c.trainEnd.lanes.training = false := by
  unfold Chip.trainEnd
  split
  · next h => simpa using h
  · rfl

/-- The dark sequence `d` as the raster stops or runs: SCN's raster bit, its dark bit, and the timing mode reported. -/
def Chip.darkShown (c : Chip) (d : DarkSeq) (running black : Bool) (timing : Nat) : Chip :=
  (((c.modesUp (fun m => { m with dark := some d })).setRaster running).setDark black).set F.KPR_MODE_STATUS_TIMING timing

theorem Chip.darkShown_shows (c : Chip) (d : DarkSeq) (running black : Bool) (timing : Nat) :
    (c.darkShown d running black timing).raster = running ∧ (c.darkShown d running black timing).modes.dark = some d
      ∧ (c.darkShown d running black timing).get F.KPR_MODE_STATUS_TIMING = timing % 256
      ∧ (c.darkShown d running black timing).out = c.out := by
  refine ⟨?_, rfl, Chip.get_set_same _ F.KPR_MODE_STATUS_TIMING _ (by decide), rfl⟩
  have hbit : (c.darkShown d running black timing).get ⟨P.SCN + 0x00C, 3, 1, 4⟩ = b2n running % 2 := by
    unfold Chip.darkShown Chip.setDark Chip.setRaster Chip.statusBit
    rw [Chip.get_set_key _ _ _ _ (by decide), Chip.get_set_apart _ _ _ _ (by decide) (by decide),
      Chip.get_set_same _ _ _ (by decide)]
    rfl
  unfold Chip.raster Chip.is
  rw [hbit]
  cases running <;> rfl

theorem Chip.darkSlot_modeView (c : Chip) (d : DarkSeq) (hdark : c.modes.dark = some d) (hstage : d.stage = 0)
    (hleft : d.left = 0) (htiming : d.timing ≠ 0) :
    c.darkSlot.modeView = (c.darkShown { d with stage := 1 } false false 0).modeView ∧ c.darkSlot.lanes.training = true := by
  have hgo : ¬ (decide (d.stage ≠ 0) || decide (d.left ≠ 0)) = true := by simp [hstage, hleft]
  unfold Chip.darkSlot
  simp only [hdark, if_neg hgo, if_neg htiming]
  refine ⟨?_, rfl⟩
  have hrate : ∀ (e : Chip) (v : Nat), (e.when (e.blockOn 3) (fun c => c.set F.MEM0_CFG_RATE v)).modeView = e.modeView :=
    fun e v => e.when_modeView _ _ (fun c => c.set_modeView _ _ (by decide))
  rw [Chip.trainStart_modeView, Chip.set_modeView _ _ _ (by decide), hrate,
    Chip.fstSizes_keeps Chip.modeView (fun c f v => c.set_modeView f v)]
  rfl

theorem darkTrainingSlot_stops (s : State) (d : DarkSeq) (hdark : s.chip.modes.dark = some d) (hstage : d.stage = 0)
    (hleft : d.left = 0) (htiming : d.timing ≠ 0) : completes .darkTrainingSlot s (fun t =>
      t.chip.raster = false ∧ t.chip.modes.dark = some { d with stage := 1 } ∧ t.chip.get F.KPR_MODE_STATUS_TIMING = 0
        ∧ t.chip.lanes.training = true ∧ memKept s t) := by
  obtain ⟨hview, htraining⟩ := s.chip.quiet.darkSlot_modeView d hdark hstage hleft htiming
  obtain ⟨hraster, hseq, htime, hout⟩ := s.chip.quiet.darkShown_shows { d with stage := 1 } false false 0
  exact completes_of_run (exec_darkTrainingSlot s) rfl ⟨(raster_of_modeView hview).trans hraster,
    (dark_of_modeView hview).trans hseq, (report_of_modeView hview _ rfl).trans htime, htraining,
    s.memKept_stored _ ((out_of_modeView hview).trans hout)⟩

/-! ### The new mode's first tick (R80, R451) -/

theorem Chip.tickSeries_keeps {γ : Type} (g : Chip → γ) (hset : ∀ c f v, ¬ modeKey f.key → g (Chip.set c f v) = g c)
    (htim : ∀ c f, g (Chip.timUp c f) = g c) (c : Chip) : g c.tickSeries = g c := by
  unfold Chip.tickSeries Chip.setTarget
  split
  · rfl
  · extract_lets t n ahead at_ period seconds start interval
    have hfld : ∀ (d : Chip) (off lo wd v : Nat), g (d.set (trigFld 0 off lo wd) v) = g d := fun d off lo wd v =>
      hset d _ v (not_modeKey_above _ (Nat.le_add_right_of_le (by decide)))
    simp only [htim, hfld, seconds, start, interval]

/-- What the end of the slot leaves as it is: every change but those to the raster, the dark sequence and the training. -/
theorem Chip.newModeTick_keeps {γ : Type} (g : Chip → γ) (hset : ∀ c f v, ¬ modeKey f.key → g (Chip.set c f v) = g c)
    (htim : ∀ c f, g (Chip.timUp c f) = g c) (hpcn : ∀ (c : Chip) x, g { c with pcn := x } = g c) (c : Chip) (d : DarkSeq)
    (hdark : c.modes.dark = some d) (hstage : d.stage = 1) :
    g c.newModeTick = g (c.darkShown { d with stage := 2, left := 2 } true true d.timing).trainEnd := by
  unfold Chip.newModeTick
  simp only [hdark, if_neg (not_not_intro hstage)]
  rw [Chip.darkShown]
  generalize (Chip.trainEnd _) = e
  have hcarry : ∀ c : Chip, g ((c.periodCarry d.old)) = g c := fun c => hset _ _ _ (by decide)
  have hticked : g (e.fstSizes.periodCarry d.old).tickSeries = g e := by
    rw [Chip.tickSeries_keeps g hset htim, hcarry, Chip.fstSizes_keeps g hset]
  split
  · rw [hset _ _ _ (by decide), hset _ _ _ (by decide), hpcn, hticked]
  · rw [hpcn, hticked]

theorem newModeFirstTick_runs (s : State) (d : DarkSeq) (hdark : s.chip.modes.dark = some d) (hstage : d.stage = 1) :
    completes .newModeFirstTick s (fun t =>
      t.chip.raster = true ∧ t.chip.modes.dark = some { d with stage := 2, left := 2 }
        ∧ t.chip.get F.KPR_MODE_STATUS_TIMING = d.timing % 256 ∧ t.chip.lanes.training = false ∧ memKept s t) := by
  have hview := (s.chip.quiet.newModeTick_keeps Chip.modeView (fun c f v => c.set_modeView f v) (fun _ _ => rfl)
    (fun _ _ => rfl) d hdark hstage).trans (Chip.trainEnd_modeView _)
  have hlanes := s.chip.quiet.newModeTick_keeps Chip.lanes (fun _ _ _ _ => rfl) (fun _ _ => rfl) (fun _ _ => rfl) d hdark hstage
  have htraining := (congrArg Lanes.training hlanes).trans (Chip.trainEnd_training _)
  obtain ⟨hraster, hseq, htime, hout⟩ := s.chip.quiet.darkShown_shows { d with stage := 2, left := 2 } true true d.timing
  exact completes_of_run (exec_newModeFirstTick s) rfl ⟨(raster_of_modeView hview).trans hraster,
    (dark_of_modeView hview).trans hseq, (report_of_modeView hview _ rfl).trans htime, htraining,
    s.memKept_stored _ ((out_of_modeView hview).trans hout)⟩

/-! ### The end of the dark sequence (R81, R83) -/

theorem Chip.stepEnds_modeView (c : Chip) : c.stepEnds.modeView = c.modeView := by
  unfold Chip.stepEnds
  split
  · exact c.modesUp_modeView _ rfl
  · rfl

theorem Chip.want_modeView (c : Chip) (t : Transition) : (c.want t).modeView = c.modeView := by
  unfold Chip.want
  split
  · rfl
  · exact c.modesUp_modeView _ rfl

theorem Chip.startupStep_modeView (c : Chip) : c.startupStep.modeView = c.modeView := by
  have hstep : ∀ (d : Chip) (n : Nat), (d.set F.KPR_BOOT_STATUS_STEP n).modeView = d.modeView := fun d n =>
    d.set_modeView _ n (by decide)
  have hends : ∀ d : Chip, (d.set F.KPR_BOOT_STATUS_STEP 8).stepEnds.modeView = d.modeView := fun d =>
    (Chip.stepEnds_modeView _).trans (hstep d 8)
  unfold Chip.startupStep
  dsimp only
  split
  · rfl
  · split
    · split
      · exact (Chip.want_modeView _ _).trans (hends c)
      · exact hends c
    · split
      · exact hstep c 9
      · rfl

theorem darkSequenceEnd_ends (s : State) (d : DarkSeq) (hdark : s.chip.modes.dark = some d) (hstage : d.stage = 2)
    (hleft : d.left = 0) (hlit : s.chip.dark = false) : completes .darkSequenceEnd s (fun t =>
      t.chip.modes.dark = none ∧ t.chip.get F.KPR_MODE_STATUS_CHANGING = 0 ∧ t.chip.mode = s.chip.mode) := by
  have hgo : ¬ (decide (d.stage ≠ 2) || decide (d.left ≠ 0) || s.chip.quiet.dark) = true := by
    simp only [hstage, hleft, show s.chip.quiet.dark = s.chip.dark from rfl, hlit]
    decide
  have hend : s.chip.quiet.darkEnd = ((s.chip.quiet.modesUp (fun m => { m with dark := none })).set
      F.KPR_MODE_STATUS_CHANGING 0).startupStep.actingDone := by
    unfold Chip.darkEnd
    simp only [Chip.quiet_modes, hdark, if_neg hgo]
  have hview := (Chip.actingDone_modeView _).trans (Chip.startupStep_modeView
    ((s.chip.quiet.modesUp (fun m => { m with dark := none })).set F.KPR_MODE_STATUS_CHANGING 0))
  exact completes_of_run (exec_darkSequenceEnd s) hend ⟨dark_of_modeView hview,
    (report_of_modeView hview _ rfl).trans (Chip.get_set_same _ F.KPR_MODE_STATUS_CHANGING 0 (by decide)),
    (mode_of_modeView hview).trans rfl⟩

end Sys2Proof.Machine

namespace Sys2Proof.Machine

/-! ### Safe after a FATAL event (R45) -/

/-- The module is in Safe for a FATAL event, none waits any more, and the blocks `off` are unpowered. -/
def Chip.fatalSafe (c : Chip) (off : List Nat) : Prop :=
  c.mode = .safe ∧ c.get F.KPR_MODE_STATUS_CAUSE = 4 ∧ c.ladder.fatal = none ∧ ∀ b ∈ off, c.blockOn b = false

theorem Chip.fatalSafe.of_modeView {c d : Chip} {off : List Nat} (hc : c.fatalSafe off) (h : d.modeView = c.modeView) :
    d.fatalSafe off := by
  obtain ⟨hmode, hcause, hfatal, hoff⟩ := hc
  have hblocks : d.blocksOn = c.blocksOn := congrArg ModeView.blocksOn h
  refine ⟨(mode_of_modeView h).trans hmode, (report_of_modeView h _ rfl).trans hcause, (fatal_of_modeView h).trans hfatal,
    fun b hb => ?_⟩
  rw [Chip.blockOn, hblocks]
  exact hoff b hb

theorem Chip.fatalSafe.modesUp {c : Chip} {off : List Nat} (hc : c.fatalSafe off) (f : Modes → Modes) :
    (c.modesUp f).fatalSafe off := hc

/-- A field that shares no bit with CAUSE, in whatever register. -/
theorem Chip.fatalSafe.set {c : Chip} {off : List Nat} (hc : c.fatalSafe off) (f : Fld) (v : Nat) (hf : f.lo + f.wd ≤ 32)
    (hapart : 12 ≤ f.lo ∨ f.lo + f.wd ≤ 8) : (c.set f v).fatalSafe off := by
  obtain ⟨hmode, hcause, hfatal, hoff⟩ := hc
  exact ⟨hmode, (c.get_set_apart f F.KPR_MODE_STATUS_CAUSE v hf hapart).trans hcause, hfatal, hoff⟩

/-- Blocks that lose power join the unpowered ones. -/
theorem Chip.fatalSafe.blocksDown {c : Chip} {off : List Nat} (hc : c.fatalSafe off) (l off' : List Nat) (h9 : 9 ∉ l)
    (h14 : 14 ∉ l) (hoff' : ∀ b ∈ off', b ∈ l ∨ b ∈ off) : (c.blocksDown l).fatalSafe off' := by
  obtain ⟨hmode, hcause, hfatal, hoff⟩ := hc
  have hview := c.blocksDown_modeView l h9 h14
  have hblocks : (c.blocksDown l).blocksOn = c.blocksOn.filter (fun b => !(l.filter c.blockOn).contains b) :=
    congrArg ModeView.blocksOn hview
  refine ⟨(congrArg ModeView.mode hview).trans hmode, ?_, (congrArg ModeView.fatal hview).trans hfatal, fun b hb => ?_⟩
  · exact (congrArg (fun v : ModeView => fldGet v.report F.KPR_MODE_STATUS_CAUSE) hview).trans hcause
  · rw [Chip.blockOn, hblocks]
    rcases hoff' b hb with hl | hwas
    · simp [Chip.blockOn, hl]
    · have hno : b ∉ c.blocksOn := by simpa [Chip.blockOn] using hoff b hwas
      simp [hno]

theorem Chip.setMode_fatalSafe (c : Chip) (h : c.ladder.fatal = none) : (c.setMode .safe 4).fatalSafe [] :=
  ⟨rfl, Chip.get_set_same ((c.set F.KPR_MODE_STATUS_PREV (modeCode c.mode)).set F.KPR_MODE_STATUS_MODE (modeCode .safe))
    F.KPR_MODE_STATUS_CAUSE 4 (by decide), h, by simp⟩

theorem Chip.timingForce_modeView (c : Chip) (id : Nat) : (c.timingForce id).modeView = c.modeView :=
  c.setw_modeView K.SCN_TIMING _ (by decide)

theorem Chip.daymarkReset_modeView (c : Chip) : c.daymarkReset.modeView = c.modeView :=
  (Chip.set_modeView _ F.SCN_DAYMARK_STATUS_MAX_COUNT _ (by decide)).trans rfl

theorem Chip.fatalEntry_safe (c : Chip) (f : FatalEvent) (hfatal : c.ladder.fatal = some f) (hrom : c.modes.bootRom = false)
    (hmode : c.mode = .flat ∨ c.mode = .lightfield ∨ c.mode = .hold ∨ c.mode = .boot) : c.fatalEntry.fatalSafe safeOff := by
  unfold Chip.fatalEntry
  rw [if_neg (by simp [hfatal])]
  extract_lets ladder cleared ticking old quiet halted safe off emptied keeper unpowered awake retimed black
  have hgo : ¬ (!(decide (cleared.mode = .flat) || decide (cleared.mode = .lightfield) || decide (cleared.mode = .hold)
      || decide (cleared.mode = .boot)) || cleared.modes.bootRom) = true := by
    have hrom' : cleared.modes.bootRom = false := hrom
    have hmode' : cleared.mode = .flat ∨ cleared.mode = .lightfield ∨ cleared.mode = .hold ∨ cleared.mode = .boot := hmode
    rcases hmode' with h | h | h | h <;> simp [h, hrom']
  rw [if_neg hgo]
  have hhalted : halted.modeView = cleared.modeView :=
    (Chip.when_modeView _ _ _ (fun c => c.aplHalt_modeView)).trans cleared.preemptModes_modeView
  have hsafe : safe.fatalSafe [] :=
    (halted.setMode_fatalSafe ((fatal_of_modeView hhalted).trans rfl)).set F.KPR_MODE_STATUS_HOLD_VAR 0 (by decide)
      (by decide)
  have hemptied : emptied.fatalSafe [] := hsafe.modesUp _
  have hkeeper : keeper.fatalSafe [] := hemptied.of_modeView (Chip.kprUp_modeView _ _)
  have hunpowered : unpowered.fatalSafe safeOff :=
    (hkeeper.of_modeView (Chip.ownEnd_modeView _)).blocksDown safeOff safeOff (by decide) (by decide) (fun b hb => .inl hb)
  have hawake : awake.fatalSafe safeOff := hunpowered.of_modeView
    (Chip.when_modeView _ _ _ (fun c => (Chip.linkLpLeave_modeView _ 2).trans (c.hlkUp_modeView _)))
  have hretimed : retimed.fatalSafe safeOff :=
    (hawake.of_modeView ((Chip.daymarkReset_modeView _).trans ((Chip.timingForce_modeView _ _).trans
      (Chip.trainEnd_modeView _)))).modesUp _
  clear_value retimed
  have hblack : black.fatalSafe safeOff :=
    Chip.fatalSafe.set (Chip.fatalSafe.set hretimed _ _ (by decide) (by decide)) _ _ (by decide) (by decide)
  split
  · have hended := hawake.set F.KPR_MODE_STATUS_CHANGING 0 (by decide) (by decide)
    unfold Chip.when
    split
    · exact hended.blocksDown [13] safeOff (by decide) (by decide) (fun b hb => .inr hb)
    · exact hended
  · split
    · exact (Chip.fatalSafe.set hawake _ _ (by decide) (by decide)).set F.KPR_MODE_STATUS_CHANGING 0 (by decide) (by decide)
    · exact (hblack.set F.KPR_MODE_STATUS_CHANGING 1 (by decide) (by decide)).set F.KPR_MODE_STATUS_TIMING _ (by decide)
        (by decide)

theorem fatalSafeEntry_enters (s : State) (f : FatalEvent) (hfatal : s.chip.ladder.fatal = some f)
    (hrom : s.chip.modes.bootRom = false)
    (hmode : s.chip.mode = .flat ∨ s.chip.mode = .lightfield ∨ s.chip.mode = .hold ∨ s.chip.mode = .boot) :
    completes .fatalSafeEntry s (fun t => t.chip.mode = .safe ∧ t.chip.get F.KPR_MODE_STATUS_CAUSE = 4
      ∧ t.chip.ladder.fatal = none ∧ ∀ b ∈ safeOff, t.chip.blockOn b = false) :=
  completes_of_run (exec_fatalSafeEntry s) rfl (s.chip.quiet.fatalEntry_safe f hfatal hrom hmode)

/-- Settles O12: each stage of the dark sequence and the entry into Safe, read through `Chip.modeView`, which the power-down,
the mailboxes, the layer and the link leave as it is. -/
theorem darkSequenceStages : Obligations.DarkSequenceStages := by
  unfold Obligations.DarkSequenceStages
  intro s
  exact ⟨darkTrainingSlot_stops s, newModeFirstTick_runs s, darkSequenceEnd_ends s, fatalSafeEntry_enters s⟩

end Sys2Proof.Machine

namespace Sys2Proof.Machine

/-! ### The canonical form of memory (R52) -/

theorem State.wf_after (s : State) (f : Memory → Chip → Chip) (h : s.mem.wf) : (s.after f).wf :=
  ⟨Memory.wf_applyAll _ _ h, State.after_out s f⟩

/-- Settles O49: a step is a run (`step_run`), and a run's stores keep the canonical form. -/
theorem everyStepKeepsTheCanonicalForm : Obligations.EveryStepKeepsTheCanonicalForm := by
  rintro s t ⟨hmem, -⟩ hstep
  obtain ⟨f, u, hrun, -, hsame, -⟩ := step_run s
  rw [hrun, State.run_eq] at hstep
  obtain rfl := Host.Outcome.next.inj hstep
  exact u.wf_after f (hsame ▸ hmem)

/-- Settles O48: right after reset memory lists no byte and no range. -/
theorem resetIsCanonical : Obligations.ResetIsCanonical :=
  ⟨⟨⟨.nil, fun _ he => nomatch he⟩, rfl⟩, rfl⟩

/-- Settles O52: `decodeTableWord` answers no command, so `State.withFetchWord` places none. -/
theorem noTableWordSpellsACommand : Obligations.NoTableWordSpellsACommand :=
  fun _ _ _ => ⟨rfl, rfl⟩

/-! ### A change of a whole range, bit by bit (R365, log 11)

At each address a change keeps some bits of the byte and fixes the others. One that hides an earlier change keeps only bits
that the earlier one kept too, so dropping the earlier one is not seen through it. -/

/-- The bits of the byte at `a` that a change keeps. -/
def MemFill.kept (f : MemFill) (a : Nat) : Byte := f.over a 0xFF ^^^ f.over a 0

theorem MemFill.over_eq (f : MemFill) (a : Nat) (v : Byte) : f.over a v = (v &&& f.kept a) ||| f.over a 0 := by
  cases f with
  | zero lo hi => simp only [kept, MemFill.over]; split <;> revert v <;> decide
  | contexts b =>
    simp only [kept, MemFill.over]
    split
    · simp
    · revert v; decide
  | stale b => simp only [kept, MemFill.over]; split <;> revert v <;> decide
  | carried b n => simp only [kept, MemFill.over]; split_ifs <;> revert v <;> decide
  | refold n =>
    simp only [kept, MemFill.over]
    split
    · simp
    · revert v; decide

/-- Bytes that agree in the bits kept become the same byte. -/
theorem MemFill.over_congr (f : MemFill) (a : Nat) (u v : Byte) (h : u &&& f.kept a = v &&& f.kept a) :
    f.over a u = f.over a v := by
  rw [f.over_eq a u, f.over_eq a v, h]

theorem MemFill.over_over (f : MemFill) (a : Nat) (v : Byte) : f.over a (f.over a v) = f.over a v := by
  rw [f.over_eq a (f.over a v), f.over_eq a v]
  generalize f.kept a = k
  generalize f.over a 0 = z
  ext i hi
  simp only [BitVec.getElem_or, BitVec.getElem_and]
  cases v[i] <;> cases k[i] <;> cases z[i] <;> rfl

/-- Bytes that agree in the bits of a mask agree in them after a change. -/
theorem MemFill.over_agree (f : MemFill) (a : Nat) (u v k : Byte) (h : u &&& k = v &&& k) :
    f.over a u &&& k = f.over a v &&& k := by
  have hmask : ∀ w : Byte, f.over a w &&& k = ((w &&& k) &&& f.kept a) ||| (f.over a 0 &&& k) := fun w => by
    rw [f.over_eq a w, BitVec.and_or_distrib_right, BitVec.and_assoc, BitVec.and_assoc, BitVec.and_comm k]
  rw [hmask u, hmask v, h]

/-- Where `f` hides `g`, at each address `g` changes nothing, or `f` keeps nothing, or both carry contexts of one base. -/
theorem MemFill.hides_cases (f g : MemFill) (a : Nat) (h : f.hides g = true) :
    (∀ v, g.over a v = v) ∨ f.kept a = 0 ∨ ∃ b n n', f = .carried b n ∧ g = .carried b n' ∧ n' ≤ n := by
  cases f with
  | zero lo hi =>
    by_cases ha : lo ≤ a ∧ a < hi
    · exact .inr (.inl (by simp [kept, MemFill.over, ha]))
    · refine .inl fun v => ?_
      cases g <;> simp only [hides, Bool.and_eq_true, decide_eq_true_eq] at h <;> exact if_neg (by omega)
  | contexts b =>
    by_cases ha : b ≤ a ∧ a < b + ctxBytes
    · exact .inr (.inl (by simp [kept, MemFill.over, ha]))
    · refine .inl fun v => ?_
      cases g <;> simp only [hides, Bool.and_eq_true, decide_eq_true_eq, Bool.false_eq_true] at h <;> exact if_neg (by omega)
  | stale b => simp [hides] at h
  | carried b n =>
    cases g with
    | carried b' n' =>
      simp only [hides, Bool.and_eq_true, decide_eq_true_eq] at h
      obtain ⟨rfl, hn⟩ := h
      exact .inr (.inr ⟨b, n, n', rfl, rfl, hn⟩)
    | _ => simp [hides] at h
  | refold n =>
    by_cases ha : a < sramBase
    · exact .inr (.inl (by simp [kept, MemFill.over, ha]))
    · refine .inl fun v => ?_
      cases g <;> simp only [hides, decide_eq_true_eq, Bool.false_eq_true] at h <;> exact if_neg (by omega)

/-- A hidden change moves no bit that the one hiding it keeps. -/
theorem MemFill.over_and_kept (f g : MemFill) (a : Nat) (v : Byte) (h : f.hides g = true) :
    g.over a v &&& f.kept a = v &&& f.kept a := by
  obtain hid | hzero | ⟨b, n, n', rfl, rfl, hn⟩ := f.hides_cases g a h
  · rw [hid]
  · simp [hzero]
  · by_cases ha : b ≤ a ∧ a < b + 8 * n'
    · have hlong : b ≤ a ∧ a < b + 8 * n := by omega
      simp only [kept, MemFill.over, if_pos ha, if_pos hlong]
      split_ifs <;> revert v <;> decide
    · simp only [MemFill.over, if_neg ha]

/-- Dropping the changes that `f` hides is not seen in the bits that `f` keeps. -/
theorem memDefault_filter_and_kept (f : MemFill) (fills : List MemFill) (a : Nat) :
    memDefault (fills.filter (fun g => !f.hides g)) a &&& f.kept a = memDefault fills a &&& f.kept a := by
  induction fills with
  | nil => rfl
  | cons g t ih =>
    cases hg : f.hides g with
    | true =>
      calc memDefault ((g :: t).filter (fun g => !f.hides g)) a &&& f.kept a
          = memDefault (t.filter (fun g => !f.hides g)) a &&& f.kept a := by simp [hg]
        _ = memDefault t a &&& f.kept a := ih
        _ = g.over a (memDefault t a) &&& f.kept a := (f.over_and_kept g a _ hg).symm
    | false =>
      calc memDefault ((g :: t).filter (fun g => !f.hides g)) a &&& f.kept a
          = g.over a (memDefault (t.filter (fun g => !f.hides g)) a) &&& f.kept a := by simp [hg, memDefault]
        _ = g.over a (memDefault t a) &&& f.kept a := g.over_agree a _ _ _ ih

/-- After one more change an address with nothing listed reads as that change makes it. -/
theorem memDefault_pushFill (f : MemFill) (fills : List MemFill) (a : Nat) :
    memDefault (pushFill f fills) a = f.over a (memDefault fills a) := by
  unfold pushFill
  split
  · next b b' t =>
    split
    · next hb =>
      subst hb
      exact (MemFill.over_over (.stale b) a (memDefault t a)).symm
    · rfl
  · exact f.over_congr a _ _ (memDefault_filter_and_kept f fills a)

/-! ### Memory after a change of a whole range -/

theorem storeGet_unlisted {β : Type} (d : Nat → β) (m : List (Nat × β)) (k : Nat) (h : ∀ e ∈ m, e.1 ≠ k) :
    storeGet d m k = d k := by
  induction m with
  | nil => rfl
  | cons e t ih =>
    rw [storeGet, if_neg (h e List.mem_cons_self)]
    exact ih (fun e he => h e (List.mem_cons_of_mem _ he))

/-- Every listed value and the unlisted one changed by `g`. -/
theorem storeGet_map {β : Type} (d d' : Nat → β) (g : Nat → β → β) (m : List (Nat × β)) (k : Nat)
    (h : d' k = g k (d k)) : storeGet d' (m.map (fun e => (e.1, g e.1 e.2))) k = g k (storeGet d m k) := by
  induction m with
  | nil => exact h
  | cons e t ih =>
    by_cases hk : e.1 = k
    · simp [storeGet, hk]
    · simpa [storeGet, hk] using ih

/-- Leaving out the values that equal the unlisted one changes no key's value, where each key is listed once. -/
theorem storeGet_filter {β : Type} [DecidableEq β] (d : Nat → β) (m : List (Nat × β)) (k : Nat)
    (h : m.Pairwise (fun a b => a.1 < b.1)) :
    storeGet d (m.filter (fun e => decide (e.2 ≠ d e.1))) k = storeGet d m k := by
  induction m with
  | nil => rfl
  | cons e t ih =>
    obtain ⟨hfirst, htail⟩ := List.pairwise_cons.1 h
    have hrest := ih htail
    by_cases hk : e.1 = k
    · have hlast : storeGet d t k = d k := storeGet_unlisted d t k (fun b hb => by have := hfirst b hb; omega)
      by_cases hv : e.2 = d e.1
      · rw [List.filter_cons_of_neg (by simpa using hv), hrest, hlast, storeGet, if_pos hk, hv, hk]
      · rw [List.filter_cons_of_pos (by simpa using hv), storeGet, storeGet, if_pos hk, if_pos hk]
    · by_cases hv : e.2 = d e.1
      · rw [List.filter_cons_of_neg (by simpa using hv), hrest, storeGet, if_neg hk]
      · rw [List.filter_cons_of_pos (by simpa using hv), storeGet, storeGet, if_neg hk, if_neg hk, hrest]

theorem Memory.read_fill (m : Memory) (f : MemFill) (a : Nat) (h : m.wf) :
    (m.apply (.fill f)).read a = f.over a (m.read a) := by
  obtain ⟨hrising, -⟩ := h
  have hmapped : (m.cells.map (fun e => (e.1, f.over e.1 e.2))).Pairwise (fun a b => a.1 < b.1) :=
    List.pairwise_map.2 (hrising.imp (fun hab => hab))
  exact (storeGet_filter (memDefault (pushFill f m.fills)) _ a hmapped).trans
    (storeGet_map _ _ f.over m.cells a (memDefault_pushFill f m.fills a))

/-! ### Memory after the stores of a step -/

theorem Memory.read_applyAll (m : Memory) (ops : List MemOp) (a : Nat) (h : m.wf) :
    (m.applyAll ops).read a = loadThrough m ops a := by
  induction ops with
  | nil => rfl
  | cons op t ih =>
    rw [Memory.applyAll_cons]
    cases op with
    | byte b v =>
      by_cases hb : a = b
      · subst hb
        simp [loadThrough, Memory.read_byte_same]
      · simp [loadThrough, Memory.read_byte_other _ _ _ _ hb, hb, ih]
    | fill f => rw [Memory.read_fill _ _ _ (m.wf_applyAll t h), ih, loadThrough]

/-- Stores that name another address, and changes that leave the byte, are not seen. -/
theorem loadThrough_untouched (m : Memory) (ops : List MemOp) (a : Nat) (hbyte : ∀ b v, MemOp.byte b v ∈ ops → b ≠ a)
    (hfill : ∀ f, MemOp.fill f ∈ ops → ∀ v, f.over a v = v) : loadThrough m ops a = m.read a := by
  induction ops with
  | nil => rfl
  | cons op t ih =>
    have hrest := ih (fun b v hm => hbyte b v (List.mem_cons_of_mem _ hm)) (fun f hm => hfill f (List.mem_cons_of_mem _ hm))
    cases op with
    | byte b v => rw [loadThrough, if_neg (hbyte b v List.mem_cons_self).symm, hrest]
    | fill f => rw [loadThrough, hfill f List.mem_cons_self, hrest]

/-- Settles O51: memory takes the stores oldest first as the step's own reads look through them (`Memory.read_applyAll`). -/
theorem memoryHoldsWhatAStepStored : Obligations.MemoryHoldsWhatAStepStored := by
  intro m ops hm
  refine ⟨fun a => m.read_applyAll ops a hm, fun a h => (m.read_applyAll ops a hm).trans ?_⟩
  exact loadThrough_untouched m ops a (fun b v hop => h _ hop) (fun f hop => h _ hop)

end Sys2Proof.Machine

namespace Sys2Proof.Machine

/-! ### The interrupt registers (R61, R62) -/

/-- A change after which the block's bit is 1 only where it was 1 before delivers nothing. -/
theorem Chip.intChange_no_rise (c : Chip) (page : Nat) (f : Chip → Chip)
    (h : (f c).blockPend (blockOf page) = true → c.blockPend (blockOf page) = true) : c.intChange page f = f c := by
  unfold Chip.intChange
  extract_lets was after
  refine if_neg fun hrise => ?_
  obtain ⟨hwas, hafter⟩ := (Bool.and_eq_true _ _).mp hrise
  exact absurd (h hafter) (by simpa [was] using hwas)

/-- Bits of INT_RAW masked out leave no block pending that was not. -/
theorem Chip.blockPend_of_raw_masked (c : Chip) (page block : Nat) (mask : Word) (hpage : page % 4096 = 0)
    (h : (c.setw (page + 0x010) (c.w (page + 0x010) &&& mask)).blockPend block = true) : c.blockPend block = true := by
  obtain ⟨i, hi, hpend⟩ := List.any_eq_true.mp h
  refine List.any_eq_true.mpr ⟨i, hi, decide_eq_true fun hzero => of_decide_eq_true hpend ?_⟩
  have hen : mkPage block i + 0x14 ≠ page + 0x10 := by unfold mkPage; omega
  rw [Chip.intPend] at hzero
  rw [Chip.intPend, Chip.w_setw_other _ _ _ _ hen]
  by_cases hraw : mkPage block i + 0x10 = page + 0x10
  · rw [hraw] at hzero
    rw [hraw, Chip.w_setw_same, BitVec.toNat_and, Nat.and_right_comm, hzero, Nat.zero_and]
  · rwa [Chip.w_setw_other _ _ _ _ hraw]

/-- Of a word the bits that `data` has 1 cleared. -/
theorem ofNat_and_complement (w : Word) (data : Nat) (h : data < 2 ^ 32) :
    BitVec.ofNat 32 (w.toNat &&& (0xFFFFFFFF - data)) = w &&& ~~~ BitVec.ofNat 32 data := by
  apply BitVec.eq_of_toNat_eq
  have hle : w.toNat &&& (0xFFFFFFFF - data) ≤ w.toNat := Nat.and_le_left
  rw [BitVec.toNat_ofNat, BitVec.toNat_and, BitVec.toNat_not, BitVec.toNat_ofNat, Nat.mod_eq_of_lt h,
    Nat.mod_eq_of_lt (lt_of_le_of_lt hle w.isLt)]

theorem exec_intRawClear_taken (mst : Master) (page data : Nat) (s : State) (hpage : page % 4096 = 0) (hdata : data < 2 ^ 32)
    (hw : s.chip.takesWrite mst (page + 0x010)) : exec (.intRawClear mst page data) s = .next (s.became
      ((s.chip.quiet.setw (page + 0x010) (s.chip.w (page + 0x010) &&& ~~~ BitVec.ofNat 32 data)).taken (page + 0x010))) := by
  refine exec_of_headerWrite (exec_intRawClear mst page data s) hpage hdata (by decide) hw ?_ rfl rfl
  have hclear : s.chip.quiet.headerWrite mst page 0x010 data = some (.ok, s.chip.quiet.intChange page (fun c => c.setw
      (page + 0x010) (BitVec.ofNat 32 ((s.chip.w (page + 0x010)).toNat &&& (0xFFFFFFFF - data))))) := rfl
  rw [hclear, ofNat_and_complement _ _ hdata, Chip.intChange_no_rise]
  exact Chip.blockPend_of_raw_masked _ page _ _ hpage

theorem Chip.raise_w_raw (c : Chip) (page mask : Nat) :
    (c.raise page mask).w (page + 0x010) = c.w (page + 0x010) ||| BitVec.ofNat 32 mask := by
  unfold Chip.raise Chip.intChange
  dsimp only
  split
  · rw [Chip.deliverRise_w, Chip.w_setw_same]
  · rw [Chip.w_setw_same]

theorem Chip.hostRise_log (c : Chip) (h : Nat) : (c.hostRise h).log = c.log := by
  unfold Chip.hostRise
  split <;> rfl

theorem Chip.deliverRise_log (c : Chip) (b : Nat) : (c.deliverRise b).log = c.log := by
  simp only [Chip.deliverRise]
  split <;> split <;> simp [Chip.hostRise_log]

/-- What neither a word set nor a delivery moves, raising bits of INT_RAW does not move. -/
theorem Chip.raise_keeps {γ : Type} (g : Chip → γ) (hset : ∀ c k v, g (Chip.setw c k v) = g c)
    (hdeliver : ∀ c b, g (Chip.deliverRise c b) = g c) (c : Chip) (page mask : Nat) : g (c.raise page mask) = g c := by
  unfold Chip.raise Chip.intChange
  dsimp only
  split
  · exact (hdeliver _ _).trans (hset _ _ _)
  · exact hset _ _ _

theorem intForce_sets (mst : Master) (page data : Nat) (s : State) (hpage : page % 4096 = 0) (hdata : data < 2 ^ 32)
    (hw : s.chip.takesWrite mst (page + 0x01C)) : completes (.intForce mst page data) s (fun t =>
      t.chip.w (page + 0x010) = s.chip.w (page + 0x010) ||| BitVec.ofNat 32 data
        ∧ regsKeptBut [page + 0x010] s.chip t.chip ∧ t.chip.log = s.chip.log ∧ t.chip.ladder = s.chip.quiet.ladder
        ∧ memKept s t) := by
  have hmove := ladderMove.raise s.chip.quiet page data
  refine ⟨_, exec_of_headerWrite (exec_intForce mst page data s) hpage hdata (by decide) hw rfl hmove.hlk hmove.out, ?_⟩
  refine ⟨Chip.raise_w_raw _ page data, fun k hk => ⟨?_, hmove.lw k, hmove.aw k⟩,
    Chip.raise_keeps Chip.log (fun _ _ _ => rfl) Chip.deliverRise_log _ page data,
    Chip.raise_keeps Chip.ladder (fun _ _ _ => rfl) Chip.deliverRise_ladder _ page data, fun _ => rfl⟩
  exact Chip.raise_w_other _ page data k (by simpa using hk)

/-! ### A register written by its access codes alone (R59) -/

/-- A command that writes a register without behaviour of its own, and not staged, changes that register's word alone. -/
theorem exec_of_plainWrite {i : Instr} {s : State} {mst : Master} {key data : Nat} {d : RegDef}
    (hrun : exec i s = s.run (fun m c => c.regWrite mst key data m)) (hdata : data < 2 ^ 32)
    (hw : s.chip.takesWrite mst key) (hd : findReg key = some d) (hs : d.stg = 0)
    (hplain : s.chip.quiet.writeMeaning s.mem mst key data = (.ok, s.chip.quiet.plainWrite key data)) :
    exec i s = .next (s.became ((s.chip.quiet.setw key (BitVec.ofNat 32 (s.chip.plainWord d key data))).taken key)) := by
  obtain ⟨-, -, -, -, -, -, -, -, hlink, -⟩ := id hw
  rw [hrun]
  refine s.run_pure _ _ ?_ rfl
  refine Chip.regWrite_taken _ (s.chip.quiet.setw key (BitVec.ofNat 32 (s.chip.plainWord d key data))) _ _ _ _
    (s.chip.takesWrite_quiet mst _ hw) ?_ hlink
  rw [Nat.mod_eq_of_lt hdata, hplain, Chip.plainWrite_unstaged _ d key data hd hs]
  rfl

/-- A one-bit field of a word given by its number. -/
theorem fldGet_bit (n key i stride : Nat) (hi : i < 32) :
    fldGet (BitVec.ofNat 32 n) ⟨key, i, 1, stride⟩ = (n.testBit i).toNat := by
  rw [fldGet, BitVec.toNat_ofNat, pow_one, ← Nat.toNat_testBit, Nat.testBit_mod_two_pow, decide_eq_true hi, Bool.true_and]

theorem testBit_of_bit (n i : Nat) : n.testBit i = bit n i := by
  rw [Nat.testBit_eq_decide_div_mod_eq, bit]

/-- A bit of a word written by its access codes: as written where it is RW, cleared or set by a 1 where it is W1C or W1S. -/
theorem Chip.plainWord_bit (c : Chip) (d : RegDef) (key data i : Nat) (hi : i < 32) (hs : d.stg = 0) (hrw : d.rw < 2 ^ 32)
    (hp : c.presentBits key = 0xFFFFFFFF) (hdata : data < 2 ^ 32) : (c.plainWord d key data).testBit i
      = ((((c.w key).toNat.testBit i && !d.rw.testBit i) && !(d.w1c.testBit i && data.testBit i))
        || (d.w1s.testBit i && data.testBit i) || (data.testBit i && d.rw.testBit i)) := by
  have hnot : ∀ g < 2 ^ 32, (0xFFFFFFFF - g).testBit i = !g.testBit i := fun g hg => by
    rw [show 0xFFFFFFFF - g = 2 ^ 32 - (g + 1) by omega, Nat.testBit_two_pow_sub_succ hg, decide_eq_true hi, Bool.true_and]
  have hcut : data &&& 0xFFFFFFFF = data := (Nat.and_two_pow_sub_one_eq_mod data 32).trans (Nat.mod_eq_of_lt hdata)
  have hw1c : d.w1c &&& data < 2 ^ 32 := lt_of_le_of_lt Nat.and_le_right hdata
  simp only [Chip.plainWord, hp, hcut, hs, Nat.or_zero, Nat.testBit_or, Nat.testBit_and, hnot _ hrw, hnot _ hw1c]

/-- The command of `exec_of_plainWrite`, as its next state shows it: one bit of the register, and all that is kept. -/
theorem plainWrite_bit {i : Instr} {s : State} {mst : Master} {key data : Nat} {d : RegDef} (n : Nat)
    (hrun : exec i s = s.run (fun m c => c.regWrite mst key data m)) (hdata : data < 2 ^ 32)
    (hw : s.chip.takesWrite mst key) (hd : findReg key = some d) (hs : d.stg = 0)
    (hplain : s.chip.quiet.writeMeaning s.mem mst key data = (.ok, s.chip.quiet.plainWrite key data)) (hn : n < 32) :
    completes i s (fun t =>
      t.chip.get ⟨key, n, 1, 4⟩ = ((s.chip.plainWord d key data).testBit n).toNat ∧ onlyRegs [key] s t) := by
  refine ⟨_, exec_of_plainWrite hrun hdata hw hd hs hplain, ?_, onlyRegs_taken_setw s key _⟩
  have hword := s.chip.quiet.w_setw_same key (BitVec.ofNat 32 (s.chip.plainWord d key data))
  exact (congrArg (fldGet · _) hword).trans (fldGet_bit _ key n 4 hn)

/-! ### PARITY_CTRL (R66) -/

theorem Chip.presentBits_header (c : Chip) (page off : Nat) (hpage : page % 4096 = 0) (hoff : off < 0x100) :
    c.presentBits (page + off) = 0xFFFFFFFF := by
  have hofs : (page + off) % 0x1000 = off := by omega
  unfold Chip.presentBits
  dsimp only
  rw [hofs]
  split
  · rfl
  · rw [if_neg (by simp; omega), if_neg (by simp; omega)]

theorem findReg_parityCtrl (page : Nat) (hpage : page % 4096 = 0) :
    findReg (page + 0x03C) = some ⟨0x03C, 1, 4, 1, 0, 0, 2, 0, 0, 1⟩ := by
  have hofs : offOf (page + 0x03C) = 0x03C := by simp only [offOf]; omega
  have hheader : ∀ b, (regsHeader b).find? (·.covers 0x03C) = some ⟨0x03C, 1, 4, 1, 0, 0, 2, 0, 0, 1⟩ := fun _ => by
    simp [regsHeader, RegDef.covers]
  unfold findReg
  rw [hofs]
  exact hheader _

theorem parityInject_arms (mst : Master) (page data : Nat) (s : State) (hpage : page % 4096 = 0) (hdata : data < 2 ^ 32)
    (hw : s.chip.takesWrite mst (page + 0x03C)) (hbit : bit data 1 = true) :
    completes (.parityInject mst page data) s (fun t =>
      t.chip.get ⟨page + 0x03C, 1, 1, 4⟩ = 1 ∧ onlyRegs [page + 0x03C] s t) := by
  have hplain : s.chip.quiet.writeMeaning s.mem mst (page + 0x03C) data
      = (.ok, s.chip.quiet.plainWrite (page + 0x03C) data) := Chip.writeMeaning_header _ _ _ _ _ _ hpage (by decide)
  obtain ⟨t, hrun, hget, hkept⟩ := plainWrite_bit 1 (exec_parityInject mst page data s) hdata hw
    (findReg_parityCtrl page hpage) rfl hplain (by decide)
  refine ⟨t, hrun, hget.trans ?_, hkept⟩
  rw [Chip.plainWord_bit _ _ _ _ _ (by decide) rfl (by decide) (Chip.presentBits_header _ page _ hpage (by decide)) hdata,
    testBit_of_bit data, hbit, show Nat.testBit 2 1 = true from rfl]
  simp

/-! ### The roll-up events of the KPR page (R63, R65) -/

/-- A roll-up register of the KPR page: CHIP_INT or a REGION_SUM. -/
abbrev rollupKey (key : Nat) : Prop := P.KPR + 0x100 ≤ key ∧ key < P.KPR + 0x114 ∧ key % 4 = 0

/-- A host's write reaches the KPR page: the Keeper region is powered, the firmware runs, no parity injection waits, and the
link is not about to go DOWN. -/
abbrev Chip.hostReachesKpr (c : Chip) (mst : Master) : Prop :=
  (mst = .host0 ∨ mst = .host1) ∧ c.modes.bootRom = false ∧ c.blockOn 14 = true
    ∧ c.is ⟨P.KPR + 0x03C, 1, 1, 4⟩ = false ∧ c.hlk.downNext = false

/-- A register that a write only clears bits of, bit `n` among them. -/
abbrev RegDef.onlyClears (d : RegDef) (n : Nat) : Prop :=
  d.rw = 0 ∧ d.stg = 0 ∧ d.w1s = 0 ∧ d.w1c.testBit n = true

/-- A host may write a roll-up register whatever the page's lock says. -/
theorem Chip.takesWrite_rollup (c : Chip) (mst : Master) (key : Nat) (d : RegDef) (hkey : rollupKey key)
    (hd : findReg key = some d) (hs : d.stg = 0) (hhost : c.hostReachesKpr mst) : c.takesWrite mst key := by
  obtain ⟨hmst, hrom, hon, hinject, hlink⟩ := hhost
  obtain ⟨hlo, hhi, halign⟩ := hkey
  simp only [P.KPR] at hlo hhi
  have hpage : pageOf key = P.KPR := by simp only [pageOf, P.KPR]; omega
  have hblock : blockOf P.KPR = 14 := rfl
  have hoff : 0x100 ≤ offOf key ∧ offOf key < 0x114 := by simp only [offOf]; omega
  refine ⟨by omega, halign, by omega, ?mapped, ?locked, ?master, ?mirror, by rwa [hpage], hlink, by rw [hrom]; rfl⟩
  case mapped => rw [hpage]; simp [Chip.pageMapped, hblock, hon, instancesOf, show instOf P.KPR = 0 from rfl]
  case locked =>
    have h114 : offOf key ≠ 0x114 := by omega
    have h118 : offOf key ≠ 0x118 := by omega
    obtain rfl | rfl := hmst <;> simp [Chip.pageLocked, hpage, hoff, h114, h118]
  case master => simp only [wrongMaster, hpage, hblock]
  case mirror => simp [Chip.mirrorRefusal, hd, hs]

/-- A roll-up event clears where a host writes a 1 in its bit. -/
theorem rollup_clears {mst : Master} {region : Option Nat} {data key : Nat} {s : State} {d : RegDef} (n : Nat)
    (hrun : exec (.rollupEventClear mst region data) s = s.run (fun m c => c.regWrite mst key data m))
    (hdata : data < 2 ^ 32) (hkey : rollupKey key) (hd : findReg key = some d) (hcodes : d.onlyClears n) (hn : n < 32)
    (hhost : s.chip.hostReachesKpr mst) (hbit : bit data n = true) :
    completes (.rollupEventClear mst region data) s (fun t => t.chip.get ⟨key, n, 1, 4⟩ = 0 ∧ onlyRegs [key] s t) := by
  obtain ⟨hrw, hs, hw1s, hw1c⟩ := hcodes
  have hw := s.chip.takesWrite_rollup mst key d hkey hd hs hhost
  obtain ⟨hlo, hhi, -⟩ := hkey
  simp only [P.KPR] at hlo hhi
  have hblock : blockOf key = 14 := by simp only [blockOf]; omega
  have hpresent : s.chip.presentBits key = 0xFFFFFFFF := by
    have hser : key / 0x10000 ≠ 11 := by omega
    simp [Chip.presentBits, hser]
  have hplain : s.chip.quiet.writeMeaning s.mem mst key data = (.ok, s.chip.quiet.plainWrite key data) :=
    Chip.writeMeaning_plain _ _ _ _ _ (by simp only [offOf]; omega) (by simp only [Chip.engineWrite, hblock])
      (by simp only [Chip.keeperRegWrite, hblock])
  obtain ⟨t, hnext, hget, hkept⟩ := plainWrite_bit n hrun hdata hw hd hs hplain hn
  refine ⟨t, hnext, hget.trans ?_, hkept⟩
  rw [Chip.plainWord_bit _ _ _ _ _ hn hs (by omega) hpresent hdata, testBit_of_bit data, hbit, hw1c, hrw, hw1s]
  simp

theorem findReg_regionSum (r : Nat) (hr : r < 4) :
    findReg (K.KPR_REGION_SUM + 4 * r) = some ⟨0x104, 4, 4, 0, 0, 0x80000000, 0, 0, 0x1ffffe, 0⟩ := by
  interval_cases r <;> rfl

/-- Settles O2: INT_RAW and INT_FORCE act through `Chip.intChange`; the other registers are written by their access codes,
and of each the bit in question is `Chip.plainWord_bit`. -/
theorem interruptBitsClearAndForce : Obligations.InterruptBitsClearAndForce := by
  intro mst page data s hpage hdata
  refine ⟨exec_intRawClear_taken mst page data s hpage hdata, intForce_sets mst page data s hpage hdata,
    parityInject_arms mst page data s hpage hdata, ?region, ?chip⟩
  case region =>
    intro r hmst hrom hon hinject hlink hbit hr
    have hfld : F.KPR_REGION_SUM_REGION_EVT.ix r = ⟨K.KPR_REGION_SUM + 4 * r, 31, 1, 4⟩ := by
      rw [Nat.mul_comm]; rfl
    rw [hfld]
    exact rollup_clears 31 (exec_rollupEventClear mst (some r) data s) hdata
      ⟨by simp only [P.KPR, K.KPR_REGION_SUM]; omega, by simp only [P.KPR, K.KPR_REGION_SUM]; omega,
        by simp only [K.KPR_REGION_SUM]; omega⟩
      (findReg_regionSum r hr) (by decide) (by decide) ⟨hmst, hrom, hon, hinject, hlink⟩ hbit
  case chip =>
    intro hmst hrom hon hinject hlink hbit
    exact rollup_clears 8 (exec_rollupEventClear mst none data s) hdata (by decide)
      (d := ⟨0x100, 1, 4, 0, 0, 0x100, 0, 0, 0xf, 0⟩) rfl (by decide) (by decide) ⟨hmst, hrom, hon, hinject, hlink⟩ hbit

end Sys2Proof.Machine

namespace Sys2Proof.Machine

/-! ### PAGE_LOCK (R65) -/

/-- PAGE_LOCK as it stands with `writers` in WRITERS and LOCK as given. -/
def pageLockWord (writers : Nat) (lock : Bool) : Word := BitVec.ofNat 32 (writers % 32 + b2n lock * 2 ^ 31)

theorem pageLockWord_fields (writers key : Nat) (lock : Bool) : fldGet (pageLockWord writers lock) ⟨key, 31, 1, 4⟩ = b2n lock
    ∧ fldGet (pageLockWord writers lock) ⟨key, 0, 5, 4⟩ = writers % 32 := by
  simp only [pageLockWord, fldGet, BitVec.toNat_ofNat]
  cases lock <;> simp only [b2n, Bool.false_eq_true, if_false, if_true] <;> constructor <;> omega

/-- A taken write of PAGE_LOCK stores WRITERS; LOCK then reads `lock`, what the write makes of it. -/
theorem pageLock_written {i : Instr} {mst : Master} {page data : Nat} {s : State} (lock : Bool)
    (hrun : exec i s = s.run (fun m c => c.regWrite mst (page + 0x038) data m)) (hpage : page % 4096 = 0)
    (hdata : data < 2 ^ 32) (hw : s.chip.takesWrite mst (page + 0x038))
    (hlock : ((bit (s.chip.w (page + 0x038)).toNat 31 || bit data 31) && !(bit data 30 && mst = .keeper)) = lock) :
    completes i s (fun t => t.chip.get ⟨page + 0x038, 31, 1, 4⟩ = b2n lock
      ∧ t.chip.get ⟨page + 0x038, 0, 5, 4⟩ = data % 32 ∧ onlyRegs [page + 0x038] s t) := by
  subst hlock
  refine ⟨_, exec_of_headerWrite hrun hpage hdata (by decide) hw rfl rfl rfl, ?_⟩
  obtain ⟨hbit, hwriters⟩ := pageLockWord_fields data (page + 0x038)
    ((bit (s.chip.w (page + 0x038)).toNat 31 || bit data 31) && !(bit data 30 && mst = .keeper))
  have hword := s.chip.quiet.w_setw_same (page + 0x038) (pageLockWord data
    ((bit (s.chip.w (page + 0x038)).toNat 31 || bit data 31) && !(bit data 30 && mst = .keeper)))
  exact ⟨(congrArg (fldGet · _) hword).trans hbit, (congrArg (fldGet · _) hword).trans hwriters, onlyRegs_taken_setw s _ _⟩

/-! ### A write that a page's lock refuses (R65, R276) -/

/-- The module after INDEX of a table window moved on, where the key is that of a table window. -/
def Chip.indexStepped (c : Chip) (key : Nat) : Chip :=
  if key = K.PCN_TBL_DATA then c.pcnIndexStep else if key = K.APL_TBL_DATA then c.aplIndexStep else c

/-- What no field set moves, INDEX moving on does not move. -/
theorem Chip.indexStepped_keeps {γ : Type} (g : Chip → γ) (hset : ∀ c f v, g (Chip.set c f v) = g c) (c : Chip) (key : Nat) :
    g (c.indexStepped key) = g c := by
  unfold Chip.indexStepped
  split
  · exact Chip.when_keeps g c _ _ (fun c => hset c _ _)
  · split
    · exact Chip.when_keeps g c _ _ (fun c => hset c _ _)
    · rfl

theorem Chip.indexStepped_eq_self (c : Chip) (key : Nat) (hpcn : key ≠ K.PCN_TBL_DATA) (hapl : key ≠ K.APL_TBL_DATA) :
    c.indexStepped key = c := by
  rw [Chip.indexStepped, if_neg hpcn, if_neg hapl]

/-- A locked write is answered LOCKED and moves no more than INDEX, which the boot ROM's own refusal leaves too. -/
theorem Chip.writeReg_locked (c : Chip) (m : Memory) (mst : Master) (key data : Nat) (hlock : c.pageLocked mst key = true)
    (hrom : (c.modes.bootRom && isHost mst) = false ∨ c.indexStepped key = c) :
    c.writeReg m mst key data = (c.indexStepped key).respond .locked := by
  unfold Chip.writeReg
  dsimp only
  split
  · next hboot =>
    rw [hrom.resolve_left (by simp [hboot])]
  · split
    · next hhigh =>
      rw [c.indexStepped_eq_self]
      · rintro rfl; exact absurd hhigh (by decide)
      · rintro rfl; exact absurd hhigh (by decide)
    · rw [hlock, Bool.true_or, if_pos rfl]
      congr 1
      unfold Chip.when Chip.indexStepped
      by_cases hpcn : key = K.PCN_TBL_DATA
      · subst hpcn; rfl
      · simp only [hpcn, decide_false, decide_eq_true_eq, if_false, Bool.false_eq_true]

theorem Chip.busWrite_locked (c : Chip) (m : Memory) (mst : Master) (key data : Nat) (hkey : key < 0x10000000)
    (halign : key % 4 = 0) (hmap : c.pageMapped (pageOf key) = true) (hlock : c.pageLocked mst key = true)
    (hrom : (c.modes.bootRom && isHost mst) = false ∨ c.indexStepped key = c) :
    c.busWrite m mst (regAddr key) data 4 = (c.indexStepped key).respond .locked := by
  unfold Chip.busWrite
  simp only [c.target_reg key hkey hmap, regAddr_aligned key halign]
  simpa using c.writeReg_locked m mst key _ hlock hrom

theorem masterBit_lt (mst : Master) : masterBit mst < 5 := by
  cases mst <;> decide

/-- The low `n` bits of a number hold each of its bits below `n`. -/
theorem bit_mod_two_pow (x n i : Nat) (h : i < n) : bit (x % 2 ^ n) i = bit x i := by
  rw [← testBit_of_bit, ← testBit_of_bit, Nat.testBit_mod_two_pow, decide_eq_true h, Bool.true_and]

/-- A page whose LOCK is 1 keeps out a master whose WRITERS bit is 0, but for the registers that stay free. -/
theorem Chip.pageLocked_of_barred (c : Chip) (mst : Master) (page off : Nat) (hpage : page % 4096 = 0) (hoff : off < 0x1000)
    (hlock : c.get ⟨page + 0x038, 31, 1, 4⟩ = 1) (hbar : bit (c.get ⟨page + 0x038, 0, 5, 4⟩) (masterBit mst) = false)
    (hraw : off ≠ 0x010) (hinfo : off ≠ 0x020) (hcount : off ≠ 0x02C)
    (hhost : page = P.KPR → isHost mst = true → off < 0x100 ∨ 0x11C ≤ off) : c.pageLocked mst (page + off) = true := by
  have hoffOf : offOf (page + off) = off := by simp only [offOf]; omega
  have hpageOf : pageOf (page + off) = page := by simp only [pageOf]; omega
  have hset : bit (c.w (page + 0x038)).toNat 31 = true := by
    simpa [bit, Chip.get, fldGet] using hlock
  have hmaster : bit (c.w (page + 0x038)).toNat (masterBit mst) = false := by
    rwa [← bit_mod_two_pow _ 5 _ (masterBit_lt mst), ← Nat.div_one (BitVec.toNat _)]
  have hroll : (decide (page = P.KPR) && isHost mst && (decide (0x100 ≤ off) && decide (off < 0x114)
      || decide (off = if mst = .host0 then 0x114 else 0x118))) = false := by
    refine Bool.eq_false_iff.mpr fun hfree => ?_
    simp only [Bool.and_eq_true, Bool.or_eq_true, decide_eq_true_eq] at hfree
    obtain ⟨⟨hkpr, hmst⟩, hreg⟩ := hfree
    have hout := hhost hkpr hmst
    split at hreg <;> omega
  unfold isHost at hroll
  unfold Chip.pageLocked
  simp only [hoffOf, hpageOf, hset, hmaster, hroll, hraw, hinfo, hcount]
  simp

theorem Chip.pageLocked_pageLock (c : Chip) (mst : Master) (page : Nat) (hpage : page % 4096 = 0) (hmst : mst ≠ .keeper)
    (hlock : c.get ⟨page + 0x038, 31, 1, 4⟩ = 1) : c.pageLocked mst (page + 0x038) = true := by
  have hoffOf : offOf (page + 0x038) = 0x038 := by simp only [offOf]; omega
  have hpageOf : pageOf (page + 0x038) = page := by simp only [pageOf]; omega
  have hset : bit (c.w (page + 0x038)).toNat 31 = true := by
    simpa [bit, Chip.get, fldGet] using hlock
  have hroll : 0x038 ≠ (if mst = .host0 then 0x114 else 0x118) := by split <;> decide
  simp [Chip.pageLocked, hoffOf, hpageOf, hset, hmst, hroll]

/-! ### The commands on a locked page (R65) -/

/-- A word written to a locked page by a master whose WRITERS bit is 0. -/
theorem exec_registerWrite_locked (mst : Master) (page off data : Nat) (same : Bool) (s : State) (hpage : page % 4096 = 0)
    (hoff : off < 0x1000) (halign : off % 4 = 0) (hkey : page + off < 0x10000000) (hmap : s.chip.pageMapped page = true)
    (hlink : s.chip.hlk.downNext = false) (hrom : s.chip.modes.bootRom = false)
    (hlock : s.chip.pageLocked mst (page + off) = true) :
    exec (.registerWrite mst (regAddr (page + off)) data ⟨4, same⟩) s
      = .next (s.became ((s.chip.quiet.indexStepped (page + off)).respond .locked)) := by
  have hpageOf : pageOf (page + off) = page := by simp only [pageOf]; omega
  have hbus := s.chip.quiet.busWrite_locked s.mem mst (page + off) data hkey (by omega) (by rwa [hpageOf]) hlock
    (.inl (by rw [Chip.quiet_modes, hrom, Bool.false_and]))
  rw [exec_registerWrite]
  refine State.run_pure s _ _ ?_ (Chip.indexStepped_keeps Chip.out (fun _ _ _ => rfl) _ _)
  dsimp only
  rw [hbus, Chip.serialised_refused _ _ _ _ _ (by simp [Chip.respond])]
  exact Chip.busEnd_up _ ((congrArg Hlk.downNext (Chip.indexStepped_keeps Chip.hlk (fun _ _ _ => rfl) _ _)).trans hlink)

theorem exec_pageUnlock_locked (mst : Master) (page data : Nat) (s : State) (hpage : page % 4096 = 0)
    (hmap : s.chip.pageMapped page = true) (hkey : page + 0x038 < 0x10000000) (hlink : s.chip.hlk.downNext = false)
    (hmst : mst ≠ .keeper) (hlock : s.chip.get ⟨page + 0x038, 31, 1, 4⟩ = 1) :
    exec (.pageUnlock mst page data) s = .next (s.became { s.chip.quiet with resp := ⟨.locked, 0⟩ }) := by
  have hpageOf : pageOf (page + 0x038) = page := by simp only [pageOf]; omega
  have hsame : s.chip.quiet.indexStepped (page + 0x038) = s.chip.quiet :=
    Chip.indexStepped_eq_self _ _ (by simp only [K.PCN_TBL_DATA]; omega) (by simp only [K.APL_TBL_DATA]; omega)
  have hbus := s.chip.quiet.busWrite_locked s.mem mst (page + 0x038) data hkey (by omega) (by rwa [hpageOf])
    (s.chip.quiet.pageLocked_pageLock mst page hpage hmst hlock) (.inr hsame)
  rw [exec_pageUnlock]
  refine State.run_pure s _ _ ?_ rfl
  dsimp only
  rw [Chip.regWrite, hbus, hsame]
  exact Chip.busEnd_up _ hlink

/-- Settles O3: LOCK and WRITERS as a taken write leaves them (`pageLock_written`), and the refusals, which
`Chip.pageLocked` decides. -/
theorem pageLockKeepsMastersOut : Obligations.PageLockKeepsMastersOut := by
  intro mst page data s hpage hdata
  refine ⟨?set, ?unlock, ?refused, fun hmap hkey hlink hmst hlock =>
    exec_pageUnlock_locked mst page data s hpage hmap hkey hlink hmst hlock⟩
  case set =>
    intro hw hset hclear
    exact pageLock_written true (exec_pageLockSet mst page data s) hpage hdata hw (by simp [hset, hclear])
  case unlock =>
    intro hw hclear
    obtain ⟨t, hrun, hlock, -, hkept⟩ := pageLock_written false (exec_pageUnlock .keeper page data s) hpage hdata hw
      (by simp [hclear])
    exact ⟨t, hrun, hlock, hkept⟩
  case refused =>
    intro off same hoff halign hkey hmap hlink hrom hlock hbar hraw hinfo hcount hhost
    exact exec_registerWrite_locked mst page off data same s hpage hoff halign hkey hmap hlink hrom
      (s.chip.pageLocked_of_barred mst page off hpage hoff hlock hbar hraw hinfo hcount hhost)

end Sys2Proof.Machine

namespace Sys2Proof.Machine

/-! ### EVENT packets (R64, R402) -/

@[simp] theorem Chip.setHostEvents_out (c : Chip) (h : Nat) (e : HostEvents) : (c.setHostEvents h e).out = c.out := by
  unfold Chip.setHostEvents
  split <;> rfl

/-- The EVENT packet that reports a rise to context `h`. -/
def Chip.eventPacketOf (c : Chip) (h : Nat) : Packet :=
  { op := 0x90, ctx := h, aux := b2n (c.hostEvents h).merged + 2 * b2n (c.hostEvents h).resume, data := c.eventData h }

section Rise

variable {c : Chip} {h : Nat} (hrise : (c.hostEvents h).rise = true) (hup : c.linkState = 4)

include hrise hup in
theorem Chip.sendEvent_credit (hcredit : c.hlk.credits.getD 2 0 ≠ 0) : c.sendEvent h
    = ((c.setHostEvents h { rise := false, window := true, merged := false, resume := false }).count P.HLK 18).sendPacket
      (c.eventPacketOf h) := by
  unfold Chip.sendEvent
  rw [if_neg (by simp [hrise, hup]), if_neg hcredit]
  rfl

include hrise hup in
theorem Chip.sendEvent_noCredit (hcredit : c.hlk.credits.getD 2 0 = 0) :
    c.sendEvent h = c.setHostEvents h { c.hostEvents h with merged := true } := by
  unfold Chip.sendEvent
  rw [if_neg (by simp [hrise, hup]), if_pos hcredit]

end Rise

theorem Chip.sendEvent_out (c : Chip) (h : Nat) : (c.sendEvent h).out = c.out := by
  unfold Chip.sendEvent
  dsimp only
  split
  · rfl
  · split
    · exact Chip.setHostEvents_out _ _ _
    · exact (sendMove.sendPacket _ _).out.trans (Chip.setHostEvents_out _ _ _)

/-- Settles O6: EVENT_PACKET sends or merges (`Chip.sendEvent_credit`, `Chip.sendEvent_noCredit`), and EVENT_PACKET_MERGE ends
the 10 µs and then does the same. -/
theorem eventPacketsTellTheHost : Obligations.EventPacketsTellTheHost := by
  intro h s hup hrise
  have hopen : (s.chip.hostEvents h).window = false → s.chip.quiet.eventPacket h = s.chip.quiet.sendEvent h :=
    fun hwindow => if_neg (Bool.eq_false_iff.mp hwindow)
  refine ⟨fun hwindow hcredit => ?credit, fun hwindow hcredit => ?merge, fun hwindow => ?ended⟩
  case credit =>
    rw [exec_eventPacket]
    refine s.run_pure _ _ ((hopen hwindow).trans (Chip.sendEvent_credit hrise hup hcredit)) ?_
    exact (sendMove.sendPacket _ _).out.trans (Chip.setHostEvents_out _ _ _)
  case merge =>
    rw [exec_eventPacket]
    exact s.run_pure _ _ ((hopen hwindow).trans (Chip.sendEvent_noCredit hrise hup hcredit)) (Chip.setHostEvents_out _ _ _)
  case ended =>
    rw [exec_eventPacketMerge]
    exact s.run_pure _ _ (if_pos hwindow) ((Chip.sendEvent_out _ _).trans (Chip.setHostEvents_out _ _ _))

end Sys2Proof.Machine

namespace Sys2Proof.Machine

@[simp] theorem State.stored_mode (s : State) (d : Chip) : (s.stored d).chip.mode = d.mode := rfl
@[simp] theorem State.stored_modes (s : State) (d : Chip) : (s.stored d).chip.modes = d.modes := rfl
@[simp] theorem State.stored_get (s : State) (d : Chip) (f : Fld) : (s.stored d).chip.get f = d.get f := rfl
@[simp] theorem State.stored_blockOn (s : State) (d : Chip) (b : Nat) : (s.stored d).chip.blockOn b = d.blockOn b := rfl

/-! ### Blocks and rails that are powered (R68, R520) -/

/-- Powering a block of the Keeper region adds it to the powered ones, and moves nothing else. -/
theorem Chip.blockUp_powers (c : Chip) (b mask : Nat) (hb : 14 ≤ b) :
    ∃ on, c.blockUp b mask = { c with blocksOn := on } ∧ b ∈ on ∧ c.blocksOn ⊆ on := by
  unfold Chip.blockUp
  split
  · next hon => exact ⟨c.blocksOn, rfl, List.contains_iff_mem.mp hon, fun _ h => h⟩
  · refine ⟨c.blocksOn ++ [b], ?_, by simp, by simp⟩
    dsimp only
    split
    case h_5 => rfl
    all_goals omega

theorem Chip.blocksUp_power (c : Chip) (l : List Nat) (mask : Nat) (hl : ∀ b ∈ l, 14 ≤ b) :
    ∃ on, foldOver l (fun (b : Nat) (c : Chip) => c.blockUp b mask) c = { c with blocksOn := on }
      ∧ (∀ b ∈ l, b ∈ on) ∧ c.blocksOn ⊆ on := by
  induction l generalizing c with
  | nil => exact ⟨c.blocksOn, rfl, by simp, fun _ h => h⟩
  | cons b l ih =>
    obtain ⟨on, hone, hb, hkept⟩ := c.blockUp_powers b mask (hl b (by simp))
    obtain ⟨on', hrest, hall, hkept'⟩ := ih { c with blocksOn := on } (fun b hb => hl b (by simp [hb]))
    refine ⟨on', ?_, ?_, fun _ h => hkept' (hkept h)⟩
    · rw [← hone] at hrest
      exact hrest.trans (by rw [hone])
    · simpa using ⟨hkept' hb, hall⟩

theorem Chip.regionState_keeps {γ : Type} (g : Chip → γ) (hset : ∀ c f v, g (Chip.set c f v) = g c) (c : Chip) :
    g c.regionState = g c := by
  refine foldOver_keeps g _ (fun r d => ?_) _ c
  dsimp only
  split
  · exact hset d _ _
  · exact (foldOver_keeps g _ (fun i e => hset e _ _) _ _).trans (hset d _ _)

/-! ### Boot from Off (R72) -/

theorem Chip.bootFromOff_boots (c : Chip) (hmode : c.mode = .off) (hvin : c.modes.vinValid = true)
    (hpwr : c.modes.pwrEn = true) (hhold : c.pwr.holdoff = false) :
    c.bootFromOff.mode = .boot ∧ c.bootFromOff.modes = c.modes
      ∧ (∀ b ∈ blocksOfRegion 3, c.bootFromOff.blockOn b = true) ∧ c.bootFromOff.out = c.out := by
  have hgo : ¬ (decide (c.mode ≠ .off) || !c.modes.vinValid || !c.modes.pwrEn || c.pwr.holdoff) = true := by
    simp [hmode, hvin, hpwr, hhold]
  obtain ⟨on, hup, hall, -⟩ := c.blocksUp_power (blocksOfRegion 3) 0 (by decide)
  unfold Chip.bootFromOff
  rw [if_neg hgo, hup]
  extract_lets powered railed
  have hkeeps : ∀ {γ : Type} (g : Chip → γ) (_ : ∀ c f v, g (Chip.set c f v) = g c), g railed.regionState = g powered :=
    fun g hset => (Chip.regionState_keeps g hset _).trans (foldOver_keeps g _ (fun i d => hset d _ _) _ _)
  refine ⟨rfl, hkeeps Chip.modes (fun _ _ _ => rfl), fun b hb => ?_, hkeeps Chip.out (fun _ _ _ => rfl)⟩
  have hon : railed.regionState.blocksOn = on := hkeeps Chip.blocksOn (fun _ _ _ => rfl)
  exact List.contains_iff_mem.mpr (hon ▸ hall b hb)

theorem Chip.vinReading_keeps {γ : Type} (g : Chip → γ) (hset : ∀ c f v, g (Chip.set c f v) = g c) (c : Chip) (mv : Nat)
    (h : 6000 ≤ mv) : g (c.vinReading mv) = g c := by
  have hvalid : ¬ mv < 6000 := by omega
  simp only [Chip.vinReading, if_neg hvalid]
  split
  · exact (hset _ _ _).trans (hset _ _ _)
  · exact hset _ _ _

/-- VIN valid, and read where PWR is powered. -/
def Chip.vinTaken (c : Chip) (mv : Nat) : Chip :=
  (c.modesUp (fun m => { m with vinValid := true })).when (c.blockOn 20) (fun c => c.vinReading mv)

theorem Chip.vinTaken_keeps {γ : Type} (g : Chip → γ) (hset : ∀ c f v, g (Chip.set c f v) = g c) (c : Chip) (mv : Nat)
    (h : 6000 ≤ mv) : g (c.vinTaken mv) = g (c.modesUp (fun m => { m with vinValid := true })) :=
  Chip.when_keeps g _ _ _ (fun c => c.vinReading_keeps g hset mv h)

theorem Chip.vinValid_eq (c : Chip) (mv : Nat) (h : 6000 ≤ mv) : c.vinValid mv = (c.vinTaken mv).bootFromOff :=
  if_neg (by omega)

theorem vinValid_boots (mv : Nat) (s : State) (hmode : s.chip.mode = .off) (hpwr : s.chip.modes.pwrEn = true)
    (hhold : s.chip.pwr.holdoff = false) (hmv : 6000 ≤ mv) :
    completes (.vinValid mv) s (fun t => t.chip.mode = .boot ∧ t.chip.modes.vinValid = true
      ∧ (∀ b ∈ [14, 15, 16, 17, 18, 19, 20], t.chip.blockOn b = true) ∧ memKept s t) := by
  have htaken : ∀ {γ : Type} (g : Chip → γ) (_ : ∀ c f v, g (Chip.set c f v) = g c),
      g (s.chip.quiet.vinTaken mv) = g (s.chip.quiet.modesUp (fun m => { m with vinValid := true })) :=
    fun g hset => s.chip.quiet.vinTaken_keeps g hset mv hmv
  have hmodes := htaken Chip.modes (fun _ _ _ => rfl)
  obtain ⟨hboot, hkept, hon, hout⟩ := (s.chip.quiet.vinTaken mv).bootFromOff_boots
    ((htaken Chip.mode (fun _ _ _ => rfl)).trans hmode) (congrArg Modes.vinValid hmodes)
    ((congrArg Modes.pwrEn hmodes).trans hpwr) ((congrArg Pwr.holdoff (htaken Chip.pwr (fun _ _ _ => rfl))).trans hhold)
  exact completes_of_run (exec_vinValid mv s) (s.chip.quiet.vinValid_eq mv hmv) ⟨hboot,
    congrArg Modes.vinValid (hkept.trans hmodes), hon, s.memKept_stored _ (hout.trans (htaken Chip.out (fun _ _ _ => rfl)))⟩

theorem pwrEnRise_boots (s : State) (hmode : s.chip.mode = .off) (hvin : s.chip.modes.vinValid = true)
    (hhold : s.chip.pwr.holdoff = false) : completes .pwrEnRise s (fun t => t.chip.mode = .boot ∧ t.chip.modes.pwrEn = true
      ∧ (∀ b ∈ [14, 15, 16, 17, 18, 19, 20], t.chip.blockOn b = true) ∧ memKept s t) := by
  obtain ⟨hboot, hkept, hon, hout⟩ := (s.chip.quiet.modesUp (fun m => { m with pwrEn := true })).bootFromOff_boots
    hmode hvin rfl hhold
  exact completes_of_run (exec_pwrEnRise s) rfl ⟨hboot, congrArg Modes.pwrEn hkept, hon, s.memKept_stored _ hout⟩

/-! ### PWR_EN falls (R90) -/

section PwrEnFall

variable (s : State)

theorem exec_pwrEnFall_running (hoff : s.chip.mode ≠ .off) (hmooring : s.chip.mode ≠ .mooring)
    (hboot : s.chip.mode ≠ .boot) (hshut : s.chip.modes.shutdown = none) :
    exec .pwrEnFall s = .next (s.became (s.chip.quiet.modesUp (fun m => { m with
      pwrEn := false, wanted := some ⟨.off, 0, 0xB, 0, false, false⟩ }))) := by
  rw [exec_pwrEnFall]
  refine s.run_pure _ _ ?_ rfl
  simp [Chip.pwrEnFall, Chip.modesUp, hoff, hmooring, hboot, hshut]

theorem exec_pwrEnFall_stopping (o : Shutdown) (hoff : s.chip.mode ≠ .off) (hmooring : s.chip.mode ≠ .mooring)
    (hshut : s.chip.modes.shutdown = some o) :
    exec .pwrEnFall s = .next (s.became (s.chip.quiet.modesUp (fun m => { m with
      pwrEn := false, shutdown := some { o with target := .off, cause := 0xB } }))) := by
  rw [exec_pwrEnFall]
  refine s.run_pure _ _ ?_ rfl
  simp [Chip.pwrEnFall, Chip.modesUp, hoff, hmooring, hshut]

theorem exec_pwrEnFall_booting (hboot : s.chip.mode = .boot) (hshut : s.chip.modes.shutdown = none) :
    exec .pwrEnFall s = .next (s.became (s.chip.quiet.modesUp (fun m => { m with pwrEn := false, stopBoot := true }))) := by
  rw [exec_pwrEnFall]
  refine s.run_pure _ _ ?_ rfl
  simp [Chip.pwrEnFall, Chip.modesUp, hboot, hshut]

end PwrEnFall

/-! ### WAKE_N falls (R83, R91) -/

/-- Off is not asked for. -/
theorem Chip.wanted_not_off (c : Chip) (h : ∀ n, c.modes.wanted = some n → n.target ≠ .off) :
    c.modes.wanted.map (·.target) ≠ some .off := by
  intro hoff
  obtain ⟨n, hn, htarget⟩ := Option.map_eq_some_iff.mp hoff
  exact h n hn htarget

theorem exec_wakeNLow_hold (s : State) (hmode : s.chip.mode = .hold)
    (hwanted : ∀ n, s.chip.modes.wanted = some n → n.target ≠ .off) :
    exec .wakeNLow s = .next (s.became (s.chip.quiet.modesUp (fun m => { m with
      wanted := some ⟨m.holdMode, m.holdTiming, 9, 0, false, false⟩ }))) := by
  rw [exec_wakeNLow]
  refine s.run_pure _ _ ?_ rfl
  have hnot := s.chip.wanted_not_off hwanted
  simp [Chip.wakeLow, Chip.leaveHold, Chip.want, Chip.modesUp, hmode, hnot]

/-! ### Endpoint resets write mailbox pages only (R485, R486) -/

section BelowMailboxes

variable {k : Nat} (hk : k < 0xF00000)
include hk

theorem Chip.irqEp_w_below (c : Chip) (e i : Nat) : (c.irq (epPage e) i).w k = c.w k :=
  c.irq_w_other _ _ _ (by have := epPage_ge e; omega)

theorem Chip.ring_w_below (c : Chip) (r s bits : Nat) : (c.ring_ r s bits).w k = c.w k := by
  have hirq : ∀ (d : Chip) (b : Prop) [Decidable b] (i : Nat), (if b then d.irq (epPage r) i else d).w k = d.w k :=
    fun d b _ i => by
      split
      · exact d.irqEp_w_below hk r i
      · rfl
  have hdb : k ≠ dbKey r s := by have := epPage_ge r; simp only [dbKey]; omega
  unfold Chip.ring_
  dsimp only
  exact (hirq _ _ _).trans ((hirq _ _ _).trans (Chip.w_setw_other _ _ _ _ hdb))

theorem Chip.notice_w_below (c : Chip) (e p : Nat) : (c.notice e p).w k = c.w k := by
  unfold Chip.notice
  split
  · exact c.ring_w_below hk _ _ _
  · rfl

/-- A channel's status, counted or marked, and the notice of it. -/
theorem Chip.chStatus_notice_w_below (c : Chip) (r s v lo wd : Nat) :
    ((c.set ⟨chStatus r s, lo, wd, 4⟩ v).notice r s).w k = c.w k := by
  have hch : k ≠ chStatus r s := by have := epPage_ge r; simp only [chStatus]; omega
  exact (Chip.notice_w_below hk _ _ _).trans (Chip.w_set_other _ _ _ _ hch)

theorem Chip.resetReceiver_w_below (c : Chip) (r : Nat) : (c.resetReceiver r).w k = c.w k := by
  unfold Chip.resetReceiver
  extract_lets one swept
  have hcount : k ≠ epPage r + 0x44 + 4 * 3 := by have := epPage_ge r; omega
  have hone : ∀ s d, (one s d).w k = d.w k := fun s d => by
    have hcounted : ∀ l n, ((d.setChan r s l).count (epPage r) 3 n).w k = d.w k := fun l n =>
      Chip.w_count_other _ _ _ _ _ hcount
    simp only [one]
    split
    · rfl
    · split
      · exact (Chip.chStatus_notice_w_below hk _ _ _ _ _ _).trans (hcounted _ _)
      · exact hcounted _ _
  exact (Chip.mbxUp_w _ _ _).trans (foldOver_keeps (fun c => c.w k) one hone _ c)

theorem Chip.resetSender_w_below (c : Chip) (s : Nat) : (c.resetSender s).w k = c.w k := by
  unfold Chip.resetSender
  extract_lets one swept
  have hone : ∀ r d, (one r d).w k = d.w k := fun r d => by
    simp only [one]
    split
    · rfl
    · split
      · exact Chip.chStatus_notice_w_below hk _ _ _ _ _ _
      · rfl
  have hepoch : k ≠ (epochFld s).key := by simp only [epochFld, K.MBX0_EPOCH]; omega
  exact (Chip.w_set_other _ _ _ _ hepoch).trans (foldOver_keeps (fun c => c.w k) one hone _ c)

theorem Chip.epReset_w_below (c : Chip) (e : Nat) : (c.epReset e).w k = c.w k := by
  have hboth := ((c.resetReceiver e).resetSender_w_below hk e).trans (c.resetReceiver_w_below hk e)
  unfold Chip.epReset
  dsimp only
  split
  · exact (Chip.mbxUp_w _ _ _).trans hboth
  · exact hboth

end BelowMailboxes

theorem Chip.epReset_get_below (c : Chip) (e : Nat) (f : Fld) (hf : f.key < 0xF00000) : (c.epReset e).get f = c.get f := by
  simp only [Chip.get, c.epReset_w_below hf e]

/-! ### A boot begins in the Keeper region (R72, R83) -/

theorem Chip.setMode_get (c : Chip) (m : Mode) (cause : Nat) (f : Fld) : (c.setMode m cause).get f
    = (((c.set F.KPR_MODE_STATUS_PREV (modeCode c.mode)).set F.KPR_MODE_STATUS_MODE (modeCode m)).set
      F.KPR_MODE_STATUS_CAUSE cause).get f := rfl

theorem Chip.setMode_get_other (c : Chip) (m : Mode) (cause : Nat) (f : Fld) (hf : f.key ≠ K.KPR_MODE_STATUS) :
    (c.setMode m cause).get f = c.get f := by
  rw [Chip.setMode_get, Chip.get_set_key _ _ _ _ hf, Chip.get_set_key _ _ _ _ hf, Chip.get_set_key _ _ _ _ hf]

theorem Chip.setMode_cause (c : Chip) (m : Mode) (cause : Nat) :
    (c.setMode m cause).get F.KPR_MODE_STATUS_CAUSE = cause % 16 :=
  Chip.get_set_same ((c.set F.KPR_MODE_STATUS_PREV (modeCode c.mode)).set F.KPR_MODE_STATUS_MODE (modeCode m))
    F.KPR_MODE_STATUS_CAUSE cause (by decide)

/-- The end of `bootStart`: no object is active, endpoint 0 starts anew, and the debug lock closes. -/
def Chip.keeperAnew (c : Chip) : Chip :=
  (((c.set F.KPR_OBJ_STATUS_ACTIVE 0).set F.KPR_OBJ_STATUS_OVERRIDE 0).epReset 0).debugLock

theorem Chip.debugLock_mode (c : Chip) : c.debugLock.mode = c.mode := rfl

theorem Chip.keeperAnew_mode (c : Chip) : c.keeperAnew.mode = c.mode := by
  unfold Chip.keeperAnew
  rw [Chip.debugLock_mode, mode_of_modeView (Chip.epReset_modeView _ 0), Chip.set_mode, Chip.set_mode]

theorem Chip.keeperAnew_get (c : Chip) (f : Fld) (hlow : f.key < 0xF00000) (hsec : f.key ≠ K.KPR_SEC_STATUS)
    (hobj : f.key ≠ K.KPR_OBJ_STATUS) : c.keeperAnew.get f = c.get f := by
  unfold Chip.keeperAnew Chip.debugLock
  rw [Chip.kprUp_get, Chip.get_set_key _ _ _ _ hsec, Chip.epReset_get_below _ _ _ hlow, Chip.get_set_key _ _ _ _ hobj,
    Chip.get_set_key _ _ _ _ hobj]

/-- Boot from step `step`: the firmware's version stays where the firmware does, from a later step than 0 on. -/
theorem Chip.bootStart_shows (c : Chip) (cause step : Nat) :
    (c.bootStart cause step).mode = .boot ∧ (c.bootStart cause step).get F.KPR_BOOT_STATUS_STEP = step % 16
      ∧ (c.bootStart cause step).get F.KPR_MODE_STATUS_CAUSE = cause % 16
      ∧ (step ≠ 0 → (c.bootStart cause step).get F.KPR_FW_VERSION_VERSION = c.get F.KPR_FW_VERSION_VERSION) := by
  unfold Chip.bootStart
  extract_lets entered changed versioned reported counted timed cleared keeper
  change keeper.keeperAnew.mode = _ ∧ keeper.keeperAnew.get _ = _ ∧ keeper.keeperAnew.get _ = _
    ∧ (_ → keeper.keeperAnew.get _ = _)
  have hentered : entered.mode = .boot ∧ entered.get F.KPR_MODE_STATUS_CAUSE = cause % 16
      ∧ entered.get F.KPR_FW_VERSION_VERSION = c.get F.KPR_FW_VERSION_VERSION := by
    simp only [entered]
    split
    · next hboot =>
      exact ⟨hboot, Chip.get_set_same _ _ _ (by decide), Chip.get_set_key _ _ _ _ (by decide)⟩
    · exact ⟨rfl, c.setMode_cause _ _, c.setMode_get_other _ _ _ (by decide)⟩
  obtain ⟨hmode, hcause, hfirmware⟩ := hentered
  clear_value entered
  have hversioned : versioned.mode = .boot ∧ versioned.get F.KPR_MODE_STATUS_CAUSE = cause % 16
      ∧ (step ≠ 0 → versioned.get F.KPR_FW_VERSION_VERSION = c.get F.KPR_FW_VERSION_VERSION) := by
    simp only [versioned]
    split
    · next hzero =>
      refine ⟨hmode, ?_, fun h => absurd hzero h⟩
      simp (disch := decide) only [changed, Chip.get_set_apart, Chip.get_set_key, hcause]
    · simp (disch := decide) only [changed, Chip.get_set_apart, Chip.get_set_key, hcause, hfirmware]
      exact ⟨hmode, trivial, fun _ => trivial⟩
  obtain ⟨hmode, hcause, hfirmware⟩ := hversioned
  clear_value versioned
  have hkeeper : ∀ f, keeper.get f = timed.get f := fun f => (Chip.kprUp_get _ _ _).trans (Chip.modesUp_get _ _ _)
  have hcounted : counted.get F.KPR_BOOT_STATUS_STEP = step % 16 :=
    (Chip.get_set_apart _ _ _ _ (by decide) (by decide)).trans (Chip.get_set_same _ _ _ (by decide))
  refine ⟨(Chip.keeperAnew_mode _).trans hmode, ?_, ?_, fun h => ?_⟩
  all_goals rw [Chip.keeperAnew_get _ _ (by decide) (by decide) (by decide), hkeeper]
  · simp (disch := decide) only [timed, Chip.get_set_key, hcounted]
  · simp (disch := decide) only [timed, counted, reported, Chip.get_set_apart, Chip.get_set_key, hcause]
  · simp (disch := decide) only [timed, counted, reported, Chip.get_set_key, hfirmware h]

theorem wakeNLow_boots (s : State) (hmode : s.chip.mode = .standby) (hsettled : s.chip.settled = true)
    (hwanted : ∀ n, s.chip.modes.wanted = some n → n.target ≠ .off) :
    completes .wakeNLow s (fun t => t.chip.mode = .boot ∧ t.chip.get F.KPR_BOOT_STATUS_STEP = 2
      ∧ t.chip.get F.KPR_BOOT_STATUS_WARM = 1 ∧ t.chip.get F.KPR_MODE_STATUS_CAUSE = 9
      ∧ t.chip.get F.KPR_FW_VERSION_VERSION = s.chip.get F.KPR_FW_VERSION_VERSION) := by
  obtain ⟨hboot, hstep, hcause, hfirmware⟩ := s.chip.quiet.bootStart_shows 9 2
  have hsettled' : s.chip.quiet.settled = true := hsettled
  have hrun : s.chip.quiet.wakeLow = (s.chip.quiet.bootStart 9 2).set F.KPR_BOOT_STATUS_WARM 1 := by
    simp [Chip.wakeLow, Chip.wake, hmode, hsettled', s.chip.wanted_not_off hwanted]
  refine completes_of_run (exec_wakeNLow s) hrun ?_
  simp (disch := decide) only [State.stored_mode, State.stored_get, Chip.set_mode, Chip.get_set_apart, Chip.get_set_key,
    hboot, hstep, hcause, hfirmware, Chip.quiet_get]
  exact ⟨trivial, trivial, Chip.get_set_same _ _ _ (by decide), trivial, trivial⟩

/-- Settles O9: the Keeper region is powered block by block (`Chip.bootFromOff_boots`), a fall of PWR_EN by the mode and the
order under way, and a wake by `Chip.bootStart_shows`. -/
theorem powerPinsMoveTheMode : Obligations.PowerPinsMoveTheMode := by
  intro s
  exact ⟨fun mv => vinValid_boots mv s, pwrEnRise_boots s, exec_pwrEnFall_running s, exec_pwrEnFall_stopping s,
    wakeNLow_boots s, exec_pwrEnFall_booting s, exec_wakeNLow_hold s⟩

end Sys2Proof.Machine

namespace Sys2Proof.Machine

/-! ### A shutdown order reaches the blocks of the three regions (R68, R88) -/

theorem blocksOn_of_modeView {c d : Chip} (h : d.modeView = c.modeView) : d.blocksOn = c.blocksOn :=
  congrArg ModeView.blocksOn h

theorem Chip.blocksDown_blocksOn (c : Chip) (l : List Nat) :
    (c.blocksDown l).blocksOn = c.blocksOn.filter (fun b => !(l.filter c.blockOn).contains b) := by
  unfold Chip.blocksDown
  extract_lets gone saved cleared node pair reset wired down
  have hsaved : saved.blocksOn = c.blocksOn := by
    simp only [saved]
    split
    · exact blocksOn_of_modeView c.savePanel_modeView
    · rfl
  have hcleared : cleared.blocksOn = saved.blocksOn :=
    foldOver_keeps Chip.blocksOn _ (fun b d => blocksOn_of_modeView (d.blockClear_modeView b)) _ _
  have hdown : down.blocksOn = cleared.blocksOn.filter (fun b => !gone.contains b) := rfl
  rw [blocksOn_of_modeView (Chip.ownLower_modeView _), blocksOn_of_modeView (Chip.regionState_modeView _), hdown,
    hcleared, hsaved]

/-- A block outside the list keeps its power. -/
theorem Chip.blocksDown_blockOn_other (c : Chip) (l : List Nat) (b : Nat) (hb : b ∉ l) :
    (c.blocksDown l).blockOn b = c.blockOn b := by
  simp [Chip.blockOn, c.blocksDown_blocksOn l, hb]

theorem Chip.writeRecord_blocksOn (c : Chip) (r : Record) (energy : Nat) : (c.writeRecord r energy).blocksOn = c.blocksOn := by
  unfold Chip.writeRecord
  dsimp only
  split <;> rfl

/-- The module as a shutdown order has written its record and ended the outputs. -/
def Chip.orderReleased (c : Chip) : Chip :=
  let c := if c.modes.bootRom || c.get F.KPR_BOOT_STATUS_STEP < 2 then c else c.writeRecord (c.recordStart 1) 0
  c.ownEnd.when (c.blockOn 13) Chip.railsDown

theorem Chip.orderReleased_blocksOn (c : Chip) : c.orderReleased.blocksOn = c.blocksOn := by
  have hrails : ∀ (d : Chip) (b : Bool), (d.ownEnd.when b Chip.railsDown).blocksOn = d.blocksOn := fun d b =>
    (d.ownEnd.when_keeps Chip.blocksOn b Chip.railsDown (fun _ => rfl)).trans (blocksOn_of_modeView d.ownEnd_modeView)
  unfold Chip.orderReleased
  dsimp only
  rw [hrails]
  split
  · rfl
  · exact c.writeRecord_blocksOn _ _

@[simp] theorem Chip.setMode_blocksOn (c : Chip) (m : Mode) (cause : Nat) : (c.setMode m cause).blocksOn = c.blocksOn := rfl

/-- An order to Standby whose black fields are over powers down the blocks of regions 2, 1 and 0. -/
theorem Chip.orderlyRecord_standby_blocksOn (c : Chip) (cause : Nat)
    (hshut : c.modes.shutdown = some ⟨.standby, cause, 0⟩) (hapl : c.blockOn 13 = false) :
    c.orderlyRecord.blocksOn = (((c.orderReleased.regionDown 2).regionDown 1).regionDown 0).blocksOn := by
  have hgo : ¬ ((c.raster && decide ((0 : Nat) ≠ 0)) || (c.blockOn 13 && !c.apl.runs.isEmpty)) = true := by simp [hapl]
  unfold Chip.orderlyRecord
  simp only [hshut]
  rw [if_neg hgo, blocksOn_of_modeView (Chip.actingDone_modeView _), Chip.setMode_blocksOn, Chip.set_blocksOn,
    Chip.set_blocksOn, Chip.set_blocksOn, Chip.modesUp_blocksOn, blocksOn_of_modeView (Chip.ownLower_modeView _),
    Chip.orderReleased]

/-- It leaves powered what none of them names. -/
theorem Chip.orderlyRecord_standby_blockOn (c : Chip) (cause b : Nat)
    (hshut : c.modes.shutdown = some ⟨.standby, cause, 0⟩) (hapl : c.blockOn 13 = false)
    (hb : ∀ r < 3, b ∉ blocksOfRegion r) : c.orderlyRecord.blockOn b = c.blockOn b := by
  have hregion : ∀ (d : Chip) (r : Nat), r < 3 → (d.regionDown r).blockOn b = d.blockOn b := fun d r hr =>
    d.blocksDown_blockOn_other _ b (hb r hr)
  calc c.orderlyRecord.blockOn b
      = (((c.orderReleased.regionDown 2).regionDown 1).regionDown 0).blockOn b := by
        rw [Chip.blockOn, c.orderlyRecord_standby_blocksOn cause hshut hapl, Chip.blockOn]
    _ = c.orderReleased.blockOn b := by
        rw [hregion _ 0 (by decide), hregion _ 1 (by decide), hregion _ 2 (by decide)]
    _ = c.blockOn b := by rw [Chip.blockOn, c.orderReleased_blocksOn, Chip.blockOn]

theorem orderlyRecord_leaves_blockOn (s t : State) (cause b : Nat) (hrun : exec .orderlyRecord s = .next t)
    (hshut : s.chip.modes.shutdown = some ⟨.standby, cause, 0⟩) (hapl : s.chip.blockOn 13 = false)
    (hb : ∀ r < 3, b ∉ blocksOfRegion r) : t.chip.blockOn b = s.chip.blockOn b := by
  rw [exec_orderlyRecord, s.run_stored _ _ rfl] at hrun
  rw [← Host.Outcome.next.inj hrun, State.stored_blockOn, s.chip.quiet.orderlyRecord_standby_blockOn cause b hshut hapl hb,
    Chip.quiet_blockOn]

/-- A module ordered to Standby, of whose blocks number 0 alone is powered, which the spec's 20 blocks do not include. -/
def blockZeroToStandby : State :=
  { chip := { blocksOn := [0], modes := { shutdown := some ⟨.standby, 9, 0⟩ } } }

/-- Refutes O11, by its last clause. It has every block number below 14 unpowered once the order ends; the order powers down
the blocks 1 to 13 of regions 2, 1 and 0, so in a state that has number 0, no block of the module, among the powered ones,
it stays there. -/
theorem not_modeChangesTakeEffect : ¬ Obligations.ModeChangesTakeEffect := by
  intro h
  obtain ⟨-, -, -, -, -, -, -, horder⟩ := h blockZeroToStandby
  obtain ⟨t, hrun, -, -, -, hunpowered⟩ := horder _ rfl (fun _ => rfl) (fun hapl => absurd hapl (by decide))
  have hzero : t.chip.blockOn 0 = true := orderlyRecord_leaves_blockOn _ t 9 0 hrun rfl (by decide) (by decide)
  exact absurd (hunpowered 0 (by decide)) (by rw [hzero]; decide)

end Sys2Proof.Machine

namespace Sys2Proof.Machine

/-! ### The start-up training leaves the dark sequence (R83, R302) -/

theorem foldOver_dark {α : Type} (f : α → Chip → Chip) (l : List α) (c : Chip)
    (h : ∀ a d, (f a d).modes.dark = d.modes.dark) : (foldOver l f c).modes.dark = c.modes.dark :=
  foldOver_keeps (fun d : Chip => d.modes.dark) f h l c

theorem Chip.event_dark (c : Chip) (page : Nat) (cls : ErrClass) (code : Code) (cell kind addr : Nat) (replan : Bool) :
    (c.event page cls code cell kind addr replan).modes.dark = c.modes.dark :=
  congrArg Modes.dark (c.event_modes page cls code cell kind addr replan)

theorem Chip.portBEvent_dark (c : Chip) (cell : Nat) : (c.portBEvent cell).modes.dark = c.modes.dark := by
  unfold Chip.portBEvent
  dsimp only
  split
  · exact congrArg Modes.dark (ladderMove.record _ _ _ _ _ _ _).modes
  · exact c.event_dark _ _ _ _ _ _ _

theorem Chip.maskLane_dark (c : Chip) (port lane : Nat) : (c.maskLane port lane).modes.dark = c.modes.dark := by
  have hmasked := dark_of_modeView (c.setLaneMask_modeView port (withBit (c.laneMask port) lane true))
  unfold Chip.maskLane
  dsimp only
  split
  · rw [Chip.event_dark, Chip.irq_modes, Chip.count_modes, hmasked]
  · split
    · rw [Chip.portBEvent_dark, Chip.irq_modes, Chip.count_modes, hmasked]
    · split <;> rw [Chip.event_dark, Chip.irq_modes, Chip.count_modes, hmasked]

theorem Chip.trainApply_dark (c : Chip) (results : List (Nat × List (Nat × Nat))) :
    (c.trainApply results).modes.dark = c.modes.dark := by
  unfold Chip.trainApply
  split
  · rfl
  · dsimp only
    rw [Chip.set_modes]
    exact foldOver_dark _ _ c (fun e d => congrArg Modes.dark (d.set_modes _ _))

theorem Chip.trainJudge_dark (c : Chip) (failed : List Nat) : (c.trainJudge failed).modes.dark = c.modes.dark := by
  unfold Chip.trainJudge
  split
  · rfl
  · extract_lets bad judging masked dead shown
    have hmasked : masked.modes.dark = c.modes.dark := foldOver_dark _ _ judging (fun e d => d.maskLane_dark _ _)
    exact (Chip.when_keeps (fun d => d.modes.dark) _ _ _ (fun d => d.event_dark _ _ _ _ _ _ _)).trans hmasked

theorem Chip.lanesLocked_dark {α : Type} (c : Chip) (l : List α) (port lane : α → Nat) :
    (foldOver l (fun a (d : Chip) => d.setLaneLock (port a) (lane a) true) c).modes.dark = c.modes.dark :=
  foldOver_dark _ l c (fun _ _ => rfl)

theorem Chip.returnRelock_dark (c : Chip) (port path : Nat) : (c.returnRelock port path).modes.dark = c.modes.dark := by
  unfold Chip.returnRelock
  split <;> rfl

theorem Chip.timingForce_modes (c : Chip) (id : Nat) : (c.timingForce id).modes = c.modes := rfl

theorem Chip.setRaster_modes (c : Chip) (b : Bool) : (c.setRaster b).modes = c.modes := rfl

theorem Chip.startTraining_dark (c : Chip) (results : List (Nat × List (Nat × Nat))) (failed : List Nat) :
    (c.startTraining results failed).modes.dark = c.modes.dark := by
  unfold Chip.startTraining
  split
  · rfl
  · dsimp only
    rw [dark_of_modeView (Chip.stepEnds_modeView _), Chip.set_modes, Chip.set_modes, Chip.setRaster_modes,
      dark_of_modeView (Chip.trainEnd_modeView _), Chip.trainJudge_dark, Chip.trainApply_dark, Chip.lanesLocked_dark,
      dark_of_modeView (Chip.trainStart_modeView _), Chip.set_modes, Chip.timingForce_modes, Chip.lanesLocked_dark]
    exact foldOver_dark _ _ c (fun e d => d.returnRelock_dark _ _)

/-- Ahead of its training slot a dark sequence still shows the timing mode it leaves. -/
theorem Chip.modeId_of_dark (c : Chip) (d : DarkSeq) (hdark : c.modes.dark = some d) (hstage : d.stage = 0) :
    c.modeId = d.old := by
  simp [Chip.modeId, hdark, hstage]

theorem startupLaneTraining_modeId (s t : State) (d : DarkSeq) (results : List (Nat × List (Nat × Nat))) (failed : List Nat)
    (hrun : exec (.startupLaneTraining results failed) s = .next t) (hdark : s.chip.modes.dark = some d)
    (hstage : d.stage = 0) : t.chip.modeId = d.old := by
  rw [exec_startupLaneTraining, s.run_stored _ _ rfl] at hrun
  refine t.chip.modeId_of_dark d ?_ hstage
  rw [← Host.Outcome.next.inj hrun, State.stored_modes, Chip.startTraining_dark, Chip.quiet_modes, hdark]

/-- A module at step 5 of its start-up, SCN and SER powered, with a dark sequence that leaves timing mode 1 and has not come
to its slot. -/
def trainingWhileDark : State :=
  { chip := { ({} : Chip).set F.KPR_BOOT_STATUS_STEP 4 with
      blocksOn := [9, 11, 14], modes := { dark := some { timing := 0x0E, old := 1 } } } }

/-- Refutes O10, by its clause on step 5, which lacks the premise that no dark sequence runs. STARTUP_LANE_TRAINING makes 0x0E
the timing mode but leaves a dark sequence as it is (`Chip.startTraining_dark`), and one that waits for its training slot keeps
the timing mode it leaves in force. -/
theorem not_startUpStepsEndOrFail : ¬ Obligations.StartUpStepsEndOrFail := by
  intro h
  obtain ⟨-, -, -, -, -, -, -, htrain, -, -⟩ := h trainingWhileDark (by decide) rfl
  obtain ⟨t, hrun, -, -, hmode, -⟩ := htrain [] [] (by decide) rfl rfl
  have hold : t.chip.modeId = 1 := startupLaneTraining_modeId _ t { timing := 0x0E, old := 1 } [] [] hrun rfl rfl
  exact absurd (hmode.symm.trans hold) (by decide)

end Sys2Proof.Machine

namespace Sys2Proof.Machine

/-! ### A scene group whose check fails twice (R111) -/

/-- The groups of a layer of the bound frame, as the module reads its slot. -/
abbrev Chip.layerGroups (c : Chip) (m : Memory) (sf : SlotFrame) (layer : Nat) : List GroupAt :=
  (groupsOf sf.frame (c.loads m (c.slotAddr sf.slot) sf.frame.frameBytes)).filter (fun g => g.layer = layer)

/-- Which groups are transparent, and the stores that memory has yet to take. -/
def Chip.clearAndStores (c : Chip) : List (Nat × Nat) × List MemOp := (c.ray.transparent, c.out)

theorem Chip.l2Read_clearAndStores (m : Memory) (c d : Chip) (l : L1Tag) (h : c.l2Read m l = some d) :
    d.clearAndStores = c.clearAndStores := by
  unfold Chip.l2Read at h
  split at h
  · exact Option.some.inj h ▸ rfl
  · simp at h

/-- Serving a cluster moves the caches alone. -/
theorem Chip.serveAsked_clearAndStores (m : Memory) (c : Chip) : (c.serveAsked m).clearAndStores = c.clearAndStores := by
  refine foldOver_keeps Chip.clearAndStores _ (fun l d => ?_) _ c
  split
  · next e hread => exact Chip.l2Read_clearAndStores m d e l hread
  · rfl

theorem Chip.channelEvent_out (c : Chip) (ch : Nat) (cls : ErrClass) (code : Code) (cell addr : Nat) :
    (c.channelEvent ch cls code cell addr).out = c.out := by
  have hafter : ∀ (d : Chip) (k : ErrClass), (d.channelAfter ch cell k).out = d.out := fun d k => by cases k <;> rfl
  exact (hafter _ _).trans (Chip.event_out _ _ _ _ _ _ _ _)

theorem Chip.dramParity_clearAndStores (c : Chip) (a : Nat) (repeated : Bool) :
    (c.dramParity a repeated).clearAndStores = c.clearAndStores := by
  cases repeated <;> simp [Chip.clearAndStores, Chip.dramParity, Chip.channelEvent_out]

/-- A group not yet transparent whose two reads meet a parity error is counted, reported and made transparent. -/
theorem Chip.groupDecode_twice (c : Chip) (m : Memory) (layer group pipe : Nat) (sf : SlotFrame) (d : Layer) (g : GroupAt)
    (huse : c.ring.use = some sf) (hd : sf.frame.layers[layer]? = some d)
    (hg : (c.layerGroups m sf layer)[group]? = some g) (hnew : (layer, group) ∉ c.ray.transparent) :
    ∃ e : Chip, e.clearAndStores = c.clearAndStores ∧ c.groupDecode m layer group pipe true true = e.groupTransparent d g group := by
  unfold Chip.groupDecode
  simp -zeta only [huse]
  extract_lets base bytes mine cell counted note
  rw [hd, show mine[group]? = some g from hg]
  dsimp -zeta only
  rw [if_neg (by simpa using hnew)]
  extract_lets bs blk n texels bad stuck crc mismatch fails invalid flagged addr memory release noted reread
  have hfails : ¬ (!fails) = true := by simp only [fails, Bool.true_or]; decide
  rw [if_neg hfails, if_neg hfails]
  have hmemory : ∀ (e : Chip) (b : Bool), (memory e b).clearAndStores = e.clearAndStores := by
    intro e b
    simp only [memory]
    split
    · exact foldOver_keeps Chip.clearAndStores _ (fun a x => x.dramParity_clearAndStores a true) _ e
    · split
      · exact e.dramParity_clearAndStores _ true
      · rfl
  refine ⟨_, ?_, rfl⟩
  calc ((reread.count P.CDC 3).event P.CDC .cont .check cell 1 addr).clearAndStores
      = reread.clearAndStores := by simp [Chip.clearAndStores]
    _ = noted.clearAndStores := hmemory noted true
    _ = (memory flagged true).clearAndStores := rfl
    _ = flagged.clearAndStores := hmemory flagged true
    _ = counted.clearAndStores := counted.when_keeps Chip.clearAndStores _ _ (fun e => by simp [Chip.clearAndStores])
    _ = c.clearAndStores := rfl

/-- A group that has become transparent joins the transparent ones, and nothing is stored. -/
theorem Chip.groupTransparent_clearAndStores (c : Chip) (d : Layer) (g : GroupAt) (group : Nat) :
    (c.groupTransparent d g group).clearAndStores = (putLast c.ray.transparent (g.layer, group), c.out) := by
  unfold Chip.groupTransparent Chip.segClassify
  dsimp only
  split <;> rfl

theorem putLast_of_notMem {α : Type} [DecidableEq α] (l : List α) (x : α) (h : x ∉ l) : putLast l x = l ++ [x] := by
  have hall : l.filter (· ≠ x) = l := List.filter_eq_self.mpr fun a ha => by simpa using fun e : a = x => h (e ▸ ha)
  rw [putLast, hall]

/-- Where no store is pending, a group that fails its check twice becomes transparent, and memory stays (R111). -/
theorem cdcGroupDecode_twice (s : State) (layer group pipe : Nat) (sf : SlotFrame) (d : Layer) (g : GroupAt)
    (hout : s.chip.out = []) (huse : s.chip.ring.use = some sf) (hd : sf.frame.layers[layer]? = some d)
    (hg : (s.chip.layerGroups s.mem sf layer)[group]? = some g) (hnew : (layer, group) ∉ s.chip.ray.transparent) :
    completes (.cdcGroupDecode layer group pipe true true) s (fun t =>
      t.chip.ray.transparent = s.chip.ray.transparent ++ [(layer, group)] ∧ memKept s t) := by
  have hquiet : (s.chip.quiet.layerGroups s.mem sf layer)[group]? = some g := by
    simpa [Chip.layerGroups, Chip.loads, Chip.load, hout, Chip.slotAddr, Chip.ringBase, Chip.addrAct, Chip.slotBytes] using hg
  have hlayer : g.layer = layer := by simpa using (List.mem_filter.mp (List.mem_of_getElem? hg)).2
  obtain ⟨e, hkept, hrun⟩ := s.chip.quiet.groupDecode_twice s.mem layer group pipe sf d g huse hd hquiet hnew
  obtain ⟨hclear, hstores⟩ := Prod.mk.inj hkept
  have hend : ((e.groupTransparent d g group).serveAsked s.mem).clearAndStores
      = (s.chip.ray.transparent ++ [(layer, group)], []) := by
    rw [Chip.serveAsked_clearAndStores, Chip.groupTransparent_clearAndStores, hclear, hstores, hlayer]
    exact congrArg (·, []) (putLast_of_notMem _ _ hnew)
  obtain ⟨hlast, hnone⟩ := Prod.mk.inj hend
  exact completes_of_run (exec_cdcGroupDecode layer group pipe true true s) (congrArg (Chip.serveAsked s.mem) hrun)
    ⟨hlast, s.memKept_stored _ hnone⟩

/-! ### A frame part of which stands in stores that memory has not taken -/

/-- A group that the bound frame does not have is not decoded. -/
theorem Chip.groupDecode_absent (c : Chip) (m : Memory) (layer group pipe : Nat) (once twice : Bool) (sf : SlotFrame)
    (huse : c.ring.use = some sf) (hgroup : (c.layerGroups m sf layer)[group]? = none) :
    c.groupDecode m layer group pipe once twice = c := by
  unfold Chip.groupDecode
  simp only [huse]
  split
  · next hsome => exact absurd (hsome.symm.trans hgroup) (Option.some_ne_none _)
  · rfl

/-- While no cluster waits for a block, none is served. -/
theorem Chip.serveAsked_nil (c : Chip) (m : Memory) (h : c.ray.asked = []) : c.serveAsked m = c := by
  simp [Chip.serveAsked, h, foldOver]

/-- A module whose bound frame, of one layer of two blocks, lies at address 0. The trailer that ends the first group after one
block stands in two stores that no command has brought to memory; memory reads 0 there and has both blocks in one group. -/
def trailerNotInMemory : State :=
  { chip := {
      ring := { use := some ⟨0, { frameBytes := 272, layers := [⟨false, 0, 16, 8, 0, 0, 0, 0, 0, 0, 2⟩] }, []⟩ }
      out := [.byte 183 2, .byte 182 1] } }

/-- A group that memory does not have, while no cluster waits for a block: the command changes nothing. -/
theorem exec_cdcGroupDecode_absent (s : State) (layer group pipe : Nat) (once twice : Bool) (sf : SlotFrame)
    (huse : s.chip.ring.use = some sf) (hgroup : (s.chip.quiet.layerGroups s.mem sf layer)[group]? = none)
    (hasked : s.chip.ray.asked = []) :
    exec (.cdcGroupDecode layer group pipe once twice) s = .next (s.became s.chip.quiet) := by
  rw [exec_cdcGroupDecode]
  refine s.run_pure _ _ ?_ rfl
  rw [s.chip.quiet.groupDecode_absent s.mem layer group pipe once twice sf huse hgroup]
  exact s.chip.quiet.serveAsked_nil s.mem hasked

/-- Refutes O14, by its clause on a group that fails twice, which lacks the premise that no store is pending. The clause takes
the group from the slot as the module reads it, pending stores included; a command starts without them (`Chip.quiet`), so here
the group it names does not exist for CDC, and none becomes transparent. With the premise the clause holds:
`cdcGroupDecode_twice`. -/
theorem not_tilesAndTexelCaches : ¬ Obligations.TilesAndTexelCaches := by
  intro h
  obtain ⟨-, -, htwice, -, -, -⟩ := h trailerNotInMemory
  obtain ⟨t, hrun, hclear, -⟩ := htwice 0 1 0 _ _ ⟨0, 0, 1, 2, 184, 264⟩ rfl rfl (by decide +kernel) (by decide)
  rw [exec_cdcGroupDecode_absent trailerNotInMemory 0 1 0 true true _ rfl (by decide +kernel) rfl] at hrun
  rw [← Host.Outcome.next.inj hrun] at hclear
  exact absurd hclear (by decide)

end Sys2Proof.Machine

namespace Sys2Proof.Machine

/-! ### The job at TAIL of the codec's ring (R137, R138) -/

@[simp] theorem State.stored_cdc (s : State) (d : Chip) : (s.stored d).chip.cdc = d.cdc := rfl

/-- What CDC's jobs become, and that a command starts anew, moves no register. -/
theorem State.regsKeptBut_stored (s : State) {keys : List Nat} {f : Cdc → Cdc} {d : Chip}
    (h : regsKeptBut keys (s.chip.quiet.cdcUp f) d) : regsKeptBut keys s.chip (s.stored d).chip := h

@[simp] theorem Chip.cdcFlags_cdc (c : Chip) : c.cdcFlags.cdc = c.cdc := by simp [Chip.cdcFlags]
@[simp] theorem Chip.cdcFlags_out (c : Chip) : c.cdcFlags.out = c.out := by simp [Chip.cdcFlags]

/-- The flags that follow the ring are bits of JOB_TAIL and of CDC's STATUS. -/
theorem Chip.cdcFlags_regsKept (c : Chip) : regsKeptBut [K.CDC_JOB_TAIL, P.CDC + 0x00C] c c.cdcFlags := by
  intro k hk
  obtain ⟨htail, hstatus⟩ : k ≠ K.CDC_JOB_TAIL ∧ k ≠ P.CDC + 0x00C := by simpa using hk
  unfold Chip.cdcFlags
  extract_lets waiting n full cap
  refine ⟨?_, rfl, rfl⟩
  calc _ = ((c.setB F.CDC_JOB_TAIL_RUNNING c.cdc.running.isSome).setB F.CDC_JOB_TAIL_WAITING waiting).w k :=
        (Chip.w_set_other _ _ _ k hstatus).trans (Chip.w_set_other _ _ _ k hstatus)
    _ = c.w k := (Chip.w_set_other _ _ _ k htail).trans (Chip.w_set_other _ _ _ k htail)

theorem Chip.cdcFlags_running (c : Chip) : c.cdcFlags.get F.CDC_JOB_TAIL_RUNNING = b2n c.cdc.running.isSome := by
  unfold Chip.cdcFlags
  extract_lets waiting n full cap
  calc _ = ((c.setB F.CDC_JOB_TAIL_RUNNING c.cdc.running.isSome).setB F.CDC_JOB_TAIL_WAITING waiting).get
          F.CDC_JOB_TAIL_RUNNING :=
        (Chip.get_set_key _ _ _ _ (by decide)).trans (Chip.get_set_key _ _ _ _ (by decide))
    _ = (c.setB F.CDC_JOB_TAIL_RUNNING c.cdc.running.isSome).get F.CDC_JOB_TAIL_RUNNING :=
        Chip.get_set_apart _ _ _ _ (by decide) (by decide)
    _ = b2n c.cdc.running.isSome := by
        rw [Chip.setB, Chip.get_set_same _ _ _ (by decide)]
        cases c.cdc.running.isSome <;> rfl

/-- Once a job has ended, none runs. -/
theorem Chip.jobEnd_running (c : Chip) (i status blocks used0 used1 : Nat) (inChain irq : Bool) :
    (c.jobEnd i status blocks used0 used1 inChain irq).cdc.running = none := by
  rw [Chip.jobEnd_eq, Chip.jobRetired, Chip.cdcFlags_cdc, Chip.set_cdc]

/-- A command reads the job's words from memory alone (`Chip.quiet`). -/
theorem Chip.quiet_jobWords (c : Chip) (m : Memory) (i : Nat) (hout : c.out = []) :
    c.quiet.jobWords m i = c.jobWords m i := by
  simp [Chip.jobWords, Chip.loadLE, Chip.loads, Chip.load, Chip.jobAddr, Chip.addrGet, hout]

/-- A job first checked at TAIL whose words fail the checks ends at once, INVALID (R138). -/
theorem Chip.jobStart_invalid (c : Chip) (m : Memory) (p : Posted) (rest : List Posted) (hrunning : c.cdc.running = none)
    (hposted : c.cdc.posted = p :: rest) (hdoom : p.doom = none) (hwords : p.words = none)
    (hbad : c.jobBad (c.jobWords m p.index) = true) :
    c.jobStart m
      = (c.cdcUp (fun d => { d with posted := rest })).jobEnd p.index 5 0 0 0 false (jobSpec (c.jobWords m p.index)).irq := by
  simp [Chip.jobStart, Chip.cdcUp, hrunning, hposted, hdoom, hwords, hbad]

/-- A job judged good whose plan has committed starts (R137). -/
theorem Chip.jobStart_due (c : Chip) (m : Memory) (p : Posted) (rest : List Posted) (ws : List Nat)
    (hrunning : c.cdc.running = none) (hposted : c.cdc.posted = p :: rest) (hdoom : p.doom = none)
    (hws : p.words.getD (c.jobWords m p.index) = ws) (hgood : p.words ≠ none ∨ c.jobBad ws = false)
    (hdue : c.due p = true) :
    c.jobStart m = (c.cdcUp (fun d => { d with
      posted := rest, running := some ⟨p.index, p.start, ws, [], p.plan⟩, captured := [] })).cdcFlags := by
  have hfine : (p.words.isNone && c.jobBad ws) = false := by
    rcases hgood with hchecked | hpass
    · cases h : p.words with
      | none => exact absurd h hchecked
      | some l => rfl
    · rw [hpass, Bool.and_false]
  simp [Chip.jobStart, hrunning, hposted, hdoom, hws, hfine, hdue]

/-- Where no store is pending, the job at TAIL starts with its words as they were checked, at posting or now (R137, R138). -/
theorem cdcJobStart_starts (s : State) (p : Posted) (rest : List Posted) (ws : List Nat) (hout : s.chip.out = [])
    (hposted : s.chip.cdc.posted = p :: rest) (hrunning : s.chip.cdc.running = none)
    (hws : ws = p.words.getD (s.chip.jobWords s.mem p.index)) (hdoom : p.doom = none)
    (hgood : p.words ≠ none ∨ s.chip.jobBad ws = false) (hdue : s.chip.due p = true) :
    completes .cdcJobStart s (fun t =>
      t.chip.cdc.running = some ⟨p.index, p.start, ws, [], p.plan⟩ ∧ t.chip.cdc.posted = rest
        ∧ t.chip.get F.CDC_JOB_TAIL_RUNNING = 1
        ∧ regsKeptBut [K.CDC_JOB_TAIL, P.CDC + 0x00C] s.chip t.chip ∧ memKept s t) := by
  have hread : p.words.getD (s.chip.quiet.jobWords s.mem p.index) = ws := by
    rw [s.chip.quiet_jobWords s.mem p.index hout, hws]
  refine completes_of_run (exec_cdcJobStart s)
    (s.chip.quiet.jobStart_due s.mem p rest ws hrunning hposted hdoom hread hgood hdue) ⟨?_, ?_, ?_, ?_, ?_⟩
  · rw [State.stored_cdc, Chip.cdcFlags_cdc]
  · rw [State.stored_cdc, Chip.cdcFlags_cdc]
  · rw [State.stored_get, Chip.cdcFlags_running]
    rfl
  · exact s.regsKeptBut_stored (Chip.cdcFlags_regsKept _)
  · exact s.memKept_stored _ (Chip.cdcFlags_out _)

/-- A job that fails the checks on the words that memory holds does not run (R138). -/
theorem cdcJobStart_invalid_running (s t : State) (p : Posted) (rest : List Posted) (hrun : exec .cdcJobStart s = .next t)
    (hposted : s.chip.cdc.posted = p :: rest) (hrunning : s.chip.cdc.running = none) (hdoom : p.doom = none)
    (hwords : p.words = none) (hbad : s.chip.jobBad (s.chip.quiet.jobWords s.mem p.index) = true) :
    t.chip.cdc.running = none := by
  have hend := s.chip.quiet.jobStart_invalid s.mem p rest hrunning hposted hdoom hwords hbad
  rw [exec_cdcJobStart, s.run_stored _ _ hend] at hrun
  rw [← Host.Outcome.next.inj hrun, State.stored_cdc, Chip.jobEnd_running]

/-! ### A descriptor that stands in stores which memory has not taken -/

/-- A module whose job in slot 0, at address 0, waits for a plan that has committed. Its descriptor, an ENCODE of one block with
START PLAN, stands in stores that no command has brought to memory; memory reads 0 there, a surface of width 0. -/
def descriptorNotInMemory : State :=
  { chip := {
      blocksOn := [3], dram := { live := [0] }, cdc := { posted := [⟨0, 2, 0, none, none⟩] }
      out := [.byte 16 64, .byte 6 8, .byte 4 8, .byte 0 2] } }

/-- Refutes O13, by its clause on a job that starts, which lacks the premise that no store is pending. The clause takes the
job's words as the module reads them, pending stores included, and has the job run; a command starts without those stores
(`Chip.quiet`), so CDC checks the words that memory holds, and the job ends INVALID. With the premise the clause holds:
`cdcJobStart_starts`. -/
theorem not_codecJobRing : ¬ Obligations.CodecJobRing := by
  intro h
  obtain ⟨-, hstart, -, -, -⟩ := h .host0 0 descriptorNotInMemory
  obtain ⟨-, -, -, hdue⟩ := hstart ⟨0, 2, 0, none, none⟩ [] rfl rfl _ rfl
  obtain ⟨t, hrun, hruns, -⟩ := hdue rfl (.inr (by decide +kernel)) (by decide)
  have hidle : t.chip.cdc.running = none :=
    cdcJobStart_invalid_running _ t _ [] hrun rfl rfl rfl rfl (by decide +kernel)
  exact absurd (hruns.symm.trans hidle) (Option.some_ne_none _)

end Sys2Proof.Machine

namespace Sys2Proof.Machine

/-! ### Registers right after reset (R54, R161, R305, R333, R408, R545)

After reset the register file lists no word, so each register reads the reset value of its table row; a field reads its own
bits of it. -/

theorem State.reset_w (k : Nat) : State.reset.chip.w k = resetWord .c16 k := rfl

/-- Where a row's value is a number (not by table, by variant or by formula), the reset word is that number. -/
theorem resetWord_of_row (v : Variant) (k n : Nat) (hnumber : resetOverride v k = none)
    (hrow : (findReg k).map RegDef.reset = some n) : resetWord v k = BitVec.ofNat 32 n := by
  obtain ⟨d, hfind, rfl⟩ := Option.map_eq_some_iff.mp hrow
  simp only [resetWord, hnumber, hfind]

theorem State.reset_get (f : Fld) (n : Nat) (hnumber : resetOverride .c16 f.key = none)
    (hrow : (findReg f.key).map RegDef.reset = some n) :
    State.reset.chip.get f = fldGet (BitVec.ofNat 32 n) f :=
  congrArg (fldGet · f) ((State.reset_w f.key).trans (resetWord_of_row .c16 f.key n hnumber hrow))

/-- Settles O47: each register is a row whose reset value is a number (`State.reset_get`), here in turn SYN_CTRL, FAIL_CTRL,
OWNER, RETRY_CFG, VIN_MIN, CAP_CTRL and CAP_STATUS. -/
theorem resetValuesOfTheSpec : Obligations.ResetValuesOfTheSpec := by
  refine ⟨rfl, rfl, ?_, ?_, ?_, ?_, ?_, ?_, ?_⟩
  · exact State.reset_get F.RAY_SYN_CTRL_ET_THRESH 0xFF001 rfl rfl
  · exact State.reset_get F.SER0_FAIL_CTRL_FAIL_FIELDS 0x20804 rfl rfl
  · exact decide_eq_true (State.reset_get F.SEC_OWNER_DRIVE 1 rfl rfl)
  · exact State.reset_get F.HLK_RETRY_CFG_REPLAY_LIMIT 0x828 rfl rfl
  · exact State.reset_get F.PWR_VIN_MIN_MV 0xFFFF rfl rfl
  · exact decide_eq_true (State.reset_get F.PWR_CAP_CTRL_CHARGE_EN 1 rfl rfl)
  · exact State.reset_get F.PWR_CAP_STATUS_STATE 0 rfl rfl

end Sys2Proof.Machine

namespace Sys2Proof.Machine

/-! ### A read of the lens map's registers (R59, R199) -/

/-- The registers with a parity error, and the stores of the step. -/
def Chip.parityAndStores (c : Chip) : List Nat × List MemOp := (c.regs.badParity, c.out)

theorem Chip.sramParity_parityAndStores (c : Chip) (addr master : Nat) (repeated : Bool) :
    (c.sramParity addr master repeated).parityAndStores = c.parityAndStores := by
  have hirq : ∀ d : Chip, (d.irq P.FST 6).parityAndStores = d.parityAndStores := fun d =>
    Prod.ext (ladderMove.irq d P.FST 6).regs_badParity (d.irq_out P.FST 6)
  cases repeated <;> exact hirq _

/-- The events of a probe's own grid reads mend and spoil no register's parity, and store nothing. -/
theorem Chip.lensProbeRead_parityAndStores (c : Chip) (f : ReadFault) :
    (c.lensProbeRead f).parityAndStores = c.parityAndStores := by
  refine foldOver_keeps Chip.parityAndStores _ (fun e d => ?_) _ c
  refine Eq.trans ?_ (d.sramParity_parityAndStores e.1 3 e.2)
  split <;> exact Prod.ext (ladderMove.event _ _ _ _ _ _ _ _).regs_badParity (Chip.event_out _ _ _ _ _ _ _ _)

/-- What a register of LNS reads as: a probe register the value computed, another the word stored. -/
def Chip.lensWord (m : Memory) (c : Chip) (off : Nat) (f : ReadFault) : Nat :=
  if 0x208 ≤ off ∧ off < 0x21C then (c.lensProbeWord m off f).toNat else c.storedWord (P.LNS + off)

theorem blockOf_lensKey (off : Nat) (h : off < 4096) : blockOf (pageOf (P.LNS + off)) = 6 := by
  simp only [blockOf, pageOf, P.LNS]
  omega

theorem offOf_lensKey (off : Nat) (h : off < 4096) : offOf (P.LNS + off) = off := by
  simp only [offOf, P.LNS]
  omega

theorem Chip.readValue_lens (c : Chip) (m : Memory) (mst : Master) (off : Nat) (f : ReadFault) (hlo : 0x100 ≤ off)
    (hhi : off < 0x800) :
    c.readValue m mst (P.LNS + off) f
      = (c.lensWord m off f, c.when (0x208 ≤ off && off < 0x21C) (Chip.lensProbeRead f)) := by
  have hblock := blockOf_lensKey off (by omega)
  have hoff := offOf_lensKey off (by omega)
  have hpcn : P.LNS + off ≠ K.PCN_TBL_DATA := by simp [P.LNS, K.PCN_TBL_DATA]; omega
  have hapl : P.LNS + off ≠ K.APL_TBL_DATA := by simp [P.LNS, K.APL_TBL_DATA]; omega
  have htim : P.LNS + off ≠ K.TIM_NOW_FRAC := by simp [P.LNS, K.TIM_NOW_FRAC]; omega
  have hheader : off ≠ 0x000 ∧ off ≠ 0x004 ∧ off ≠ 0x00C ∧ off ≠ 0x018 ∧ off ≠ 0x034 := by omega
  have hcomputed : c.computed m mst (P.LNS + off) f
      = if 0x208 ≤ off && off < 0x21C then some (c.lensProbeWord m off f).toNat else none := by
    simp [Chip.computed, hblock, hoff, hheader]
  have hword : (c.computed m mst (P.LNS + off) f).getD (c.storedWord (P.LNS + off)) = c.lensWord m off f := by
    rw [hcomputed, Chip.lensWord]
    split <;> simp_all
  simp [Chip.readValue, hpcn, hapl, htim, hblock, hoff, hword]

/-- A register of LNS whose parity is right answers OK with its word, and the read stores nothing. -/
theorem Chip.readReg_lens (c : Chip) (m : Memory) (mst : Master) (off : Nat) (f : ReadFault) (hlo : 0x100 ≤ off)
    (hhi : off < 0x800) (hparity : P.LNS + off ∉ c.regs.badParity) :
    ∃ d : Chip, d.out = c.out ∧ c.readReg m mst (P.LNS + off) f = d.respond .ok (c.lensWord m off f) := by
  have hblock := blockOf_lensKey off (by omega)
  have hoff := offOf_lensKey off (by omega)
  have hkept : (c.when (0x208 ≤ off && off < 0x21C) (Chip.lensProbeRead f)).parityAndStores = c.parityAndStores :=
    c.when_keeps _ _ _ (fun d => d.lensProbeRead_parityAndStores f)
  obtain ⟨hbad, hout⟩ := Prod.mk.inj hkept
  refine ⟨_, hout, ?_⟩
  simp [Chip.readReg, hblock, hoff, c.readValue_lens m mst off f hlo hhi, hbad, hparity,
    show ¬ 0xF00 ≤ off by omega, show ¬ 0x800 ≤ off by omega]

/-- A read of a register that can be read, whatever a probe's read of the lens grid met. -/
theorem Chip.regRead_taken_fault (c : Chip) (m : Memory) (mst : Master) (key : Nat) (f : ReadFault) (h : c.takesRead key) :
    c.regRead mst key m f = c.readReg m mst key f := by
  obtain ⟨hkey, halign, hmapped⟩ := h
  simp [Chip.regRead, Chip.busRead, c.target_reg key hkey hmapped, regAddr_aligned key halign]

/-- LNS_PROBE answers OK with the word that the module computes from memory alone (`Chip.quiet`), and memory stays. -/
theorem lnsProbe_answers (s : State) (mst : Master) (off : Nat) (f : ReadFault) (hlo : 0x100 ≤ off) (hhi : off < 0x800)
    (hread : s.chip.takesRead (P.LNS + off)) (hparity : P.LNS + off ∉ s.chip.regs.badParity) :
    completes (.lnsProbe mst ⟨off, f⟩) s (fun t => t.chip.resp.status = .ok ∧ memKept s t
      ∧ t.chip.resp.data = BitVec.ofNat 32 (s.chip.quiet.lensWord s.mem off f)) := by
  obtain ⟨d, hout, hrun⟩ := s.chip.quiet.readReg_lens s.mem mst off f hlo hhi hparity
  exact completes_of_run (exec_lnsProbe mst ⟨off, f⟩ s) ((s.chip.quiet.regRead_taken_fault s.mem mst _ f hread).trans hrun)
    ⟨rfl, s.memKept_stored _ hout, rfl⟩

/-- With no store pending, a command finds each register of LNS as it stands. -/
theorem Chip.quiet_lensWord (c : Chip) (m : Memory) (off : Nat) (f : ReadFault) (hout : c.out = []) :
    c.quiet.lensWord m off f = c.lensWord m off f := by
  calc c.quiet.lensWord m off f = ({ c with out := [] } : Chip).lensWord m off f := rfl
    _ = c.lensWord m off f := by rw [← hout]

/-- Where no store is pending, a read of an LNS register answers OK with the value as it stands (R199). -/
theorem lnsProbe_readsAsItStands (s : State) (mst : Master) (off : Nat) (f : ReadFault) (hout : s.chip.out = [])
    (hlo : 0x100 ≤ off) (hhi : off < 0x800) (hread : s.chip.takesRead (P.LNS + off))
    (hparity : P.LNS + off ∉ s.chip.regs.badParity) :
    completes (.lnsProbe mst ⟨off, f⟩) s (fun t => t.chip.resp.status = .ok ∧ memKept s t
      ∧ t.chip.resp.data = BitVec.ofNat 32 (s.chip.lensWord s.mem off f)) := by
  rw [← s.chip.quiet_lensWord s.mem off f hout]
  exact lnsProbe_answers s mst off f hlo hhi hread hparity

/-- A module in timing mode 4 with LNS powered and its grid on, 481 × 271 nodes for cells of 16 pixels at the grid's reset base;
the probe selects subpixel 0 of row 0. The first node has DX 1 in a store that no command has brought to memory; memory reads 0
there. -/
def gridNodeNotInMemory : State :=
  { chip := {
      blocksOn := [6], regs := { active := [(K.LNS_GRID_CFG, 0xC10F01E1), (K.SCN_TIMING, 4)] }
      out := [.byte 0x1027600000 1] } }

/-- Refutes O28, by its clause on reads of LNS registers, which lacks the premise that no store is pending. The clause computes
the probe's value with pending stores included; a command starts without them (`Chip.quiet`), so here PROBE_X reads the
position without the shift DX of the first node. With the premise the clause holds: `lnsProbe_readsAsItStands`. -/
theorem not_fieldStoreScanoutAndConditioning : ¬ Obligations.FieldStoreScanoutAndConditioning := by
  intro h
  obtain ⟨hclause, -⟩ := h .host0 0 gridNodeNotInMemory (by decide)
  have hread : gridNodeNotInMemory.chip.takesRead (P.LNS + 0x208) := by decide +kernel
  obtain ⟨t, hrun, -, -, hpending⟩ := hclause 0x208 .clean (by decide) (by decide) rfl hread List.not_mem_nil
  obtain ⟨u, hrun', -, -, hmemory⟩ :=
    lnsProbe_answers gridNodeNotInMemory .host0 0x208 .clean (by decide) (by decide) hread List.not_mem_nil
  obtain rfl : t = u := Host.Outcome.next.inj (hrun.symm.trans hrun')
  have hdiffer : gridNodeNotInMemory.chip.lensWord gridNodeNotInMemory.mem 0x208 .clean % 2 ^ 32
      ≠ gridNodeNotInMemory.chip.quiet.lensWord gridNodeNotInMemory.mem 0x208 .clean % 2 ^ 32 := by decide +kernel
  exact hdiffer (congrArg BitVec.toNat (hpending.symm.trans hmemory))

end Sys2Proof.Machine

namespace Sys2Proof.Machine

/-! ### The command at TAIL of the 2D engine's ring waits for its plan (R243) -/

/-- A command reads the words of a descriptor from memory alone (`Chip.quiet`). -/
theorem Chip.quiet_bltWords (c : Chip) (m : Memory) (i : Nat) (hout : c.out = []) :
    c.quiet.bltWords m i = c.bltWords m i := by
  simp [Chip.bltWords, Chip.loadLE, Chip.loads, Chip.load, Chip.bltAddr, Chip.addrGet, hout]

/-- A command judged good whose plan has not committed stays at TAIL, its words kept as they were checked (R138, R243). -/
theorem Chip.bltStart_notDue (c : Chip) (m : Memory) (p : Posted) (rest : List Posted) (ws : List Nat)
    (hrunning : c.blt.running = none) (hpowered : c.bltUnpowered = false) (hposted : c.blt.posted = p :: rest)
    (hws : ws = p.words.getD (c.bltWords m p.index)) (hdoom : p.doom = none)
    (hgood : c.bltBad ws = none ∨ p.words ≠ none) (hwait : c.due p = false) :
    c.bltStart m = c.bltUp (fun b => { b with posted := { p with words := some ws } :: rest }) := by
  have hfine : (p.words.isNone && (c.bltBad ws).isSome) = false := by
    rcases hgood with hpass | hchecked
    · rw [hpass, Option.isSome_none, Bool.and_false]
    · rw [Option.isNone_eq_false_iff.mpr (Option.isSome_iff_ne_none.mpr hchecked), Bool.false_and]
  simp [Chip.bltStart, Chip.bltUp, hrunning, hposted, hpowered, hdoom, ← hws, hfine, hwait]

/-- BLT_CMD_START of a command that is not due: it stays, with its words as memory alone holds them (`Chip.quiet`). -/
theorem exec_bltCmdStart_notDue (s : State) (p : Posted) (rest : List Posted) (ws : List Nat)
    (hrunning : s.chip.blt.running = none) (hpowered : s.chip.bltUnpowered = false)
    (hposted : s.chip.blt.posted = p :: rest) (hws : ws = p.words.getD (s.chip.quiet.bltWords s.mem p.index))
    (hdoom : p.doom = none) (hgood : s.chip.bltBad ws = none ∨ p.words ≠ none) (hwait : s.chip.due p = false) :
    exec .bltCmdStart s = .next (s.became (s.chip.quiet.bltUp (fun b =>
      { b with posted := { p with words := some ws } :: rest }))) :=
  (exec_bltCmdStart s).trans (s.run_pure _ _
    (s.chip.quiet.bltStart_notDue s.mem p rest ws hrunning hpowered hposted hws hdoom hgood hwait) rfl)

/-- Where no store is pending, the words kept are the descriptor's as the module reads it now. -/
theorem exec_bltCmdStart_notDue_of_noStorePending (s : State) (p : Posted) (rest : List Posted) (ws : List Nat)
    (hout : s.chip.out = []) (hrunning : s.chip.blt.running = none) (hpowered : s.chip.bltUnpowered = false)
    (hposted : s.chip.blt.posted = p :: rest) (hws : ws = p.words.getD (s.chip.bltWords s.mem p.index))
    (hdoom : p.doom = none) (hgood : s.chip.bltBad ws = none ∨ p.words ≠ none) (hwait : s.chip.due p = false) :
    exec .bltCmdStart s = .next (s.became (s.chip.quiet.bltUp (fun b =>
      { b with posted := { p with words := some ws } :: rest }))) := by
  rw [← s.chip.quiet_bltWords s.mem p.index hout] at hws
  exact exec_bltCmdStart_notDue s p rest ws hrunning hpowered hposted hws hdoom hgood hwait

/-- A module whose 2D command in slot 0, at address 0, waits for plan 2 in field 0. Memory holds its descriptor, with START PLAN
and a destination of one pixel at address 0; a store that no command has brought to memory gives it TAG 1, where memory reads
TAG 0. -/
def tagNotInMemory : State :=
  { chip := {
      blocksOn := [3, 8], dram := { live := [0] }, blt := { posted := [⟨0, 2, 2, none, none⟩] }
      out := [.byte 128 1] }
    mem := { cells := [(0, 2), (21, 4), (24, 1), (26, 1)] } }

/-- Refutes O27, by its clause on a command that is not due, which lacks the premise that no store is pending. The clause takes
the command's words as the module reads them, pending stores included; a command starts without those stores (`Chip.quiet`), so
the words that BLT checks and keeps are the ones memory holds. With the premise the clause holds:
`exec_bltCmdStart_notDue_of_noStorePending`. -/
theorem not_twoDimensionalEngineRing : ¬ Obligations.TwoDimensionalEngineRing := by
  intro h
  obtain ⟨-, hstart, -, -⟩ := h .host0 0 tagNotInMemory
  obtain ⟨-, -, hgood⟩ := hstart rfl rfl ⟨0, 2, 2, none, none⟩ rfl _ rfl
  obtain ⟨hwaits, -⟩ := hgood rfl (.inl (by decide +kernel))
  have hpending := hwaits (by decide)
  have hmemory := exec_bltCmdStart_notDue tagNotInMemory ⟨0, 2, 2, none, none⟩ [] _ rfl rfl rfl rfl rfl
    (.inl (by decide +kernel)) (by decide)
  have hposted := congrArg (fun t : State => t.chip.blt.posted) (Host.Outcome.next.inj (hpending.symm.trans hmemory))
  have hwords : tagNotInMemory.chip.bltWords tagNotInMemory.mem 0 = tagNotInMemory.chip.quiet.bltWords tagNotInMemory.mem 0 :=
    Option.some.inj (congrArg Posted.words (List.cons.inj hposted).1)
  exact absurd hwords (by decide +kernel)

end Sys2Proof.Machine

namespace Sys2Proof.Machine

/-! ### What the region layer leaves of the lanes (R346, R355) -/

@[simp] theorem State.stored_lanes (s : State) (d : Chip) : (s.stored d).chip.lanes = d.lanes := rfl

/-- The lanes' own state, and the stores that a command has made. -/
def Chip.lanesAndStores (c : Chip) : Lanes × List MemOp := (c.lanes, c.out)

theorem ladderMove.lanesAndStores {p : Prop} {c d : Chip} (h : ladderMove p c d) : d.lanesAndStores = c.lanesAndStores :=
  Prod.ext h.lanes h.out

theorem Chip.event_lanesAndStores (c : Chip) (page : Nat) (cls : ErrClass) (code : Code) (cell kind addr : Nat) (rp : Bool) :
    (c.event page cls code cell kind addr rp).lanesAndStores = c.lanesAndStores :=
  (ladderMove.event c page cls code cell kind addr rp).lanesAndStores

theorem Chip.irq_lanesAndStores (c : Chip) (page i : Nat) : (c.irq page i).lanesAndStores = c.lanesAndStores :=
  (ladderMove.irq c page i).lanesAndStores

theorem Chip.aplEntry_lanesAndStores (c : Chip) (r : AplRun) (e : AplEnd) (reversed : Bool) :
    (c.aplEntry r e reversed).lanesAndStores = c.lanesAndStores := by
  unfold Chip.aplEntry
  dsimp only
  split <;> rfl

theorem Chip.aplEnd_lanesAndStores (c : Chip) (r : AplRun) (e : AplEnd) (aborted : Bool) (outcome : Nat) :
    (c.aplEnd r e aborted outcome).lanesAndStores = c.lanesAndStores := by
  unfold Chip.aplEnd
  extract_lets was painted entered noted counted
  have hpainted : painted.lanesAndStores = c.lanesAndStores := by cases e <;> rfl
  have hentered : entered.lanesAndStores = c.lanesAndStores := (Chip.aplEntry_lanesAndStores _ _ _ _).trans hpainted
  have hcounted : counted.lanesAndStores = c.lanesAndStores := by
    simp only [counted]
    split
    · exact hentered
    · exact (Chip.irq_lanesAndStores _ _ _).trans hentered
  exact (Chip.when_keeps Chip.lanesAndStores _ _ _ (fun d => d.irq_lanesAndStores _ _)).trans hcounted

theorem Chip.aplFreeze_lanesAndStores (c : Chip) : c.aplFreeze.lanesAndStores = c.lanesAndStores := by
  unfold Chip.aplFreeze
  split
  · rfl
  · extract_lets noted unpainted
    have hnoted : noted.lanesAndStores = c.lanesAndStores :=
      (Chip.irq_lanesAndStores _ _ _).trans (c.event_lanesAndStores _ _ _ _ _ _ _)
    have hunpainted : unpainted.lanesAndStores = noted.lanesAndStores :=
      foldOver_keeps Chip.lanesAndStores (fun (r : AplRun) (d : Chip) => d.paint r.u.rect none) (fun _ _ => rfl) _ noted
    exact hunpainted.trans hnoted

theorem Chip.aplRestart_lanesAndStores (c : Chip) (slot : Nat) : (c.aplRestart slot).lanesAndStores = c.lanesAndStores := by
  unfold Chip.aplRestart
  split
  · rfl
  · dsimp only
    split
    · exact Chip.aplEnd_lanesAndStores _ _ _ _ _
    · exact Chip.when_keeps Chip.lanesAndStores _ _ _
        (fun d => (Chip.aplFreeze_lanesAndStores _).trans (d.event_lanesAndStores _ _ _ _ _ _ _))

theorem Chip.aplRowsFailed_lanesAndStores (c : Chip) (f : AplFrame) (rows : List Nat) :
    (c.aplRowsFailed f rows).lanesAndStores = c.lanesAndStores := by
  unfold Chip.aplRowsFailed
  extract_lets noted hit
  have hnoted : noted.lanesAndStores = c.lanesAndStores :=
    foldOver_keeps Chip.lanesAndStores _ (fun row d => (d.count P.APL 4).event_lanesAndStores _ _ _ _ _ _ _) rows c
  refine (foldOver_keeps Chip.lanesAndStores _ (fun u d => ?_) hit noted).trans hnoted
  split
  · split
    · rfl
    · exact d.aplRestart_lanesAndStores _
  · split <;> rfl

theorem Chip.aplReport_lanesAndStores (c : Chip) (group adv last : Nat) (settled : Bool) :
    (c.aplReport group adv last settled).lanesAndStores = c.lanesAndStores := by
  unfold Chip.aplReport
  extract_lets total newest takes fs reported
  split
  · rfl
  · split
    · rfl
    · split
      · rfl
      · split <;> exact Chip.aplRowsFailed_lanesAndStores _ _ _

/-! ### Driver status frames (R299) -/

/-- The counts that a status frame carries. -/
def frameCounts (frame : List Byte) : DriverCounts :=
  ⟨leNat (slice frame 4 2), leNat (slice frame 6 2), leNat (slice frame 8 2)⟩

theorem Chip.laneReport_lanesAndStores (c : Chip) (port lane dc dh dm margin line field : Nat) (lock : Bool) :
    (c.laneReport port lane dc dh dm margin line field lock).lanesAndStores = c.lanesAndStores :=
  Chip.when_keeps Chip.lanesAndStores _ _ _ (fun _ => rfl)

/-- A good frame whose return path is in lock gives its driver's counts; the registers take what they advanced by. -/
theorem Chip.statusFrame_good (c : Chip) (port : Nat) (frame : List Byte) (hlo : 1 ≤ port) (hhi : port ≤ 3)
    (hlen : frame.length = 16) (hcrc : crc16 (frame.take 14) = leNat (frame.drop 14)) (htype : leNat (frame.take 1) = 0x61)
    (hlock : c.retLock port (reportPath port (leNat (slice frame 1 1))) = true) :
    ∃ seen trainFrames, (c.statusFrame port frame).lanesAndStores = ({ c.lanes with
      drivers := storePut (fun _ => ({} : DriverCounts)) c.lanes.drivers
        (256 * port + leNat (slice frame 1 1)) (frameCounts frame)
      seen := seen, trainFrames := trainFrames }, c.out) := by
  have hfits : ¬ (decide (frame.length ≠ 16) || decide (port = 0) || decide (3 < port)) = true := by simp; omega
  unfold Chip.statusFrame
  rw [if_neg hfits]
  extract_lets group lanes w key was advance dc dh dm lock seen taken reported
  have htaken : ¬ (decide (leNat (frame.take 1) ≠ 0x61) || !c.retLock port (reportPath port group)) = true := by
    rw [htype, show c.retLock port (reportPath port group) = true from hlock]
    decide
  rw [if_neg (not_not.mpr hcrc), if_neg htaken]
  have hreported : reported.lanesAndStores = taken.lanesAndStores :=
    foldOver_keeps Chip.lanesAndStores _ (fun lane d => d.laneReport_lanesAndStores _ _ _ _ _ _ _ _ _) _ taken
  refine ⟨_, _, (Chip.when_keeps Chip.lanesAndStores _ _ _ (fun d => ?_)).trans hreported⟩
  rfl

/-- A frame that fails its CRC is counted, and nothing else. -/
theorem Chip.statusFrame_bad (c : Chip) (port : Nat) (frame : List Byte) (hlo : 1 ≤ port) (hhi : port ≤ 3)
    (hlen : frame.length = 16) (hcrc : crc16 (frame.take 14) ≠ leNat (frame.drop 14)) :
    c.statusFrame port frame = c.lanesUp (fun l => { l with badFrames := modifyAt l.badFrames port (· + 1) }) := by
  have hfits : ¬ (decide (frame.length ≠ 16) || decide (port = 0) || decide (3 < port)) = true := by simp; omega
  unfold Chip.statusFrame
  rw [if_neg hfits]
  exact if_pos hcrc

/-- What the region layer makes of a report does not touch the lanes. -/
theorem Chip.driverFrame_lanesAndStores (c : Chip) (port : Nat) (frame : List Byte) (settled : Bool) :
    (c.driverFrame port frame settled).lanesAndStores = (c.statusFrame port frame).lanesAndStores := by
  unfold Chip.driverFrame
  dsimp only
  split
  · rfl
  · exact Chip.aplReport_lanesAndStores _ _ _ _ _

/-- A frame that leaves the list of frames seen as long as it was is no report for the region layer. -/
theorem Chip.driverFrame_unseen (c : Chip) (port : Nat) (frame : List Byte) (settled : Bool)
    (h : (c.statusFrame port frame).lanes.seen.length = c.lanes.seen.length) :
    c.driverFrame port frame settled = c.statusFrame port frame := by
  simp [Chip.driverFrame, h]

theorem driverStatusFrame_counts (s : State) (port : Nat) (frame : List Byte) (settled : Bool) (hlo : 1 ≤ port)
    (hhi : port ≤ 3) (hlen : frame.length = 16) (hcrc : crc16 (frame.take 14) = leNat (frame.drop 14))
    (htype : leNat (frame.take 1) = 0x61) (hlock : s.chip.retLock port (reportPath port (leNat (slice frame 1 1))) = true) :
    completes (.driverStatusFrame port frame settled) s (fun t =>
      storeGet (fun _ => ({} : DriverCounts)) t.chip.lanes.drivers (256 * port + leNat (slice frame 1 1)) = frameCounts frame
        ∧ memKept s t) := by
  obtain ⟨seen, trainFrames, htaken⟩ := s.chip.quiet.statusFrame_good port frame hlo hhi hlen hcrc htype hlock
  obtain ⟨hlanes, hout⟩ := Prod.mk.inj ((s.chip.quiet.driverFrame_lanesAndStores port frame settled).trans htaken)
  refine completes_of_run (exec_driverStatusFrame port frame settled s) rfl ⟨?_, s.memKept_stored _ hout⟩
  rw [State.stored_lanes, hlanes]
  exact storeGet_storePut_same _ _ _ _

theorem exec_driverStatusFrame_bad (s : State) (port : Nat) (frame : List Byte) (settled : Bool) (hlo : 1 ≤ port)
    (hhi : port ≤ 3) (hlen : frame.length = 16) (hcrc : crc16 (frame.take 14) ≠ leNat (frame.drop 14)) :
    exec (.driverStatusFrame port frame settled) s = .next (s.became (s.chip.quiet.lanesUp (fun l =>
      { l with badFrames := modifyAt l.badFrames port (· + 1) }))) := by
  have hbad := s.chip.quiet.statusFrame_bad port frame hlo hhi hlen hcrc
  refine (exec_driverStatusFrame port frame settled s).trans (s.run_pure _ _ ?_ rfl)
  exact (Chip.driverFrame_unseen _ _ _ _ (by rw [hbad])).trans hbad

/-! ### Registers of SER written by their access codes (R59, R300, R305) -/

/-- A register command takes the low 32 bits of its data. -/
theorem Chip.regWrite_mod (c : Chip) (m : Memory) (mst : Master) (key data : Nat) :
    c.regWrite mst key (data % 2 ^ 32) m = c.regWrite mst key data m := by
  simp [Chip.regWrite, Chip.busWrite]

/-- A register of SER's pages has no behaviour of its own. -/
theorem Chip.writeMeaning_ser (c : Chip) (m : Memory) (mst : Master) (key data : Nat) (hblock : blockOf key = 11)
    (hoff : 0x100 ≤ offOf key) : c.writeMeaning m mst key data = (.ok, c.plainWrite key data) :=
  c.writeMeaning_plain m mst key data hoff (by simp only [Chip.engineWrite, hblock])
    (by simp only [Chip.keeperRegWrite, hblock])

/-- A write may set every bit that the access codes give in a register of SER's pages: `Chip.presentBits`, which drops the bits of
absent lanes, asks for keys of 0xB0000 to 0xBFFFF, and SER's pages begin at 0xB00000. -/
theorem Chip.presentBits_ser (c : Chip) (key : Nat) (hblock : blockOf key = 11) : c.presentBits key = 0xFFFFFFFF := by
  have hser : key / 0x10000 ≠ 11 := by simp only [blockOf] at hblock; omega
  simp [Chip.presentBits, hser]

/-- A command that writes a register of SER's pages that is not staged changes that register's word alone. -/
theorem exec_of_serWrite {i : Instr} {s : State} {mst : Master} {key data : Nat} {d : RegDef}
    (hrun : exec i s = s.run (fun m c => c.regWrite mst key data m)) (hw : s.chip.takesWrite mst key)
    (hd : findReg key = some d) (hs : d.stg = 0) (hblock : blockOf key = 11) (hoff : 0x100 ≤ offOf key) :
    exec i s = .next (s.became
      ((s.chip.quiet.setw key (BitVec.ofNat 32 (s.chip.plainWord d key (data % 2 ^ 32)))).taken key)) := by
  refine exec_of_plainWrite ?_ (Nat.mod_lt _ (by decide)) hw hd hs (Chip.writeMeaning_ser _ _ _ _ _ hblock hoff)
  simp only [Chip.regWrite_mod]
  exact hrun

/-- The low bits of a word, where all of them are RW, hold what was written. -/
theorem Chip.plainWord_low (c : Chip) (d : RegDef) (key data n : Nat) (hn : n ≤ 32) (hs : d.stg = 0) (hrw : d.rw < 2 ^ 32)
    (hp : c.presentBits key = 0xFFFFFFFF) (hdata : data < 2 ^ 32)
    (hbits : ∀ i < n, d.rw.testBit i = true ∧ d.w1s.testBit i = false) : c.plainWord d key data % 2 ^ n = data % 2 ^ n := by
  refine Nat.eq_of_testBit_eq (fun i => ?_)
  simp only [Nat.testBit_mod_two_pow]
  by_cases hi : i < n
  · obtain ⟨hwritten, hunset⟩ := hbits i hi
    rw [c.plainWord_bit d key data i (by omega) hs hrw hp hdata, hwritten, hunset]
    simp
  · simp [hi]

/-- A register of W1S bits alone keeps the ones it holds and takes those written. -/
theorem Chip.plainWord_w1s (c : Chip) (d : RegDef) (key data : Nat)
    (hcodes : d.rw = 0 ∧ d.stg = 0 ∧ d.w1c = 0 ∧ d.w1s = 0xFFFFFFFF) (hp : c.presentBits key = 0xFFFFFFFF) (hdata : data < 2 ^ 32) :
    BitVec.ofNat 32 (c.plainWord d key data) = c.w key ||| BitVec.ofNat 32 data := by
  obtain ⟨hrw, hs, hw1c, hw1s⟩ := hcodes
  have hset : ∀ i < 32, Nat.testBit 0xFFFFFFFF i = true := by decide
  refine BitVec.eq_of_getLsbD_eq (fun i hi => ?_)
  simp only [BitVec.getLsbD_or, BitVec.getLsbD_ofNat, hi, decide_true, Bool.true_and]
  rw [c.plainWord_bit d key data i hi hs (by omega) hp hdata, hrw, hw1c, hw1s, hset i hi, BitVec.getLsbD]
  simp

/-- RETRY_LO or RETRY_HI of a port. -/
def retryReg (high : Bool) : RegDef := ⟨if high then 0x164 else 0x160, 1, 4, 0, 0, 0, 0xFFFFFFFF, 0, 0, 0⟩

theorem findReg_retry (port : Nat) (high : Bool) (hlo : 1 ≤ port) (hhi : port ≤ 3) :
    findReg (mkPage 11 port + (if high then 0x164 else 0x160)) = some (retryReg high) := by
  cases high <;> interval_cases port <;> rfl

theorem laneRetry_collects (s : State) (mst : Master) (port : Nat) (high : Bool) (data : Nat) (hlo : 1 ≤ port)
    (hhi : port ≤ 3) (hdata : data < 2 ^ 32) (key : Nat) (hkey : key = mkPage 11 port + (if high then 0x164 else 0x160))
    (hw : s.chip.takesWrite mst key) : completes (.laneRetry mst port high data) s (fun t =>
      t.chip.w key = s.chip.w key ||| BitVec.ofNat 32 data ∧ onlyRegs [key] s t) := by
  have hblock : blockOf key = 11 := by subst hkey; cases high <;> simp [blockOf, mkPage] <;> omega
  have hoff : 0x100 ≤ offOf key := by subst hkey; cases high <;> simp [offOf, mkPage] <;> omega
  have hrun : exec (.laneRetry mst port high data) s = s.run (fun m c => c.regWrite mst key data m) := by
    rw [hkey]; exact exec_laneRetry mst port high data s
  refine ⟨_, exec_of_serWrite hrun hw (hkey ▸ findReg_retry port high hlo hhi) rfl hblock hoff, ?_,
    onlyRegs_taken_setw s key _⟩
  rw [Nat.mod_eq_of_lt hdata, ← s.chip.plainWord_w1s (retryReg high) key data ⟨rfl, rfl, rfl, rfl⟩
    (s.chip.presentBits_ser key hblock) hdata]
  exact s.chip.quiet.w_setw_same key _

/-- EYE_CTRL or INJECT of SER: a lane in bits [6:0], and a request in bit 7 that a write of 1 makes. -/
abbrev RegDef.asksOfLane (d : RegDef) : Prop := d.rw = 0x7F ∧ d.stg = 0 ∧ d.w1s = 0x80

/-- A write of such a register with bit 7 makes the request and names the lane. -/
theorem laneRequest_made {i : Instr} {s : State} {mst : Master} {key data : Nat} {d : RegDef}
    (hrun : exec i s = s.run (fun m c => c.regWrite mst key data m)) (hw : s.chip.takesWrite mst key)
    (hd : findReg key = some d) (hcodes : d.asksOfLane) (hblock : blockOf key = 11) (hoff : 0x100 ≤ offOf key)
    (hbit : bit data 7 = true) : completes i s (fun t =>
      t.chip.is ⟨key, 7, 1, 4⟩ = true ∧ t.chip.get ⟨key, 0, 7, 4⟩ = data % 128 ∧ onlyRegs [key] s t) := by
  obtain ⟨hrw, hs, hw1s⟩ := hcodes
  have hcut : data % 2 ^ 32 < 2 ^ 32 := Nat.mod_lt _ (by decide)
  have hpresent := s.chip.presentBits_ser key hblock
  have hasked : (s.chip.plainWord d key (data % 2 ^ 32)).testBit 7 = true := by
    rw [s.chip.plainWord_bit d key _ 7 (by decide) hs (by omega) hpresent hcut, testBit_of_bit (data % 2 ^ 32),
      bit_mod_two_pow _ _ _ (by decide), hbit, hw1s, show Nat.testBit 0x80 7 = true from rfl]
    simp
  have hlane : s.chip.plainWord d key (data % 2 ^ 32) % 2 ^ 7 = data % 2 ^ 32 % 2 ^ 7 :=
    s.chip.plainWord_low d key _ 7 (by decide) hs (by omega) hpresent hcut (by rw [hrw, hw1s]; decide)
  have hword := s.chip.quiet.w_setw_same key (BitVec.ofNat 32 (s.chip.plainWord d key (data % 2 ^ 32)))
  refine ⟨_, exec_of_serWrite hrun hw hd hs hblock hoff, ?_, ?_, onlyRegs_taken_setw s key _⟩
  · have hget := (congrArg (fldGet · ⟨key, 7, 1, 4⟩) hword).trans (fldGet_bit _ key 7 4 (by decide))
    rw [hasked] at hget
    exact decide_eq_true hget
  · refine (congrArg (fldGet · ⟨key, 0, 7, 4⟩) hword).trans ?_
    simp only [fldGet, BitVec.toNat_ofNat, pow_zero, Nat.div_one]
    omega

/-! ### Return paths (R301) -/

/-- The lock bit of a return path. -/
def retLockFld (port path : Nat) : Fld :=
  (if path = 0 then F.SERP_PORT_STATUS_RET0_LOCK else F.SERP_PORT_STATUS_RET1_LOCK).inst port

theorem Chip.retLock_eq (c : Chip) (port path : Nat) : c.retLock port path = c.is (retLockFld port path) := rfl

theorem retLockFld_key (port path : Nat) : (retLockFld port path).key = K.SERP_PORT_STATUS + port * 4096 := by
  unfold retLockFld
  split <;> rfl

theorem ladderFree_retLockFld (port path : Nat) (h : port ≤ 3) : ladderFree (retLockFld port path).key := by
  rw [retLockFld_key]
  simp only [ladderFree, offOf, blockOf, K.SERP_PORT_STATUS]
  omega

/-- The lock bit as a set leaves it. -/
theorem Chip.retLock_set (c : Chip) (port path : Nat) (b : Bool) :
    (c.setB (retLockFld port path) b).retLock port path = b := by
  have hfld : (retLockFld port path).lo + (retLockFld port path).wd ≤ 32 ∧ (retLockFld port path).wd = 1 := by
    unfold retLockFld
    split
    · exact ⟨(by decide : 16 + 1 ≤ 32), rfl⟩
    · exact ⟨(by decide : 17 + 1 ≤ 32), rfl⟩
  rw [Chip.retLock_eq, Chip.is, Chip.setB, c.get_set_same _ _ hfld.1, hfld.2]
  cases b <;> rfl

/-- A return path's lanes are no longer judged. -/
def Chip.unjudged (c : Chip) (port path : Nat) : Chip :=
  (c.setB (retLockFld port path) false).lanesUp (fun l => { l with lost := putLast l.lost (2 * port + path) })

/-- The loss of a locked return path ends in its error event. -/
theorem ladderMove.returnLost (c : Chip) (port path : Nat) (h : c.retLock port path = true) :
    ladderMove (mkPage 11 port % 4096 = 0) (c.unjudged port path) (c.returnLost port path) := by
  unfold Chip.returnLost
  rw [h]
  exact (ladderMove.irq (c.unjudged port path) _ 7).trans (.event _ _ _ _ _ _ _ _)

theorem returnLost_notes (s : State) (port path : Nat) (hhi : port ≤ 3) (hlock : s.chip.retLock port path = true) :
    completes (.returnLost port path) s (fun t =>
      t.chip.retLock port path = false ∧ 2 * port + path ∈ t.chip.lanes.lost ∧ memKept s t) := by
  have hmove := ladderMove.returnLost s.chip.quiet port path hlock
  have hpage : mkPage 11 port % 4096 = 0 := by simp only [mkPage]; omega
  refine completes_of_run (exec_returnLost port path s) rfl ⟨?_, ?_, s.memKept_stored _ hmove.out⟩
  · have hbit := hmove.get hpage _ (ladderFree_retLockFld port path hhi)
    exact (congrArg (fun n => decide (n = 1)) hbit).trans (s.chip.quiet.retLock_set port path false)
  · rw [State.stored_lanes, hmove.lanes]
    simp [Chip.unjudged, putLast]

theorem returnRelock_locks (s : State) (port path : Nat) (hlo : 1 ≤ port) (hhi : port ≤ 3) (hpath : path ≤ 1)
    (hone : port = 3 → path = 0) : completes (.returnRelock port path) s (fun t =>
      t.chip.retLock port path = true ∧ t.chip.lanes = s.chip.lanes ∧ memKept s t) := by
  have hpresent : ¬ (decide (3 < port) || decide (port = 0) || decide (1 < path)
      || (decide (port = 3) && decide (path = 1))) = true := by
    simp; omega
  have hset : s.chip.quiet.returnRelock port path = s.chip.quiet.setB (retLockFld port path) true := if_neg hpresent
  exact completes_of_run (exec_returnRelock port path s) hset
    ⟨s.chip.quiet.retLock_set port path true, rfl, s.memKept_stored _ rfl⟩

/-! ### Training (R302, R303) -/

/-- The lanes to be trained whose drivers have not all reported lock. -/
def Chip.lanesUnlocked (c : Chip) : List Nat :=
  (c.trainLanes.filter (fun e => !(c.judgeDrivers e.1 e.2).all (fun g =>
    c.lanes.trainFrames.any (fun f => f.port = e.1 && f.group = g && f.lock)))).map (fun e => 64 * e.1 + e.2)

theorem trainLockCheck_notes (s : State) (htraining : s.chip.lanes.training = true) :
    completes .trainLockCheck s (fun t => memKept s t
      ∧ t.chip.get F.SER0_TRAIN_STATUS_PHASE
        = (if s.chip.on F.SER0_TRAIN_CTRL_ADAPT = true then 2 else s.chip.get F.SER0_TRAIN_STATUS_PHASE)
      ∧ t.chip.lanes.unlocked = s.chip.lanesUnlocked) := by
  have hgo : ¬ (!s.chip.quiet.lanes.training) = true := by simp [htraining]
  have hnext : s.chip.quiet.trainLockCheck
      = (s.chip.quiet.lanesUp (fun l => { l with unlocked := s.chip.lanesUnlocked })).when
        (s.chip.on F.SER0_TRAIN_CTRL_ADAPT) (fun c => c.set F.SER0_TRAIN_STATUS_PHASE 2) := if_neg hgo
  refine completes_of_run (exec_trainLockCheck s) hnext ?_
  unfold Chip.when
  split
  · refine ⟨s.memKept_stored _ rfl, ?_, rfl⟩
    exact (State.stored_get _ _ _).trans (Chip.get_set_same _ _ _ (by decide))
  · exact ⟨s.memKept_stored _ rfl, rfl, rfl⟩

/-- POST and POST_USED of a lane. -/
abbrev postFld (e : Nat × Nat) : Fld := (F.SERP_TX_SET_POST.inst e.1).ix e.2
abbrev postUsedFld (e : Nat × Nat) : Fld := (F.SERP_TX_SET_POST_USED.inst e.1).ix e.2

/-- The post-cursor setting that a lane takes. -/
def Chip.postChosen (c : Chip) (results : List (Nat × List (Nat × Nat))) (e : Nat × Nat) : Nat :=
  if c.on F.SER0_TRAIN_CTRL_ADAPT then
    bestPost (c.act (postFld e)) ((postTries (c.act (postFld e))).zip
      (((results.find? (fun r => r.1 = 64 * e.1 + e.2)).map (·.2)).getD []))
  else c.act (postFld e)

/-- The settings of lanes applied. -/
def Chip.postsApplied (results : List (Nat × List (Nat × Nat))) (l : List (Nat × Nat)) (c : Chip) : Chip :=
  foldOver l (fun e c => c.set (postUsedFld e) (c.postChosen results e)) c

theorem Chip.trainApply_training (c : Chip) (results : List (Nat × List (Nat × Nat))) (h : c.lanes.training = true) :
    c.trainApply results = (c.postsApplied results c.trainLanes).set F.SER0_TRAIN_STATUS_PHASE 3 := by
  have hgo : ¬ (!c.lanes.training) = true := by simp [h]
  exact if_neg hgo

/-- Without ADAPT each lane uses its profile's own setting, whichever lane is set last. -/
theorem Chip.postsApplied_unchanged (results : List (Nat × List (Nat × Nat))) (l : List (Nat × Nat)) (c : Chip)
    (e : Nat × Nat) (hadapt : c.on F.SER0_TRAIN_CTRL_ADAPT = false) (h : e ∈ l ∨ c.get (postUsedFld e) = c.act (postFld e)) :
    (c.postsApplied results l).get (postUsedFld e) = c.act (postFld e) := by
  induction l generalizing c with
  | nil => exact h.resolve_left List.not_mem_nil
  | cons a l ih =>
    have hchosen : c.postChosen results a = c.act (postFld a) := by simp [Chip.postChosen, hadapt]
    refine ih (c.set (postUsedFld a) (c.postChosen results a)) hadapt ?_
    by_cases hkey : (postUsedFld e).key = (postUsedFld a).key
    · have hused : postUsedFld e = postUsedFld a := congrArg (fun k => (⟨k, 8, 4, 4⟩ : Fld)) hkey
      have hpost : postFld e = postFld a := congrArg (fun k => (⟨k, 4, 4, 4⟩ : Fld)) hkey
      right
      rw [hused, hpost, c.get_set_same _ _ (by decide : 8 + 4 ≤ 32), hchosen]
      exact Nat.mod_mod _ _
    · rcases h with hmem | hdone
      · rcases List.mem_cons.mp hmem with rfl | htail
        · exact absurd rfl hkey
        · exact .inl htail
      · exact .inr ((c.get_set_key _ _ _ hkey).trans hdone)

theorem trainSettingsApply_applies (s : State) (results : List (Nat × List (Nat × Nat)))
    (htraining : s.chip.lanes.training = true) : completes (.trainSettingsApply results) s (fun t =>
      t.chip.get F.SER0_TRAIN_STATUS_PHASE = 3 ∧ t.chip.lanes = s.chip.lanes ∧ memKept s t
        ∧ (s.chip.on F.SER0_TRAIN_CTRL_ADAPT = false → ∀ e ∈ s.chip.trainLanes,
          t.chip.get (postUsedFld e) = s.chip.act (postFld e))) := by
  have hrun := s.chip.quiet.trainApply_training results htraining
  have happlied : (s.chip.quiet.postsApplied results s.chip.quiet.trainLanes).lanesAndStores = s.chip.quiet.lanesAndStores :=
    foldOver_keeps Chip.lanesAndStores
      (fun (e : Nat × Nat) (c : Chip) => c.set (postUsedFld e) (c.postChosen results e)) (fun _ _ => rfl) _ _
  obtain ⟨hlanes, hout⟩ := Prod.mk.inj happlied
  refine completes_of_run (exec_trainSettingsApply results s) hrun
    ⟨?_, hlanes, s.memKept_stored _ hout, fun hadapt e he => ?_⟩
  · exact (State.stored_get _ _ _).trans (Chip.get_set_same _ _ _ (by decide))
  have hphase : (postUsedFld e).key ≠ F.SER0_TRAIN_STATUS_PHASE.key := by
    simp only [postUsedFld, Fld.ix, Fld.inst, F.SERP_TX_SET_POST_USED, F.SER0_TRAIN_STATUS_PHASE]; omega
  rw [State.stored_get, Chip.get_set_key _ _ _ _ hphase]
  exact Chip.postsApplied_unchanged results _ s.chip.quiet e hadapt (.inl he)

/-! ### Lanes masked (R300, R303) -/

/-- A bit set, and the others as they were. -/
theorem bit_withBit_true (n i j : Nat) : bit (withBit n i true) j = (decide (j = i) || bit n j) := by
  by_cases hset : bit n i = true
  · have hle : 2 ^ i ≤ n := Nat.ge_two_pow_of_testBit ((testBit_of_bit n i).trans hset)
    have hsame : withBit n i true = n := by simp only [withBit, hset, if_true]; omega
    rw [hsame]
    by_cases hj : j = i
    · simp [hj, hset]
    · simp [hj]
  · have hsum : withBit n i true = 2 ^ i + n := by simp [withBit, hset, Nat.add_comm]
    rw [hsum, ← testBit_of_bit, ← testBit_of_bit]
    rw [← testBit_of_bit, Bool.not_eq_true] at hset
    rcases Nat.lt_trichotomy j i with hlt | rfl | hgt
    · rw [Nat.testBit_two_pow_add_gt hlt, decide_eq_false (by omega), Bool.false_or]
    · rw [Nat.testBit_two_pow_add_eq, hset, decide_eq_true rfl]; rfl
    · have hhalf : (2 ^ i + n) / 2 ^ (i + 1) = n / 2 ^ (i + 1) := by
        have heven : n / 2 ^ i % 2 = 0 := by
          rw [Nat.testBit_eq_decide_div_mod_eq, decide_eq_false_iff_not] at hset; omega
        rw [pow_succ, ← Nat.div_div_eq_div_mul, ← Nat.div_div_eq_div_mul, Nat.add_div_left _ (Nat.two_pow_pos i)]
        omega
      obtain ⟨k, rfl⟩ := Nat.exists_eq_add_of_lt hgt
      rw [decide_eq_false (by omega), Bool.false_or, show i + k + 1 = k + (i + 1) by omega,
        ← Nat.testBit_div_two_pow, ← Nat.testBit_div_two_pow, hhalf]

/-- A port's mask words as written. -/
def Chip.maskWords (c : Chip) (port mask : Nat) : Chip :=
  (c.set (F.SERP_MASKED_LO_MASKED.inst port) (mask % 2 ^ 32)).set (F.SERP_MASKED_HI_MASKED.inst port) (mask / 2 ^ 32)

/-- A field that a new mask can move in the mask words alone: of no page's STATUS, and of no PORT_STATUS. -/
abbrev maskOnly (f : Fld) : Prop := f.key % 4096 ≠ 0x00C ∧ f.key % 4096 ≠ 0x140

/-- Beside the mask words, a new mask moves the count in PORT_STATUS and bits of STATUS alone. -/
theorem Chip.get_setLaneMask (c : Chip) (port mask : Nat) (f : Fld) (hf : maskOnly f) :
    (c.setLaneMask port mask).get f = (c.maskWords port mask).get f := by
  unfold Chip.setLaneMask
  extract_lets words counted any
  have hcounted : counted.get f = words.get f := Chip.get_set_key _ _ _ _ (by
    simp only [Fld.inst, F.SERP_PORT_STATUS_MASKED]; omega)
  refine (foldOver_keeps (fun d : Chip => d.get f) _ (fun p d => d.get_set_key _ f _ ?_) _ counted).trans hcounted
  simp only [mkPage]
  omega

theorem Chip.setLaneMask_out (c : Chip) (port mask : Nat) : (c.setLaneMask port mask).out = c.out := by
  unfold Chip.setLaneMask
  extract_lets words counted any
  exact foldOver_keeps Chip.out (fun p d => d.statusBit (mkPage 11 p) 2 any) (fun _ _ => rfl) [0, 1, 2, 3] counted

/-- A lane's judging begun anew. -/
def Chip.rejudged (c : Chip) (port lane : Nat) : Chip :=
  c.lanesUp (fun l => { l with judge := storePut (fun _ => ({} : LaneJudge)) l.judge (64 * port + lane) {} })

@[simp] theorem Chip.rejudged_out (c : Chip) (port lane : Nat) : (c.rejudged port lane).out = c.out := rfl
@[simp] theorem Chip.rejudged_get (c : Chip) (port lane : Nat) (f : Fld) : (c.rejudged port lane).get f = c.get f := rfl

/-- A lane's mask set, its judging begun anew, and the event counted. -/
def Chip.maskNoted (c : Chip) (port lane : Nat) : Chip :=
  ((c.setLaneMask port (withBit (c.laneMask port) lane true)).rejudged port lane).count (mkPage 11 port) 3

theorem ladderMove.portBEvent (c : Chip) (cell : Nat) : ladderMove (mkPage 11 2 % 4096 = 0) c (c.portBEvent cell) := by
  unfold Chip.portBEvent
  dsimp only
  split
  · exact ladderMove.trans ⟨_, _, _, _, _, _, rfl, fun _ _ _ => rfl⟩ (.record _ _ _ _ _ _ _)
  · exact .event _ _ _ _ _ _ _ _

/-- What masking a lane does after its mask is set is an interrupt and an error event, of a class that Table 6 gives. -/
theorem ladderMove.maskLane (c : Chip) (port lane : Nat) :
    ladderMove (mkPage 11 port % 4096 = 0) (c.maskNoted port lane) (c.maskLane port lane) := by
  unfold Chip.maskLane
  extract_lets page words lanes judged noted cell
  have hwords : c.maskNoted port lane = (words.rejudged port lane).count page 3 := rfl
  clear_value words
  have hnoted : noted = ((words.rejudged port lane).count page 3).irq page 6 := rfl
  rw [hwords]
  clear_value noted
  refine ladderMove.trans (hnoted ▸ ladderMove.irq ((words.rejudged port lane).count page 3) page 6) ?_
  split
  · exact .event _ _ _ _ _ _ _ _
  · split
    · next hport => subst hport; exact .portBEvent _ _
    · split <;> exact .event _ _ _ _ _ _ _ _

theorem Chip.maskLane_out (c : Chip) (port lane : Nat) : (c.maskLane port lane).out = c.out := by
  rw [(ladderMove.maskLane c port lane).out, Chip.maskNoted, Chip.count_out, Chip.rejudged_out]
  exact Chip.setLaneMask_out _ _ _

theorem Chip.get_maskLane (c : Chip) (port lane : Nat) (f : Fld) (hfree : ladderFree f.key) (hf : maskOnly f) :
    (c.maskLane port lane).get f = (c.maskWords port (withBit (c.laneMask port) lane true)).get f := by
  have hpage : mkPage 11 port % 4096 = 0 := by simp only [mkPage]; omega
  have hcount : f.key ≠ mkPage 11 port + 0x44 + 4 * 3 := by have := hfree.1; simp only [offOf] at this; omega
  rw [(ladderMove.maskLane c port lane).get hpage f hfree, Chip.maskNoted, Chip.count_get _ _ _ _ _ hcount, Chip.rejudged_get]
  exact c.get_setLaneMask port _ f hf

/-- A field of SER's own page shows nothing of a lane that is masked. -/
theorem Chip.get_maskLane_own (c : Chip) (port lane : Nat) (f : Fld) (hfree : ladderFree f.key) (hf : maskOnly f)
    (hwords : f.key < K.SERP_MASKED_LO) : (c.maskLane port lane).get f = c.get f := by
  rw [c.get_maskLane port lane f hfree hf, Chip.maskWords, Chip.get_set_key, Chip.get_set_key]
  all_goals simp only [Fld.inst, F.SERP_MASKED_LO_MASKED, F.SERP_MASKED_HI_MASKED, K.SERP_MASKED_LO] at *; omega

/-- The mask of a port after words were written in it, and of another port. -/
theorem Chip.laneMask_maskWords (c : Chip) (port mask q : Nat) :
    (c.maskWords port mask).laneMask q = if q = port then mask % 2 ^ 64 else c.laneMask q := by
  unfold Chip.laneMask Chip.maskWords
  split
  · next hport =>
    subst hport
    rw [Chip.get_set_key _ _ _ _ (by simp only [Fld.inst, F.SERP_MASKED_LO_MASKED, F.SERP_MASKED_HI_MASKED]; omega),
      Chip.get_set_same _ _ _ (by decide : 0 + 32 ≤ 32), Chip.get_set_same _ _ _ (by decide : 0 + 32 ≤ 32)]
    simp only [Fld.inst, F.SERP_MASKED_LO_MASKED, F.SERP_MASKED_HI_MASKED]
    omega
  · rw [Chip.get_set_key, Chip.get_set_key, Chip.get_set_key, Chip.get_set_key]
    all_goals simp only [Fld.inst, F.SERP_MASKED_LO_MASKED, F.SERP_MASKED_HI_MASKED]; omega

theorem maskFlds_free (q : Nat) (hq : q ≤ 3) :
    (ladderFree (F.SERP_MASKED_LO_MASKED.inst q).key ∧ maskOnly (F.SERP_MASKED_LO_MASKED.inst q))
      ∧ ladderFree (F.SERP_MASKED_HI_MASKED.inst q).key ∧ maskOnly (F.SERP_MASKED_HI_MASKED.inst q) := by
  simp only [ladderFree, maskOnly, offOf, blockOf, Fld.inst, F.SERP_MASKED_LO_MASKED, F.SERP_MASKED_HI_MASKED]
  omega

/-- Masking a lane adds it to the lanes masked. -/
theorem Chip.laneMasked_maskLane (c : Chip) (port lane q i : Nat) (hq : q ≤ 3) (hi : i < 64) :
    (c.maskLane port lane).laneMasked q i = ((decide (q = port) && decide (i = lane)) || c.laneMasked q i) := by
  have hmask : (c.maskLane port lane).laneMask q = (c.maskWords port (withBit (c.laneMask port) lane true)).laneMask q := by
    obtain ⟨⟨hfree, honly⟩, hfree', honly'⟩ := maskFlds_free q hq
    exact congrArg₂ (fun lo hi => lo + hi * 2 ^ 32) (c.get_maskLane port lane _ hfree honly)
      (c.get_maskLane port lane _ hfree' honly')
  rw [Chip.laneMasked, hmask, Chip.laneMask_maskWords, Chip.laneMasked]
  split
  · next hport => rw [bit_mod_two_pow _ _ _ hi, bit_withBit_true, hport, decide_eq_true rfl, Bool.true_and]
  · next hport => rw [decide_eq_false hport, Bool.false_and, Bool.false_or]

/-- Lanes masked one after the other. -/
def Chip.masksLanes (c : Chip) (l : List (Nat × Nat)) : Chip := foldOver l (fun e c => c.maskLane e.1 e.2) c

/-- After lanes were masked, each of them is, and each that was before. -/
theorem Chip.laneMasked_masksLanes (l : List (Nat × Nat)) (c : Chip) (e : Nat × Nat) (hport : e.1 ≤ 3) (hlane : e.2 < 64)
    (h : e ∈ l ∨ c.laneMasked e.1 e.2 = true) : (c.masksLanes l).laneMasked e.1 e.2 = true := by
  induction l generalizing c with
  | nil => exact h.resolve_left List.not_mem_nil
  | cons a l ih =>
    refine ih (c.maskLane a.1 a.2) ?_
    rw [c.laneMasked_maskLane _ _ _ _ hport hlane]
    rcases h with hmem | hmasked
    · rcases List.mem_cons.mp hmem with rfl | htail
      · exact .inr (by simp)
      · exact .inl htail
    · exact .inr (by simp [hmasked])

theorem Chip.masksLanes_out (c : Chip) (l : List (Nat × Nat)) : (c.masksLanes l).out = c.out :=
  foldOver_keeps Chip.out _ (fun _ d => d.maskLane_out _ _) l c

theorem Chip.trainLanes_port (c : Chip) (e : Nat × Nat) (h : e ∈ c.trainLanes) : e.1 ≤ 3 := by
  simp only [Chip.trainLanes, List.mem_flatMap, List.mem_map] at h
  obtain ⟨p, hp, lane, -, rfl⟩ := h
  have : p = 1 ∨ p = 2 := by simpa using hp
  show p ≤ 3
  omega

/-- The lanes that a training masks: those that failed its confirmation or its first check. -/
def Chip.lanesFailed (c : Chip) (failed : List Nat) : List (Nat × Nat) :=
  c.trainLanes.filter (fun e => failed.contains (64 * e.1 + e.2) || c.lanes.unlocked.contains (64 * e.1 + e.2))

/-- PHASE 4 with the lanes masked that failed. -/
def Chip.judged (c : Chip) (failed : List Nat) : Chip :=
  (c.set F.SER0_TRAIN_STATUS_PHASE 4).masksLanes (c.lanesFailed failed)

/-- The judging ends with PORT_A_FAIL and, where port A is dead, a FATAL event. -/
theorem ladderMove.trainJudge (c : Chip) (failed : List Nat) (h : c.lanes.training = true) :
    ladderMove (mkPage 11 1 % 4096 = 0)
      ((c.judged failed).setB F.SER0_TRAIN_STATUS_PORT_A_FAIL (c.judged failed).portADead) (c.trainJudge failed) := by
  have hgo : ¬ (!c.lanes.training) = true := by simp [h]
  unfold Chip.trainJudge
  rw [if_neg hgo]
  extract_lets bad judging masked dead shown
  exact .ite _ _ _ _ (.event _ _ _ _ _ _ _ _)

theorem trainJudge_masks (s : State) (failed : List Nat) (htraining : s.chip.lanes.training = true) :
    completes (.trainJudge failed) s (fun t =>
      t.chip.get F.SER0_TRAIN_STATUS_PHASE = 4 ∧ memKept s t
        ∧ (∀ e ∈ s.chip.trainLanes, e.2 < 64 → 64 * e.1 + e.2 ∈ failed → t.chip.laneMasked e.1 e.2 = true)) := by
  have hmove := ladderMove.trainJudge s.chip.quiet failed htraining
  refine completes_of_run (exec_trainJudge failed s) rfl
    ⟨?_, s.memKept_stored _ (hmove.out.trans (Chip.masksLanes_out _ _)), fun e he hlane hfailed => ?_⟩
  · calc (s.chip.quiet.trainJudge failed).get F.SER0_TRAIN_STATUS_PHASE
        = ((s.chip.quiet.judged failed).setB F.SER0_TRAIN_STATUS_PORT_A_FAIL (s.chip.quiet.judged failed).portADead).get
            F.SER0_TRAIN_STATUS_PHASE :=
          hmove.get (by decide) _ (by decide)
      _ = (s.chip.quiet.judged failed).get F.SER0_TRAIN_STATUS_PHASE := Chip.get_set_apart _ _ _ _ (by decide) (by decide)
      _ = (s.chip.quiet.set F.SER0_TRAIN_STATUS_PHASE 4).get F.SER0_TRAIN_STATUS_PHASE :=
          foldOver_keeps (fun d : Chip => d.get F.SER0_TRAIN_STATUS_PHASE) _
            (fun a d => d.get_maskLane_own _ _ _ (by decide) (by decide) (by decide)) _ _
      _ = 4 := Chip.get_set_same _ _ _ (by decide)
  · have hport := Chip.trainLanes_port _ e he
    have hbad : e ∈ s.chip.quiet.lanesFailed failed := List.mem_filter.mpr ⟨he, by simp [hfailed]⟩
    have hmask : (s.chip.quiet.trainJudge failed).laneMask e.1 = (s.chip.quiet.judged failed).laneMask e.1 := by
      obtain ⟨⟨hfree, -⟩, hfree', -⟩ := maskFlds_free e.1 hport
      have hkept : ∀ f : Fld, ladderFree f.key → f.key ≠ K.SER0_TRAIN_STATUS →
          (s.chip.quiet.trainJudge failed).get f = (s.chip.quiet.judged failed).get f := fun f hf hkey =>
        (hmove.get (by decide) f hf).trans (Chip.get_set_key _ _ _ _ hkey)
      exact congrArg₂ (fun lo hi => lo + hi * 2 ^ 32)
        (hkept _ hfree (by simp only [Fld.inst, F.SERP_MASKED_LO_MASKED, K.SER0_TRAIN_STATUS]; omega))
        (hkept _ hfree' (by simp only [Fld.inst, F.SERP_MASKED_HI_MASKED, K.SER0_TRAIN_STATUS]; omega))
    exact (congrArg (bit · e.2) hmask).trans (Chip.laneMasked_masksLanes _ _ e hport hlane (.inl hbad))

/-! ### The end of an eye scan (R305, R408) -/

/-- Setting a field of one of the registers named moves no other register. -/
theorem regsKeptBut.set {keys : List Nat} {c d : Chip} (h : regsKeptBut keys c d) (f : Fld) (v : Nat) (hf : f.key ∈ keys) :
    regsKeptBut keys c (d.set f v) := fun k hk => by
  obtain ⟨hw, hl, ha⟩ := h k hk
  exact ⟨(d.w_set_other f v k (fun e => hk (e ▸ hf))).trans hw, hl, ha⟩

/-- The result of a scan in the register at `key`, and VALID. -/
def Chip.eyeShown (c : Chip) (key width height : Nat) : Chip :=
  ((c.set ⟨key, 0, 8, 4⟩ width).set ⟨key, 8, 8, 4⟩ height).set ⟨key, 16, 1, 4⟩ 1

theorem Chip.get_eyeShown (c : Chip) (key width height : Nat) :
    (c.eyeShown key width height).get ⟨key, 0, 8, 4⟩ = width % 256
      ∧ (c.eyeShown key width height).get ⟨key, 8, 8, 4⟩ = height % 256
      ∧ (c.eyeShown key width height).is ⟨key, 16, 1, 4⟩ = true := by
  refine ⟨?_, ?_, decide_eq_true (Chip.get_set_same _ _ _ (by simp))⟩
  · rw [Chip.eyeShown, Chip.get_set_apart _ _ _ _ (by simp) (by simp), Chip.get_set_apart _ _ _ _ (by simp) (by simp),
      Chip.get_set_same _ _ _ (by simp)]
    rfl
  · rw [Chip.eyeShown, Chip.get_set_apart _ _ _ _ (by simp) (by simp), Chip.get_set_same _ _ _ (by simp)]
    rfl

theorem Chip.get_eyeShown_other (c : Chip) (key width height : Nat) (f : Fld) (hf : f.key ≠ key) :
    (c.eyeShown key width height).get f = c.get f := by
  rw [Chip.eyeShown, Chip.get_set_key _ _ _ _ hf, Chip.get_set_key _ _ _ _ hf, Chip.get_set_key _ _ _ _ hf]

theorem regsKeptBut.eyeShown {keys : List Nat} {c d : Chip} (h : regsKeptBut keys c d) (key width height : Nat)
    (hkey : key ∈ keys) : regsKeptBut keys c (d.eyeShown key width height) :=
  ((h.set _ _ hkey).set _ _ hkey).set _ _ hkey

/-- On the host link START falls before the result stands. -/
theorem eyeScanDone_host (s : State) (width height : Nat) (hstart : s.chip.is F.HLK_EYE_CTRL_START = true) :
    completes (.eyeScanDone true width height) s (fun t =>
      t.chip.get F.HLK_EYE_RESULT_WIDTH = width % 256 ∧ t.chip.get F.HLK_EYE_RESULT_HEIGHT = height % 256
        ∧ t.chip.is F.HLK_EYE_RESULT_VALID = true ∧ t.chip.is F.HLK_EYE_CTRL_START = false
        ∧ regsKeptBut [K.HLK_EYE_RESULT, K.HLK_EYE_CTRL] s.chip t.chip ∧ memKept s t) := by
  have hgo : ¬ (!s.chip.quiet.is F.HLK_EYE_CTRL_START) = true := by simp [hstart]
  have hnext : s.chip.quiet.linkEyeDone width height
      = (s.chip.quiet.set F.HLK_EYE_CTRL_START 0).eyeShown K.HLK_EYE_RESULT width height := if_neg hgo
  have hquiet : regsKeptBut [K.HLK_EYE_RESULT, K.HLK_EYE_CTRL] s.chip s.chip.quiet := fun _ _ => ⟨rfl, rfl, rfl⟩
  obtain ⟨hwidth, hheight, hvalid⟩ := (s.chip.quiet.set F.HLK_EYE_CTRL_START 0).get_eyeShown K.HLK_EYE_RESULT width height
  refine completes_of_run (exec_eyeScanDone true width height s) hnext ⟨hwidth, hheight, hvalid, decide_eq_false ?_,
    (hquiet.set _ _ (by decide)).eyeShown _ _ _ (by decide), s.memKept_stored _ rfl⟩
  rw [State.stored_get, Chip.get_eyeShown_other _ _ _ _ _ (by decide), Chip.get_set_same _ _ _ (by decide)]
  decide

/-- In SER it falls after. -/
theorem eyeScanDone_return (s : State) (width height : Nat) (hstart : s.chip.is F.SER0_EYE_CTRL_START = true) :
    completes (.eyeScanDone false width height) s (fun t =>
      t.chip.get F.SER0_EYE_RESULT_WIDTH = width % 256 ∧ t.chip.get F.SER0_EYE_RESULT_HEIGHT = height % 256
        ∧ t.chip.is F.SER0_EYE_RESULT_VALID = true ∧ t.chip.is F.SER0_EYE_CTRL_START = false
        ∧ regsKeptBut [K.SER0_EYE_RESULT, K.SER0_EYE_CTRL] s.chip t.chip ∧ memKept s t) := by
  have hgo : ¬ (!s.chip.quiet.is F.SER0_EYE_CTRL_START) = true := by simp [hstart]
  have hnext : s.chip.quiet.eyeDone width height
      = (s.chip.quiet.eyeShown K.SER0_EYE_RESULT width height).set F.SER0_EYE_CTRL_START 0 := if_neg hgo
  have hquiet : regsKeptBut [K.SER0_EYE_RESULT, K.SER0_EYE_CTRL] s.chip s.chip.quiet := fun _ _ => ⟨rfl, rfl, rfl⟩
  have hshown : ∀ f : Fld, f.key ≠ K.SER0_EYE_CTRL → ((s.chip.quiet.eyeShown K.SER0_EYE_RESULT width height).set
      F.SER0_EYE_CTRL_START 0).get f = (s.chip.quiet.eyeShown K.SER0_EYE_RESULT width height).get f := fun f hf =>
    Chip.get_set_key _ _ f 0 hf
  obtain ⟨hwidth, hheight, hvalid⟩ := s.chip.quiet.get_eyeShown K.SER0_EYE_RESULT width height
  refine completes_of_run (exec_eyeScanDone false width height s) hnext ⟨(hshown _ (by decide)).trans hwidth,
    (hshown _ (by decide)).trans hheight, ?_, decide_eq_false ?_,
    (hquiet.eyeShown _ _ _ (by decide)).set _ _ (by decide), s.memKept_stored _ rfl⟩
  · exact (congrArg (fun n => decide (n = 1)) (hshown F.SER0_EYE_RESULT_VALID (by decide))).trans hvalid
  · rw [State.stored_get, Chip.get_set_same _ _ _ (by decide)]
    decide

/-! ### Panel lanes report and train (R299 to R303, R305) -/

/-- Settles O29. A driver's frame: the region layer leaves the lanes' state alone (`Chip.driverFrame_lanesAndStores`). Writes of
SER's registers follow their access codes (`exec_of_serWrite`). A lane masked stays masked and the error events of masking write
no register of SER beyond the page headers (`Chip.laneMasked_masksLanes`, `ladderMove.maskLane`). -/
theorem panelLanesReportAndTrain : Obligations.PanelLanesReportAndTrain := by
  intro s
  exact ⟨driverStatusFrame_counts s, exec_driverStatusFrame_bad s, laneRetry_collects s,
    fun port path _ hhi _ => returnLost_notes s port path hhi, returnRelock_locks s,
    fun htraining => ⟨trainLockCheck_notes s htraining, fun results => trainSettingsApply_applies s results htraining,
      fun failed => trainJudge_masks s failed htraining⟩,
    fun mst data hw => laneRequest_made (exec_eyeScanStart mst data s) hw
      (d := ⟨0x114, 1, 4, 0x7F, 0, 0, 0x80, 0, 0, 0⟩) rfl (by decide) rfl (by decide),
    eyeScanDone_host s, eyeScanDone_return s,
    fun mst data hw => laneRequest_made (exec_serCrcInject mst data s) hw
      (d := ⟨0x134, 1, 4, 0x7F, 0, 0, 0x80, 0, 0, 0⟩) rfl (by decide) rfl (by decide)⟩

end Sys2Proof.Machine
